-- ==== Sys2Proof/Word.lean ====
section
/-! DEFINITION. The words of the manual (00 R3, R5): bytes, 16-, 32- and 64-bit words, and the two containers the state
is built from (a sparse table in canonical form, and one value per Tun). -/

namespace Sys2Proof

abbrev Byte := BitVec 8
abbrev Half := BitVec 16
abbrev Word := BitVec 32
abbrev Dword := BitVec 64

/-- A sparse table: keys strictly rising, no entry equal to what an unlisted key reads as. -/
structure Tab (α : Type) where
  entries : List (Nat × α)
deriving DecidableEq, Repr

/-- One value for each of the four Tuns of the tray. -/
structure Quad (α : Type) where
  q0 : α
  q1 : α
  q2 : α
  q3 : α
deriving DecidableEq, Repr

/-- A pair indexed by side-band bus or by boot-header copy. -/
structure Duo (α : Type) where
  d0 : α
  d1 : α
deriving DecidableEq, Repr

end Sys2Proof
end

