-- ==== Sys2Proof/Syntax.lean ====
section
/-! DEFINITION. The commands of the tray: one constructor per row of the opcode table, with the operands the row's rule
needs. A command is a write or read of a register, a frame, flit or packet arriving, an event on a pin, or the end of an
interval; for the last kind its arrival says that the interval has passed (assumption 2, DESIGN CHOICE). -/

namespace Sys2Proof

/-- A Tun of the tray, its column (01 R14, 02 R26). -/
inductive TunId where
  | t0 | t1 | t2 | t3
deriving DecidableEq, Repr

/-- A register access path (04 R132). -/
inductive Path where
  | pcie | inband | sideband
deriving DecidableEq, Repr

/-- A side-band bus (06 R174). -/
inductive Bus where
  | sb0 | sb1
deriving DecidableEq, Repr

/-- A raw frame path: a side-band bus or a Tun's proxy (06 R180). -/
inductive RawPath where
  | sb (b : Bus)
  | proxy (t : TunId)
deriving DecidableEq, Repr

/-- Where a Maltster command came from and its reply goes (06 R180, R199). -/
inductive Src where
  | raw (p : RawPath)
  | mctp (b : Bus) (tag : BitVec 3)
deriving DecidableEq, Repr

/-- A windowed object: an OBJECT code, or a register's page and offset (06 R206). -/
inductive WinObj where
  | object (code : Byte)
  | reg (page off : Byte)
deriving DecidableEq, Repr

/-- A Tun register write arriving at the management arbiter (04 R132): `bytes` is its size. -/
structure RegWrite where
  path : Path
  off : Nat
  bytes : Nat
  value : Dword
deriving DecidableEq, Repr

/-- A transfer with the Maltster on a raw path: the path, and on a bus the 7-bit address sent (06 R176, R180). -/
structure RawPort where
  path : RawPath
  addr : BitVec 7
deriving DecidableEq, Repr

/-- Where a MCTP control message goes: the bus it comes over and its destination endpoint (06 R198). -/
structure McDest where
  bus : Bus
  eid : Byte
deriving DecidableEq, Repr

/-- The body of a MCTP vendor-defined message: the vendor's IANA number and the native frame (06 R199). -/
structure VendorBody where
  iana : Word
  frame : List Byte
deriving DecidableEq, Repr

/-- The type of a PLDM message, and whether it is a request (06 R201). -/
structure PldmType where
  request : Bool
  type : Byte
deriving DecidableEq, Repr

/-- What has locked when the core PLL has: whether RACK_REFCLK is good, the host PLL, and the PLL of each stack (04 Table 04-2, R829). -/
structure PllLocks where
  refGood : Bool
  hostClk : Bool
  casks : Byte
deriving DecidableEq, Repr

/-- What the Maltster reads from the regulator of one rail: its order of 07 Table 07-1, STATUS_WORD, READ_VOUT, READ_IOUT, READ_POUT and
READ_TEMPERATURE_1 (07 Table 07-2). -/
structure RailRead where
  rail : Nat
  status : Half := 0
  vout : Half := 0
  iout : Half := 0
  pout : Half := 0
  temp : Half := 0
deriving DecidableEq, Repr

/-- What a restarted Maltster finds in one bay (07 Table 07-7). -/
structure BayFound where
  present : Bool
  latched : Bool
  rom : Option (List Byte)
deriving DecidableEq, Repr

/-- The input levels a restarted Maltster reads (07 R247). -/
structure Found where
  leakLow : Bool
  errLow : Quad Bool
  bays : List BayFound
deriving DecidableEq, Repr

/-- Who asks for a Tun reset (04 Table 04-6, Table 04-9). -/
inductive ResetSrc where
  | path (p : Path)
  | maltster
  | fatal
  | pfFlr
deriving DecidableEq, Repr

/-- The I3C common command codes served (06 Table 06-2). -/
inductive Ccc where
  | enec | disec | rstdaa
  | entdaa (addr : BitVec 7)
  /-- the static address it is sent to, and the dynamic address -/
  | setdasa (static addr : BitVec 7)
  | getpid | getbcr | getdcr | getstatus | getmwl | getmrl
deriving DecidableEq, Repr

/-- A packet: the header fields of 10 Table 10-1 and the payload (R351). -/
structure Packet where
  slot : BitVec 14 := 0
  srcEp : BitVec 10 := 0
  dst : BitVec 12 := 0
  dstKind : Bool := false
  circuit : Bool := false
  poison : Bool := false
  hops : BitVec 6 := 0
  defl : BitVec 3 := 0
  gild : Bool := false
  channel : BitVec 4 := 0
  cls : BitVec 3 := 0
  fmt : BitVec 2 := 2
  type : BitVec 6 := 0
  addr : Dword := 0
  incarn : Byte := 0
  ctx : Byte := 0
  tag : Half := 0
  seq : Half := 0
  pkey : Half := 0
  hcrc : Half := 0
  rsv : BitVec 25 := 0
  axis : BitVec 2 := 0
  index : Byte := 0
  len : BitVec 13 := 0
  payload : List Byte := []
deriving DecidableEq, Repr

/-- Configuration the host gives the 17 functions, bit 0 the PF (18 R712, R719, R723). -/
structure HostCfg where
  busMaster : BitVec 17
  d3hot : BitVec 17
  msixEnable : BitVec 17
deriving DecidableEq, Repr

/-- Where an error was: instance, context, address and syndrome of its record (19 Table 19-5). -/
structure ErrAt where
  inst : Half := 0
  ctx : Byte := 0xFF
  syndrome : Byte := 0
  addr : Dword := 0
deriving DecidableEq, Repr

/-- A hold of 11 Table 11-1 that a packet waits in. -/
inductive HoldRef where
  | inj (id : Nat) | forfeit (id : Nat) | engine | landing (id : Nat)
deriving DecidableEq, Repr

/-- What the receiver's error correction and clock crossing saw since the last flit: the codeword counts and the flits its queue
refused (20 Table 20-2, 04 Table 04-4). -/
structure RxEvents where
  codewords : Nat := 0
  corrected : Nat := 0
  uncorrectable : Nat := 0
  symbols : Nat := 0
  refused : Nat := 0
deriving DecidableEq, Repr

/-- The answer of one fabric peer to the reads of 12 R489: its START_DIGEST, ARM_BREW and ARM_STATE; `none` for no answer in 100 µs. -/
structure ArmAnswer where
  port : Nat
  digest : List Byte
  brew : BitVec 48
  state : BitVec 2
deriving DecidableEq, Repr

/-- One command of the tray: a row of the opcode table, named by its mnemonic and the rule that defines it. -/
inductive Instr where
  /-- REGISTER_WRITE (R132): A write to a Tun register that has no row of its own reaches the management arbiter and takes effect in path order. -/
  | registerWrite (t : TunId) (ws : List RegWrite)
  /-- RACK_CONFIG_WRITE (R56): A write to RACK_CONFIG stores its fields, keeps ANNEX_PAIRING clear outside the 2-tray plan and holds keeper fields until BREW_START. -/
  | rackConfigWrite (t : TunId) (v : Word)
  /-- CONFLICT_CLEAR (R812): CLEAR written to CONFLICT_CTRL zeroes COUNT and CONFLICT_LAST before counting its own cycle. -/
  | conflictClear (t : TunId)
  /-- PWR_EN_CHANGE (R69): A filtered change of PWR_EN starts tray power-up or powers all Tuns down and opens the main path. -/
  | pwrEnChange (level : Bool)
  /-- MAIN_PATH_CLOSE (R75): The Maltster closes the main path once its image is verified, PRSNT_S_N is stable for 100 ms and PWR_EN is asserted. -/
  | mainPathClose
  /-- MAIN_PATH_TRIP (R71): The hot-swap controller opens the main path on undervoltage for 1 ms or overvoltage, and every Tun is treated as off. -/
  | mainPathTrip (high : Bool) (mv : Half)
  /-- MAIN_PATH_RECLOSE (R72): After 1 s of good input with PWR_EN asserted the Maltster closes the main path again and sequences every Tun from OFF. -/
  | mainPathReclose
  /-- PARTIAL_SEATING (R76): PRSNT_L_N asserted with PRSNT_S_N deasserted for 5 s records a partial-seating fault and keeps the main path open. -/
  | partialSeating
  /-- PRSNT_S_N_BREAK (R78): A latched break of PRSNT_S_N fences every link, reverse-sequences the Tuns and opens the main path by hardware. -/
  | prsntSNBreak
  /-- TUN_SEQUENCE_START (R216): At tray power-up the Maltster starts Tun n's power-on sequence 5n ms after the intermediate bus is in regulation. -/
  | tunSequenceStart (t : TunId)
  /-- RAIL_POWER_GOOD (R214): A rail's power-good arrives and, after 0.5 ms, the next rail of the power-on sequence is enabled. -/
  | railPowerGood (t : TunId) (k : Nat)
  /-- RAIL_TIMEOUT (R215): A rail whose power-good has not asserted 5 ms after its enable is a rail fault. -/
  | railTimeout (t : TunId) (k : Nat) (status : Half)
  /-- TUN_COLD_RESET_RELEASE (R214): 10 ms after VDD_CORE power-good the Maltster loads the Tun incarnation and releases TUN_COLD_RST_N. -/
  | tunColdResetRelease (t : TunId)
  /-- POWER_DOWN_RAIL_STEP (R217): Each timed step of the power-down sequence disables the next rail until the Tun is reported OFF. -/
  | powerDownRailStep (t : TunId)
  /-- RAIL_FAULT (R220): A power-good loss or regulator fault while powered powers the Tun down and sets TUN_POWER to 4. -/
  | railFault (t : TunId) (k : Nat) (status : Half)
  /-- PMBUS_POLL (R213): Every 100 ms, or on SMBALERT_N, the Maltster reads regulator telemetry and status. -/
  | pmbusPoll (t : TunId) (power : Half) (reads : List RailRead) (input : Option (Half × Half × Half))
  /-- THERMTRIP_LATCH (R223): THERMTRIP_N asserted with VDD_CORE good sets the hardware latch that removes all rail enables within 5 µs. -/
  | thermtripLatch (t : TunId)
  /-- THERMAL_TRIP_REPORT (R231): The Maltster records a filtered thermal trip, raises an alert and reports the Tun OFF. -/
  | thermalTripReport (t : TunId)
  /-- ERR_N_EDGE (R227): A filtered falling edge of an armed ERR_N latches TUN_PINS, raises an alert, logs and disarms. -/
  | errNEdge (t : TunId) (falling : Bool)
  /-- ERR_N_REARM (R228): ERR_N high for 100 ms re-arms and clears the latched bit. -/
  | errNRearm (t : TunId)
  /-- ERR_STORM_WINDOW (R229): At the end of each 1 s window the Maltster sets, reports or clears ERR_STORM from the edge count. -/
  | errStormWindow (t : TunId)
  /-- WARN_N_CHANGE (R230): A filtered change of WARN_N updates TUN_PINS, alerts and logs. -/
  | warnNChange (t : TunId) (asserted : Bool)
  /-- PIN_FAULT_SET (R232): A status pin held low 10 ms on an OFF Tun sets PIN_FAULT. -/
  | pinFaultSet (t : TunId)
  /-- PIN_FAULT_CLEAR (R232): All three status pins high for 100 ms on an OFF Tun clear PIN_FAULT. -/
  | pinFaultClear (t : TunId)
  /-- HEARTBEAT_WINDOW (R233): Each 10 ms HEARTBEAT window is judged good, fast or bad and drives loss, restoration and fast warnings. -/
  | heartbeatWindow (t : TunId) (edges : Nat)
  /-- LEAK_ASSERTED (R237): A filtered LEAK_N powers all Tuns down, unpowers KEG4 and KEG5 and opens the main path. -/
  | leakAsserted
  /-- LEAK_DEASSERTED (R238): LEAK_N high for 1 s is treated as deasserted, allowing LEAK_STATUS to be cleared. -/
  | leakDeasserted
  /-- KEG_PRESENCE_ASSERTED (R86): A bay's presence asserting makes the Maltster read and check the cartridge EEPROM. -/
  | kegPresenceAsserted (n : Nat) (rom : Option (List Byte))
  /-- KEG_EEPROM_RETRY (R240): An unanswered cartridge EEPROM read is retried every 100 ms and then treated as a read failure. -/
  | kegEepromRetry (n : Nat) (rom : Option (List Byte))
  /-- KEG_LATCHED (R239): 200 consecutive asserted latch samples mark the bay latched, powering an active cartridge. -/
  | kegLatched (n : Nat)
  /-- KEG_POWER_READY (R91): 20 ms after powering a cartridge the Maltster directs the Tuns to train its ports or links. -/
  | kegPowerReady (n : Nat)
  /-- KEG_UNLATCHED (R90): An opened lever fences and downs the cartridge's ports, then unpowers an active cartridge. -/
  | kegUnlatched (n : Nat)
  /-- KEG_PRESENCE_DEASSERTED (R96): A cartridge removed without opening its lever is logged as an unlatched removal. -/
  | kegPresenceDeasserted (n : Nat)
  /-- KEG_OVERCURRENT (R241): An active cartridge whose power switch reports overcurrent is unpowered at once. -/
  | kegOvercurrent (n : Nat)
  /-- SDA_STUCK (R242): SDA low for 25 ms starts bus recovery and at 35 ms marks the bus stuck. -/
  | sdaStuck (b : Bus) (at35ms : Bool)
  /-- BUS_RECOVERY_PULSE (R242): Every 2 ms while SDA stays low the Maltster clocks nine pulses and a STOP. -/
  | busRecoveryPulse (b : Bus)
  /-- BUS_SERVED_AGAIN (R243): SDA and SCL high together for 100 ms return a stuck bus to service. -/
  | busServedAgain (b : Bus)
  /-- SMBUS_TIMEOUT (R177): SCL low for 25 ms releases the bus and discards the transaction. -/
  | smbusTimeout (b : Bus) (stillLow35 : Bool)
  /-- ALERT_N_HELD (R244): ALERT_N low for 1 s while not driven logs a warning and adds PLDM event delivery. -/
  | alertNHeld
  /-- TUN_POLL (R245): Every 100 ms the Maltster reads each Tun's service state, temperature, reset status and port summary. -/
  | tunPoll (t : TunId) (answers : Bool) (took : Nat)
  /-- MALTSTER_WATCHDOG_EXPIRY (R246): Two seconds without firmware service restart the Maltster. -/
  | maltsterWatchdogExpiry
  /-- MALTSTER_RESTART (R246): The Maltster restarts while its hold-state outputs keep their levels. -/
  | maltsterRestart
  /-- MALTSTER_REEVALUATE (R247): The restarted Maltster re-reads every input and re-evaluates each Tun and bay before answering. -/
  | maltsterReevaluate (f : Found)
  /-- LOCATE_SECOND_TICK (R249): Each second SECONDS counts down and reaching 0 clears every locate target. -/
  | locateSecondTick
  /-- LOCATE_BUTTON_PRESS (R251): A filtered press of LOCATE_BTN_N starts or ends locate. -/
  | locateButtonPress
  /-- REFCLK_MISSING (R106): No reference edge for 1 µs or a bad frequency window declares RACK_REFCLK missing and enters holdover. -/
  | refclkMissing (t : TunId)
  /-- HOLDOVER_EXPIRY (R107): 10 ms after the missing declaration the core PLL starts slewing to LOCAL_OSC. -/
  | holdoverExpiry (t : TunId)
  /-- SLEW_COMPLETE (R107): A core-PLL slew ends and the next pending slew, if any, begins. -/
  | slewComplete (t : TunId)
  /-- REFCLK_PRESENT (R108): RACK_REFCLK good for 100 ms is declared present and the core returns to it. -/
  | refclkPresent (t : TunId)
  /-- CORE_PLL_LOCK (R829): After a cold reset the core PLL locks to RACK_REFCLK or directly to LOCAL_OSC. `hostClk` and `casks` say
  whether the host PLL and each stack's PLL locked too (04 Table 04-2). -/
  | corePllLock (t : TunId) (locks : PllLocks)
  /-- CASK_PLL_LOSS (R112): A Cask PLL losing lock takes its stack offline. -/
  | caskPllLoss (t : TunId) (stack : BitVec 3)
  /-- TUN_COLD_RESET (R120): A Tun cold reset, by RESET_CTRL COLD or the Maltster, fences links and clears all Tun state. -/
  | tunColdReset (t : TunId) (src : ResetSrc)
  /-- TUN_WARM_RESET (R120): A Tun warm reset, by RESET_CTRL WARM, the Maltster or a fatal error, fences and clears engines and contexts. -/
  | tunWarmReset (t : TunId) (src : ResetSrc)
  /-- WARM_RESET_RELEASE (R123): At the end of a warm-reset hold logic runs again and the Tun incarnation increments. -/
  | warmResetRelease (t : TunId)
  /-- PALE_WINDOW_CLOSE (R140): Once every port trained or failed, or 1,500 ms passed, the Tun enters PALE. -/
  | paleWindowClose (t : TunId)
  /-- CASK_TRAINING_DONE (R149): Cask training ends and either the rate step begins or a failed stack keeps the Tun in PALE. -/
  | caskTrainingDone (t : TunId) (codes : List (BitVec 4))
  /-- RATE_STEP_ROUND (R153): A rate-step round takes its ports or link down and retrains them at Full rate. -/
  | rateStepRound (t : TunId)
  /-- ALIGNMENT_TIMEOUT (R158): Brew alignment not complete 2 s after the stage began sets BREW_UNALIGNED. -/
  | alignmentTimeout (t : TunId)
  /-- ENTER_FULL (R159): When stacks, rate step, alignment and STAY_PALE allow, the Tun enters FULL. -/
  | enterFull (t : TunId)
  /-- SERVICE_FENCE (R161): FENCE in SERVICE_CTRL sends FENCE on every link and stops every engine. -/
  | serviceFence (t : TunId) (p : Path)
  /-- SERVICE_DRAIN (R168): DRAIN in SERVICE_CTRL closes ingress and enters DRAINING. -/
  | serviceDrain (t : TunId)
  /-- SERVICE_RESUME (R161): RESUME in SERVICE_CTRL reopens ingress and returns to RESUME_TO. -/
  | serviceResume (t : TunId)
  /-- RETRY_CASK (R150): RETRY_CASK in PALE retrains every fitted stack. -/
  | retryCask (t : TunId)
  /-- STAY_PALE (R146): Setting or clearing STAY_PALE holds or releases the Full-service stages. -/
  | stayPale (t : TunId) (v : Bool)
  /-- DRAIN_DONE (R168): A draining Tun whose crossbar, reorder buffer and engines are empty sets DRAIN_DONE. -/
  | drainDone (t : TunId)
  /-- DRAIN_TIMEOUT (R163): A draining Tun not empty 10 ms after entry sets DRAIN_TIMEOUT. -/
  | drainTimeout (t : TunId)
  /-- RAW_FRAME_RECEIVE (R180): A native command frame arrives whole on a raw side-band or proxy path and is checked. -/
  | rawFrameReceive (p : RawPort) (frame : List Byte) (pecOk : Option Bool)
  /-- RAW_REPLY_READ (R182): A read of a raw path's reply buffer returns BUSY, NONE, or the reply frame with REPEAT. -/
  | rawReplyRead (p : RawPort)
  /-- ALERT_RESPONSE_READ (R204): A read of the alert response address returns the Maltster address and acknowledges the alert. -/
  | alertResponseRead (b : Bus)
  /-- I3C_CCC (R178): An I3C common command code sent to the Maltster is served. -/
  | i3cCcc (b : Bus) (c : Ccc)
  /-- MCTP_CONTROL (R197): An MCTP control message is answered. -/
  | mctpControl (b : McDest) (cmd : Byte) (data : List Byte)
  /-- MCTP_VENDOR_MESSAGE (R199): A native frame carried in an MCTP vendor-defined message is accepted and answered in kind. -/
  | mctpVendorMessage (b : Bus) (tag : BitVec 3) (body : VendorBody)
  /-- PLDM_COMMAND (R201): A PLDM base or platform-monitoring command is answered. -/
  | pldmCommand (b : Bus) (type : PldmType) (cmd : Byte) (data : List Byte)
  /-- PLATFORM_EVENT_SEND (R203): A sensor change or threshold crossing sends a PlatformEventMessage to the event receiver. -/
  | platformEventSend (sensor : Nat)
  /-- PLATFORM_EVENT_RETRY (R203): An unacknowledged event is retried after 1 s, up to three times. -/
  | platformEventRetry (sensor : Nat)
  /-- SB_MODE_APPLY (R175): A stored SB_MODE change takes effect at bus idle after the reply or at 100 ms. -/
  | sbModeApply (b : Bus)
  /-- WINDOW_CLOSE (R207): 10 ms after an object's window opened one windowed command executes. -/
  | windowClose (o : WinObj)
  /-- GET_INFO (R189): GET_INFO returns identity, version and status words. -/
  | getInfo (src : Src) (seq : Byte)
  /-- REG_READ (R189): REG_READ returns Maltster page registers. -/
  | regRead (src : Src) (seq : Byte) (page : Byte) (off : Byte) (count : Byte)
  /-- REG_WRITE (R192): REG_WRITE sets a Maltster register under a mask. -/
  | regWrite (src : Src) (seq : Byte) (page : Byte) (off : Byte) (value : Word) (mask : Word)
  /-- LOG_READ (R256): LOG_READ returns event log records from FIRST onward. -/
  | logRead (src : Src) (seq : Byte) (first : Half) (count : Byte)
  /-- LOG_CLEAR (R255): LOG_CLEAR empties the event log while numbering continues. -/
  | logClear (src : Src) (seq : Byte)
  /-- MALT_RESTART (R189): MALT_RESTART with the key restarts the Maltster after replying. -/
  | maltRestart (src : Src) (seq : Byte) (key : Half)
  /-- TUN_POWER_ON (R214): TUN_POWER_ON runs the power-on sequence of one Tun unless inhibited. -/
  | tunPowerOn (src : Src) (seq : Byte) (t : TunId)
  /-- TUN_POWER_OFF (R217): TUN_POWER_OFF runs the power-down sequence of one Tun. -/
  | tunPowerOff (src : Src) (seq : Byte) (t : TunId)
  /-- TUN_POWER_CYCLE (R190): TUN_POWER_CYCLE powers the Tun down, waits OFF_MS and powers it on. -/
  | tunPowerCycle (src : Src) (seq : Byte) (t : TunId) (offMs : Half)
  /-- POWER_CYCLE_WAIT_END (R190): OFF_MS after the Tun reached OFF the power-on part of a power cycle begins. -/
  | powerCycleWaitEnd (t : TunId)
  /-- TUN_RESET (R190): TUN_RESET writes RESET_CTRL for a warm or cold reset of the Tun. -/
  | tunReset (src : Src) (seq : Byte) (t : TunId) (kind : Byte)
  /-- TUN_FENCE (R190): TUN_FENCE writes SERVICE_CTRL to fence the Tun. -/
  | tunFence (src : Src) (seq : Byte) (t : TunId)
  /-- TUN_REG_READ (R191): TUN_REG_READ reads Tun registers through the side-band port. -/
  | tunRegRead (src : Src) (seq : Byte) (t : TunId) (off : Nat) (count : Byte)
  /-- TUN_REG_WRITE (R191): TUN_REG_WRITE writes a Tun register through the side-band port. -/
  | tunRegWrite (src : Src) (seq : Byte) (t : TunId) (off : Nat) (value : Word)
  /-- TUN_STATUS (R191): TUN_STATUS returns the Maltster's records of a Tun. -/
  | tunStatus (src : Src) (seq : Byte) (t : TunId)
  /-- KEG_STATUS (R189): KEG_STATUS returns a bay's KEG_STATE. -/
  | kegStatus (src : Src) (seq : Byte) (n : Nat)
  /-- KEG_EEPROM_READ (R189): KEG_EEPROM_READ returns bytes of a cartridge EEPROM. -/
  | kegEepromRead (src : Src) (seq : Byte) (n : Nat) (addr : Half) (count : Byte)
  /-- ALERT_READ (R204): ALERT_READ returns ALERT_STATUS and may acknowledge the alert. -/
  | alertRead (src : Src) (seq : Byte) (ack : Byte)
  /-- LOCATE (R250): LOCATE sets or clears the locate target of the tray or a bay. -/
  | locate (src : Src) (seq : Byte) (obj : Byte) (on : Byte) (secs : Half)
  /-- PROXY_SEND (R194): SEND in MALT_PROXY_CTRL relays the proxy buffer frame to the Maltster. -/
  | proxySend (t : TunId)
  /-- PROXY_REPLY_COLLECT (R195): The Tun reads the reply for its proxy path, writes it to the buffer and sets DONE. -/
  | proxyReplyCollect (t : TunId)
  /-- PROXY_TIMEOUT (R195): No reply 200 ms after relaying gives a TUN_NO_ANSWER reply frame. -/
  | proxyTimeout (t : TunId)
  /-- MALTSTER_BOOT_VERIFY (R266): The Maltster boot ROM verifies its banks and golden image and runs the first that passes. -/
  | maltsterBootVerify
  /-- TUN_HEADER_CHECK (R268): At start the Maltster checks each Tun's selected bank header. -/
  | tunHeaderCheck (t : TunId)
  /-- TUN_BOOT_LOAD (R269): At cold-reset release the Tun boot ROM loads and verifies its selected bank. -/
  | tunBootLoad (t : TunId) (flashOk : Bool)
  /-- BOOT_RESULT_POLL (R271): Every 10 ms after release the Maltster reads BOOT_RESULT and starts a golden re-flash on failure. -/
  | bootResultPoll (t : TunId)
  /-- GOLDEN_REFLASH_DONE (R271): A golden re-flash of a Tun bank ends and the power-on sequence runs again. -/
  | goldenReflashDone (t : TunId)
  /-- STAGE_BEGIN (R274): STAGE_BEGIN binds a stage to its path and starts erasing the target. -/
  | stageBegin (src : Src) (seq : Byte) (kind : Byte) (len : Word)
  /-- STAGE_DATA (R275): STAGE_DATA programs the next bytes of the image being staged. -/
  | stageData (src : Src) (seq : Byte) (off : Word) (data : List Byte)
  /-- STAGE_COMMIT (R276): STAGE_COMMIT starts verification of the received image. -/
  | stageCommit (src : Src) (seq : Byte) (kind : Byte)
  /-- STAGE_ABORT (R284): STAGE_ABORT stops the stage and disarms pending banks. -/
  | stageAbort (src : Src) (seq : Byte)
  /-- STAGE_STATUS (R273): STAGE_STATUS returns the stage state, progress and last error. -/
  | stageStatus (src : Src) (seq : Byte)
  /-- STAGE_ERASE_DONE (R284): The staging erase completes and the stage enters RECEIVING. -/
  | stageEraseDone
  /-- STAGE_VERIFY_DONE (R284): Verification ends, arming a Maltster image, starting Tun copies, or failing. -/
  | stageVerifyDone
  /-- STAGE_COPY_DONE (R276): The Tun bank copies end and the set is armed or the stage fails. -/
  | stageCopyDone (writeOk : Bool)
  /-- STAGE_RESTART_RECOVERY (R285): After a Maltster restart staging is failed, reverified or recopied by its state. -/
  | stageRestartRecovery
  /-- ACTIVATION (R280): At an activation point with the set armed, boot headers are rewritten to select pending banks. -/
  | activation
  /-- QUERY_DEVICE_IDENTIFIERS (R277): PLDM QueryDeviceIdentifiers is answered. -/
  | queryDeviceIdentifiers (b : Bus)
  /-- GET_FIRMWARE_PARAMETERS (R277): PLDM GetFirmwareParameters reports components and versions. -/
  | getFirmwareParameters (b : Bus)
  /-- REQUEST_UPDATE (R278): PLDM RequestUpdate enters update mode unless a native stage runs. -/
  | requestUpdate (b : Bus) (maxTransfer : Nat)
  /-- PASS_COMPONENT_TABLE (R277): PLDM PassComponentTable is accepted. -/
  | passComponentTable (b : Bus)
  /-- UPDATE_COMPONENT (R284): PLDM UpdateComponent begins a stage with PLDM as owner. -/
  | updateComponent (b : Bus) (comp : Nat) (size : Nat)
  /-- FIRMWARE_DATA_RECEIVE (R277): The answer to a RequestFirmwareData programs a chunk and the next chunk is requested. -/
  | firmwareDataReceive (data : List Byte)
  /-- FIRMWARE_DATA_RETRY (R277): An unanswered RequestFirmwareData is retried after 1 s and cancels the update after three tries. -/
  | firmwareDataRetry
  /-- ACTIVATE_FIRMWARE (R277): PLDM ActivateFirmware arms the set for activation at the next DC power cycle. -/
  | activateFirmware (b : Bus) (selfContained : Bool)
  /-- GET_STATUS (R277): PLDM GetStatus reports the update state. -/
  | getStatus (b : Bus)
  /-- CANCEL_UPDATE_COMPONENT (R277): PLDM CancelUpdateComponent stops the component update. -/
  | cancelUpdateComponent (b : Bus)
  /-- CANCEL_UPDATE (R284): PLDM CancelUpdate stops the stage and disarms pending banks. -/
  | cancelUpdate (b : Bus)
  /-- PORT_ENABLE (R307): A port or link whose enabling conditions hold starts detection at Pale rate. -/
  | portEnable (t : TunId) (id : BitVec 9)
  /-- DETECT_LOCK (R309): Codeword lock and equalisation TRAIN flits on every lane move to the agreed rate and EQUALIZE. -/
  | detectLock (t : TunId) (id : BitVec 9) (peerFull : Bool)
  /-- DETECT_TIMEOUT (R307): 10 ms without detection restarts detection. -/
  | detectTimeout (t : TunId) (id : BitVec 9)
  /-- TRAIN_EQUALIZE_RECEIVE (R311): An equalisation TRAIN flit's request is applied to the lane's transmitter. -/
  | trainEqualizeReceive (t : TunId) (id : BitVec 9) (lane : BitVec 3) (req : Byte)
  /-- EQUALIZE_DONE (R307): Both ends report equalisation done on every lane and the link moves to DESKEW. -/
  | equalizeDone (t : TunId) (id : BitVec 9)
  /-- DESKEW_DONE (R307): Skew within limits and a striped identity flit start the flit stream and IDENTIFY. -/
  | deskewDone (t : TunId) (id : BitVec 9)
  /-- ATTEMPT_LIMIT (R307): A training attempt reaching its limit sets DOWN_CAUSE and waits for a new attempt. -/
  | attemptLimit (t : TunId) (id : BitVec 9)
  /-- COLD_ATTEMPT_RETRY (R312): After the 1 s interval a new cold training attempt begins. -/
  | coldAttemptRetry (t : TunId) (id : BitVec 9)
  /-- TRAIN_IDENTITY_RECEIVE (R313): A peer identity flit is checked for generation, width, role and wiring. -/
  | trainIdentityReceive (t : TunId) (id : BitVec 9) (payload : List Byte)
  /-- IDENTIFY_COMPLETE (R314): Both identities seen make the link resume or start fresh and the port ACTIVE. -/
  | identifyComplete (t : TunId) (id : BitVec 9)
  /-- IDENTIFY_TIMEOUT (R318): IDENTIFY not complete in 2 ms takes the port down. -/
  | identifyTimeout (t : TunId) (id : BitVec 9)
  /-- RETRAIN_NOTICE (R307): A retrain notice sent or received takes the port down and returns to detection. -/
  | retrainNotice (t : TunId) (id : BitVec 9) (sent : Bool)
  /-- LOSS_OF_SIGNAL (R307): Loss of signal or codeword lock not announced by NAP takes the port down. -/
  | lossOfSignal (t : TunId) (id : BitVec 9)
  /-- FLIT_RECEIVE (R319): A received flit is checked, acknowledged, delivered or NAKed. -/
  | flitReceive (t : TunId) (id : BitVec 9) (bytes : List Byte) (badBlock : Bool) (rx : RxEvents)
  /-- REPLAY_TIMEOUT (R323): The oldest held flit unacknowledged for 4 µs starts a replay. -/
  | replayTimeout (t : TunId) (id : BitVec 9)
  /-- REPLAY_BUFFER_DISCARD (R326): A port down for 50 ms without resuming discards its held flits as link loss. -/
  | replayBufferDiscard (t : TunId) (id : BitVec 9)
  /-- REPLAY_WINDOW_END (R318): At the end of each replay-event window the port enters or leaves DEGRADED. -/
  | replayWindowEnd (t : TunId) (id : BitVec 9) (oneSecond : Bool)
  /-- FENCE_RECEIVE (R331): A FENCE from the recorded peer puts the port in PEER_FENCED and reports the fence. -/
  | fenceReceive (t : TunId) (id : BitVec 9) (scope : Byte) (leaving : Byte)
  /-- FENCE_REPEAT (R330): In FENCED each port repeats FENCE every 10 µs. -/
  | fenceRepeat (t : TunId) (id : BitVec 9)
  /-- PORT_RESET (R346): PORT_RESET in PORT_CTRL fences, quiets and retrains the port. -/
  | portReset (t : TunId) (id : BitVec 9)
  /-- PORT_DISABLE (R346): Setting DISABLE fences the port and holds its link DISABLED. -/
  | portDisable (t : TunId) (id : BitVec 9) (v : Bool)
  /-- INJECT_CRC (R346): INJECT_CRC sends the next sequenced flit once with its CRC inverted. -/
  | injectCrc (t : TunId) (id : BitVec 9)
  /-- DELAY_MEASURE_START (R339): After IDENTIFY and every 100 ms the Tun sends eight delay probes. -/
  | delayMeasureStart (t : TunId) (id : BitVec 9)
  /-- DELAY_ECHO_RECEIVE (R339): Echo answers yield the one-way delay stored in LINK_DELAY, or a retry. -/
  | delayEchoReceive (t : TunId) (id : BitVec 9) (probe : Byte) (t1 : Nat) (t2 : Nat) (t3 : Nat) (t4 : Nat)
  /-- DELAY_PROBE_RECEIVE (R455): A received DELAY_PROBE is answered with a DELAY_ECHO within 2 µs. -/
  | delayProbeReceive (t : TunId) (id : BitVec 9) (probe : Byte) (t1 : Nat)
  /-- NAP_ENTRY (R341): A transmitter idle for 50 µs sends four NAP flits and stops driving. -/
  | napEntry (t : TunId) (id : BitVec 9)
  /-- NAP_RECEIVE (R342): A received NAP makes the following loss of signal count as nap. -/
  | napReceive (t : TunId) (id : BitVec 9)
  /-- WAKE (R343): A napped transmitter wakes for a flit to send and sends WAKE until the peer locks. -/
  | wake (t : TunId) (id : BitVec 9)
  /-- PACKET_INGRESS (R371): A packet entering a Tun is checked, translated, replicated and given its target output. -/
  | packetIngress (t : TunId) (port : BitVec 9) (vc : Bool) (p : Packet)
  /-- MULTICAST_COPY (R439): The replicating Tun places one multicast copy per cycle in the engine hold while room exists. -/
  | multicastCopy (t : TunId) (port : BitVec 9)
  /-- OUTPUT_AWARD (R408): A free output is awarded to one packet and losers deflect. -/
  | outputAward (t : TunId) (free : List Nat)
  /-- PACKET_DELIVER_STREAM (R383): A packet reaching its receiver passes the stream stage and is delivered, held or dropped. -/
  | packetDeliverStream (t : TunId) (port : BitVec 9) (p : Packet)
  /-- HOLE_TIMEOUT (R384): A hole unfilled for HOLE_TIMEOUT skips to the lowest held SEQ and counts a gap. -/
  | holeTimeout (t : TunId) (srcEp : BitVec 10) (ch : BitVec 4)
  /-- INJECT_AGE_GILD (R400): A packet waiting INJECT_AGE in an injection hold, forfeit place or engine hold is gilded. -/
  | injectAgeGild (t : TunId) (h : HoldRef) (n : Nat)
  /-- ROW_LANDING_RELEASE (R416): A packet 64 cycles in a row landing may bid for row hops again. -/
  | rowLandingRelease (t : TunId) (link : BitVec 9) (n : Nat)
  /-- PEER_DEPARTURE (R388): A departed peer's held packets and streams are discarded and FENCE_NOTICEs sent. -/
  | peerDeparture (t : TunId) (id : BitVec 9) (scope : Byte) (incarn : Byte)
  /-- FENCE_NOTICE_RECEIVE (R388): A valid FENCE_NOTICE from another Tun is handled as a departure and forwarded to annex devices. -/
  | fenceNoticeReceive (t : TunId) (port : BitVec 9) (p : Packet)
  /-- MGMT_REQUEST (R362): A MGMT request addressed to the Tun is executed as an in-band register access and answered. -/
  | mgmtRequest (t : TunId) (port : BitVec 9) (p : Packet)
  /-- READ_REQ_SERVE (R360): A READ_REQ addressed to the Tun is answered with one READ_RESP. -/
  | readReqServe (t : TunId) (port : BitVec 9) (p : Packet)
  /-- ATOMIC_EXECUTE (R359): An ATOMIC_REQ is performed indivisibly and answered with the old value. -/
  | atomicExecute (t : TunId) (port : BitVec 9) (p : Packet)
  /-- SHARE_WRITE (R544): A WRITE addressed to a Tun context share is performed or consumed by context state. -/
  | shareWrite (t : TunId) (port : BitVec 9) (p : Packet)
  /-- RESPONSE_RECEIVE (R563): A response to a Tun request is matched to its entry or dropped as LATE_REPLY. -/
  | responseReceive (t : TunId) (port : BitVec 9) (p : Packet)
  /-- PKEY_TABLE_WRITE (R366): A PKEY_TABLE write is stored, keeping VALID clear for reserved keys. -/
  | pkeyTableWrite (t : TunId) (n : Byte) (v : Dword)
  /-- RANK_DATA_WRITE (R368): A RANK_DATA write updates the named rank entry unless the endpoint ID is reserved. -/
  | rankDataWrite (t : TunId) (v : Word)
  /-- RANK_DESC_WRITE (R367): A RANK_DESC write stores grid width and rank count clamped to range. -/
  | rankDescWrite (t : TunId) (n : BitVec 6) (v : Word)
  /-- ROUTE_DATA_WRITE (R404): A ROUTE_DATA write is applied or refused and its status recorded. -/
  | routeDataWrite (t : TunId) (v : Word)
  /-- VORLAUF_MODE_APPLY (R431): A stored ring MODE is applied once RING_DRAIN is set and the holds are empty. -/
  | vorlaufModeApply (t : TunId)
  /-- BREW_BOUNDARY (R444): A Brew boundary increments the Brew counter and begins slot 0. -/
  | brewBoundary (t : TunId)
  /-- KEEPER_MARK_SEND (R446): In slot 9,920 the brew-keeper sends a BREW_MARK on every up fabric link. -/
  | keeperMarkSend (t : TunId)
  /-- BREW_MARK_RECEIVE (R448): An accepted brew marker is held for comparison, or discarded as foreign. -/
  | brewMarkReceive (t : TunId) (id : BitVec 9) (payload : List Byte)
  /-- BREW_MARK_TAKE (R448): 200 ns after the first accepted marker the lowest-HOPS marker is taken and alignment corrected. -/
  | brewMarkTake (t : TunId)
  /-- ALIGN_LOSS (R453): Phase error, Brew mismatch or 1,000 Brews without a marker clears ALIGNED and stops the plane. -/
  | alignLoss (t : TunId)
  /-- CIRCUIT_PACKET_ARRIVE (R459): A circuit packet is matched to its circuit or forfeited to unscheduled travel. -/
  | circuitPacketArrive (t : TunId) (port : BitVec 9) (p : Packet) (first : Int) (last : Int)
  /-- TIMED_STEP_START (R470): At a timed step's slot the queue's next descriptor starts on the step's unit, or the step is skipped. -/
  | timedStepStart (t : TunId) (n : Nat)
  /-- STEP_BUDGET_END (R472): A timed step still running when its budget ends is marked to complete with STEP_OVERRUN. -/
  | stepBudgetEnd (t : TunId) (id : Nat)
  /-- ENGINE_CIRCUIT_SEND (R462): An engine-to-port circuit slot sends the engine output assigned to it. -/
  | engineCircuitSend (t : TunId) (n : Nat)
  /-- BINDING_START (R610): At a binding's first slot the communication queue's PUSH_COLLECTIVE starts on its pipes. -/
  | bindingStart (t : TunId) (n : Nat)
  /-- RECIPE_LOAD (R479): RECIPE_LOAD reads a Recipe image into the shadow. -/
  | recipeLoad (t : TunId) (id : Option Nat)
  /-- RECIPE_LOAD_DONE (R480): The Recipe load checks end and the shadow is marked valid or the load refused. -/
  | recipeLoadDone (t : TunId) (image : Option (List Byte))
  /-- BREW_START (R488): BREW_START is checked and, if accepted, arms the Recipe for Brew F. -/
  | brewStart (t : TunId) (id : Option Nat)
  /-- BREW_STOP (R491): BREW_STOP records the Brew at whose boundary the plane stops. -/
  | brewStop (t : TunId) (id : Option Nat)
  /-- SHADOW_DISCARD (R492): SHADOW_DISCARD marks the shadow Recipe not valid. -/
  | shadowDiscard (t : TunId) (id : Option Nat)
  /-- ARM_CHECK (R489): In Brew F-16 an armed Tun compares digest and start Brew with its fabric peers. -/
  | armCheck (t : TunId) (answers : List ArmAnswer)
  /-- ARM_RECHECK (R489): In each Brew from F-15 to F-1 the Tun rereads peers' ARM_STATE and propagates a mismatch. -/
  | armRecheck (t : TunId) (answers : List ArmAnswer)
  /-- ARMED_BREW_BEGIN (R485): Brew F begins: the Recipe runs from slot 0 or BREW_START completes with RECIPE_MISMATCH. -/
  | armedBrewBegin (t : TunId)
  /-- PLANE_RELEASE (R486): At the stop Brew or a release cause circuits, steps, bindings and reservations are released. -/
  | planeRelease (t : TunId)
  /-- QUEUE_DOORBELL (R505): A producer doorbell advances a queue's P, clamped to the free space. -/
  | queueDoorbell (t : TunId) (q : BitVec 10) (index : Half)
  /-- CRING_HEAD (R521): A head doorbell advances a completion ring's head. -/
  | cringHead (t : TunId) (r : BitVec 10) (index : Half)
  /-- CMD_PACKET (R500): A CMD packet appends its descriptors to a group queue. -/
  | cmdPacket (t : TunId) (port : BitVec 9) (p : Packet)
  /-- DOORBELL_PACKET (R502): A DOORBELL packet applies its doorbell words in order. -/
  | doorbellPacket (t : TunId) (port : BitVec 9) (p : Packet)
  /-- DESCRIPTOR_FETCH (R499): Brewmaster reads and copies a queue's next descriptor and advances C. -/
  | descriptorFetch (t : TunId) (q : BitVec 10) (admin : List Byte)
  /-- COMMAND_START (R526): A fetched command passes the checks before start and starts on an awarded unit. -/
  | commandStart (t : TunId) (q : BitVec 10)
  /-- RACKING (R561): A finished command publishes its staged outputs, semaphore release and record. -/
  | racking (t : TunId) (id : Nat)
  /-- REMOTE_TIMEOUT (R529): A request unanswered for REMOTE_TIMEOUT ends its command with REMOTE_TIMEOUT. -/
  | remoteTimeout (t : TunId) (entry : BitVec 12)
  /-- HELD_RECORD_WRITE (R533): A held timed-command record is written when its ring frees a slot. -/
  | heldRecordWrite (t : TunId)
  /-- QUEUE_CFG_WRITE (R537): A queue configuration write is applied or refused with CFG_REFUSED. -/
  | queueCfgWrite (t : TunId) (ring : Bool) (v : Word)
  /-- CRING_CFG_WRITE (R537): A completion ring configuration write is applied or refused with CFG_REFUSED. -/
  | cringCfgWrite (t : TunId) (reg : BitVec 2) (v : Word)
  /-- NOP (R534): NOP completes with no effect. -/
  | nop (t : TunId) (id : Nat)
  /-- WRITE_IMM (R534): WRITE_IMM writes up to 24 immediate bytes to a location. -/
  | writeImm (t : TunId) (id : Nat)
  /-- COPY (R534): COPY copies bytes between two locations. -/
  | copy (t : TunId) (id : Nat)
  /-- TIMESTAMP (R534): TIMESTAMP returns the timestamp and Brew counter at Racking. -/
  | timestamp (t : TunId) (id : Nat)
  /-- CTX_DEFINE (R540): CTX_DEFINE records a context definition. -/
  | ctxDefine (t : TunId) (id : Nat)
  /-- CTX_UNDEFINE (R541): CTX_UNDEFINE removes a context and releases its locks. -/
  | ctxUndefine (t : TunId) (id : Nat)
  /-- CTX_RESIDE (R546): CTX_RESIDE queues a context for residency. -/
  | ctxReside (t : TunId) (id : Nat)
  /-- RESIDE_TURN (R548): A waiting CTX_RESIDE's turn comes: victims are chosen and streaming begins. -/
  | resideTurn (t : TunId)
  /-- RESIDE_STREAM_DONE (R546): The last preload entry is copied and the context becomes RESIDENT. -/
  | resideStreamDone (t : TunId)
  /-- RESIDE_READ_FAIL (R550): A failed host read during streaming returns the context to DEFINED. -/
  | resideReadFail (t : TunId)
  /-- CTX_EVICT (R567): CTX_EVICT evicts a resident or faulted context unless pinned. -/
  | ctxEvict (t : TunId) (id : Nat)
  /-- CTX_SET_PRIORITY (R577): CTX_SET_PRIORITY stores a new priority and pin action and re-evaluates pre-emption. -/
  | ctxSetPriority (t : TunId) (id : Nat)
  /-- CTX_KILL (R564): CTX_KILL pre-empts or resets a context's running commands. -/
  | ctxKill (t : TunId) (id : Nat)
  /-- SEM_INIT (R570): SEM_INIT sets a semaphore's mode, owner, count and lease. -/
  | semInit (t : TunId) (id : Nat)
  /-- LEASE_EXPIRY (R574): An expired lease forces release of its semaphore and faults a resident target. -/
  | leaseExpiry (t : TunId) (sem : BitVec 12)
  /-- GROUP_FORM (R583): GROUP_FORM forms a collective group on the Tun. -/
  | groupForm (t : TunId) (id : Nat)
  /-- GROUP_REFORM (R617): GROUP_REFORM installs a new generation, list and Tun set and ends old commands. -/
  | groupReform (t : TunId) (id : Nat)
  /-- GROUP_DISBAND (R618): GROUP_DISBAND re-forms the group to empty and releases its entry. -/
  | groupDisband (t : TunId) (id : Nat)
  /-- ALL_REDUCE (R605): ALL_REDUCE reduces all members' inputs over the Tun's stripe. -/
  | allReduce (t : TunId) (id : Nat)
  /-- REDUCE_SCATTER (R595): REDUCE_SCATTER reduces and delivers block m to member m. -/
  | reduceScatter (t : TunId) (id : Nat)
  /-- ALL_GATHER (R595): ALL_GATHER concatenates members' inputs in member order. -/
  | allGather (t : TunId) (id : Nat)
  /-- BROADCAST (R595): BROADCAST copies member ROOT's input to the members. -/
  | broadcast (t : TunId) (id : Nat)
  /-- ALL_TO_ALL (R614): ALL_TO_ALL exchanges fixed-capacity blocks between member pairs. -/
  | allToAll (t : TunId) (id : Nat)
  /-- PUSH_COLLECTIVE (R610): PUSH_COLLECTIVE runs a push-mode collective under a Recipe binding. -/
  | pushCollective (t : TunId) (id : Nat)
  /-- CONTRIB_DATA_RECEIVE (R603): A landed CONTRIB is written to the landing area or discarded. -/
  | contribDataReceive (t : TunId) (forfeit : Bool) (p : Packet)
  /-- CONTRIB_SIGNAL_RECEIVE (R601): A ready signal marks chunks of a member's input ready. -/
  | contribSignalReceive (t : TunId) (forfeit : Bool) (p : Packet)
  /-- CHUNK_READY (R605): Every needed member's input for a chunk is ready and reads are issued. -/
  | chunkReady (t : TunId) (id : Nat)
  /-- CHUNK_RACKING (R606): A combined chunk's output, notice and progress are published. -/
  | chunkRacking (t : TunId) (id : Nat)
  /-- PUSH_TILE_RECEIVE (R611): A push tile is accepted into a pipe and ranges are combined and sent. -/
  | pushTileReceive (t : TunId) (pipe : Option (BitVec 3)) (forfeit : Bool) (p : Packet)
  /-- PUSH_SPAN_END (R612): At its span end a PUSH_COLLECTIVE completes, possibly with PUSH_INCOMPLETE. -/
  | pushSpanEnd (t : TunId) (id : Nat)
  /-- TAP_GROUP_SET (R620): TAP_GROUP_SET sets or releases a Tap slot. -/
  | tapGroupSet (t : TunId) (id : Nat)
  /-- TAP_CONTRIBUTION (R621): A TAP contribution is accepted, counted as duplicate, early or refused. -/
  | tapContribution (t : TunId)
  /-- SEQ_OPEN (R640): SEQ_OPEN creates a Cellar sequence. -/
  | seqOpen (t : TunId) (id : Nat)
  /-- SEQ_CLOSE (R640): SEQ_CLOSE removes a Cellar sequence. -/
  | seqClose (t : TunId) (id : Nat)
  /-- SEQ_LOCK (R651): SEQ_LOCK grants, waits for or refuses a sequence lock. -/
  | seqLock (t : TunId) (id : Nat)
  /-- SEQ_UNLOCK (R651): SEQ_UNLOCK frees a sequence lock or grants it to a waiter. -/
  | seqUnlock (t : TunId) (id : Nat)
  /-- KV_APPEND (R640): KV_APPEND appends tokens to a sequence. -/
  | kvAppend (t : TunId) (id : Nat)
  /-- KV_FETCH (R641): KV_FETCH copies held tokens of a layer to a location. -/
  | kvFetch (t : TunId) (id : Nat)
  /-- BATCH_STEP (R645): BATCH_STEP joins, continues and removes sequences in one Racking or fails whole. -/
  | batchStep (t : TunId) (id : Nat)
  /-- PAGE_RELEASE (R647): Pages freed by a LEAVE return to the pool once earlier Steep commands complete. -/
  | pageRelease (t : TunId)
  /-- STEEP_DECODE (R657): STEEP_DECODE computes attention partial records over held tokens. -/
  | steepDecode (t : TunId) (id : Nat)
  /-- STACK_OFFLINE (R756): A failing Cask stack goes offline and its sequences are marked lost. -/
  | stackOffline (t : TunId) (stack : BitVec 3) (cause : BitVec 4)
  /-- TABLE_LOAD (R667): TABLE_LOAD checks a table image and binds or unbinds a slot. -/
  | tableLoad (t : TunId) (id : Nat)
  /-- GRIST_ENCODE (R677): GRIST_ENCODE tokenizes text. -/
  | gristEncode (t : TunId) (id : Nat)
  /-- GRIST_DECODE (R685): GRIST_DECODE turns tokens into text or stream bytes. -/
  | gristDecode (t : TunId) (id : Nat)
  /-- STREAM_OPEN (R679): STREAM_OPEN opens a host text stream. -/
  | streamOpen (t : TunId) (id : Nat)
  /-- STREAM_CLOSE (R684): STREAM_CLOSE flushes held bytes and closes a stream. -/
  | streamClose (t : TunId) (id : Nat)
  /-- STREAM_HEAD (R683): A write to STREAM_HEAD advances a stream's head. -/
  | streamHead (t : TunId) (stream : Byte) (index : Word)
  /-- LAUTER_STATE (R694): LAUTER_STATE changes a Lauter state record. -/
  | lauterState (t : TunId) (id : Nat)
  /-- POUR_PARAMS (R696): POUR_PARAMS writes a sampling parameter set. -/
  | pourParams (t : TunId) (id : Nat)
  /-- SAMPLE_STEP (R704): SAMPLE_STEP gathers logits, masks, samples and publishes tokens, text and multicasts. -/
  | sampleStep (t : TunId) (id : Nat)
  /-- HOST_LINK_TRAIN (R724): The host port begins link training after cold-reset release and PERST deassertion. -/
  | hostLinkTrain (t : TunId) (cfg : HostCfg) (speed : BitVec 4) (width : BitVec 6) (flit : Bool)
  /-- HOST_PERST (R729): HOSTn_PERST_N resets the host port and sets HOST_LOST. -/
  | hostPerst (t : TunId) (asserted : Bool)
  /-- HOST_LINK_LOSS (R732): A surprise host link loss discards outstanding requests and retrains the port. -/
  | hostLinkLoss (t : TunId)
  /-- HOST_DIRECTED_RETRAIN (R727): A host-directed retrain changes the host link rate. -/
  | hostDirectedRetrain (t : TunId) (cfg : HostCfg) (speed : BitVec 4) (width : BitVec 6) (flit : Bool)
  /-- VF_FLR (R730): A VF Function Level Reset resets the VF and its slot's context. -/
  | vfFlr (t : TunId) (vf : BitVec 5)
  /-- PF_FLR (R731): A PF Function Level Reset performs a Tun warm reset. -/
  | pfFlr (t : TunId)
  /-- SRIOV_NUMVFS_WRITE (R712): A NumVFs write enables the 16 VFs or stores the value without enabling. -/
  | sriovNumvfsWrite (t : TunId) (numVfs : Half) (enable : Bool)
  /-- VF_DOORBELL_WRITE (R717): A VF doorbell-page write acts as its register if the slot's context owns the target. -/
  | vfDoorbellWrite (t : TunId) (vf : BitVec 5) (off : Half) (bytes : Nat) (v : Dword)
  /-- VF_BAR2_WRITE (R716): A VF Wort-window write reaches the slot context's share or is refused. -/
  | vfBar2Write (t : TunId) (vf : BitVec 5) (off : Nat) (bs : List Byte)
  /-- HOST_READ_COMPLETION (R719): A Tun host read completes, or fails and ends its command with ADDRESS_FAULT. -/
  | hostReadCompletion (t : TunId) (tag : Nat) (data : Option (List Byte))
  /-- MSIX_UNMASK (R723): Unmasking a pending MSI-X vector sends one message. -/
  | msixUnmask (t : TunId) (fn : BitVec 5) (vector : BitVec 10) (mask : Bool)
  /-- ERROR_DETECT (R736): A detected error is classified, logged and acted on by class. -/
  | errorDetect (t : TunId) (src : Byte) (cls : BitVec 3) (at_ : ErrAt)
  /-- SPARGE_SCRUB (R750): Sparge reads the next locations, correcting or poisoning units. -/
  | spargeScrub (t : TunId) (stack : Option (BitVec 3)) (units : Nat) (found : List (Nat × Bool))
  /-- CASK_CALIBRATION (R752): A stack recalibrates its interface, deferred to the Angel's share while a Recipe runs. -/
  | caskCalibration (t : TunId) (stack : BitVec 3)
  /-- CASK_TEMPERATURE_READ (R752): Every 10 ms each stack's temperature is read through its IEEE 1500 port. -/
  | caskTemperatureRead (t : TunId) (stack : BitVec 3) (v : Half)
  /-- CASK_SELF_REFRESH_ENTRY (R101): A stack without Cellar access for 10 ms enters self-refresh. -/
  | caskSelfRefreshEntry (t : TunId) (stack : BitVec 3)
  /-- SERDES_RECAL (R754): Once per second each awake lane recalibrates offsets and clock recovery. -/
  | serdesRecal (t : TunId) (id : BitVec 9)
  /-- JUNCTION_TEMP_SAMPLE (R775): Every 1 ms the Tun reads its on-die sensors and reports the highest. -/
  | junctionTempSample (t : TunId) (readings : List Half)
  /-- EXPORT_ROUND (R778): A due export round takes a snapshot and starts emitting records. -/
  | exportRound (t : TunId)
  /-- EXPORT_CONTINUE (R779): In each Angel's share up to 512 records of the round are emitted per path. -/
  | exportContinue (t : TunId)
  /-- SNAP (R777): SNAP in HYD_CTRL copies every counter and gauge into the snapshot bank. -/
  | snap (t : TunId)
  /-- HYD_RING_HEAD (R783): A write to HYD_RING_HEAD advances the telemetry ring head. -/
  | hydRingHead (t : TunId) (index : Half)
  /-- HYD_VALUE_LO_READ (R776): A 32-bit read of HYD_VALUE_LO latches the matching high word for its path. -/
  | hydValueLoRead (t : TunId) (p : Path)
  /-- HYD_CONFIG_WRITE (R786): A write to HYD_RING_CFG, HYD_RING_ADDR or HYD_EXPORT_DEST is applied or discarded. -/
  | hydConfigWrite (t : TunId) (reg : BitVec 2) (v : Word)
  /-- COLD_RESET_HOLD_END (R123): At the end of the 10 to 12 ms hold of a Tun cold reset requested while powered, logic is released and the Tun incarnation increments. -/
  | coldResetHoldEnd (t : TunId)
  /-- ALERT_N_RELEASED (R244): ALERT_N high for 100 ms after being held externally ends the extra PLDM event delivery and logs event 0x0063. -/
  | alertNReleased
  /-- DELAY_ECHO_TIMEOUT (R339): A delay probe with no echo 4 µs after it was sent discards the measurement and schedules a repeat 1 ms later. -/
  | delayEchoTimeout (t : TunId) (id : BitVec 9)
  /-- PF_WORT_WINDOW_WRITE (R716): A host write through PF BAR2 writes Wort block by block, discarding writes to blocks 0 to 31 and during a warm-reset hold. -/
  | pfWortWindowWrite (t : TunId) (off : Nat) (bs : List Byte)
  /-- STANDBY_POWER_LOSS (R225): Loss of standby power clears the thermal latches, drops the Maltster and all held outputs, and interrupts staging. -/
  | standbyPowerLoss
  /-- RELEASED_ENTRY_REUSE (R562): An outstanding-request entry released by a kill or reset becomes available for reuse once REMOTE_TIMEOUT has passed since its release. -/
  | releasedEntryReuse (t : TunId) (entry : BitVec 12)
deriving DecidableEq, Repr

end Sys2Proof
end

