-- ==== Sys2Proof/Config.lean ====
section
/-! DEFINITION. What the manual leaves to named standards or leaves open: opaque constants with no body. Nothing in Lean can
evaluate one, so a statement that mentions one holds whatever it is. -/

namespace Sys2Proof.Config

/-- SHA-384 of FIPS 180-4 (08 R262-R265): a named standard whose text the manual does not give. -/
opaque sha384 : List Byte → List Byte

/-- ECDSA P-384 verification of FIPS 186-5 (08 R265 check 3): public key, signature, signed bytes. -/
opaque ecdsaP384 : List Byte → List Byte → List Byte → Bool

/-- Tilernov's IANA enterprise number, the endpoint UUID, the MCTP and PLDM version data (06 R197-R201): not given. -/
opaque ianaNumber : Word
opaque endpointUuid : List Byte
opaque vendorSet : Half
opaque mctpVersion : List Byte
opaque pldmVersion : Nat → List Byte

/-- One sensor of the PDR repository: numeric or state sensor, the Maltster's object code of its entity, unit, thresholds and state set
(06 Table 06-11). Units and thresholds are those of the reading. -/
structure SensorPdr where
  id : Nat
  numeric : Bool
  entity : Byte
  lowerCritical : Option Int := none
  upperWarning : Option Int := none
  upperCritical : Option Int := none
  stateSet : Nat := 0
deriving DecidableEq, Repr

/-- Bytes of a sensor's PDR under DSP0248, a named standard whose formats the manual does not give (06 R202). -/
opaque pdrBytes : SensorPdr → List Byte

/-- The I3C provisioned ID, bus and device characteristics (06 Table 06-2): not given. -/
opaque i3cPid : List Byte
opaque i3cBcr : Byte
opaque i3cDcr : Byte

/-- PHASE_ERR shown for an error outside its signed 16-bit field (12 Table 12-10): not given. -/
opaque phaseErrWide : Int → Half

/-- Whether a pre-cursor and post-cursor tap pair, in units of 0.0125, lies within the range of the PMD class (09 R311): the
class's figures are IEEE 802.3's, not the manual's. -/
opaque tapInRange : Int → Int → Bool

/-- REQUEST of the `n`-th flit a Tun sends when its receiver asks the peer's transmitter for a change: one of the 21 codes of 09 Table
09-5 (assumption 153): how a receiver adapts is not given. -/
opaque equalRequest : Nat → Fin 21

/-- DEVICE_ID of a Tun by its number (09 Table 09-5): not given. -/
opaque tunDeviceId : Nat → Dword

/-- LINK_DELAY for a mean, given as sixteenths, that is no whole number of units or outside its field (09 R339): not given. -/
opaque delayPart : Int → BitVec 20

/-- The exponential of Mash, Steep and Pour on binary32 (15 R594): the manual bounds its relative error by 2^-22 and fixes no
value within the bound. -/
opaque exp32 : Word → Word

/-- CHANNEL of packets to which the manual gives none: a Tap result (0) and a Lauter mask request (1) (15 R622, 17 R690). -/
opaque openChannel : Nat → BitVec 4

/-- TAG of the MGMT reads an armed Tun sends its peers, by register offset (12 R489): not given. -/
opaque mgmtTag : Nat → Half

/-- Refresh transactions a stack takes in a slot, by time and stack, before the bound of Table 19-6 (19 R749, 20 Table 20-4): not given. -/
opaque refreshTxn : Nat → Nat → Nat

/-- Text of a token at or above the VOCAB of the DECODE table a SAMPLE_STEP names (17 R704): not given. -/
opaque openText : Nat → List Byte

/-- The key hashes and the security floor in the fuses of a part, set at manufacture (08 R264): not given. -/
opaque keyHash : Nat → Nat → List Byte
opaque securityFloor : Nat → Half

/-- The images in the flash devices of a new tray (08 R257, Table 08-1): 0 Maltster bank A, 1 the Maltster golden image, 2 the Tun
golden bundle, 3 + n bank A of Tun n. Not given. -/
opaque factoryImage : Nat → List Byte

end Sys2Proof.Config
end

