-- ==== Sys2Proof/Machine/Basic.lean ====
section
/-! DEFINITION. The plain operations every chapter uses: saturating counters, fields of a 32-bit register, little-endian
byte strings (00 R3), the sparse table's read and write, and the selection of one of four Tuns. -/

namespace Sys2Proof

/-- A counter that stays at its largest value (the manual's "saturates"). -/
def satInc {w : Nat} (x : BitVec w) : BitVec w := if x = BitVec.allOnes w then x else x + 1

/-- A saturating counter raised by `n`. -/
def satAdd {w : Nat} (x : BitVec w) (n : Nat) : BitVec w :=
  if x.toNat + n < 2 ^ w then BitVec.ofNat w (x.toNat + n) else BitVec.allOnes w

/-- The value `x` placed at bit `lsb` of a register word. -/
def fieldAt {w : Nat} (x : BitVec w) (lsb : Nat) : Word := x.setWidth 32 <<< lsb

/-- One flag placed at bit `n` of a register word. -/
def bitAt (b : Bool) (n : Nat) : Word := if b then (1#32 <<< n) else 0#32

/-- Bits `[lsb + w - 1 : lsb]` of a word. -/
def bitsOf (x : Word) (lsb w : Nat) : BitVec w := x.extractLsb' lsb w

/-- Low `k` bytes of `n`, least significant first (00 R3). -/
def bytesLE (k n : Nat) : List Byte :=
  match k with
  | 0 => []
  | k + 1 => BitVec.ofNat 8 n :: bytesLE k (n / 256)

/-- The number a little-endian byte string holds (00 R3). -/
def natLE : List Byte → Nat
  | [] => 0
  | b :: bs => b.toNat + 256 * natLE bs

/-- `k` bytes of a byte string from `off`, read as a little-endian number; bytes past its end read 0. -/
def leAt (bs : List Byte) (off k : Nat) : Nat := natLE ((bs.drop off).take k)

/-- Byte `i` of a byte string, `d` past its end. -/
def byteAt (bs : List Byte) (i : Nat) (d : Byte := 0) : Byte := bs.getD i d

/-- `xs` with position `i` replaced. -/
def setAt {α : Type} (xs : List α) (i : Nat) (v : α) : List α := xs.set i v

/-- One step of the CRC-16 of 03 R83 over one bit. -/
def crc16Bit (c : Half) : Half := if c.msb then (c <<< 1) ^^^ 0x1021#16 else c <<< 1

/-- One byte into the CRC-16 of 03 R83. -/
def crc16Byte (c : Half) (b : Byte) : Half :=
  let c := c ^^^ (b.setWidth 16 <<< 8)
  crc16Bit (crc16Bit (crc16Bit (crc16Bit (crc16Bit (crc16Bit (crc16Bit (crc16Bit c)))))))

/-- CRC-16, polynomial 0x1021, initial value 0xFFFF, no reflection, no final XOR (03 R83, 06 R186). -/
def crc16 (bs : List Byte) : Half := bs.foldl crc16Byte 0xFFFF#16

def Tab.empty {α : Type} : Tab α := ⟨[]⟩

def lookupD {α : Type} (d : α) (k : Nat) : List (Nat × α) → α
  | [] => d
  | (j, v) :: es => if j = k then v else lookupD d k es

/-- The value at key `k`; an unlisted key reads as `d`. -/
def Tab.get {α : Type} (d : α) (t : Tab α) (k : Nat) : α := lookupD d k t.entries

def insertKey {α : Type} (k : Nat) (v : α) : List (Nat × α) → List (Nat × α)
  | [] => [(k, v)]
  | (j, w) :: es => if k < j then (k, v) :: (j, w) :: es else if k = j then (k, v) :: es else (j, w) :: insertKey k v es

def removeKey {α : Type} (k : Nat) : List (Nat × α) → List (Nat × α)
  | [] => []
  | (j, w) :: es => if k < j then (j, w) :: es else if k = j then es else (j, w) :: removeKey k es

/-- `t` with key `k` holding `v`; storing the unlisted value `d` removes the entry. -/
def Tab.set {α : Type} [DecidableEq α] (d : α) (t : Tab α) (k : Nat) (v : α) : Tab α :=
  if v = d then ⟨removeKey k t.entries⟩ else ⟨insertKey k v t.entries⟩

/-- `t` with `f` applied to the value at key `k`. -/
def Tab.modify {α : Type} [DecidableEq α] (d : α) (t : Tab α) (k : Nat) (f : α → α) : Tab α := t.set d k (f (t.get d k))

/-- Keys strictly rising from above `lo`. -/
def risingFrom {α : Type} (lo : Nat) : List (Nat × α) → Bool
  | [] => true
  | (j, _) :: es => decide (lo ≤ j) && risingFrom (j + 1) es

/-- The canonical form: keys strictly rising, no entry equal to the unlisted value. -/
def Tab.wf {α : Type} [DecidableEq α] (d : α) (t : Tab α) : Bool :=
  risingFrom 0 t.entries && t.entries.all (fun e => decide (e.2 ≠ d))

/-! ### Choosing one of four -/

def Quad.get {α : Type} (q : Quad α) : TunId → α
  | .t0 => q.q0
  | .t1 => q.q1
  | .t2 => q.q2
  | .t3 => q.q3

def Quad.set {α : Type} (q : Quad α) (t : TunId) (v : α) : Quad α :=
  match t with
  | .t0 => { q with q0 := v }
  | .t1 => { q with q1 := v }
  | .t2 => { q with q2 := v }
  | .t3 => { q with q3 := v }

def Quad.all {α : Type} (q : Quad α) (p : α → Bool) : Bool := p q.q0 && p q.q1 && p q.q2 && p q.q3

def Quad.map {α β : Type} (f : α → β) (q : Quad α) : Quad β := ⟨f q.q0, f q.q1, f q.q2, f q.q3⟩

def Duo.get {α : Type} (d : Duo α) : Bus → α
  | .sb0 => d.d0
  | .sb1 => d.d1

def Duo.set {α : Type} (d : Duo α) (b : Bus) (v : α) : Duo α :=
  match b with
  | .sb0 => { d with d0 := v }
  | .sb1 => { d with d1 := v }

def TunId.num : TunId → Nat
  | .t0 => 0
  | .t1 => 1
  | .t2 => 2
  | .t3 => 3

def TunId.fromNum (n : Nat) : TunId := if n = 0 then .t0 else if n = 1 then .t1 else if n = 2 then .t2 else .t3

def allTuns : List TunId := [.t0, .t1, .t2, .t3]

def Bus.num : Bus → Nat
  | .sb0 => 0
  | .sb1 => 1

/-- Number of a raw path: SB0, SB1, then the proxies of T0 to T3 (06 R205). -/
def RawPath.num : RawPath → Nat
  | .sb b => b.num
  | .proxy t => 2 + t.num

end Sys2Proof
end

