-- ==== Sys2Proof/Machine/StateLink.lean ====
section
/-! DEFINITION. State of the ports and fabric links (chapter 09) and of the packet plane (chapters 10 and 11) of one Tun. -/

namespace Sys2Proof.Machine
open Sys2Proof

/-- Link states (09 Table 09-6). -/
inductive LinkState where
  | disabled | detect | equalize | deskew | linked
deriving DecidableEq, Repr

/-- Port states (09 Table 09-8). -/
inductive PortState where
  | down | identify | active | degraded | fenced | peerFenced
deriving DecidableEq, Repr

/-- A flit: the link header of 09 Table 09-3 and the payload bytes 8 to 251 (R297). -/
structure Flit where
  incarn : Byte := 0
  fseq : BitVec 12 := 0
  ackseq : BitVec 12 := 0
  ackValid : Bool := false
  nak : Bool := false
  cls : BitVec 3 := 0
  ringVc : Bool := false
  ftype : BitVec 4 := 0
  svc : BitVec 3 := 0
  drain : Bool := false
  hold : Bool := false
  payload : List Byte := []
deriving DecidableEq, Repr

/-- A sequenced flit to send or held for replay (09 R322). -/
structure HeldFlit where
  fseq : BitVec 12
  ftype : BitVec 4
  cls : BitVec 3
  ringVc : Bool
  payload : List Byte
deriving DecidableEq, Repr

/-- A peer identity that passed 09 R313 (Table 09-5, TRAIN 0x02). -/
structure Ident where
  role : BitVec 2
  seen : Bool
  peerKnown : Bool
  row : Byte
  col : Byte
  portId : Half
  slot : Half
  ownInc : Byte
  peerInc : Byte
  nextRx : BitVec 12
  deviceId : Dword
deriving DecidableEq, Repr

/-- One lane in equalisation (09 R310, R311): the transmitter's taps in units of 0.0125, whether the peer's last request was applied, and the
receiver's peaking in dB. -/
structure LaneTx where
  pre : Int := 0
  main : Int := 80
  post : Int := 0
  applied : Bool := false
  peaking : Nat := 0
deriving DecidableEq, Repr

/-- A port or fabric link (09 Tables 09-6 to 09-11). -/
structure Port where
  -- PORT_CTRL
  gen1 : Bool := false
  disable : Bool := false
  napDisable : Bool := false
  width : BitVec 2 := 0
  paleOnly : Bool := false
  -- latched when a training begins (R347)
  genNow : Bool := false
  widthNow : Nat := 0
  pairing : Bool := false
  paleNow : Bool := false
  /-- directed to train after a cartridge insertion, and neither up nor stepped since (03 R92, R93) -/
  inserted : Bool := false
  -- link and port
  link : LinkState := .disabled
  state : PortState := .down
  /-- a failed attempt waits for the interval of Table 09-7 -/
  waiting : Bool := false
  rateFull : Bool := false
  rateHeld : Bool := false
  /-- failed Full-rate attempts of the rate-step round under way (05 R157) -/
  stepping : Bool := false
  stepFails : Nat := 0
  downCause : BitVec 4 := 0
  peerDrain : Bool := false
  peerSvc : BitVec 3 := 0
  txNapped : Bool := false
  rxNapped : Bool := false
  lanes : List LaneTx := []
  -- identity
  ident : Option Ident := none
  peerRole : BitVec 2 := 0
  peerRow : BitVec 3 := 0
  peerCol : BitVec 2 := 0
  peerPort : BitVec 9 := 0
  peerSlot : Half := 0
  peerDevice : Dword := 0
  peerIncarn : Option Byte := none
  /-- the port lost its sequences since the last IDENTIFY: it cannot resume, and says so by PEER_KNOWN 0 (04 Table 04-6) -/
  mustFresh : Bool := false
  incarn : Byte := 0
  -- transmit side
  nextSeq : BitVec 12 := 0
  replay : List HeldFlit := []
  txq : List HeldFlit := []
  nakOwed : Bool := false
  /-- the NAK owed carries HOLD -/
  nakHold : Bool := false
  /-- first flit and number of the replays in a row (R324) -/
  replayRun : Option (BitVec 12 × Nat) := none
  /-- the flit the peer refuses with HOLD (R325) -/
  holdFrom : Option (BitVec 12) := none
  replayEvents : Nat := 0
  replayEvents1s : Nat := 0
  injectCrc : Bool := false
  /-- when the first flit with DRAIN left (R336) -/
  drainAt : Option Nat := none
  -- receive side
  expected : BitVec 12 := 0
  ackValid : Bool := false
  nakOut : Bool := false
  nakTime : Nat := 0
  /-- a first flit was refused for want of room, and whether it begins a circuit packet (09 R325) -/
  refused : Option Bool := none
  partial_ : List (List Byte) := []
  assembling : Bool := false
  /-- when the first flit of the packet being received arrived (12 R456) -/
  firstAt : Nat := 0
  -- delay measurement (R339)
  probes : List (Nat × Nat) := []
  delays : List Int := []
  delayValid : Bool := false
  delay : BitVec 20 := 0
  -- LINK_EVENTS
  rxCdcDrop : Byte := 0
  staleIncarn : Byte := 0
  retrains : Byte := 0
  degradations : Byte := 0
deriving DecidableEq, Repr

/-- A packet waiting in a hold of 11 Table 11-1. `input` is the port, link or engine it came from. -/
structure Waiting where
  pkt : Packet
  input : Nat
  since : Nat
  /-- released from the one-row-hop rule after 64 cycles in a row landing (11 R416) -/
  released : Bool := false
  /-- a ring arrival carries its RING_VC -/
  vc : Bool := false
  /-- taken off the ring: it has lost at its target output and does not continue (11 R427, R429, R434) -/
  offRing : Bool := false
  /-- members still to be copied: a multicast under replication (11 R439) -/
  copies : Option (List Nat) := none
deriving DecidableEq, Repr

/-- A ring hold of one direction (11 Table 11-7); bubble mode uses the Straw queue alone. -/
structure RingHold where
  straw : List Packet := []
  stout : List Packet := []
deriving DecidableEq, Repr

/-- One receive stream of the reorder buffer (10 R383): `held` keeps (SEQ, arrival time, port, packet). -/
structure Stream where
  valid : Bool := false
  incarn : Byte := 0
  expected : Half := 0
  held : List (Half × Nat × Nat × Packet) := []
deriving DecidableEq, Repr

/-- One output's arbitration state (11 R408-R410). -/
structure OutArb where
  tokens : Nat := 0
  /-- time up to which tokens are counted, and the part of a token earned -/
  tokenAt : Nat := 0
  tokenPart : Nat := 0
  deficit : List Nat := [0, 0, 0, 0, 0]
  turn : Nat := 0
  /-- the weight of the current visit has been added -/
  visited : Bool := false
  lastInput : Nat := 0
deriving DecidableEq, Repr

/-- The packet plane of one Tun (chapters 10 and 11). -/
structure Plane where
  -- partitions and ranks
  pkeys : Tab Dword := ⟨[]⟩
  rankDesc : Tab Word := ⟨[]⟩
  rankIndex : Word := 0
  ranks : Tab Half := ⟨[]⟩
  pkeyMap : Tab Word := ⟨[]⟩
  pkeyCtrl : Tab Word := ⟨[]⟩
  -- packet registers
  holeTimeout : Half := 50
  seqGap : Half := 0
  rankRefused : Bool := false
  pkeyRefused : Bool := false
  dropCode : Byte := 0
  dropPort : BitVec 9 := 0
  dropCount : BitVec 15 := 0
  dropHdr : List Byte := []
  -- routing and arbitration
  routeIndex : BitVec 10 := 0
  routes : Tab Word := ⟨[]⟩
  routeStatus : Half := 0
  collPrio : Bool := false
  unreachHops : BitVec 6 := 32
  gildThreshold : BitVec 3 := 3
  injectAge : Byte := 8
  weights : Word := 0x000C73CF
  arb : Tab OutArb := ⟨[]⟩
  /-- rotation of the row-mesh bids (11 Table 11-6) -/
  meshRot : Nat := 0
  -- holds
  inj : Tab (List Waiting) := ⟨[]⟩
  forfeit : Tab (List Waiting) := ⟨[]⟩
  engine : List Waiting := []
  /-- packets of engines that wait for a place in the engine hold (11 R439) -/
  engineWait : List Packet := []
  landing : Tab (List Waiting) := ⟨[]⟩
  north : RingHold := {}
  south : RingHold := {}
  -- Vorlauf
  ringDrain : Bool := false
  broken : Bool := false
  breakRow : BitVec 3 := 0
  modeStored : Bool := false
  modeNow : Bool := false
  modeMismatch : Bool := false
  ringEject : Byte := 0
  loopDrop : Word := 0
  reorderRefuse : Word := 0
  -- streams
  streams : Tab Stream := ⟨[]⟩
  /-- next SEQ of each stream the Tun sends, by destination and channel (10 R379) -/
  sendSeq : Tab Half := ⟨[]⟩
  /-- departures acted on: subject and time (10 R388) -/
  departures : List (Nat × Nat) := []
deriving DecidableEq, Repr

/-- What a Tun has sent to the outside world, oldest first: the model's own field. -/
inductive TunEmit where
  | flit (port : Nat) (f : Flit) (crcInverted : Bool)
  /-- an equalisation flit, sent unstriped on one lane (09 Table 09-5 TRAIN 0x01) -/
  | laneFlit (port lane : Nat) (payload : List Byte)
  | hostWrite (fn addr : Nat) (bs : List Byte) (poison : Bool)
  | hostRead (tag fn addr len : Nat)
  | hostMsi (fn vector : Nat)
deriving DecidableEq, Repr

end Sys2Proof.Machine
end

