-- ==== Sys2Proof/Machine/StateSched.lean ====
section
/-! DEFINITION. State of the scheduled plane of one Tun (chapter 12). -/

namespace Sys2Proof.Machine
open Sys2Proof

/-- A Recipe image, its records kept as 64-bit words (12 Tables 12-2 and 12-3). -/
structure Recipe where
  id : Dword := 0
  digest : List Byte := []
  circuits : List Dword := []
  bindings : List Dword := []
  steps : List Dword := []
  reserves : List Dword := []
deriving DecidableEq, Repr

/-- Plane states (12 Table 12-8). -/
inductive PlaneState where
  | stopped | armed | running | stopping
deriving DecidableEq, Repr

/-- An accepted brew marker (09 Table 09-5 BREW_MARK). -/
structure Marker where
  brew : BitVec 48
  keeperRow : Byte
  keeperCol : Byte
  hops : Byte
  offset : Word
  port : Nat
  rx : Nat
deriving DecidableEq, Repr

/-- Who issued a scheduled-plane operation: BREW_CTRL, or a Brewmaster command by its number. -/
inductive Issuer where
  | reg
  | cmd (id : Nat)
deriving DecidableEq, Repr

/-- A timed step that runs: its record, its command and the slot its budget ends before (12 R470, R472). -/
structure RunStep where
  unit : Nat
  cmd : Nat
  overrun : Bool := false
deriving DecidableEq, Repr

/-- An engine output assigned to an engine-to-port circuit (12 R462). -/
structure EngineOut where
  unit : Nat
  port : Nat
  slot : Nat
  pkt : Packet
  cmd : Nat
deriving DecidableEq, Repr

/-- The scheduled plane: the Brew counter and its alignment, the loaded and shadow Recipes, the plane state and what runs under it. -/
structure Sched where
  -- Brew counter
  brew : BitVec 48 := 0
  counting : Bool := false
  /-- timestamp of the boundary of the current Brew -/
  boundary : Int := 0
  -- alignment
  aligned : Bool := false
  acquired : Bool := false
  goodRun : Nat := 0
  wideRun : Nat := 0
  missedRun : Nat := 0
  best : Option Marker := none
  taken : Bool := false
  markerOk : Bool := false
  parent : BitVec 9 := 0
  hops : BitVec 4 := 0
  phaseErr : Half := 0
  -- Recipes
  loaded : Option Recipe := none
  shadow : Option Recipe := none
  shadowValid : Bool := false
  /-- the loaded Recipe is marked not valid: its store read badly (19 Table 19-3) -/
  storeBad : Bool := false
  loading : Option Issuer := none
  loadSrc : Dword := 0
  loadStatus : Half := 0
  loadReason : Byte := 0
  recipeSrc : Dword := 0
  brewTarget : BitVec 48 := 0
  lastStatus : Half := 0
  -- plane
  plane : PlaneState := .stopped
  stopBrew : Option (BitVec 48) := none
  startBrew : Option (BitVec 48) := none
  starter : Issuer := .reg
  armState : BitVec 2 := 0
  /-- a release at the next boundary, with the status it records (12 R453, R485) -/
  releaseDue : Option Half := none
  -- running work
  runSteps : List RunStep := []
  /-- commands of bindings that run: command number and pipe mask -/
  runBinds : List (Nat × Byte) := []
  outputs : List EngineOut := []
  -- counts
  slotForfeit : Half := 0
  stepMissed : Byte := 0
  stepOverrun : Byte := 0
  forfeitCause : BitVec 4 := 0
  forfeitPort : BitVec 9 := 0
  forfeitSlot : BitVec 14 := 0
deriving DecidableEq, Repr

end Sys2Proof.Machine
end

