-- ==== Sys2Proof/Machine/StateCmd.lean ====
section
/-! DEFINITION. Brewmaster's state of one Tun: queues, rings, commands, contexts, semaphores, the outstanding-request table and
Wort (chapters 13 and 14), and the host port (chapter 18). -/

namespace Sys2Proof.Machine
open Sys2Proof

/-- A group queue (13 Table 13-10). -/
structure Queue where
  valid : Bool := false
  endpointSubmit : Bool := false
  cring : BitVec 10 := 0
  log2 : BitVec 4 := 0
  ctx : Byte := 0
  ring : BitVec 29 := 0
  p : Half := 0
  c : Half := 0
  overrun : Bool := false
  cfgRefused : Bool := false
  overrunCount : Byte := 0
deriving DecidableEq, Repr

/-- A completion ring (13 Table 13-10). -/
structure Ring where
  valid : Bool := false
  endpoint : Bool := false
  split : Bool := false
  intEn : Bool := false
  log2 : BitVec 4 := 0
  ctx : Byte := 0
  vector : BitVec 11 := 0
  addr : Dword := 0
  channel : BitVec 4 := 0
  dest : BitVec 10 := 0
  function : Byte := 0
  tail : Half := 0
  head : Half := 0
  overrun : Bool := false
  cfgRefused : Bool := false
deriving DecidableEq, Repr

/-- Context states (14 R538). -/
inductive CtxState where
  | undefined | defined | streaming | resident | faulted
deriving DecidableEq, Repr

/-- A context (14 R538-R552). -/
structure Ctx where
  state : CtxState := .undefined
  priority : BitVec 3 := 0
  pkey : Half := 0
  share : Byte := 0
  proof : BitVec 3 := 0
  pin : Bool := false
  slot : Option Nat := none
  gen : Byte := 0
  blocks : List Nat := []
  lastStart : Nat := 0
deriving DecidableEq, Repr

/-- A semaphore (14 R570): mode 0 free, 1 LOCK, 2 COUNT. -/
structure Sem where
  mode : BitVec 2 := 0
  owner : Option Nat := none
  holder : Option Nat := none
  count : Half := 0
  leaseMs : Nat := 10
deriving DecidableEq, Repr

/-- Where a command stands (13 R526): fetched; waiting at check 8 for a semaphore or a sequence lock (16 R638) or at check 9;
started; its outputs staged and ready for Racking. -/
inductive Phase where
  | fetched | waitSem | waitLock | waitUnit | started | staged
deriving DecidableEq, Repr

/-- A read a command has issued: to a remote memory or to host memory; `data` once answered. -/
structure Fetch where
  entry : Nat
  host : Bool
  dst : Nat
  data : Option (List Byte) := none
  poison : Bool := false
  /-- why a mask could not be read (17 R703) -/
  fail : Half := 0
deriving DecidableEq, Repr

/-- One read of a command's plan: from host memory, from a remote memory, or bytes already at hand. `tag` says what the read is
for; a multicast of masks or rows keeps its member there. -/
structure Piece where
  host : Bool := false
  dst : Nat := 0
  dstKind : Bool := false
  channel : BitVec 4 := 0
  cls : BitVec 3 := 0
  addr : Nat := 0
  len : Nat := 0
  tag : Nat := 0
  ready : Option (List Byte) := none
  poison : Bool := false
deriving DecidableEq, Repr

/-- One entry of an accepted batch step with the staging it read (16 R642, R646, R647); a byte's flag says it is poisoned. -/
structure BEntry where
  id : Nat
  /-- 0 CONTINUE, 1 JOIN, 2 LEAVE -/
  action : Nat
  stripe : Byte := 0
  a : Nat := 0
  base : Nat := 0
  first : Nat := 0
  last : Nat := 0
  stage : Nat := 0
  kind : Nat := 0
  fmt : Nat := 0
  heads : Nat := 0
  dim : Nat := 0
  layers : Nat := 0
  skip : Bool := false
  data : List (Byte × Bool) := []
deriving DecidableEq, Repr

/-- A staged output, published in Racking (14 R558, R561). -/
inductive Effect where
  /-- bytes at a share offset, all in one 64-byte unit; `poison` marks the unit poisoned (19 R739) -/
  | wort (ctx off : Nat) (bs : List Byte) (poison : Bool)
  | host (addr : Nat) (bs : List Byte) (poison : Bool)
  | send (p : Packet)
  /-- bytes of a KIND 1 Cellar sequence rewritten in place (13 R511) -/
  | cask (seq off : Nat) (bs : List Byte) (poison : Bool)
  /-- text bytes of one token to a stream, held back under 17 R680 -/
  | text (stream : Nat) (bs : List Byte)
deriving DecidableEq, Repr

/-- A command fetched, waiting, running or staged (13 R499, R526). -/
structure Cmd where
  id : Nat
  queue : Nat
  ctx : Nat
  op : Nat
  desc : List Byte
  index : Half
  phase : Phase := .fetched
  timed : Bool := false
  /-- records reserved on its ring (13 R519) -/
  reserved : Nat := 0
  /-- the WAIT_SEM acquisition, kept through a kill (14 R559) -/
  semHeld : Bool := false
  /-- a forced grant: OK becomes OK_NOTICE (14 R574) -/
  notice : Bool := false
  /-- a consumed packet was forfeited (12 R460) -/
  forfeit : Bool := false
  /-- a timed step passed its budget (12 R472) -/
  overrun : Bool := false
  poisoned : Bool := false
  units : List Nat := []
  /-- units wanted: how many of each kind, the units of a kind in order of preference (14 Table 14-4, 15 R598, 16 R654, 17 R702) -/
  wants : List (Nat × List Nat) := []
  startedAt : Nat := 0
  /-- proof space its outputs may take (14 R558) -/
  bound : Nat := 0
  /-- reads the command makes, in order, and those issued so far -/
  plan : List Piece := []
  planned : Bool := false
  fetches : List Fetch := []
  /-- push mode: output elements sent, from and to (15 R611) -/
  produced : List (Nat × Nat) := []
  /-- pull mode: chunks Racked, and the length tables of an all-to-all (15 R605, R614) -/
  progress : Nat := 0
  tables : List (List Byte) := []
  batch : List BEntry := []
  /-- a lock granted after its owner died (16 R651) -/
  orphanLock : Bool := false
  /-- room a stream must have, and the state records the command works on (17 R682, R695) -/
  streamNeeds : List (Nat × Nat) := []
  lstate : Option Nat := none
  /-- table slots as they stood at the start (17 R667) -/
  binds : List (Nat × Nat × Nat × Nat) := []
  effects : List Effect := []
  status : Half := 0
  result0 : Dword := 0
  result1 : BitVec 48 := 0
  ext : List Byte := []
  /-- an aborted command completes with this status once its Racking, if any, ends -/
  abort : Option Half := none
deriving DecidableEq, Repr

/-- An entry of the outstanding-request table (14 R562). -/
structure OutReq where
  entry : Nat
  ctx : Nat
  gen : BitVec 4
  cmd : Option Nat
  dst : Nat
  atomic : Bool
deriving DecidableEq, Repr

/-- A record held for a full ring (13 R533). -/
structure HeldRec where
  ring : Nat
  interrupt : Bool
  bytes : List Byte
  ext : List Byte
deriving DecidableEq, Repr

/-- The host port (chapter 18). -/
structure HPort where
  lost : Bool := true
  perst : Bool := true
  linkUp : Bool := false
  flitMode : Bool := false
  speed : BitVec 4 := 0
  width : BitVec 6 := 0
  numVfs : Half := 0
  vfEnable : Bool := false
  busMaster : BitVec 17 := 0
  d3hot : BitVec 17 := 0
  msixEnable : BitVec 17 := 0
  /-- masked vectors (function × 1,024 + vector); all are unmasked unless listed -/
  masked : List Nat := []
  pendingBits : List Nat := []
  discard : Half := 0
  readFail : Byte := 0
  vfRefused : Byte := 0
  /-- RESIDENCE of each slot -/
  residence : Tab Half := ⟨[]⟩
deriving DecidableEq, Repr

/-- Brewmaster (chapters 13 and 14). -/
structure Bm where
  remoteTimeout : Half := 200
  cmdRefused : Byte := 0
  dbRefused : Byte := 0
  dbStale : Byte := 0
  cplLost : Byte := 0
  queueSel : BitVec 10 := 0
  cringSel : BitVec 10 := 0
  queues : Tab Queue := ⟨[]⟩
  rings : Tab Ring := ⟨[]⟩
  cmds : List Cmd := []
  nextCmd : Nat := 0
  /-- command starts so far, the order of starts -/
  starts : Nat := 0
  held : List HeldRec := []
  ctxs : Tab Ctx := ⟨[]⟩
  ctxSel : Byte := 0
  sems : Tab Sem := ⟨[]⟩
  semSel : BitVec 12 := 0
  outstanding : List OutReq := []
  /-- released entries not yet free for reuse (14 R562) -/
  released : List Nat := []
  evictions : Byte := 0
  leaseExpired : Byte := 0
  kills : Half := 0
  lateReply : Word := 0
  semMisuse : Half := 0
  nonres : Half := 0
  /-- CTX_RESIDE commands waiting for the streamer, and the one streaming (14 R548) -/
  resideWait : List Nat := []
  streaming : Option (Nat × Nat) := none
  /-- queue last awarded at each priority (14 R554) -/
  lastAward : Tab Nat := ⟨[]⟩
  /-- context whose command last ran on each unit, plus one; 0 none (14 R557) -/
  lastCtx : Tab Nat := ⟨[]⟩
  wort : Tab Byte := ⟨[]⟩
  /-- poisoned 64-byte units of Wort, by unit number -/
  poison : Tab Bool := ⟨[]⟩
deriving DecidableEq, Repr

end Sys2Proof.Machine
end

