-- ==== Sys2Proof/Machine/StateEng.lean ====
section
/-! DEFINITION. State of the engines of one Tun: groups and the Tap unit (chapter 15), the Cellar and Cask memory (chapter 16),
and the tables, streams and parameter sets of the token engines (chapter 17). -/

namespace Sys2Proof.Machine
open Sys2Proof

/-- A member of a group: an endpoint or annex ID, or a Tun's number (15 R581). -/
structure Member where
  tun : Bool
  id : Nat
deriving DecidableEq, Repr

/-- Ready and landing state of one instance of a group (15 R602, R603). -/
structure Place where
  inst : Nat
  /-- member and READY_THROUGH of its last signal -/
  ready : List (Nat × Nat) := []
  /-- landed bytes: member, offset in its input, length -/
  landed : List (Nat × Nat × Nat) := []
  /-- data that came before the instance's command started: member, offset, bytes, poison (assumption 71, DEDUCED) -/
  early : List (Nat × Nat × List Byte × Bool) := []
  forfeit : Bool := false
  cmd : Option Nat := none
deriving DecidableEq, Repr

/-- A collective group (15 R580-R583). -/
structure Group where
  gen : Byte
  ctx : Nat
  queue : Nat
  channel : BitVec 4
  tunMask : Word
  members : List Member
  pipes : Nat
  hint : Nat
  window : Nat
  windowLen : Nat
  landOff : Nat
  landBytes : Nat
  /-- oldest instance not yet completed, and later ones completed (15 R602) -/
  oldest : Nat := 0
  done : List Nat := []
  places : List Place := []
deriving DecidableEq, Repr

/-- A Tap slot (15 R620, R621). -/
structure TapSlot where
  gen : Byte
  ctx : Nat
  op : Nat
  type : Nat
  size : Nat
  members : List Nat
  root : Nat
  step : Half := 0
  /-- contributions to steps s and s + 1: member index and bytes -/
  cur : List (Nat × List Byte) := []
  nxt : List (Nat × List Byte) := []
deriving DecidableEq, Repr

/-- A push tile that waits in a pipe (15 R611). -/
structure Tile where
  cmd : Nat
  pipe : Nat
  member : Nat
  off : Nat
  bytes : List Byte
  poison : Bool
deriving DecidableEq, Repr

/-- Mash and the Tap path: the groups formed, the collectives in progress and the tap slots (chapter 15). -/
structure Mash where
  groupSel : BitVec 12 := 0
  groups : List (Nat × Group) := []
  staleContrib : Byte := 0
  contribDiscard : Byte := 0
  signalDiscard : Byte := 0
  tiles : List Tile := []
  tapSel : Byte := 0
  taps : List (Nat × TapSlot) := []
  /-- the Tap receive queue (15 R624) -/
  tapQueue : List Packet := []
  tapRefused : Byte := 0
  tapDup : Byte := 0
  tapEarly : Byte := 0
  tapDeflect : Byte := 0
deriving DecidableEq, Repr

/-- A Cellar page held: its role, layer and page number in the layer, and its place in Cask (16 R628). -/
structure PageRef where
  mirror : Bool
  layer : Nat
  page : Nat
  stack : Nat
  loc : Nat
deriving DecidableEq, Repr

/-- A Cellar sequence on this Tun (16 R629-R635, R651, R661). -/
structure CSeq where
  pkey : Half
  id : Nat
  kind : Nat
  fmt : Nat
  heads : Nat
  dim : Nat
  stripe : Byte
  ctx : Option Nat
  lens : List Nat
  pages : List PageRef := []
  lost : Bool := false
  holder : Option Nat := none
  orphaned : Bool := false
  /-- stripe positions this Tun was promoted to, and Tuns of the sequence that left service -/
  promoted : List Nat := []
  gone : List Nat := []
deriving DecidableEq, Repr

/-- The Cellar and the Cask memory behind it. -/
structure Cellar where
  /-- the page pool has been loaded on entry to FULL (16 R663) -/
  opened : Bool := false
  lostStacks : Byte := 0
  seqs : List CSeq := []
  /-- pages freed by a LEAVE that earlier Steep commands may read (16 R647) -/
  freeing : List (List (Nat × Nat) × List Nat) := []
  rot : Nat := 0
  quotaSel : Byte := 0
  quotas : Tab Word := ⟨[]⟩
  fullCount : Byte := 0
  lostSeqs : Byte := 0
  promotions : Byte := 0
  orphans : Byte := 0
  /-- Cask bytes by address, and poisoned 64-byte units by unit number (19 R739) -/
  cask : Tab Byte := ⟨[]⟩
  poison : Tab Bool := ⟨[]⟩
deriving DecidableEq, Repr

/-- A bound table slot (17 R666). -/
structure TableSlot where
  kind : Nat := 0
  off : Nat := 0
  len : Nat := 0
deriving DecidableEq, Repr

/-- A host text stream (17 R679). -/
structure TStream where
  ctx : Nat := 0
  isOpen : Bool := false
  replace : Bool := false
  log2 : BitVec 5 := 0
  ring : Dword := 0
  tailAddr : Dword := 0
  tail : Word := 0
  head : Word := 0
  held : List Byte := []
  overrun : Bool := false
deriving DecidableEq, Repr

/-- A sampling parameter set (17 R696). -/
structure ParamSet where
  sample : Bool := false
  topK : Nat := 0
  temp : Word := 0
  topP : Word := 0
  minP : Word := 0
  stops : List Word := []
deriving DecidableEq, Repr

/-- The token engines: table slots, streams, parameter sets and seeds (chapter 17). -/
structure Token where
  streamDrop : Byte := 0
  forceConflicts : Byte := 0
  entriesSkipped : Byte := 0
  maskMisses : Byte := 0
  streamSel : Byte := 0
  tableSel : BitVec 12 := 0
  streams : Tab TStream := ⟨[]⟩
  slots : Tab TableSlot := ⟨[]⟩
  params : Tab ParamSet := ⟨[]⟩
  seeds : Tab Word := ⟨[]⟩
deriving DecidableEq, Repr

end Sys2Proof.Machine
end

