-- ==== Sys2Proof/Machine/StateHyd.lean ====
section
/-! DEFINITION. Hydrometer state (chapter 20), the error log and the health of the Cask stacks (chapter 19) of one Tun. -/

namespace Sys2Proof.Machine
open Sys2Proof

/-- Hydrometer: live counters and peaks, the snapshot bank, the selection registers, the host ring and the round under way (chapter 20). -/
structure Hyd where
  /-- counters by key (group, number, index) -/
  counters : Tab Dword := ⟨[]⟩
  /-- gauges' PEAK by the same key -/
  peaks : Tab Word := ⟨[]⟩
  /-- PEAK of the JUNCTION_TEMP gauge, once it has had a value since the last snapshot -/
  tempPeak : Option Half := none
  -- HYD_CTRL, HYD_EXPORT_DEST, HYD_GROUP_MASK, HYD_SEL (20 Table 20-6)
  exportEn : Bool := false
  ringEn : Bool := false
  interval : Half := 100
  destValid : Bool := false
  dest : BitVec 10 := 0
  groupMask : Byte := 0xED
  selGroup : Byte := 0
  selCounter : Byte := 0
  bank : Bool := false
  selIndex : BitVec 10 := 0
  /-- high word each path's last 32-bit read of HYD_VALUE_LO latched: PCIe, in-band, side-band (R776) -/
  hiPcie : Word := 0
  hiInband : Word := 0
  hiSideband : Word := 0
  -- host ring
  ringAddr : Dword := 0
  ringValid : Bool := false
  ringInt : Bool := false
  ringLog2 : BitVec 5 := 0
  ringVector : BitVec 11 := 0
  tail : Half := 0
  head : Half := 0
  -- rounds
  round : Half := 0
  roundSkipped : Byte := 0
  recordDrop : BitVec 7 := 0
  /-- the snapshot bank: values by key (R777) -/
  snap : Tab Dword := ⟨[]⟩
  /-- records of the round under way still to emit, PHASE clear; its paths; its ring has dropped a record (R779, R784) -/
  left : List (List Byte) := []
  onInband : Bool := false
  onRing : Bool := false
  dropping : Bool := false
deriving DecidableEq, Repr

/-- The error registers and log (19 R744-R748): a warm reset changes none of it. -/
structure Err where
  classes : BitVec 6 := 0
  lastSource : Byte := 0
  mask : BitVec 4 := 1
  caskCorrected : Half := 0
  wortCorrected : Half := 0
  next : Half := 0
  /-- ERR_LOGi: 32 bytes where written -/
  log : Tab (List Byte) := ⟨[]⟩
  /-- when a CORRECTED record of a source was last written, plus one (R746) -/
  corrected : Tab Nat := ⟨[]⟩
deriving DecidableEq, Repr

/-- Health of the Cask stacks, Sparge and calibration (19 R749-R758). -/
structure Rel where
  /-- CASK_OFFLINE: one nibble a stack -/
  caskCause : Word := 0
  scrubOff : Bool := false
  scrubHours : Byte := 0x18
  late : Byte := 0
  passes : Half := 0
  /-- 64-byte units of the pass under way read so far, and when it began, by stack; entry 8 is Wort -/
  scrubPos : Tab Nat := ⟨[]⟩
  scrubFrom : Tab Nat := ⟨[]⟩
  /-- stacks in self-refresh (03 R101) -/
  selfRefresh : Byte := 0
  /-- stacks whose calibration waits for the Angel's share or the exit from self-refresh (R753) -/
  calPending : Byte := 0
  /-- ports whose recalibration waits for the Angel's share or the wake of their lanes (R754) -/
  recalPending : List Nat := []
  /-- reserved transactions served in a slot, by stack, and that slot (12 R475) -/
  resSlot : Nat := 0
  resUsed : Tab Nat := ⟨[]⟩
  /-- last temperature of each stack, 0.125 °C signed -/
  temps : Tab Half := ⟨[]⟩
deriving DecidableEq, Repr

/-- The die's temperature (20 R775, R785): management domain. -/
structure Junction where
  sampled : Bool := false
  now : Half := 0
  peak : Half := 0
  /-- the Tun asserts WARN_N, from 105 °C, and THERMTRIP_N, from 125 °C (03 R99) -/
  warnPin : Bool := false
  tripPin : Bool := false
deriving DecidableEq, Repr

end Sys2Proof.Machine
end

