-- ==== Sys2Proof/Machine/StateSvc.lean ====
section
/-! DEFINITION. One Tun's always-running state: service state and bring-up stages (05), clocks and resets (04), rack
configuration (02), write-conflict registers (22), identity (01) and the Maltster proxy (06 R193). -/

namespace Sys2Proof.Machine
open Sys2Proof

/-- Service states (05 Table 05-1). -/
inductive SvcState where
  | off | cold | pale | full | fenced | draining
deriving DecidableEq, Repr

/-- What holds the Tun's logic in reset (04 R120, R828). -/
inductive Hold where
  | none_ | warm | cold
deriving DecidableEq, Repr

/-- Core-PLL reference (04 Table 04-2 CORE_REF). -/
inductive CoreRef where
  | rack | holdover | localOsc
deriving DecidableEq, Repr

/-- Clock state (04 R104-R112, R829, CLOCK_STATUS). -/
structure Clk where
  lossCount : Byte := 0
  caskLock : Byte := 0
  refPresent : Bool := false
  hostOk : Bool := false
  mgmtLock : Bool := false
  coreLock : Bool := false
  slewing : Bool := false
  coreRef : CoreRef := .rack
  /-- the reference a slew under way moves to -/
  slewTo : CoreRef := .rack
  /-- a return slew waits for the slew under way to complete (04 R108) -/
  returnPending : Bool := false
deriving DecidableEq, Repr

/-- Service, bring-up stages, resets and boot of one Tun (05 R137-R173, 04 R120-R131, 08 R270). -/
structure Svc where
  state : SvcState := .off
  hold : Hold := .none_
  /-- management domain answers (04 Table 04-7) -/
  mgmtUp : Bool := false
  fwRunning : Bool := false
  stayPale : Bool := false
  caskCodes : List (BitVec 4) := []
  caskFail : Byte := 0
  caskTraining : Bool := false
  stepRound : BitVec 4 := 0
  /-- the Brew-alignment stage has begun and waits for ALIGNED (05 R158) -/
  aligning : Bool := false
  alignDone : Bool := false
  brewUnaligned : Bool := false
  drainDone : Bool := false
  drainTimeout : Bool := false
  /-- when the Tun entered DRAINING (09 R336) -/
  drainFrom : Nat := 0
  reqRefused : Bool := false
  fenceCause : BitVec 2 := 0
  resumeTo : BitVec 2 := 0
  earlyWrites : Byte := 0
  incarn : Byte := 0
  warmCount : Byte := 0
  lastCause : BitVec 4 := 0
  pendCause : BitVec 4 := 0
  /-- the cold reset under way was requested while powered (04 R123) -/
  coldPowered : Bool := false
  /-- end of the last warm reset taken for a fatal error (19 R742) -/
  fatalEnd : Option Nat := none
  bootResult : Byte := 0
  bootBank : Bool := false
deriving DecidableEq, Repr

/-- Rack configuration and status (02 R52-R62). -/
structure Rack where
  plan : BitVec 2 := 3
  pairing : Bool := false
  keeperOverride : Bool := false
  keeperRow : BitVec 3 := 0
  keeperCol : BitVec 2 := 0
  /-- designation in force (02 R58) -/
  forceRow : BitVec 3 := 0
  forceCol : BitVec 2 := 0
  foreignMarkers : Half := 0
  planDefaulted : Bool := false
  gensel : Bool := true
  row : BitVec 3 := 0
deriving DecidableEq, Repr

/-- Write-conflict registers (22 R810). -/
structure Conflict where
  count : Word := 0
  valid : Bool := false
  paths : BitVec 3 := 0
  offset : BitVec 22 := 0
deriving DecidableEq, Repr

/-- Maltster proxy of one Tun (06 R193-R196). -/
structure Proxy where
  buf : Tab Byte := ⟨[]⟩
  done : Bool := false
  busy : Bool := false
  refused : Byte := 0
deriving DecidableEq, Repr

end Sys2Proof.Machine
end

