-- ==== Sys2Proof/Machine/StateTray.lean ====
section
/-! DEFINITION. The tray's own state: input power and insertion (chapter 03), the Keg bays (03, 07), the Maltster's records,
registers, side-band paths and event log (06, 07), and the firmware images and stage (08). -/

namespace Sys2Proof.Machine
open Sys2Proof

/-- The tray's straps, pins and main path (03 R66-R80, 06 Table 06-13 page 0x02, 07 R237). -/
structure Tray where
  prsntL : Bool := false
  prsntS : Bool := false
  /-- the level at the PWR_EN contact, and the filtered level the Maltster acted on last (03 R69) -/
  pwrPin : Bool := false
  pwrEn : Bool := false
  mainClosed : Bool := false
  /-- a main-path trip is not yet followed by 1 s of good input (03 R72) -/
  tripped : Bool := false
  tripUnder : Bool := false
  tripOver : Bool := false
  partialSeat : Bool := false
  /-- a removal under 03 R78 is under way: main path not closed again before the insertion sequence -/
  removing : Bool := false
  /-- PWR_EN was deasserted: the main path opens once every Tun is OFF (07 R218) -/
  openWhenOff : Bool := false
  inputV : Half := 0
  inputI : Half := 0
  inputP : Half := 0
  trayId : BitVec 3 := 0
  gensel : Bool := true
  /-- LEAK_N treated as asserted (07 R226, R237) -/
  leakLow : Bool := false
  leakSeen : Bool := false
deriving DecidableEq, Repr

/-- One lane record of a cartridge (03 Table 03-9). -/
structure LaneRec where
  loss : Byte
  rxPreset : BitVec 4
  txPreset : BitVec 4
  polarity : Bool
  present : Bool
deriving DecidableEq, Repr

/-- One Keg bay (03 R81-R96, 07 R239-R241, 06 KEG_STATE). -/
structure Bay where
  present : Bool := false
  latched : Bool := false
  accepted : Bool := false
  powered : Bool := false
  /-- 20 ms after power (or at once for a passive cartridge) the ports were directed to train (03 R91) -/
  ready : Bool := false
  unlatchedRemoval : Bool := false
  refusal : BitVec 4 := 0
  kind : Byte := 0
  lengthClass : Byte := 0
  planCode : Byte := 0
  rom : List Byte := []
  lanes : List LaneRec := []
  /-- LANE_CRC failed: every lane PRESENT, preset 0, no inversion (03 R88) -/
  laneCrcBad : Bool := false
  readFail : Bool := false
  retries : Nat := 0
  /-- powered off by overcurrent until unlatched and latched again (07 R241) -/
  overcurrent : Bool := false
deriving DecidableEq, Repr

/-- Where a Tun's rail sequence stands (07 R214, R217). -/
inductive SeqPos where
  | idle
  /-- sequencing up, rail `k` (1 to 7) enabled and awaiting power-good -/
  | up (k : Nat)
  /-- VDD_CORE good, cold reset to be released (Table 07-3 step 3) -/
  | release
  /-- sequencing down: `k` rails still enabled -/
  | down (k : Nat)
  /-- powered down, waiting OFF_MS before power-on (06 Table 06-7) -/
  | cycleWait
deriving DecidableEq, Repr

/-- One PMBus regulator of a Tun's rail: what 07 Table 07-2 writes to it (OPERATION on, ON_OFF_CONFIG, VOUT_COMMAND in mV, TON_RISE and
TOFF_FALL in 0.1 ms) and what it reads from it (STATUS_WORD, READ_VOUT, READ_IOUT, READ_POUT, READ_TEMPERATURE_1 as read). -/
structure Regulator where
  operation : Bool := false
  onOffConfig : Bool := false
  voutCommand : Nat := 0
  tonRise : Nat := 0
  toffFall : Nat := 0
  status : Half := 0
  vout : Half := 0
  iout : Half := 0
  pout : Half := 0
  temp : Half := 0
deriving DecidableEq, Repr

/-- The Maltster's records of one Tun (06 Table 06-14, 07 R212-R245, 08 R268-R272). -/
structure MTun where
  power : BitVec 3 := 0
  rails : BitVec 7 := 0
  enables : BitVec 7 := 0
  seq : SeqPos := .idle
  coldRstHeld : Bool := true
  planSel : BitVec 2 := 0
  offCause : Byte := 0
  /-- the tray has powered up and the Tun's sequence of 07 R216 has not begun -/
  startDue : Bool := false
  /-- when the cold reset was last released (07 Table 07-5) -/
  releasedAt : Option Nat := none
  /-- the seven regulators, in rail order (07 R213) -/
  regs : List Regulator := List.replicate 7 {}
  cycleAfter : Option Nat := none
  packagePower : Half := 0
  errLatched : Bool := false
  errArmed : Bool := false
  errEdges : Half := 0
  errWindow : Nat := 0
  errStorm : Bool := false
  warn : Bool := false
  thermLatch : Bool := false
  tripTime : Option Nat := none
  pinFault : Bool := false
  hbLost : Bool := false
  hbBad : Nat := 0
  hbOk : Nat := 0
  hbFastLogged : Bool := false
  temp : Half := 0
  incarnRec : Byte := 0
  service : BitVec 3 := 0
  noAnswer : Nat := 0
  portUps : List Nat := []
  headerBad : Bool := false
  /-- a golden re-flash of the selected bank runs, or waits for the flash (08 R271, R261) -/
  reflashing : Bool := false
  /-- a re-flash was made for the current accepted power-on (08 R272) -/
  reflashed : Bool := false
  /-- the power-on sequence runs when the re-flash ends (08 R271) -/
  onAfterReflash : Bool := false
  failStatus : Half := 0
deriving DecidableEq, Repr

/-- A reply frame's contents; its flag byte is made when it is read (06 Table 06-5, R182). -/
structure Reply where
  seq : Byte
  op : Byte
  status : Half
  payload : List Byte
deriving DecidableEq, Repr

/-- One raw path's reply buffer and command in progress (06 R180-R184). -/
structure RawState where
  accepted : Bool := false
  busy : Bool := false
  reply : Option Reply := none
  /-- the reply held has been read once (06 R182) -/
  wasRead : Bool := false
  overrun : Bool := false
  overrunCount : Byte := 0
deriving DecidableEq, Repr

/-- One request frame, taken apart (06 Table 06-4). -/
structure Req where
  seq : Byte
  op : Byte
  obj : Byte
  payload : List Byte
deriving DecidableEq, Repr

/-- A windowed command held in its object's window (06 R205-R208). -/
structure Held where
  src : Src
  req : Req
  time : Nat
deriving DecidableEq, Repr

/-- One object's serialisation window (06 R206). -/
structure Window where
  obj : WinObj
  held : List Held
deriving DecidableEq, Repr

/-- A windowed command still executing, with every source that gets its reply (06 R208, R209). -/
structure Executing where
  obj : WinObj
  req : Req
  srcs : List Held
deriving DecidableEq, Repr

/-- A platform event not yet acknowledged (06 R203). -/
structure PendEvent where
  sensor : Nat
  state : Nat
  reading : Option Nat
  tries : Nat
deriving DecidableEq, Repr

/-- One event-log record (07 Table 07-9). -/
structure LogRec where
  number : Half
  severity : Byte
  source : Byte
  event : Half
  restarts : Half
  timeMs : Nat
  data : List Byte
deriving DecidableEq, Repr

/-- One side-band bus at the Maltster (06 R174-R179, R197, R198, 07 R242, R243). -/
structure SbBus where
  modeStored : Bool := false
  modeNow : Bool := false
  stuck : Bool := false
  serving : Bool := false
  recovering : Bool := false
  pecErrors : Half := 0
  frameErrors : Half := 0
  eid : Byte := 0
  ibiEnabled : Bool := false
  dynAddr : Option (BitVec 7) := none
deriving DecidableEq, Repr

/-- Activation methods of a component: DC power cycle only (08 Table 08-7). -/
inductive Activation where
  | dcPowerCycle
deriving DecidableEq, Repr

/-- One component of GetFirmwareParameters (08 Table 08-7). -/
structure FwComponent where
  id : Nat
  index : Nat
  active : Word
  pending : Word
  method : Activation := .dcPowerCycle
deriving DecidableEq, Repr

/-- What the Maltster has sent to the outside world, oldest first: the model's own field. -/
inductive MaltEmit where
  | bytes (path : RawPath) (bs : List Byte)
  | arp (bus : Bus) (addr pec : Byte)
  | ibi (bus : Bus) (data : Byte)
  | ccc (bus : Bus) (bs : List Byte)
  /-- a vendor-defined message in so many packets: type 0x7F, the IANA number, the frame; the tag owner bit is clear (06 R197, R199) -/
  | mctp (bus : Bus) (tag : BitVec 3) (iana : Word) (frame : List Byte) (packets : Nat)
  | pldm (bus : Bus) (type cmd cc : Byte) (data : List Byte)
  | pldmEvent (sensor state : Nat) (reading : Option Nat)
  | alertEvent (status : Byte)
  | mctpCtrl (bus : Bus) (cmd cc : Byte) (data : List Byte)
  /-- component identifier, index, active and pending VERSION, and the activation method of each (08 Table 08-7) -/
  | fwParameters (bus : Bus) (components : List FwComponent)
  | fwData (off len : Nat)
  | fwComplete (cmd result : Byte)
  | recoveryPulses (bus : Bus)
deriving DecidableEq, Repr

/-- The Maltster (chapters 06 and 07). -/
structure Malt where
  /-- firmware running and answering -/
  alive : Bool := false
  imageOk : Bool := false
  imageFailed : Bool := false
  /-- re-evaluation of 07 R247 not yet done after a restart -/
  reeval : Bool := false
  bank : BitVec 2 := 0
  fwVersion : Word := 0
  restarts : Half := 0
  bootTime : Nat := 0
  row : BitVec 3 := 0
  stepping : BitVec 4 := 0
  alertStatus : Byte := 0
  alertMask : Byte := 0
  alertAck : Byte := 0
  alertHeld : Bool := false
  /-- a WARN_N assertion since ALERT_STATUS [2] was last cleared (03 Table 03-12) -/
  warnSeen : Bool := false
  /-- levels the restarted Maltster's outputs keep: ALERT_N drive and the LED patterns (07 Table 07-6) -/
  heldAlert : Bool := false
  heldLed : Word := 0
  heldBayLed : Word := 0
  /-- MALT_RESTART was answered; the restart follows its reply (06 Table 06-7) -/
  restartDue : Bool := false
  buses : Duo SbBus := ⟨{}, {}⟩
  conflictLost : Half := 0
  raws : Tab RawState := ⟨[]⟩
  mctpBusy : List Src := []
  windows : List Window := []
  executing : List Executing := []
  tid : Byte := 0
  eventReceiver : Option (Bus × Byte) := none
  events : List PendEvent := []
  /-- the state each sensor last showed (06 R203) -/
  sensorSeen : Tab Nat := ⟨[]⟩
  log : List LogRec := []
  logNext : Half := 0
  locSeconds : Half := 0
  locBays : BitVec 6 := 0
  locTray : Bool := false
  btnTime : Option Nat := none
  boardTemp : Quad Half := ⟨0, 0, 0, 0⟩
  mtun : Quad MTun := ⟨{}, {}, {}, {}⟩
  out : List MaltEmit := []
deriving DecidableEq, Repr

/-- Bank states (08 Table 08-8). -/
inductive BankState where
  | empty | partial_ | valid | active | pending | invalid
deriving DecidableEq, Repr

/-- One image bank: its state and its bytes (08 R257, R258, R283). -/
structure Bank where
  state : BankState := .empty
  bytes : List Byte := []
deriving DecidableEq, Repr

/-- One boot-header copy: its ten bytes in the flash, SEQUENCE, SELECTED, 0, and their CRC-16 (08 R259). -/
structure HdrCopy where
  bytes : List Byte := []
deriving DecidableEq, Repr

/-- The one-time-programmable fuses of the Maltster or of a Tun boot ROM: four SHA-384 key hashes and the security floor (08 R264). -/
structure Fuses where
  keyHashes : List (List Byte) := []
  floor : Half := 0
deriving DecidableEq, Repr

/-- One Tun's boot flash (08 R257-R261, TUN_FLASHn). -/
structure TunFlash where
  hdr : Duo HdrCopy := ⟨{}, {}⟩
  a : Bank := {}
  b : Bank := {}
  recoveries : Byte := 0
  /-- the device's SFDP table holds what 08 R260 uses -/
  sfdp : Bool := true
  /-- the Tun boot ROM's own fuses (08 R264) -/
  fuses : Fuses := {}
deriving DecidableEq, Repr

/-- Stage states (08 R284). -/
inductive StageState where
  | idle | erasing | receiving | verifying | copying | armed | activating | failed
deriving DecidableEq, Repr

/-- Stage owners (08 FW_STAGE_STATE OWNER). -/
inductive Owner where
  | none_ | raw (p : RawPath) | pldm
deriving DecidableEq, Repr

/-- The flash sectors the event log is written across (19 R755): erases counted per sector, the sector in use and the records in it. -/
structure LogFlash where
  erases : Tab Nat := ⟨[]⟩
  sector : Nat := 0
  fill : Nat := 0
  /-- fewer than 16 sectors usable: the log is held in RAM only -/
  ramOnly : Bool := false
deriving DecidableEq, Repr

/-- The Maltster's flash, the stage and the PLDM update (chapter 08). -/
structure Fw where
  logFlash : LogFlash := {}
  /-- the Maltster flash's SFDP table holds what 08 R260 uses -/
  maltSfdp : Bool := true
  maltHdr : Duo HdrCopy := ⟨{}, {}⟩
  maltA : Bank := {}
  maltB : Bank := {}
  maltGolden : Bank := {}
  tunGolden : List Byte := []
  staging : Bank := {}
  flash : Quad TunFlash := ⟨{}, {}, {}, {}⟩
  fuses : Fuses := {}
  stage : StageState := .idle
  owner : Owner := .none_
  /-- a native stage command's reply is owed when the operation ends -/
  replyDue : Bool := false
  kind : Nat := 0
  length : Nat := 0
  progress : Nat := 0
  lastError : Half := 0
  armedMalt : Bool := false
  armedTun : Bool := false
  journal : Bool := false
  /-- restart recovery of 08 Table 08-10 is due -/
  recover : Bool := false
  /-- the verification or copying under way reruns after a restart (08 Table 08-10, event 0x0084) -/
  rerun : Bool := false
  updateMode : Bool := false
  maxTransfer : Nat := 512
  request : Option (Nat × Nat) := none
  requestTries : Nat := 0
deriving DecidableEq, Repr

end Sys2Proof.Machine
end

