-- ==== Sys2Proof/Machine/State.lean ====
section
/-! DEFINITION. The whole state of one tray. -/

namespace Sys2Proof.Machine
open Sys2Proof

/-- The Tun assembly: OT4-M with eight Cask stacks, OT4-B with six, OT4-X with four (01 Table 01-3). -/
inductive Asm where
  | m | b | x
deriving DecidableEq, Repr

/-- One Tun: what it is (column, assembly, stepping), its service state and clocks, the rack registers, the record of conflicting writes, the
Maltster proxy, its ports and links, the packet plane, Hydrometer, the scheduled plane, Brewmaster with Wort, Mash, the Cellar with Cask,
the token engines, the host port, the error log and the background work. -/
structure Tun where
  col : TunId
  asm : Asm := .m
  stepping : BitVec 4 := 0
  svc : Svc := {}
  clk : Clk := {}
  rack : Rack := {}
  conflict : Conflict := {}
  proxy : Proxy := {}
  ports : Tab Port := ⟨[]⟩
  plane : Plane := {}
  hyd : Hyd := {}
  sched : Sched := {}
  bm : Bm := {}
  mash : Mash := {}
  cellar : Cellar := {}
  token : Token := {}
  host : HPort := {}
  err : Err := {}
  rel : Rel := {}
  junction : Junction := {}
  /-- what the Tun has sent, oldest first: the model's own field -/
  out : List TunEmit := []
deriving DecidableEq, Repr

/-- One tray: its four Tuns, power entry, bays, Maltster and firmware store, and the commands that wait, the oldest first. -/
structure State where
  /-- time since reset in units of 39.0625 ps (09 R338): only the idle step moves it (assumption 1, DESIGN CHOICE) -/
  now : Nat := 0
  tuns : Quad Tun := ⟨{ col := .t0 }, { col := .t1 }, { col := .t2 }, { col := .t3 }⟩
  tray : Tray := {}
  bays : List Bay := [{}, {}, {}, {}, {}, {}]
  malt : Malt := {}
  fw : Fw := {}
  /-- free values drawn so far (assumption 3, DESIGN CHOICE): the model's own field -/
  fresh : Nat := 0
  /-- the commands waiting, first in, first out: the model's own field -/
  pending : List Instr := []
deriving DecidableEq, Repr

/-- No command faults: every command the manual describes has an effect, and one whose precondition fails changes nothing. -/
inductive Fault where
deriving DecidableEq, Repr

/-- What a step may refuse. -/
inductive Refusal where
  /-- A command without a meaning: raised by an arm of `exec` not yet written, and by none now. Safe: nothing follows from a refusal. -/
  | notModelled (mnemonic : String)
deriving DecidableEq, Repr

/-- The outcome of a command. -/
abbrev Res := Host.Outcome State Fault Refusal

/-- A boot-header copy with a SEQUENCE and a selection, its CRC-16 over bytes 0 to 7 (08 R259). -/
def HdrCopy.make (seq : Nat) (sel : Bool) : HdrCopy :=
  let body := bytesLE 4 seq ++ [if sel then 1 else 0, 0, 0, 0]
  { bytes := body ++ bytesLE 2 (crc16 body).toNat }

/-- The fuses of part `n`: 0 the Maltster, 1 + n the boot ROM of Tun n (08 R264, assumption 8, DESIGN CHOICE). -/
def Fuses.factory (n : Nat) : Fuses :=
  { keyHashes := (List.range 4).map fun i => Config.keyHash n i, floor := Config.securityFloor n }

/-- The boot flash of a Tun on a new tray: bank A selected, its contents not given (assumption 8, DESIGN CHOICE). -/
def TunFlash.factory (n : Nat) : TunFlash :=
  { hdr := ⟨.make 1 false, {}⟩, a := { state := .active, bytes := Config.factoryImage (3 + n) }, fuses := .factory (1 + n) }

/-- The flash and the fuses of a new tray (assumption 8, DESIGN CHOICE). -/
def Fw.factory : Fw :=
  { maltHdr := ⟨.make 1 false, {}⟩
    maltA := { state := .active, bytes := Config.factoryImage 0 }
    maltGolden := { state := .valid, bytes := Config.factoryImage 1 }
    tunGolden := Config.factoryImage 2
    flash := ⟨.factory 0, .factory 1, .factory 2, .factory 3⟩
    fuses := .factory 0 }

/-- A new tray: standby power applied, the Maltster not yet booted, every Tun OFF. -/
def State.reset : State := { fw := Fw.factory }

end Sys2Proof.Machine
end

