-- ==== Sys2Proof/Machine/Ops.lean ====
section
/-! DEFINITION. The named operations on the parts of the state: choosing a Tun, its Maltster record, a bay or a bus; the
Maltster's log (07 R253-R255), alerts (06 R204) and replies (06 R182, R199). -/

namespace Sys2Proof.Machine
open Sys2Proof

/-! ### State access -/

def State.tun (s : State) (t : TunId) : Tun := Quad.get s.tuns t

def State.setTun (s : State) (t : TunId) (u : Tun) : State := { s with tuns := Quad.set s.tuns t u }

def State.modTun (s : State) (t : TunId) (f : Tun → Tun) : State := s.setTun t (f (s.tun t))

def State.modAllTuns (s : State) (f : Tun → Tun) : State := { s with tuns := Quad.map f s.tuns }

def State.modTray (s : State) (f : Tray → Tray) : State := { s with tray := f s.tray }

def State.modMalt (s : State) (f : Malt → Malt) : State := { s with malt := f s.malt }

def State.modFw (s : State) (f : Fw → Fw) : State := { s with fw := f s.fw }

def State.mtun (s : State) (t : TunId) : MTun := Quad.get s.malt.mtun t

def State.modMTun (s : State) (t : TunId) (f : MTun → MTun) : State :=
  { s with malt := { s.malt with mtun := Quad.set s.malt.mtun t (f (s.mtun t)) } }

def State.bay (s : State) (n : Nat) : Bay := s.bays.getD n {}

def State.modBay (s : State) (n : Nat) (f : Bay → Bay) : State := { s with bays := s.bays.set n (f (s.bay n)) }

def State.bus (s : State) (b : Bus) : SbBus := Duo.get s.malt.buses b

def State.modBus (s : State) (b : Bus) (f : SbBus → SbBus) : State :=
  { s with malt := { s.malt with buses := Duo.set s.malt.buses b (f (s.bus b)) } }

def State.raw (s : State) (p : RawPath) : RawState := Tab.get {} s.malt.raws p.num

def State.modRaw (s : State) (p : RawPath) (f : RawState → RawState) : State :=
  { s with malt := { s.malt with raws := Tab.set {} s.malt.raws p.num (f (s.raw p)) } }

def State.emitMalt (s : State) (e : MaltEmit) : State := { s with malt := { s.malt with out := s.malt.out ++ [e] } }

/-- A Tun's command runs on that Tun alone. -/
def onTun (t : TunId) (s : State) (f : Tun → Tun) : Res := .next (s.modTun t f)

/-! ### Time

`now` counts timestamp units of 39.0625 ps (09 R338), 25,600,000 to a millisecond. -/

def unitsPerMs : Nat := 25600000

def msNow (s : State) : Nat := s.now / unitsPerMs

def msSince (s : State) (t : Nat) : Nat := (s.now - t) / unitsPerMs

/-! ### Assembly figures (01 Tables 01-2 to 01-4, 02 Table 02-4) -/

def Asm.casks : Asm → Nat
  | .m => 8
  | .b => 6
  | .x => 4

/-- Spigots of a Tun (01 Table 01-3). -/
def Asm.spigots : Asm → Nat
  | .m => 4
  | .b => 5
  | .x => 6

/-- What stands at a chiplet site: a Cask stack or a Spigot, by its number. -/
inductive Chiplet where
  | cask (n : Nat)
  | spigot (n : Nat)
deriving DecidableEq, Repr

/-- The population of a Tun's chiplet sites 0 to 11; the two sites of a pair hold two stacks or one Spigot (01 R14, Table 01-2). -/
def Asm.site (a : Asm) (n : Nat) : Option Chiplet :=
  if n < 4 then some (.spigot n)
  else if n < 8 then some (.cask (n - 4))
  else if n < 10 then some (match a with | .m => .cask (n - 4) | .b => .cask (n - 4) | .x => .spigot 5)
  else if n < 12 then some (match a with | .m => .cask (n - 4) | .b => .spigot 4 | .x => .spigot 4)
  else none

/-- Fabric lanes of a Tun, 96 a Spigot (01 Table 01-3). -/
def Asm.fabricLanes (a : Asm) : Nat := 96 * a.spigots

/-- Brewmaster control cores of a Tun (01 Table 01-5): they run the firmware of TUN_FW_VERSION alone. -/
def controlCores : Nat := 4

/-- Cask transactions of 256 bytes a Tun keeps in flight at most (01 Table 01-5). -/
def caskInFlight : Nat := 65536

def Asm.code : Asm → BitVec 2
  | .m => 0
  | .b => 1
  | .x => 2

def Asm.caskMask : Asm → Byte
  | .m => 0xFF
  | .b => 0x3F
  | .x => 0x0F

/-- Annex groups per Tun (02 Table 02-4). -/
def Asm.annexGroups : Asm → Nat
  | .m => 22
  | .b => 30
  | .x => 38

/-- Endpoint slots per Tun under a port plan (02 Table 02-4). -/
def Asm.endpointPorts (a : Asm) (plan : BitVec 2) : Nat :=
  let full := match a with | .m => 128 | .b => 160 | .x => 192
  if plan = 3 then full else full / 2

/-- Endpoint lanes per Tun (01 Table 01-3). -/
def Asm.endpointLanes : Asm → Nat
  | .m => 256
  | .b => 320
  | .x => 384

/-- Trays of a port plan (02 R29). -/
def planTrays (plan : BitVec 2) : Nat := if plan = 1 then 2 else if plan = 2 then 4 else 8

/-! ### Event log and alerts -/

/-- An alert is pending: an unmasked bit of ALERT_STATUS is set and unacknowledged (06 R204). -/
def Malt.alertPending (m : Malt) : Bool := (m.alertStatus &&& ~~~m.alertMask &&& ~~~m.alertAck) != 0

/-- In I3C mode, with interrupts enabled and a dynamic address assigned, an alert raises an in-band interrupt on the bus (06 R178, R204). -/
def ibiFor (b : Bus) (bus : SbBus) (status : Byte) : List MaltEmit :=
  if bus.modeNow && bus.ibiEnabled && bus.serving && bus.dynAddr.isSome then [.ibi b status] else []

/-- A pending alert raises the in-band interrupt of a bus that becomes able to carry one (06 R204). -/
def State.ibiNow (s : State) (b : Bus) : State :=
  if s.malt.alertPending then { s with malt := { s.malt with out := s.malt.out ++ ibiFor b (s.bus b) s.malt.alertStatus } } else s

/-- A source sets bit `n` of ALERT_STATUS; a newly set unmasked bit raises a new alert (06 R204, 07 R244). -/
def State.raise (s : State) (n : Nat) : State :=
  let bit : Byte := 1#8 <<< n
  let m := s.malt
  if m.alertStatus &&& bit = bit then s else
  let st := m.alertStatus ||| bit
  let fresh := (bit &&& ~~~m.alertMask) != 0
  let sent := if fresh then ibiFor .sb0 m.buses.d0 st ++ ibiFor .sb1 m.buses.d1 st else []
  let extra := if fresh && m.alertHeld && m.eventReceiver.isSome then [MaltEmit.alertEvent st] else []
  { s with malt := { m with alertStatus := st, alertAck := m.alertAck &&& ~~~bit, out := m.out ++ sent ++ extra } }

/-- Acknowledging an alert (06 R204). -/
def State.ackAlert (s : State) : State := { s with malt := { s.malt with alertAck := s.malt.alertStatus } }

/-- DATA bytes of a log record, padded with zeros to 16 (07 Table 07-9). -/
def logData (d : List Byte) : List Byte := (d ++ List.replicate 16 0).take 16

/-- A sector may be erased once more (19 R755). -/
def LogFlash.usable (f : LogFlash) (k : Nat) : Bool := decide (Tab.get 0 f.erases k < 100000)

/-- Sectors not retired. -/
def LogFlash.left (f : LogFlash) : Nat := ((List.range 240).filter f.usable).length

/-- The next usable sector in turn. -/
def LogFlash.next (f : LogFlash) : Option Nat := ((List.range 240).map fun i => (f.sector + 1 + i) % 240).find? f.usable

/-- Places one record: in the sector in use, or, where that is full, in the next one, erased for it. -/
def LogFlash.place (f : LogFlash) : LogFlash :=
  if f.ramOnly then f
  else if f.fill < 128 then { f with fill := f.fill + 1 }
  else match f.next with
    | none => f
    | some k => { f with erases := f.erases.set 0 k (Tab.get 0 f.erases k + 1), sector := k, fill := 1 }

/-- Writes one event-log record; the oldest goes when 1,024 are held; severity 2 or above sets ALERT_STATUS bit [7]
(07 R253-R255). -/
def State.logRecord (s : State) (sev src : Nat) (event : Nat) (data : List Byte) : State :=
  let m := s.malt
  let entry := LogRec.mk m.logNext (BitVec.ofNat 8 sev) (BitVec.ofNat 8 src) (BitVec.ofNat 16 event) m.restarts
    (msSince s m.bootTime % 2 ^ 48) (logData data)
  let l := m.log ++ [entry]
  let s1 := { s with
    malt := { m with log := if l.length > 1024 then l.drop 1 else l, logNext := m.logNext + 1 },
    fw := { s.fw with logFlash := s.fw.logFlash.place } }
  if 2 ≤ sev then s1.raise 7 else s1

/-- Writes the record of an event, and those of the log's own wear: a sector past 90,000 erases, a sector retired, and fewer than 16
left (07 R254, 19 R755). -/
def State.log (s : State) (sev src : Nat) (event : Nat) (data : List Byte) : State :=
  let t := s.logRecord sev src event data
  let f := t.fw.logFlash
  let n := Tab.get 0 f.erases f.sector
  if n = Tab.get 0 s.fw.logFlash.erases f.sector then t
  else
    let t := if n = 90001 then t.logRecord 2 0x30 0x0090 [] else t
    let t := if n = 100000 then t.logRecord 1 0x30 0x0091 [] else t
    if n = 100000 ∧ f.left < 16 then
      let t := t.logRecord 4 0x30 0x0092 []
      (t.modFw fun y => { y with logFlash := { t.fw.logFlash with ramOnly := true } })
    else t

/-- SOURCE code of a Tun (06 Table 06-6). -/
def tunObj (t : TunId) : Nat := 0x10 + t.num

/-- Two bytes of a half-word, least significant first. -/
def halfBytes (h : Half) : List Byte := [h.setWidth 8, (h >>> 8).setWidth 8]

def LogRec.bytes (r : LogRec) : List Byte :=
  halfBytes r.number ++ [r.severity, r.source] ++ halfBytes r.event ++ [0, 0] ++ halfBytes r.restarts ++
    bytesLE 6 r.timeMs ++ r.data

/-- Number of the oldest record held (07 R255). -/
def Malt.logFirst (m : Malt) : Half := m.logNext - BitVec.ofNat 16 m.log.length

/-! ### Replies -/

/-- Bytes of a reply frame with its flag byte (06 Table 06-5). -/
def replyBytes (r : Reply) (flags : Byte) : List Byte :=
  let body := [0x12#8, r.seq, r.op, flags] ++ halfBytes r.status ++ bytesLE 2 r.payload.length ++ r.payload
  body ++ halfBytes (crc16 body)

/-- Packets of 64 bytes that a message carrying a frame takes: its type, the IANA number and the frame (06 R197, R199). -/
def mctpPackets (frame : List Byte) : Nat := (5 + frame.length + 63) / 64

/-- A frame leaves in a vendor-defined message (06 R199). -/
def State.emitMctp (s : State) (b : Bus) (tag : BitVec 3) (frame : List Byte) : State :=
  s.emitMalt (.mctp b tag Config.ianaNumber frame (mctpPackets frame))

/-- Delivers a reply to its source: a raw path's buffer, or an MCTP message at once (06 R182, R199). LEN is 0 unless STATUS
is OK or a notice (06 Table 06-5). -/
def State.reply (s : State) (src : Src) (q : Req) (status : Half) (payload : List Byte) : State :=
  let pl := if status = 0 ∨ status = 1 then payload else []
  let r : Reply := { seq := q.seq, op := q.op, status := status, payload := pl }
  match src with
  | .raw p => s.modRaw p fun w => { w with busy := false, reply := some r, wasRead := false }
  | .mctp b tag =>
    let s1 := (s.modMalt fun y => { y with mctpBusy := s.malt.mctpBusy.erase (.mctp b tag) })
    s1.emitMctp b tag (replyBytes r (if s.malt.alertPending then 0x40 else 0))

/-- Takes a request frame apart; `none` is FRAME_ERROR (06 R187 check 1). -/
def parseReq (bs : List Byte) : Option Req :=
  let len := leAt bs 4 2
  if byteAt bs 0 ≠ 0x11#8 then none
  else if len > 240 then none
  else if bs.length ≠ 10 + len then none
  else if halfBytes (crc16 (bs.take (8 + len))) ≠ bs.drop (8 + len) then none
  else some { seq := byteAt bs 1, op := byteAt bs 2, obj := byteAt bs 3, payload := (bs.drop 8).take len }

/-- SEQ and OPCODE of a frame for its reply, whatever its form. -/
def rawReq (bs : List Byte) : Req := (parseReq bs).getD { seq := byteAt bs 1, op := byteAt bs 2, obj := 0, payload := [] }

/-- Completes the commands executing that `p` picks: every source that shares one gets the status (06 R208). -/
def State.finishWhere (s : State) (p : Executing → Bool) (status : Half) (payload : List Byte) : State :=
  let done := s.malt.executing.filter p
  let s1 := (s.modMalt fun y => { y with executing := s.malt.executing.filter (fun e => !(p e)) })
  done.foldl (fun s e => e.srcs.foldl (fun s h => s.reply h.src h.req status payload) s) s1

/-- Completes the command executing on a windowed object. -/
def State.finishObj (s : State) (o : WinObj) (status : Half) (payload : List Byte) : State :=
  s.finishWhere (fun e => e.obj == o) status payload

/-- Completes the command executing on object code `obj`. -/
def State.finish (s : State) (obj : Byte) (status : Half) (payload : List Byte) : State :=
  s.finishObj (.object obj) status payload

/-- A command is executing on object code `obj`. -/
def Malt.busyOn (m : Malt) (obj : Byte) : Bool := m.executing.any (fun e => e.obj == .object obj)

/-- The Tun writes a reply frame into its proxy buffer and sets DONE (06 R195). -/
def Tun.proxyAnswer (bs : List Byte) (t : Tun) : Tun :=
  { t with proxy := { t.proxy with
      buf := (List.range bs.length).foldl (fun b i => b.set 0 i (byteAt bs i)) t.proxy.buf, busy := false, done := true } }

/-- The proxy buffer's bytes from 0. -/
def Tun.proxyBytes (t : Tun) (n : Nat) : List Byte := (List.range n).map (t.proxy.buf.get 0)

/-- The frame standing in the proxy buffer. -/
def Tun.proxyFrame (t : Tun) : List Byte := t.proxyBytes (min 256 (10 + leAt (t.proxyBytes 8) 4 2))

/-- No reply within 200 ms, or the Maltster restarted: a reply frame with TUN_NO_ANSWER (06 R195). -/
def Tun.proxyFail (t : Tun) : Tun :=
  if t.proxy.busy then
    let f := t.proxyFrame
    t.proxyAnswer (replyBytes { seq := byteAt f 1, op := byteAt f 2, status := 0x0807, payload := [] } 0)
  else t

/-! ### Boot headers and banks (08 R258-R261) -/

def HdrCopy.seq (h : HdrCopy) : Nat := leAt h.bytes 0 4

/-- SELECTED names bank B. -/
def HdrCopy.sel (h : HdrCopy) : Bool := byteAt h.bytes 4 == 1

def HdrCopy.crcOk (h : HdrCopy) : Bool := h.bytes.length == 10 && halfBytes (crc16 (h.bytes.take 8)) == h.bytes.drop 8

/-- The second copy is the one in force: correct CRC and the higher SEQUENCE (08 R259). -/
def headerSecond (h : Duo HdrCopy) : Bool := h.d1.crcOk && (!h.d0.crcOk || decide (h.d0.seq < h.d1.seq))

/-- The bank the copy in force selects, bank A where neither copy is correct (08 R259); `true` is bank B. -/
def selectedBank (h : Duo HdrCopy) : Bool :=
  if headerSecond h then h.d1.sel else if h.d0.crcOk then h.d0.sel else false

/-- A header write goes to the copy not in force, with SEQUENCE one higher (08 R259). -/
def writeHeader (h : Duo HdrCopy) (sel : Bool) : Duo HdrCopy :=
  if headerSecond h then { h with d0 := .make (h.d1.seq + 1) sel }
  else { h with d1 := .make ((if h.d0.crcOk then h.d0.seq else 0) + 1) sel }

def TunFlash.bank (f : TunFlash) (b : Bool) : Bank := if b then f.b else f.a

def TunFlash.setBank (f : TunFlash) (b : Bool) (k : Bank) : TunFlash := if b then { f with b := k } else { f with a := k }

def State.flash (s : State) (t : TunId) : TunFlash := Quad.get s.fw.flash t

def State.setFlash (s : State) (t : TunId) (f : TunFlash) : State := s.modFw fun y => { y with flash := Quad.set s.fw.flash t f }

/-! ### Status codes used by the Maltster (22 Table 22-7) -/

def stOk : Half := 0x0000
def stNotice : Half := 0x0001
def stUnsupported : Half := 0x00F0
def stBadParam : Half := 0x00F1
def stConflictLost : Half := 0x0801
def stBusy : Half := 0x0802
def stFrameError : Half := 0x0803
def stTunOff : Half := 0x0804
def stPinFault : Half := 0x0805
def stInhibited : Half := 0x0806
def stNoAnswer : Half := 0x0807
def stRailFault : Half := 0x0808
def stImageInvalid : Half := 0x0809
def stImageMismatch : Half := 0x080A
def stImageRollback : Half := 0x080B
def stStageBusy : Half := 0x080C
def stStageSequence : Half := 0x080D
def stFlashFault : Half := 0x080E
def stStageInterrupted : Half := 0x080F

end Sys2Proof.Machine
end

