-- ==== Sys2Proof/Machine/LinkCore.lean ====
section
/-! DEFINITION. The shared operations of one port or fabric link (chapter 09): which IDs are present and how wide, sending a
flit, acknowledgement and replay, FENCE, taking a port down, and the flit's 256-byte form. -/

namespace Sys2Proof.Machine
open Sys2Proof

/-! ### Hydrometer counters (20 R768-R774) -/

/-- Key of a counter or gauge by group, number and index. -/
def hydKey (g c i : Nat) : Nat := g * 2 ^ 24 + c * 2 ^ 16 + i

/-- Counts `n` events on a counter, which wraps modulo 2^64 (20 R768). -/
def Tun.bumpBy (g c i n : Nat) (t : Tun) : Tun :=
  { t with hyd := { t.hyd with counters := t.hyd.counters.modify 0 (hydKey g c i) (· + BitVec.ofNat 64 n) } }

def Tun.bump (g c i : Nat) (t : Tun) : Tun := t.bumpBy g c i 1

/-- A gauge has reached `v`: its PEAK rises with it (20 R769). -/
def Tun.peak (g c i v : Nat) (t : Tun) : Tun :=
  let k := hydKey g c i
  if (Tab.get 0 t.hyd.peaks k).toNat < v then
    { t with hyd := { t.hyd with peaks := t.hyd.peaks.set 0 k (BitVec.ofNat 32 v) } } else t

def Tun.emit (e : TunEmit) (t : Tun) : Tun := { t with out := t.out ++ [e] }

/-! ### Which ports a Tun has (02 R36-R45) -/

def Tun.port (t : Tun) (id : Nat) : Port := Tab.get {} t.ports id

def Tun.modPort (id : Nat) (f : Port → Port) (t : Tun) : Tun := { t with ports := t.ports.set {} id (f (t.port id)) }

def Tun.row (t : Tun) : Nat := t.rack.row.toNat

/-- Number of trays of the port plan. -/
def Tun.trays (t : Tun) : Nat := planTrays t.rack.plan

def isEndpointId (id : Nat) : Bool := decide (id < 192)
def isAnnexId (id : Nat) : Bool := decide (192 ≤ id) && decide (id < 230)
def isMeshId (id : Nat) : Bool := decide (256 ≤ id) && decide (id < 259)
def isRingId (id : Nat) : Bool := id == 259 || id == 260
def isFabricId (id : Nat) : Bool := isMeshId id || isRingId id

/-- A write to a register window that answers from PALE on: nothing with the Tun off or in a hold, discarded and counted in COLD
(04 R125, 05 R173). -/
def Tun.windowWrite (f : Tun → Tun) (t : Tun) : Tun :=
  if t.svc.hold ≠ .none_ ∨ t.svc.state = .off then t
  else if t.svc.state = .cold then { t with svc := { t.svc with earlyWrites := satInc t.svc.earlyWrites } }
  else f t

/-- A write to a window that answers in COLD too, and that a warm reset holds (05 Table 05-11, 22 Table 22-1). -/
def Tun.openWrite (f : Tun → Tun) (t : Tun) : Tun := if t.svc.hold ≠ .none_ ∨ t.svc.state = .off then t else f t

/-- A path to the management window can reach the Tun at all: it has power, no cold reset holds it, and its management domain answers
(04 Table 04-7, 22 R807). -/
def Tun.reachable (t : Tun) : Bool := t.svc.state != .off && t.svc.hold != .cold && t.svc.mgmtUp

/-- The Tun carries traffic and its engines run: COLD opens neither yet, FENCED carries none and stops them (05 Table 05-4, R161,
R169). -/
def Tun.serving (t : Tun) : Bool :=
  t.svc.hold == .none_ && (t.svc.state == .pale || t.svc.state == .full || t.svc.state == .draining)

/-- The ID names a port or link of the Tun's assembly and plan (02 R41, R42). -/
def Tun.hasPort (t : Tun) (id : Nat) : Bool :=
  decide (id < t.asm.endpointPorts t.rack.plan) || (isAnnexId id && decide (id - 192 < t.asm.annexGroups)) || isFabricId id

/-- The IDs present, ascending. -/
def Tun.portIds (t : Tun) : List Nat :=
  List.range (t.asm.endpointPorts t.rack.plan) ++ (List.range t.asm.annexGroups).map (192 + ·) ++ [256, 257, 258, 259, 260]

/-- ANNEX_PAIRING applies to the annex group of a port that trains now (02 R34, R57, 09 R313). -/
def Tun.pairsNow (t : Tun) (id : Nat) : Bool :=
  isAnnexId id && t.rack.plan == 1 && t.rack.pairing && decide (id - 192 < t.asm.annexGroups)

/-- Lane count a port trains at (02 R38-R40, Table 02-3, 09 Table 09-9 WIDTH); an annex pair is x4 whatever its WIDTH field. -/
def Tun.planWidth (t : Tun) (id : Nat) (p : Port) : Nat :=
  if isEndpointId id then (if t.rack.plan = 3 then 2 else 4)
  else if isAnnexId id then (if t.pairsNow id then 4 else if p.width = 1 then 1 else if p.width = 2 then 2 else 4)
  else 8

/-- WIDTH code of 09 Table 09-5 and WIDTH_NOW. -/
def widthCode (w : Nat) : BitVec 3 := if w = 1 then 1 else if w = 2 then 2 else if w = 4 then 3 else if w = 8 then 4 else 0

/-! ### Lanes (02 R36-R39, Table 02-2) -/

/-- Physical lane of endpoint lane index `e` (02 R37). -/
def endpointLane (e : Nat) : Nat := if e < 288 then e else e + 96

/-- Physical lane of annex lane `i`, the annex lanes counted in ascending physical order (02 R39, Table 02-2). -/
def Asm.annexLane : Asm → Nat → Nat
  | .m, i => if i < 32 then 256 + i else 296 + i
  | .b, i => if i < 56 then 328 + i else 360 + i
  | .x, i => if i < 56 then 328 + i else 424 + i

/-- Lowest physical lane of a port or link `w` lanes wide: endpoint slot, annex group, row mesh link, Vorlauf north, Vorlauf south. -/
def Tun.firstLane (t : Tun) (id w : Nat) : Nat :=
  if isEndpointId id then endpointLane (w * id)
  else if isAnnexId id then t.asm.annexLane (4 * (id - 192))
  else if isMeshId id then 288 + 8 * (id - 256)
  else 312 + 8 * (id - 259)

/-- The physical lanes of a port or link, lane 0 the lowest. -/
def Tun.portLanes (t : Tun) (id w : Nat) : List Nat := (List.range w).map (t.firstLane id w + ·)

/-- The Spigot a physical lane belongs to. -/
def laneSpigot (lane : Nat) : Nat := lane / 96

/-- Cartridge lane record of an endpoint or annex lane: the records pass over the 40 lanes of the fabric links (03 R84). -/
def laneRecord (lane : Nat) : Nat := if lane < 288 then lane else lane - 40

/-- Cartridge lane records of a port's lanes (03 R84). -/
def Tun.laneRecords (t : Tun) (id w : Nat) : List Nat := (t.portLanes id w).map laneRecord

/-- A port that is up is ACTIVE or DEGRADED (09 R318). -/
def Port.up (p : Port) : Bool := p.state == .active || p.state == .degraded

def Tun.portUp (t : Tun) (id : Nat) : Bool := t.hasPort id && (t.port id).up

/-- Ports and links that are up (09 R350). -/
def Tun.upPorts (t : Tun) : List Nat := t.portIds.filter t.portUp

/-- The port runs generation 1 at its next training (21 R789). -/
def Tun.portGen1 (t : Tun) (id : Nat) (p : Port) : Bool := !t.rack.gensel || (!(isFabricId id) && p.gen1)

/-- Round of the rate step that takes an ID (05 R153, R154). -/
def Tun.stepRoundOf (t : Tun) (id : Nat) : Nat :=
  if isEndpointId id then 1 + (id + t.col.num + 4 * t.row) % 8
  else if isAnnexId id then 1 + (id - 192) % 8
  else id - 247

/-- The Tun is in PALE, or drains from it (05 R143, Table 05-9 RESUME_TO). -/
def Tun.inPale (t : Tun) : Bool := t.svc.state == .pale || (t.svc.state == .draining && t.svc.resumeTo == 2)

/-- The Tun offers Full rate in the training under way: from the port's round onward, not with PALE_ONLY or generation 1 as latched, not as
the fallback of its round, and not on a port trained after a cartridge insertion while the Tun is in PALE (03 R92, 05 R156, R157, 09 R309,
R347, 21 R792; assumption 154, DEDUCED). -/
def Tun.offersFull (t : Tun) (id : Nat) (p : Port) : Bool :=
  decide (t.stepRoundOf id ≤ t.svc.stepRound.toNat) && !p.paleNow && !p.genNow && decide (p.stepFails < 3) && !(p.inserted && t.inPale)

/-! ### Flits -/

def ftIdle : BitVec 4 := 0x0
def ftOnly : BitVec 4 := 0x1
def ftFirst : BitVec 4 := 0x2
def ftMid : BitVec 4 := 0x3
def ftLast : BitVec 4 := 0x4
def ftTrain : BitVec 4 := 0x8
def ftFence : BitVec 4 := 0x9
def ftMark : BitVec 4 := 0xA
def ftProbe : BitVec 4 := 0xB
def ftEcho : BitVec 4 := 0xC
def ftNap : BitVec 4 := 0xD
def ftWake : BitVec 4 := 0xE

/-- Sequenced flit types (09 Table 09-4). -/
def sequencedFt (f : BitVec 4) : Bool := decide (1 ≤ f.toNat) && decide (f.toNat ≤ 4)

/-- Reserved flit types (09 R305, 21 R795). -/
def reservedFt (gen1 : Bool) (f : BitVec 4) : Bool :=
  (decide (5 ≤ f.toNat) && decide (f.toNat ≤ 7)) || f == 15 || (gen1 && decide (0xA ≤ f.toNat))

/-- Service-state code carried in SVC (05 Table 05-1). -/
def SvcState.code : SvcState → BitVec 3
  | .off => 0
  | .cold => 1
  | .pale => 2
  | .full => 3
  | .fenced => 4
  | .draining => 5

/-- One bit of CRC-32C, reflected form (09 R298). -/
def crc32cBit (c : Word) : Word := if c.getLsbD 0 then (c >>> 1) ^^^ 0x82F63B78#32 else c >>> 1

def crc32cByte (c : Word) (b : Byte) : Word :=
  let c := c ^^^ b.setWidth 32
  crc32cBit (crc32cBit (crc32cBit (crc32cBit (crc32cBit (crc32cBit (crc32cBit (crc32cBit c)))))))

/-- CRC-32C: initial value and final XOR all ones, reflected (09 R298). -/
def crc32c (bs : List Byte) : Word := ~~~(bs.foldl crc32cByte 0xFFFFFFFF#32)

/-- The 64-bit link header (09 Table 09-3). A generation-1 port sends 0 in the fields Table 21-3 does not have. -/
def Flit.header (f : Flit) (gen1 : Bool) : Dword :=
  let hi : Dword := (f.incarn ++ f.fseq ++ f.ackseq).setWidth 64 <<< 32
  let lo : Word := bitAt f.ackValid 31 ||| bitAt f.nak 30 ||| fieldAt f.cls 27 ||| fieldAt f.ftype 22
  let g2 : Word := if gen1 then 0 else bitAt f.ringVc 26 ||| fieldAt f.svc 19 ||| bitAt f.drain 18 ||| bitAt f.hold 17
  hi ||| (lo ||| g2).setWidth 64

/-- Payload bytes 8 to 251, padded with zeros (09 R300, R306). -/
def flitPayload (bs : List Byte) : List Byte := (bs ++ List.replicate 244 0).take 244

/-- The 256 bytes of a flit with its CRC (09 R297). -/
def Flit.bytes (f : Flit) (gen1 : Bool) : List Byte :=
  let body := bytesLE 8 (f.header gen1).toNat ++ flitPayload f.payload
  body ++ bytesLE 4 (crc32c body).toNat

/-- A received flit taken apart; `none` when it is not 256 bytes long or its CRC fails (09 R297-R299). -/
def Flit.ofBytes (bs : List Byte) : Option Flit :=
  if bs.length ≠ 256 then none
  else if leAt bs 252 4 ≠ (crc32c (bs.take 252)).toNat then none
  else
    let h : Dword := BitVec.ofNat 64 (leAt bs 0 8)
    some { incarn := h.extractLsb' 56 8, fseq := h.extractLsb' 44 12, ackseq := h.extractLsb' 32 12, ackValid := h.getLsbD 31,
           nak := h.getLsbD 30, cls := h.extractLsb' 27 3, ringVc := h.getLsbD 26, ftype := h.extractLsb' 22 4,
           svc := h.extractLsb' 19 3, drain := h.getLsbD 18, hold := h.getLsbD 17, payload := (bs.drop 8).take 244 }

/-! ### Striping (09 R293) -/

/-- The 32-byte blocks of a flit. -/
def flitBlocks (bs : List Byte) : List (List Byte) := (List.range 8).map fun b => (bs.drop (32 * b)).take 32

/-- The blocks of a flit that lane `k` of a port of width `w` carries: block j of the stream goes on lane j mod w, and a flit is eight
blocks, which every width divides, so that each flit begins on lane 0. -/
def laneBlocks (w k : Nat) (bs : List Byte) : List (List Byte) :=
  (List.range (8 / w)).map fun i => (flitBlocks bs).getD (i * w + k) []

/-- A flit as its lanes carry it: for each lane its blocks in order. -/
def stripe (w : Nat) (bs : List Byte) : List (List (List Byte)) := (List.range w).map fun k => laneBlocks w k bs

/-- The flit that the blocks received on the lanes make: block j is block j / w of lane j mod w. -/
def unstripe (w : Nat) (lanes : List (List (List Byte))) : List Byte :=
  (List.range 8).flatMap fun j => (lanes.getD (j % w) []).getD (j / w) []

/-! ### Sending -/

/-- Room in an injection hold, a packet being received included (11 R399). -/
def Tun.injRoom (t : Tun) (id : Nat) : Bool := decide ((Tab.get [] t.plane.inj id).length < 2)

def Tun.forfeitRoom (t : Tun) (id : Nat) : Bool := decide ((Tab.get [] t.plane.forfeit id).length < 2)

/-- A port's hold takes another packet; a landing always does (11 R398, R399). -/
def Tun.holdRoom (t : Tun) (id : Nat) (circuit : Bool) : Bool :=
  isFabricId id || (if circuit then t.forfeitRoom id else t.injRoom id)

/-- The refusal of a first flit for want of room lasts (09 R325). -/
def Tun.refusing (t : Tun) (id : Nat) : Bool :=
  match (t.port id).refused with
  | some circuit => !(t.holdRoom id circuit)
  | none => false

/-- Header fields every flit of the port carries (09 Table 09-3, R319, R325, R334, R337); a generation-1 header has no RING_VC, SVC, DRAIN
and HOLD (21 Table 21-3). -/
def Tun.stamp (id : Nat) (h : HeldFlit) (t : Tun) : Flit :=
  let p := t.port id
  { incarn := p.incarn, fseq := h.fseq, ackseq := p.expected - 1, ackValid := p.ackValid || p.nakOwed, nak := p.nakOwed,
    cls := h.cls, ringVc := h.ringVc && !p.genNow, ftype := h.ftype, svc := if p.genNow then 0 else t.svc.state.code,
    drain := t.svc.state == .draining && !p.genNow, hold := p.nakOwed && p.nakHold && !p.genNow, payload := h.payload }

/-- A napped transmitter wakes: WAKE until the peer locks (09 R343). It is the next flit sent, so it carries a NAK that is owed (R319). -/
def Tun.wakeTx (now id : Nat) (t : Tun) : Tun :=
  let p := t.port id
  if ¬ p.txNapped then t
  else
    let h : HeldFlit := { fseq := p.nextSeq, ftype := ftWake, cls := 0, ringVc := false, payload := [] }
    ((t.emit (.flit id (t.stamp id h) false)).bump 1 0 id).modPort id fun p =>
      { p with
        txNapped := false, nakOwed := false, nakHold := false,
        drainAt := if t.svc.state = .draining then (if p.drainAt.isSome then p.drainAt else some now) else none }

/-- Puts one flit on the link as it stands; a napped transmitter wakes first (09 R343). A link below LINKED sends nothing. -/
def Tun.putFlit (now id : Nat) (h : HeldFlit) (t : Tun) : Tun :=
  if (t.port id).link ≠ .linked then t else
  let t := t.wakeTx now id
  let p := t.port id
  let seqd := sequencedFt h.ftype
  let bad := seqd && p.injectCrc
  let t := (t.emit (.flit id (t.stamp id h) bad)).bump 1 0 id
  let t := if seqd then t.bump 1 (16 + h.cls.toNat) id else t
  t.modPort id fun p => { p with
    nakOwed := false, nakHold := false, injectCrc := p.injectCrc && !bad,
    drainAt := if t.svc.state = .draining then (if p.drainAt.isSome then p.drainAt else some now) else none }

/-- An unsequenced flit: FSEQ names the next sequenced flit, CLASS 0 (09 Table 09-3). -/
def Tun.putOrdered (now id : Nat) (ft : BitVec 4) (payload : List Byte) (t : Tun) : Tun :=
  t.putFlit now id { fseq := (t.port id).nextSeq, ftype := ft, cls := 0, ringVc := false, payload := payload }

/-- `n` ordered sets in a row. -/
def Tun.putOrderedN (now id : Nat) (ft : BitVec 4) (payload : List Byte) : Nat → Tun → Tun
  | 0, t => t
  | n + 1, t => Tun.putOrderedN now id ft payload n (t.putOrdered now id ft payload)

/-- Capacity of the replay buffer: 128 flits per lane (09 R322). -/
def Port.replayCap (p : Port) : Nat := 128 * p.widthNow

def Port.replayFull (p : Port) : Bool := decide (p.replayCap ≤ p.replay.length)

/-- Sends queued flits while the replay buffer has room (09 R322). `fuel` is the length of the queue. -/
def Tun.pumpN (now id : Nat) : Nat → Tun → Tun
  | 0, t => t
  | n + 1, t =>
    let p := t.port id
    match p.txq with
    | [] => t
    | h :: rest =>
      if p.replayFull || !p.up then t else
      let h := { h with fseq := p.nextSeq }
      let t := t.modPort id fun p => { p with txq := rest, replay := p.replay ++ [h], nextSeq := p.nextSeq + 1 }
      let t := (t.putFlit now id h).peak 1 25 id (p.replay.length + 1)
      Tun.pumpN now id n (if h.ftype == ftOnly || h.ftype == ftLast then t.bump 1 2 id else t)

def Tun.pump (now id : Nat) (t : Tun) : Tun := t.pumpN now id (t.port id).txq.length

/-- Cuts what follows a packet's first flit into payloads of 244 bytes (09 R300). -/
def cutMid : Nat → List Byte → List (List Byte)
  | 0, _ => []
  | n + 1, bs => flitPayload (bs.take 244) :: cutMid n (bs.drop 244)

/-- Flits of a packet with payload length `n` (10 R351). -/
def flitCount (n : Nat) : Nat := if n ≤ 212 then 1 else 1 + (n - 212 + 243) / 244

/-- FTYPE of flit `i` of `n`. -/
def ftOf (i n : Nat) : BitVec 4 := if n = 1 then ftOnly else if i = 0 then ftFirst else if i + 1 = n then ftLast else ftMid

/-- The flits of a packet given as header and payload bytes (09 R300). -/
def packetFlits (hdr payload : List Byte) (cls : BitVec 3) (vc : Bool) : List HeldFlit :=
  let n := flitCount payload.length
  let parts := flitPayload (hdr ++ payload.take 212) :: cutMid (n - 1) (payload.drop 212)
  parts.mapIdx fun i (b : List Byte) => { fseq := 0, ftype := ftOf i n, cls := cls, ringVc := vc, payload := b }

/-! ### Acknowledgement and replay -/

/-- Held flits through sequence number `a` are released; an unknown number releases none (09 R319). -/
def releaseThrough (a : BitVec 12) (held : List HeldFlit) : List HeldFlit :=
  if held.any (fun h => h.fseq == a) then (held.dropWhile (fun h => h.fseq != a)).drop 1 else held

/-- ACKSEQ received: the buffer advances, and a run of replays ends with it (09 R319, R324, R325). -/
def Port.acked (a : BitVec 12) (p : Port) : Port :=
  let r := releaseThrough a p.replay
  if r.length = p.replay.length then p else
  { p with
    replay := r, replayRun := none,
    holdFrom := match p.holdFrom with
      | some f => if r.any (fun h => h.fseq == f) then some f else none
      | none => none }

/-- Takes a port of the link state machine down: the link returns to detection and the port is DOWN, but for a FENCED one, which only a
reset takes out of FENCED (09 Tables 09-6, 09-8). -/
def Port.toDetect (cause : BitVec 4) (wait : Bool) (p : Port) : Port :=
  { p with
    state := if p.state = .fenced then .fenced else .down, link := .detect, downCause := cause, waiting := wait, ident := none,
    rateFull := false, txNapped := false, rxNapped := false, probes := [], delays := [], lanes := [] }

/-- Sends every held flit from `from_` on, in order (09 R323). -/
def Tun.resend (now id : Nat) (hs : List HeldFlit) (t : Tun) : Tun := hs.foldl (fun t h => t.putFlit now id h) t

/-- What a link going down does to its ring hold: its packets are taken off the ring and wait as ring arrivals that lost
(11 R429, R434). -/
def Tun.ringLinkDown (now id : Nat) (t : Tun) : Tun :=
  if ¬ isRingId id then t else
  let hold := if id = 259 then t.plane.north else t.plane.south
  let ps := hold.straw.map (fun q => (q, false)) ++ hold.stout.map (fun q => (q, true))
  let other := if id = 259 then 260 else 259
  let ws := ps.map fun q => { pkt := q.1, input := other, since := now, vc := q.2, offRing := true : Waiting }
  let pl := t.plane
  { t with plane := { pl with
    landing := pl.landing.modify [] other (· ++ ws), ringEject := satAdd pl.ringEject ws.length,
    north := if id = 259 then {} else pl.north, south := if id = 260 then {} else pl.south } }

/-- The payload of an equalisation flit of lane `lane` (09 Table 09-5, TRAIN 0x01). -/
def lanePayload (lane : Nat) (request : Byte) (done applied full : Bool) : List Byte :=
  [0x01, BitVec.ofNat 8 lane, request, (if done then 2 else 0) ||| (if applied then 1 else 0), if full then 1 else 0]

/-- Equalisation flits on every lane with RATE, the offer of Full rate, as detection begins (09 R309). -/
def Tun.sendRate (id : Nat) (t : Tun) : Tun :=
  let p := t.port id
  (List.range p.widthNow).foldl (fun u k => u.emit (.laneFlit id k (lanePayload k 0 false false (t.offersFull id p)))) t

/-- What a training takes as it begins: the generation, the width, PALE_ONLY and the pairing (09 R347, 02 R57). -/
def Tun.latchTraining (id : Nat) (t : Tun) : Tun :=
  t.modPort id fun p => { p with
    genNow := t.portGen1 id p, widthNow := t.planWidth id p, paleNow := p.paleOnly, pairing := t.pairsNow id }

/-- A training begins with detection at Pale rate, or waits for its interval (09 R307, R309). -/
def Tun.trainAnew (id : Nat) (t : Tun) : Tun :=
  let t := t.latchTraining id
  if (t.port id).waiting then t else t.sendRate id

/-- A port goes down and retrains, keeping its replay buffer and receive state (09 R318, R324, R326). -/
def Tun.portDown (now id : Nat) (cause : BitVec 4) (wait : Bool) (t : Tun) : Tun :=
  ((t.modPort id (Port.toDetect cause wait)).trainAnew id).ringLinkDown now id

/-- A replay starts at `from_`; the eighth in a row from one flit without an advance takes the port down. A replay for a
refused first flit is not counted (09 R323-R325). -/
def Tun.startReplay (now id : Nat) (from_ : BitVec 12) (counted : Bool) (t : Tun) : Tun :=
  let p := t.port id
  let hs := p.replay.dropWhile (fun h => h.fseq != from_)
  if hs.isEmpty || !p.up then t else
  let t := t.bump 1 7 id
  if ¬ counted then t.resend now id hs else
  let n := match p.replayRun with
    | some (f, k) => if f = from_ then k + 1 else 1
    | none => 1
  let t := t.modPort id fun p => { p with
    replayRun := some (from_, n), replayEvents := p.replayEvents + 1, replayEvents1s := p.replayEvents1s + 1 }
  if n < 8 then t.resend now id hs
  else (t.portDown now id 8 false).modPort id fun p => { p with replayRun := none }

/-- A NAK is asked for: none while one is out and its 2 µs timer runs (09 R319); 2 µs are 51,200 timestamp units. It carries HOLD while a
refused first flit still finds no room (R325). -/
def Tun.wantNak (now id : Nat) (t : Tun) : Tun :=
  let p := t.port id
  if p.nakOut && decide (now < p.nakTime + 51200) then t else
  let t := t.modPort id fun p => { p with nakOut := true, nakTime := now, nakOwed := true, nakHold := t.refusing id }
  (t.putOrdered now id ftIdle []).bump 1 8 id

/-! ### FENCE (09 R329-R331) -/

/-- FENCE payload (09 Table 09-5). -/
def fencePayload (scope : Nat) (incarn : Byte) (ret : Bool) : List Byte := [BitVec.ofNat 8 scope, incarn, if ret then 1 else 0]

/-- At least 16 FENCE flits on one link (09 R330); `back` says that the sender expects to retrain: after a port, warm or cold reset, and
not after DISABLE, power-down, an unlatched cartridge, a removal or the entry to FENCED (09 Table 09-5 RETURN, assumption 155). -/
def Tun.fencePort (now scope : Nat) (back : Bool) (id : Nat) (t : Tun) : Tun :=
  t.putOrderedN now id ftFence (fencePayload scope (t.port id).incarn back) 16

/-- FENCE on the named ports or links that the Tun has. -/
def Tun.fencePorts (now : Nat) (ids : List Nat) (scope : Nat) (back : Bool) (t : Tun) : Tun :=
  (ids.filter t.hasPort).foldl (fun t id => t.fencePort now scope back id) t

/-- FENCE on every link of the Tun (04 R122). -/
def Tun.fenceLinks (now scope : Nat) (back : Bool) (t : Tun) : Tun := t.fencePorts now t.portIds scope back

/-- A port reset's effect on the port: link state, replay buffer, sequences and receive queue cleared; configuration, counters and what the
last completed IDENTIFY left kept (04 Table 04-6, 09 R349). -/
def Port.cleared (cause : BitVec 4) (p : Port) : Port :=
  { gen1 := p.gen1, disable := p.disable, napDisable := p.napDisable, width := p.width, paleOnly := p.paleOnly,
    rateHeld := p.rateHeld, incarn := p.incarn, downCause := cause, peerRole := p.peerRole, peerRow := p.peerRow, peerCol := p.peerCol,
    peerPort := p.peerPort, peerSlot := p.peerSlot, peerDevice := p.peerDevice, peerIncarn := p.peerIncarn, mustFresh := true,
    rxCdcDrop := p.rxCdcDrop, staleIncarn := p.staleIncarn, retrains := p.retrains, degradations := p.degradations }

/-- A partial packet and the held flits of a port are lost (10 Table 10-6 LINK_LOSS): one drop for each packet. -/
def packetsHeld (hs : List HeldFlit) : Nat := (hs.filter fun h => h.ftype == ftOnly || h.ftype == ftLast).length

/-- Loss of signal or of codeword lock for more than 1 µs; after NAP it is nap (09 R342). -/
def Tun.signalLost (now id : Nat) (t : Tun) : Tun :=
  let p := t.port id
  if p.link ≠ .linked ∨ p.rxNapped then t
  else t.portDown now id (if p.state = .peerFenced then 0xA else 9) false

/-- Ports held DISABLED with their FENCE already sent, cause 0xC (09 Table 09-6, 03 R90). -/
def Tun.portsOffline (now : Nat) (ids : List Nat) (t : Tun) : Tun :=
  (ids.filter t.hasPort).foldl (fun t id =>
    let p := t.port id
    if p.link = .disabled ∧ p.state = .down then t
    else (t.modPort id (Port.cleared 0xC)).ringLinkDown now id) t

/-- An awake transmitter with nothing else to send sends IDLE flits, one after another (09 R304): at `now` port `id` begins a flit where
another flit time has passed since `now - 1`. A flit takes 262.144 units on one lane at Full rate. -/
def Tun.idleFlit (now id : Nat) (t : Tun) : Tun :=
  let p := t.port id
  let k := 500 * p.widthNow * (if p.rateFull then 2 else 1)
  if p.link = .linked ∧ p.txNapped = false ∧ now * k / 262144 ≠ (now - 1) * k / 262144 then t.putOrdered now id ftIdle [] else t

/-- The IDLE flits of every port and link at `now`. -/
def Tun.idleFlits (now : Nat) (t : Tun) : Tun := t.portIds.foldl (fun t id => t.idleFlit now id) t

/-- The service state changed: the next flit of every port shows it; the model sends an IDLE flit at once (09 R334, R337). -/
def Tun.announceState (now : Nat) (t : Tun) : Tun := t.portIds.foldl (fun t id => t.putOrdered now id ftIdle []) t

end Sys2Proof.Machine
end

