-- ==== Sys2Proof/Machine/ErrCore.lean ====
section
/-! DEFINITION. The error registers and log of a Tun (19 R744-R748). -/

namespace Sys2Proof.Machine
open Sys2Proof

def Tun.modErr (f : Err → Err) (t : Tun) : Tun := { t with err := f t.err }
def Tun.modRel (f : Rel → Rel) (t : Tun) : Tun := { t with rel := f t.rel }

/-- ERR_N is asserted: an unmasked class bit is set; FENCE and FATAL cannot be masked (19 R745, Table 19-4). -/
def Err.asserted (e : Err) : Bool := (e.classes &&& ~~~(e.mask.setWidth 6)) != 0

/-- ERR_STATUS (19 Table 19-4). -/
def Err.status (e : Err) : Word := fieldAt e.lastSource 8 ||| fieldAt e.classes 0

/-- A log record (19 Table 19-5). -/
def errRecord (number : Half) (cls : Nat) (src : Byte) (at_ : ErrAt) (time : Nat) (brew : BitVec 48) : List Byte :=
  halfBytes number ++ [BitVec.ofNat 8 cls, src] ++ halfBytes at_.inst ++ [at_.ctx, at_.syndrome] ++ bytesLE 8 at_.addr.toNat ++
    bytesLE 8 time ++ bytesLE 6 brew.toNat ++ [0, 0]

/-- One second in timestamp units. -/
def second : Nat := 1000 * unitsPerMs

/-- An error of a class from a source: its status bit, its count where it was corrected, and its record; a CORRECTED one writes a
record only if its source wrote none in the second before (19 R744, R746). -/
def Tun.logError (now : Nat) (src : Byte) (cls : Nat) (at_ : ErrAt) (t : Tun) : Tun :=
  let e := t.err
  let quiet : Bool := cls == 0 && (let w := Tab.get 0 e.corrected src.toNat; w != 0 && decide (now < w - 1 + second))
  let e : Err := { e with classes := e.classes ||| (1#6 <<< cls) }
  let e : Err := if cls ≠ 0 then e
    else if src = 1 ∨ src = 2 then { e with caskCorrected := satInc e.caskCorrected }
    else if 3 ≤ src.toNat ∧ src.toNat ≤ 7 then { e with wortCorrected := satInc e.wortCorrected }
    else e
  let e : Err := if quiet then e else { e with
    lastSource := src, next := e.next + 1,
    corrected := if cls = 0 then e.corrected.set 0 src.toNat (now + 1) else e.corrected,
    log := e.log.set [] (e.next.toNat % 256) (errRecord e.next cls src at_ now t.sched.brew) }
  { t with err := e }

/-- Nibble `n` of a register word set to `v`. -/
def setField4 (w : Word) (n v : Nat) : Word := (w &&& ~~~(0xF#32 <<< (4 * n))) ||| (BitVec.ofNat 32 (v % 16) <<< (4 * n))

end Sys2Proof.Machine
end

