-- ==== Sys2Proof/Machine/PktCore.lean ====
section
/-! DEFINITION. The packet (chapter 10): its header bytes and checks, drops and their answers, rank translation, partition
checks, routing (chapter 11), and the packets the Tun originates. -/

namespace Sys2Proof
open Machine

/-- Header words 0, 2 and 3 (10 Table 10-1). -/
def Packet.word0 (p : Packet) : Dword :=
  (p.slot ++ p.srcEp ++ p.dst ++ BitVec.ofBool p.dstKind ++ BitVec.ofBool p.circuit ++ BitVec.ofBool p.poison ++ p.hops ++
    p.defl ++ BitVec.ofBool p.gild ++ p.channel ++ p.cls ++ p.fmt ++ p.type).setWidth 64

def Packet.word2 (p : Packet) : Dword := (p.incarn ++ p.ctx ++ p.tag ++ p.seq ++ p.pkey).setWidth 64

def Packet.word3 (p : Packet) : Dword := (p.hcrc ++ p.rsv ++ p.axis ++ p.index ++ p.len).setWidth 64

/-- The 32 header bytes (10 R352). -/
def Packet.header (p : Packet) : List Byte :=
  bytesLE 8 p.word0.toNat ++ bytesLE 8 p.addr.toNat ++ bytesLE 8 p.word2.toNat ++ bytesLE 8 p.word3.toNat

/-- HCRC over header bytes 0 to 29 (10 R353). -/
def Packet.crcNow (p : Packet) : Half := crc16 (p.header.take 30)

/-- HCRC holds, so that the header's fields may be used (10 R353). -/
def Packet.headerOk (p : Packet) : Bool := p.hcrc == p.crcNow

/-- CIRCUIT of a header whose HCRC holds; a packet whose HCRC fails goes the way of an unscheduled one, to its drop (10 R353). -/
def Packet.isCircuit (p : Packet) : Bool := p.headerOk && p.circuit

/-- The packet with HCRC recomputed (10 R353). -/
def Packet.sealed (p : Packet) : Packet := { p with hcrc := p.crcNow }

/-- Payload length: LEN but for READ_REQ (10 R351). -/
def Packet.payloadLen (p : Packet) : Nat := if p.type = 0x02 then 0 else p.len.toNat

/-- A packet read from the payloads of its flits; a flit count that does not match LEN leaves a payload of another length,
which the FORMAT check finds (10 R351, Table 10-6). -/
def Packet.ofFlits (parts : List (List Byte)) : Packet :=
  let bs := parts.flatten
  let w0 : Dword := BitVec.ofNat 64 (leAt bs 0 8)
  let w2 : Dword := BitVec.ofNat 64 (leAt bs 16 8)
  let w3 : Dword := BitVec.ofNat 64 (leAt bs 24 8)
  let p : Packet :=
    { slot := w0.extractLsb' 50 14, srcEp := w0.extractLsb' 40 10, dst := w0.extractLsb' 28 12, dstKind := w0.getLsbD 27,
      circuit := w0.getLsbD 26, poison := w0.getLsbD 25, hops := w0.extractLsb' 19 6, defl := w0.extractLsb' 16 3,
      gild := w0.getLsbD 15, channel := w0.extractLsb' 11 4, cls := w0.extractLsb' 8 3, fmt := w0.extractLsb' 6 2,
      type := w0.extractLsb' 0 6, addr := BitVec.ofNat 64 (leAt bs 8 8), incarn := w2.extractLsb' 56 8,
      ctx := w2.extractLsb' 48 8, tag := w2.extractLsb' 32 16, seq := w2.extractLsb' 16 16, pkey := w2.extractLsb' 0 16,
      hcrc := w3.extractLsb' 48 16, rsv := w3.extractLsb' 23 25, axis := w3.extractLsb' 21 2, index := w3.extractLsb' 13 8,
      len := w3.extractLsb' 0 13, payload := bs.drop 32 }
  if flitCount p.payloadLen = parts.length then { p with payload := p.payload.take p.payloadLen } else p

end Sys2Proof

namespace Sys2Proof.Machine
open Sys2Proof

/-! ### Types (10 Table 10-3) -/

def tyWrite : BitVec 6 := 0x01
def tyReadReq : BitVec 6 := 0x02
def tyReadResp : BitVec 6 := 0x03
def tyAtomicReq : BitVec 6 := 0x04
def tyAtomicResp : BitVec 6 := 0x05
def tyCmd : BitVec 6 := 0x08
def tyDoorbell : BitVec 6 := 0x09
def tyCpl : BitVec 6 := 0x0A
def tyContrib : BitVec 6 := 0x10
def tyResult : BitVec 6 := 0x11
def tyMcastWrite : BitVec 6 := 0x12
def tyTap : BitVec 6 := 0x18
def tyMgmt : BitVec 6 := 0x20
def tyFenceNotice : BitVec 6 := 0x21

/-- Class codes 0 to 5 (00 R3 table of names). -/
def clScarlet : BitVec 3 := 0
def clAmber : BitVec 3 := 1
def clOchre : BitVec 3 := 2
def clSlate : BitVec 3 := 3
def clIndigo : BitVec 3 := 4
def clGrey : BitVec 3 := 5

/-- MGMT_OP of a packet (10 R362). -/
def mgmtOp (p : Packet) : Half := p.addr.extractLsb' 48 16

def isMgmtReply (p : Packet) : Bool := p.type == tyMgmt && decide (0x8000 ≤ (mgmtOp p).toNat)

/-- Sequenced types (10 Table 10-3). -/
def sequenced (p : Packet) : Bool :=
  p.type == tyWrite || p.type == tyReadReq || p.type == tyAtomicReq || p.type == tyCmd || p.type == tyDoorbell ||
    p.type == tyCpl || p.type == tyContrib || (p.type == tyResult && p.axis == 0) || p.type == tyMgmt

/-- Request packets of 09 R335. -/
def isRequest (p : Packet) : Bool :=
  !(p.type == tyReadResp || p.type == tyAtomicResp || p.type == tyCpl || isMgmtReply p || p.type == tyFenceNotice)

def bulkClass (c : BitVec 3) : Bool := c == clAmber || c == clOchre || c == clSlate

def lenIn (p : Packet) (lo hi : Nat) : Bool := decide (lo ≤ p.len.toNat) && decide (p.len.toNat ≤ hi)

/-- Class and LEN allowed for the type (10 R356, Table 10-3). -/
def typeOk (p : Packet) : Bool :=
  let n := p.len.toNat
  if p.type = tyWrite ∨ p.type = tyReadReq ∨ p.type = tyMcastWrite then bulkClass p.cls && lenIn p 1 4096
  else if p.type = tyReadResp then bulkClass p.cls && lenIn p 0 4096
  else if p.type = tyAtomicReq then bulkClass p.cls && n == 24
  else if p.type = tyAtomicResp then bulkClass p.cls && (n == 8 || n == 0)
  else if p.type = tyCmd then p.cls == clIndigo && lenIn p 64 4096 && n % 64 == 0
  else if p.type = tyDoorbell then p.cls == clIndigo && lenIn p 1 64
  else if p.type = tyCpl then p.cls == clIndigo && lenIn p 32 4096 && n % 32 == 0
  else if p.type = tyContrib ∨ p.type = tyResult then p.cls == clAmber && lenIn p 1 4096
  else if p.type = tyTap then p.cls == clScarlet && lenIn p 1 64
  else if p.type = tyMgmt then p.cls == clGrey && (n == 0 || n == 4 || n == 8)
  else if p.type = tyFenceNotice then p.cls == clGrey && n == 8
  else false

/-- CHANNEL 15 and PKEY 0xFFFF rule (10 R357). -/
def channelOk (p : Packet) : Bool :=
  let m := p.type == tyMgmt || p.type == tyFenceNotice
  (p.channel == 15) == m && (p.pkey == 0xFFFF) == m

/-- Multicast rule (10 R358); `fabric` for a packet received on a row mesh or Vorlauf link. -/
def mcastOk (fabric : Bool) (p : Packet) : Bool :=
  if fabric then p.axis == 0 && !p.dstKind
  else if p.axis = 3 then false
  else if p.axis = 0 then p.type != tyMcastWrite
  else (p.type == tyMcastWrite || p.type == tyResult) && p.dstKind

/-- The FORMAT check (10 Table 10-6). -/
def formatOk (fabric : Bool) (p : Packet) : Bool :=
  p.fmt == 2 && typeOk p && channelOk p && mcastOk fabric p && p.payload.length == p.payloadLen

/-! ### Generation 1 (chapter 21) -/

/-- Types a generation-1 device may send (21 R798). -/
def gen1Type (p : Packet) : Bool :=
  p.type == tyWrite || p.type == tyReadReq || p.type == tyReadResp || p.type == tyAtomicReq || p.type == tyAtomicResp ||
    p.type == tyCmd || p.type == tyDoorbell || p.type == tyCpl || p.type == tyContrib || p.type == tyMgmt || p.type == tyFenceNotice

/-- Conversion at ingress on a generation-1 port; `none` is FORMAT (21 R796-R799). -/
def fromGen1 (p : Packet) : Option Packet :=
  if p.fmt = 1 ∧ ¬ p.channel.getLsbD 3 ∧ p.slot = 0 ∧ ¬ p.circuit ∧ ¬ p.dstKind ∧ p.axis = 0 ∧ p.index = 0 ∧ gen1Type p then
    some { p with fmt := 2, channel := if p.channel = 7 then 15 else p.channel : Packet }.sealed
  else none

/-- Conversion before delivery on a generation-1 port; `none` is FORMAT (21 R800). -/
def toGen1 (p : Packet) : Option Packet :=
  if (7 ≤ p.channel.toNat ∧ p.channel.toNat ≤ 14) ∨ p.type = tyTap then none
  else some { p with fmt := 1, channel := if p.channel = 15 then 7 else p.channel : Packet }.sealed

/-! ### The Tun as a source -/

/-- The Tun's number: 192 + 4r + c (10 Table 10-2). -/
def Tun.number (t : Tun) : Nat := 192 + 4 * t.row + t.col.num

def tunRow (n : Nat) : Nat := (n - 192) / 4
def tunCol (n : Nat) : Nat := (n - 192) % 4

/-- Moves packets waiting for the engine hold into it while places are free (11 R439). -/
def fillEngine (now : Nat) : Nat → List Waiting → List Packet → List Waiting × List Packet
  | 0, h, q => (h, q)
  | _, h, [] => (h, [])
  | n + 1, h, p :: q =>
    if h.length < 32 then fillEngine now n (h ++ [{ pkt := p, input := 300, since := now }]) q else (h, p :: q)

def Tun.refillEngine (now : Nat) (t : Tun) : Tun :=
  let r := fillEngine now t.plane.engineWait.length t.plane.engine t.plane.engineWait
  ({ t with plane := { t.plane with engine := r.1, engineWait := r.2 } }).peak 3 0 0 r.1.length

/-- Index of the PKEY_TABLE entry in use for a key: the lowest valid one (10 R366). -/
def Tun.pkeyEntry (t : Tun) (k : Half) : Option Nat :=
  (t.plane.pkeys.entries.find? fun e => e.2.getLsbD 31 && e.2.extractLsb' 0 16 == k).map (·.1)

def Tun.pkeyWord (t : Tun) (i : Nat) : Dword := Tab.get 0 t.plane.pkeys i

/-- Rank table bound to a PKEY entry with RANK_EN set (10 R364). -/
def Tun.rankTable (t : Tun) (k : Half) : Option Nat :=
  match t.pkeyEntry k with
  | some i => let e := t.pkeyWord i; if e.getLsbD 23 then some (e.extractLsb' 24 6).toNat else none
  | none => none

/-- Grid width of a rank table, 1 at least (10 R367). -/
def Tun.gridWidth (t : Tun) (tab : Nat) : Nat := max 1 (bitsOf (Tab.get 0 t.plane.rankDesc tab) 16 9).toNat
def Tun.rankCount (t : Tun) (tab : Nat) : Nat := (bitsOf (Tab.get 0 t.plane.rankDesc tab) 0 13).toNat

/-- Endpoint ID of a rank of a table (10 R364, R368). -/
def Tun.rankEp (t : Tun) (tab rank : Nat) : Option Nat :=
  let e : Half := Tab.get 0 t.plane.ranks (tab * 4096 + rank)
  if rank < t.rankCount tab ∧ e.getLsbD 15 then some (e.extractLsb' 0 10).toNat else none

/-- Rank translation of a packet's DST (10 R363, R364). -/
def Tun.translate (t : Tun) (p : Packet) : Option Packet :=
  if ¬ p.dstKind then some p else
  match t.rankTable p.pkey with
  | none => none
  | some tab =>
    match t.rankEp tab p.dst.toNat with
    | some e => some ({ p with dst := BitVec.ofNat 12 e, dstKind := false : Packet }.sealed)
    | none => none

/-- Ranks a multicast names (11 R436, R438). -/
def Tun.mcastRanks (t : Tun) (p : Packet) : List Nat :=
  match t.rankTable p.pkey with
  | none => []
  | some tab =>
    let w := t.gridWidth tab
    let i := p.index.toNat
    let n := t.rankCount tab
    if p.axis = 1 then (List.range w).map (i * w + ·) |>.filter (· < n)
    else if i < w then (List.range n).filter (fun r => r % w == i)
    else []

/-- Members with a valid rank entry, as endpoint IDs, and how many have none (11 R437, R438). -/
def Tun.mcastMembers (t : Tun) (p : Packet) : List Nat × Nat :=
  let rs := t.mcastRanks p
  let tab := (t.rankTable p.pkey).getD 0
  let ids := rs.filterMap (t.rankEp tab)
  (ids, rs.length - ids.length)

/-- One multicast copy (11 R437). -/
def mcastCopy (p : Packet) (ep : Nat) : Packet :=
  { p with dst := BitVec.ofNat 12 ep, dstKind := false, axis := 0, index := 0, seq := 0 : Packet }.sealed

/-! ### Drops (10 R390-R394) -/

/-- Index of the DROP counters for packets the Tun originates (20 Table 20-1). -/
def ownPort : Nat := 0x1FF

/-- Counts a drop with its reason and port and captures the header when its HCRC held (10 R390, R394). A CPL of this Tun that is
lost counts in CPL_LOST (13 R522). A delivered packet carries its port code, whose port is the code modulo 1,024. -/
def Tun.drop (code port : Nat) (p : Packet) (t : Tun) : Tun :=
  let port := port % 1024
  let t := t.bump 2 code port
  let t := if p.headerOk ∧ p.type = tyCpl ∧ p.srcEp.toNat = t.number then
      { t with bm := { t.bm with cplLost := satInc t.bm.cplLost } } else t
  { t with plane := { t.plane with
    dropCode := BitVec.ofNat 8 code, dropPort := BitVec.ofNat 9 port, dropCount := satInc t.plane.dropCount,
    loopDrop := if code = 0x0B then satInc t.plane.loopDrop else t.plane.loopDrop,
    dropHdr := if p.headerOk then p.header else t.plane.dropHdr } }

/-- STATUS a dropped request is answered with (10 Table 10-6). -/
def dropAnswer (code : Nat) : Option Half :=
  if code = 0x06 ∨ code = 0x0C then some 0x0010
  else if code = 0x07 ∨ code = 0x08 ∨ code = 0x0F then some 0x0502
  else if code = 0x09 then some 0x0503
  else if code = 0x0A then some 0x0505
  else none

/-- The response to a request, from this Tun (10 R360, R391). -/
def Tun.response (t : Tun) (q : Packet) (status : Half) (data : List Byte) : Packet :=
  { type := if q.type = tyAtomicReq then tyAtomicResp else tyReadResp, fmt := 2, tag := q.tag, channel := q.channel,
    cls := q.cls, pkey := q.pkey, ctx := q.ctx, dst := q.srcEp.setWidth 12, srcEp := BitVec.ofNat 10 t.number,
    incarn := t.svc.incarn, addr := status.setWidth 64, len := BitVec.ofNat 13 data.length, payload := data : Packet }.sealed

/-- Next SEQ of a stream the Tun sends (10 R379). -/
def Tun.takeSeq (dst ch : Nat) (t : Tun) : Half × Tun :=
  let k := dst * 16 + ch
  let q : Half := Tab.get 0 t.plane.sendSeq k
  (q, { t with plane := { t.plane with sendSeq := t.plane.sendSeq.set 0 k (q + 1) } })

/-- Queues packets for the engine hold. -/
def Tun.queueOut (now : Nat) (ps : List Packet) (t : Tun) : Tun :=
  ({ t with plane := { t.plane with engineWait := t.plane.engineWait ++ ps } }).refillEngine now

/-- A drop whose reason has an answer code answers a READ_REQ or ATOMIC_REQ (10 R391). -/
def Tun.dropAnswered (now code port : Nat) (p : Packet) (t : Tun) : Tun :=
  let t := t.drop code port p
  if p.type = tyReadReq ∨ p.type = tyAtomicReq then
    match dropAnswer code with
    | some st => t.queueOut now [t.response p st []]
    | none => t
  else t

/-- The packets the Tun makes of one it originates: SRC_EP, INCARN and FMT are its own, ranks are translated, a multicast becomes
one copy a member, and a sequenced packet is numbered (10 R363, R374, R379, R380, 11 R436-R439). -/
def Tun.formOwn (now : Nat) (p : Packet) (t : Tun) : List Packet × Tun :=
  let p := { p with srcEp := BitVec.ofNat 10 t.number, incarn := t.svc.incarn, fmt := 2 : Packet }.sealed
  if p.axis ≠ 0 then
    let m := t.mcastMembers p
    if m.1.isEmpty && m.2 == 0 then ([], t.drop 0x09 ownPort p)
    else (m.1.map (mcastCopy p), (List.range m.2).foldl (fun t _ => t.drop 0x09 ownPort p) t)
  else
    match t.translate p with
    | none => ([], t.dropAnswered now 0x09 ownPort p)
    | some p =>
      if sequenced p then
        let q := t.takeSeq p.dst.toNat p.channel.toNat
        ([{ p with seq := q.1 : Packet }.sealed], q.2)
      else ([p], t)

/-- The Tun originates a packet, which waits for the engine hold. -/
def Tun.originate (now : Nat) (p : Packet) (t : Tun) : Tun :=
  let r := t.formOwn now p
  r.2.queueOut now r.1

/-- The flits begin inside a packet whose first flit was acknowledged: a SCARLET packet may stand between (09 R301). -/
def beginsInside (hs : List HeldFlit) : Bool :=
  match hs.find? fun h => h.ftype != ftOnly with
  | some h => h.ftype == ftMid || h.ftype == ftLast
  | none => false

/-- Each packet of the held and queued flits of a port, one whose first flit is already acknowledged included, and a partial packet, is a
link-loss drop (09 R326, 10 Table 10-6). -/
def Tun.linkLoss (id : Nat) (t : Tun) : Tun :=
  let p := t.port id
  let hs := p.replay ++ p.txq
  let t := if beginsInside hs then t.drop 0x01 id {} else t
  let t := (hs.filter fun h => h.ftype == ftOnly || h.ftype == ftFirst).foldl (fun t h => t.drop 0x01 id (Packet.ofFlits [h.payload])) t
  if p.assembling then t.drop 0x01 id (Packet.ofFlits p.partial_) else t

/-- Discards the replay buffer, queue and partial packet of a port (09 R315, R326, R331). -/
def Tun.discardLink (id : Nat) (t : Tun) : Tun :=
  (t.linkLoss id).modPort id fun p => { p with
    replay := [], txq := [], partial_ := [], assembling := false, replayRun := none, holdFrom := none, refused := none }

/-! ### Partition checks (10 R371, R372) -/

def Tun.pkeyMember (t : Tun) (id entry : Nat) : Bool := (Tab.get 0 t.plane.pkeyMap (id * 8 + entry / 32)).getLsbD (entry % 32)

def Tun.mgmtMember (t : Tun) (id : Nat) : Bool := (Tab.get 0 t.plane.pkeyCtrl id).getLsbD 31

/-- ANNEX_ID of an annex port, when valid (10 R375). -/
def Tun.annexId (t : Tun) (id : Nat) : Option Nat :=
  let w : Word := Tab.get 0 t.plane.pkeyCtrl id
  if w.getLsbD 10 then some (bitsOf w 0 10).toNat else none

/-- The port serves as the annex pair of the endpoint slot of its group (02 R34, 09 R313). -/
def Tun.paired (t : Tun) (id : Nat) : Bool := isAnnexId id && (t.port id).pairing && (t.port id).peerRole == 1

/-- SRC_EP fits the port (10 R371). -/
def Tun.srcOk (t : Tun) (id : Nat) (p : Packet) : Bool :=
  if isEndpointId id then p.srcEp.toNat == id
  else if t.paired id then p.srcEp.toNat == id - 192
  else t.annexId id == some p.srcEp.toNat

/-- PKEY and class allowed at ingress (10 R371). -/
def Tun.pkeyIngress (t : Tun) (id : Nat) (p : Packet) : Bool :=
  if p.pkey = 0xFFFF then t.mgmtMember id else
  match t.pkeyEntry p.pkey with
  | some i => t.pkeyMember id i && ((t.pkeyWord i).extractLsb' 32 6).getLsbD p.cls.toNat
  | none => false

/-- The Tun's own answers to dropped requests (10 R391) pass no partition check (assumption 60, DEDUCED). -/
def dropResponse (p : Packet) : Bool :=
  (p.type == tyReadResp || p.type == tyAtomicResp) && p.len == 0 && decide (192 ≤ p.srcEp.toNat) && decide (p.srcEp.toNat < 224)

/-- PKEY allowed at egress (10 R372). -/
def Tun.pkeyEgress (t : Tun) (id : Nat) (p : Packet) : Bool :=
  if p.type = tyFenceNotice ∨ dropResponse p then true
  else if p.pkey = 0xFFFF then t.mgmtMember id
  else match t.pkeyEntry p.pkey with
    | some i => t.pkeyMember id i
    | none => false

/-! ### Routing (11 R401-R406, R433, R434) -/

/-- The engine input as an output. -/
def engineOut : Nat := 288

/-- The Tun's column ring counts as broken (11 R433). -/
def Tun.ringBroken (t : Tun) : Bool := !(t.portUp 259) || !(t.portUp 260) || t.plane.broken

/-- The ring path in one direction from this row to row `r` avoids the break and a down link of the Tun (11 R434). -/
def Tun.ringPathOk (t : Tun) (north : Bool) (r : Nat) : Bool :=
  let n := t.trays
  let b := t.plane.breakRow.toNat
  let dist := if north then (r + n - t.row) % n else (t.row + n - r) % n
  let uses := if north then decide ((b + n - t.row) % n < dist) else decide ((b + n - r) % n < dist)
  !(t.plane.broken && uses) && t.portUp (if north then 259 else 260)

/-- Next hop toward the Tun at row `r`, column `c` (11 R402, R434); `none` is NO_ROUTE. -/
def Tun.nextHop (t : Tun) (r c : Nat) : Option Nat :=
  if c ≠ t.col.num then some (256 + (c + 4 - t.col.num - 1) % 4)
  else
    let n := t.trays
    let north := decide ((r + n - t.row) % n ≤ (t.row + n - r) % n)
    let out (d : Bool) := if d then 259 else 260
    if ¬ t.ringBroken then some (out north)
    else if t.ringPathOk north r then some (out north)
    else if t.ringPathOk (!north) r then some (out (!north))
    else none

/-- Target outputs of a destination at this Tun; an empty list is NO_ROUTE (11 R401, R406). A paired endpoint slot has two
egress ports (02 R34). -/
def Tun.targets (t : Tun) (dst : Nat) : List Nat :=
  if dst < 192 then
    if (Tab.get 0 t.plane.routes dst).getLsbD 31 then
      if t.paired (192 + dst) && t.portUp (192 + dst) then [dst, 192 + dst] else [dst]
    else []
  else if dst < 224 then
    let r := tunRow dst
    let c := tunCol dst
    if t.trays ≤ r then []
    else if dst = t.number then [engineOut]
    else (t.nextHop r c).toList
  else if dst < 256 then []
  else if dst < 1024 then
    let e : Word := Tab.get 0 t.plane.routes dst
    let r := (bitsOf e 27 3).toNat
    let c := (bitsOf e 25 2).toNat
    let port := (bitsOf e 16 9).toNat
    if ¬ e.getLsbD 31 then []
    else if r = t.row ∧ c = t.col.num then (if t.portUp port then [port] else [])
    else (t.nextHop r c).toList
  else []

def outputUp (t : Tun) (o : Nat) : Bool := o == engineOut || t.portUp o

/-- NO_ROUTE of a packet at this Tun: no target, or the hop limit reached with its target outputs not up (11 R406). -/
def Tun.noRoute (t : Tun) (p : Packet) : Bool :=
  let ts := t.targets p.dst.toNat
  ts.isEmpty || (decide (t.plane.unreachHops.toNat ≤ p.hops.toNat) && !(ts.any (outputUp t)))

/-! ### Ingress checks (10 Table 10-6, first ten rows) -/

/-- Result of the ingress checks: dropped with a code, or accepted with its header rewritten. -/
inductive Checked where
  | lost (code : Nat) (p : Packet)
  | ok (p : Packet)
deriving DecidableEq, Repr

/-- A request whose first flit arrives on an endpoint or annex port at `first`, more than 2 µs (51,200 units) after its first DRAIN, or on a
generation-1 port after the entry to DRAINING (09 R336, 21 Table 21-5). -/
def Tun.drainDrop (t : Tun) (first id : Nat) (p : Packet) : Bool :=
  t.svc.state == .draining && isRequest p && !(p.type == tyMgmt && p.dst.toNat == t.number && !p.dstKind) &&
    (match (if (t.port id).genNow then some t.svc.drainFrom else (t.port id).drainAt) with
     | some d => decide (d + 51200 < first)
     | none => false)

/-- The checks of a packet whose first flit reached port or link `id` at `first` (10 R390, 09 R336). -/
def Tun.checkIngress (t : Tun) (first id : Nat) (p : Packet) : Checked :=
  let fabric := isFabricId id
  if p.hcrc ≠ p.crcNow then .lost 0x03 p else
  let q := if (t.port id).genNow && !fabric then fromGen1 p else some p
  match q with
  | none => .lost 0x04 p
  | some p =>
    let p := if fabric then p else { p with gild := false, defl := 0, hops := 0 : Packet }.sealed
    if ¬ formatOk fabric p then .lost 0x04 p
    else if t.svc.state = .cold then .lost 0x05 p
    else if p.cls = clOchre ∧ t.inPale then .lost 0x06 p
    else if ¬ fabric ∧ ¬ t.srcOk id p then .lost 0x12 p
    else if ¬ fabric ∧ ¬ t.pkeyIngress id p then .lost 0x07 p
    else
      let r := if fabric then some p else if p.axis ≠ 0 then (if (t.mcastRanks p).isEmpty then none else some p) else t.translate p
      match r with
      | none => .lost 0x09 p
      | some p =>
        if ¬ fabric ∧ t.drainDrop first id p then .lost 0x0C p
        else if p.axis = 0 ∧ t.noRoute p then .lost 0x0A p
        else if p.axis = 0 ∧ p.hops = 63 ∧ (t.targets p.dst.toNat).all isFabricId then .lost 0x0B p
        else .ok p

/-! ### Holds (11 R397-R400) -/


/-- Places a packet in the hold of the port or link it arrived on. A multicast waits there while its copies are made. -/
def Tun.holdPacket (now id : Nat) (vc : Bool) (p : Packet) (t : Tun) : Tun :=
  let m := t.mcastMembers p
  let t := if p.axis ≠ 0 then (List.range m.2).foldl (fun t _ => t.drop 0x09 id p) t else t
  let w : Waiting := { pkt := p, input := id, since := now, vc := vc, copies := if p.axis ≠ 0 then some m.1 else none }
  if p.axis ≠ 0 ∧ m.1.isEmpty then t
  else if isFabricId id then
    ({ t with plane := { t.plane with landing := t.plane.landing.modify [] id (· ++ [w]) } }).peak 1 26 id
      ((Tab.get [] t.plane.landing id).length + 1)
  else
    ({ t with plane := { t.plane with inj := t.plane.inj.modify [] id (· ++ [w]) } }).peak 1 24 id
      ((Tab.get [] t.plane.inj id).length + 1)

/-- A forfeited circuit packet takes a forfeit place (11 R399, 12 R459). -/
def Tun.holdForfeit (now id : Nat) (p : Packet) (t : Tun) : Tun :=
  { t with plane := { t.plane with
    forfeit := t.plane.forfeit.modify [] id (· ++ [{ pkt := p, input := id, since := now }]) } }

/-! ### Peer departures (10 R388) -/

def noticePayload (subject scope : Nat) (incarn : Byte) : List Byte :=
  bytesLE 2 subject ++ [BitVec.ofNat 8 scope, incarn, 0, 0, 0, 0]

def noticePacket (dst subject scope : Nat) (incarn : Byte) : Packet :=
  { type := tyFenceNotice, cls := clGrey, channel := 15, pkey := 0xFFFF, dst := BitVec.ofNat 12 dst, len := 8,
    payload := noticePayload subject scope incarn }

/-- Devices attached to the Tun on ports that are up: endpoints by slot, annex devices by ANNEX_ID. -/
def Tun.attached (t : Tun) (annexOnly : Bool) : List Nat :=
  t.upPorts.filterMap fun id =>
    if isEndpointId id then (if annexOnly then none else some id)
    else if isAnnexId id then (if t.paired id then none else t.annexId id) else none

/-- Every other Tun of the rack. -/
def Tun.otherTuns (t : Tun) : List Nat := ((List.range (4 * t.trays)).map (192 + ·)).filter (· != t.number)

/-- The departure was acted on within the preceding 1 ms (10 R388). -/
def Tun.departedLately (t : Tun) (now subject : Nat) : Bool :=
  t.plane.departures.any fun d => d.1 == subject && decide (now < d.2 + unitsPerMs)

/-- Step 1: held packets of the subject are STALE_SOURCE drops, its streams are invalid, and the streams sent to it restart
at SEQ 0 (10 R379, R388). -/
def Tun.dropStreams (subject : Nat) (t : Tun) : Tun :=
  (List.range 16).foldl (fun t ch =>
    let s := Tab.get {} t.plane.streams (subject * 16 + ch)
    let t := s.held.foldl (fun t h => t.drop 0x0D h.2.2.1 h.2.2.2) t
    { t with plane := { t.plane with
      streams := t.plane.streams.set {} (subject * 16 + ch) {}, sendSeq := t.plane.sendSeq.set 0 (subject * 16 + ch) 0 } }) t

/-- The departure is recorded; older entries no longer matter. -/
def Tun.recordDeparture (now subject : Nat) (t : Tun) : Tun :=
  { t with plane := { t.plane with
    departures := (t.plane.departures.filter fun d => d.1 != subject && decide (now < d.2 + unitsPerMs)) ++ [(subject, now)] } }

/-- The notices a Tun that learned of the departure on its own link sends (10 R388 steps 2 and 3). -/
def Tun.sendNotices (now subject scope : Nat) (incarn : Byte) (t : Tun) : Tun :=
  let near := t.attached false
  let far := if 192 ≤ subject then t.otherTuns else []
  (near ++ far).foldl (fun t d => t.originate now (noticePacket d subject scope incarn)) t

/-- A FENCE_NOTICE is forwarded to the Tun's annex devices (10 R388). -/
def Tun.forwardNotice (now subject scope : Nat) (incarn : Byte) (t : Tun) : Tun :=
  (t.attached true).foldl (fun t d => t.originate now (noticePacket d subject scope incarn)) t

end Sys2Proof.Machine
end

