-- ==== Sys2Proof/Machine/CmdCore.lean ====
section
/-! DEFINITION. The shared operations of Brewmaster: queues and rings (13 R495-R537), contexts and their Wort shares, effective
priority, unit awards and kills, semaphores, outstanding requests (chapter 14), and host writes (18 R718-R723). -/

namespace Sys2Proof.Machine
open Sys2Proof

def Tun.modBm (f : Bm → Bm) (t : Tun) : Tun := { t with bm := f t.bm }

def Tun.queue (t : Tun) (q : Nat) : Queue := Tab.get {} t.bm.queues q
def Tun.modQueue (q : Nat) (f : Queue → Queue) (t : Tun) : Tun :=
  t.modBm fun b => { b with queues := b.queues.set {} q (f (t.queue q)) }

def Tun.ring (t : Tun) (r : Nat) : Ring := Tab.get {} t.bm.rings r
def Tun.modRing (r : Nat) (f : Ring → Ring) (t : Tun) : Tun :=
  t.modBm fun b => { b with rings := b.rings.set {} r (f (t.ring r)) }

def Tun.ctx (t : Tun) (c : Nat) : Ctx := Tab.get {} t.bm.ctxs c
def Tun.modCtx (c : Nat) (f : Ctx → Ctx) (t : Tun) : Tun :=
  t.modBm fun b => { b with ctxs := b.ctxs.set {} c (f (t.ctx c)) }

def Tun.sem (t : Tun) (n : Nat) : Sem := Tab.get {} t.bm.sems n
def Tun.modSem (n : Nat) (f : Sem → Sem) (t : Tun) : Tun :=
  t.modBm fun b => { b with sems := b.sems.set {} n (f (t.sem n)) }

def Tun.cmd (t : Tun) (id : Nat) : Option Cmd := t.bm.cmds.find? (·.id == id)
def Tun.modCmd (id : Nat) (f : Cmd → Cmd) (t : Tun) : Tun :=
  t.modBm fun b => { b with cmds := b.cmds.map fun c => if c.id = id then f c else c }
def Tun.removeCmd (id : Nat) (t : Tun) : Tun := t.modBm fun b => { b with cmds := b.cmds.filter (·.id != id) }

/-! ### Queues and rings -/

/-- Descriptor slots of a queue; the admin queue's depth is 256 (13 Table 13-1). -/
def queueDepth (q : Nat) (k : Queue) : Nat := if q = 0 then 256 else 2 ^ k.log2.toNat

def Queue.held (k : Queue) : Nat := (k.p - k.c).toNat

def queueFree (q : Nat) (k : Queue) : Nat := queueDepth q k - 1 - k.held

def Ring.depth (r : Ring) : Nat := 2 ^ r.log2.toNat
def Ring.unconsumed (r : Ring) : Nat := (r.tail - r.head).toNat

/-- Reservations held on a ring by commands started or staged (13 R519). -/
def Tun.reservations (t : Tun) (r : Nat) : Nat :=
  (t.bm.cmds.filter fun c => (t.queue c.queue).cring.toNat == r).foldl (fun n c => n + c.reserved) 0

/-- Records free beyond reservations (13 R520). -/
def Tun.ringFree (t : Tun) (r : Nat) : Nat :=
  (t.ring r).depth - 1 - ((t.ring r).unconsumed + t.reservations r)

/-- A producer doorbell (13 R505, Table 13-3). -/
def Tun.producerDoorbell (q : Nat) (i : Half) (t : Tun) : Tun :=
  let k := t.queue q
  let n := (i - k.p).toNat
  let f := queueFree q k
  if ¬ k.valid ∨ n = 0 then t
  else if n ≤ f then t.modQueue q fun k => { k with p := i }
  else if n < 32768 then
    t.modQueue q fun k => { k with p := k.p + BitVec.ofNat 16 f, overrun := true, overrunCount := satInc k.overrunCount }
  else t.modBm fun b => { b with dbStale := satInc b.dbStale }

/-- A head doorbell (13 R521). -/
def Tun.headDoorbell (r : Nat) (i : Half) (t : Tun) : Tun :=
  let k := t.ring r
  let n := (i - k.head).toNat
  let a := k.unconsumed
  if ¬ k.valid ∨ n = 0 then t
  else if n ≤ a then t.modRing r fun k => { k with head := i }
  else if n < 32768 then t.modRing r fun k => { k with head := k.tail, overrun := true }
  else t.modBm fun b => { b with dbStale := satInc b.dbStale }

/-! ### Wort (14 R542-R544) -/

def blockSize : Nat := 2097152

/-- Bytes of a context's usable share (14 R543). -/
def Ctx.usable (c : Ctx) : Nat := (c.share.toNat - c.proof.toNat) * blockSize

def Ctx.inUsable (c : Ctx) (off len : Nat) : Bool := decide (off + len ≤ c.usable)

/-- Wort byte address of a share offset (14 R542). -/
def Ctx.wortAddr (c : Ctx) (off : Nat) : Nat := c.blocks.getD (off / blockSize) 0 * blockSize + off % blockSize

def Tun.wortByte (t : Tun) (a : Nat) : Byte := Tab.get 0 t.bm.wort a

def Tun.shareRead (t : Tun) (c off len : Nat) : List Byte :=
  (List.range len).map fun i => t.wortByte ((t.ctx c).wortAddr (off + i))

/-- A unit of the range is poisoned (19 R739). -/
def Tun.sharePoison (t : Tun) (c off len : Nat) : Bool :=
  (List.range len).any fun i => Tab.get false t.bm.poison ((t.ctx c).wortAddr (off + i) / 64)

/-- One byte at a Wort address. A whole unit written clears or sets its poison; the caller says which (19 R739). -/
def Tun.wortSet (a : Nat) (b : Byte) (t : Tun) : Tun := t.modBm fun m => { m with wort := m.wort.set 0 a b }

def Tun.shareWrite (c off : Nat) (bs : List Byte) (t : Tun) : Tun :=
  let x := t.ctx c
  (List.range bs.length).foldl (fun t i => t.wortSet (x.wortAddr (off + i)) (byteAt bs i)) t

/-- Poison of every unit the range touches: set by poisoned data; cleared where a whole unit is written with good data. -/
def Tun.shareMark (c off len : Nat) (p : Bool) (t : Tun) : Tun :=
  let x := t.ctx c
  let us := (List.range ((off + len + 63) / 64 - off / 64)).map (off / 64 + ·)
  us.foldl (fun t u =>
    let whole := decide (off ≤ 64 * u) && decide (64 * u + 64 ≤ off + len)
    if p || whole then t.modBm fun m => { m with poison := m.poison.set false (x.wortAddr (64 * u) / 64) p } else t) t

/-- A write of bytes to a share, with or without poison. -/
def Tun.shareStore (c off : Nat) (bs : List Byte) (p : Bool) (t : Tun) : Tun :=
  (t.shareWrite c off bs).shareMark c off bs.length p

/-! ### Host memory (18 R718-R720) -/

/-- PCIe function of a context: the VF of its slot (18 R718); queue 0 uses the PF. -/
def Tun.fnOf (t : Tun) (c : Nat) : Option Nat := (t.ctx c).slot.map (· + 1)

/-- The context that holds a slot. -/
def Tun.slotCtx (t : Tun) (s : Nat) : Option Nat := (t.bm.ctxs.entries.find? fun e => e.2.slot == some s).map (·.1)

/-- The function may reach host memory (18 R712, R719, R720). -/
def Tun.hostReach (t : Tun) (fn : Nat) : Bool :=
  let h := t.host
  h.busMaster.getLsbD fn && !h.d3hot.getLsbD fn && (fn == 0 || (h.vfEnable && (t.slotCtx (fn - 1)).isSome))

/-- A read of host memory by a function is sent; else it fails (18 R719). With HOST_LOST set no request is sent (18 R733). -/
def Tun.hostReads (t : Tun) (fn : Option Nat) : Bool :=
  t.host.linkUp && !t.host.lost && (match fn with | some f => t.hostReach f | none => false)

/-- A posted write, or its discard (18 R720). -/
def Tun.hostWrite (fn : Option Nat) (addr : Nat) (bs : List Byte) (poison : Bool) (t : Tun) : Tun :=
  match fn with
  | some f =>
    if t.hostReach f && !t.host.lost then t.emit (.hostWrite f addr bs poison)
    else { t with host := { t.host with discard := satInc t.host.discard } }
  | none => { t with host := { t.host with discard := satInc t.host.discard } }

/-- An MSI-X message of a function's vector: a masked vector only sets its pending bit, with HOST_LOST set too (18 R723, R733,
assumption 188, DEDUCED). -/
def Tun.msi (fn : Option Nat) (vector : Nat) (t : Tun) : Tun :=
  match fn with
  | none => t
  | some f =>
    if ¬ t.host.msixEnable.getLsbD f ∨ t.host.d3hot.getLsbD f ∨ (f ≠ 0 ∧ ¬ t.host.vfEnable) then t
    else
      let k := f * 1024 + vector
      if t.host.masked.contains k then
        (if t.host.pendingBits.contains k then t else { t with host := { t.host with pendingBits := t.host.pendingBits ++ [k] } })
      else if t.host.lost then t
      else t.emit (.hostMsi f vector)

/-! ### Completion records (13 R514-R525) -/

/-- Function a host ring's writes carry (18 R718). -/
def Tun.ringFn (t : Tun) (r : Ring) : Option Nat := if r.function = 0 then some 0 else t.fnOf r.ctx.toNat

/-- PHASE at a ring index (13 R516). -/
def Ring.phase (r : Ring) (i : Nat) : Bool := i / r.depth % 2 == 0

/-- A record's 32 bytes with PHASE in bit 7 of byte 31. -/
def withPhase (bs : List Byte) (ph : Bool) : List Byte :=
  bs.take 31 ++ [(byteAt bs 31 &&& 0x7F) ||| (if ph then 0x80 else 0)]

/-- Writes one 32-byte record or extension into the slot of index `i` of a ring (13 R516, R518). -/
def Tun.putAt (now : Nat) (k : Ring) (i : Nat) (bs : List Byte) (t : Tun) : Tun :=
  let b := withPhase bs (k.phase i)
  let a := k.addr.toNat + 32 * (i % k.depth)
  if k.endpoint then
    t.originate now { type := tyCpl, cls := clIndigo, channel := k.channel, pkey := (t.ctx k.ctx.toNat).pkey, ctx := k.ctx,
                      dst := k.dest.setWidth 12, addr := BitVec.ofNat 64 a, len := 32, payload := b }
  else if k.split then (t.hostWrite (t.ringFn k) a (b.take 24) false).hostWrite (t.ringFn k) (a + 24) (b.drop 24) false
  else t.hostWrite (t.ringFn k) a b false

/-- Writes a record at the tail of a ring (13 R516-R518, R522). -/
def Tun.putSlot (now r : Nat) (bs : List Byte) (t : Tun) : Tun :=
  let k := t.ring r
  (t.modRing r fun k => { k with tail := k.tail + 1 }).putAt now k k.tail.toNat bs

/-- The 32 bytes of an extension record (13 R515). -/
def extBytes (ext : List Byte) : List Byte := (ext ++ List.replicate 32 0).take 31 ++ [0]

/-- Writes a record and its extension: the extension first, so that it is visible before the PHASE of its primary (13 R517). -/
def Tun.putPair (now r : Nat) (bs ext : List Byte) (t : Tun) : Tun :=
  let k := t.ring r
  ((t.modRing r fun k => { k with tail := k.tail + 2 }).putAt now k (k.tail + 1).toNat (extBytes ext)).putAt now k k.tail.toNat bs

/-- Writes a record with its extension, if it has one. -/
def Tun.putRecord (now r : Nat) (bs ext : List Byte) (t : Tun) : Tun :=
  if ext.isEmpty then t.putSlot now r bs else t.putPair now r bs ext

/-- Ring slots a record takes (13 R519). -/
def slotsOf (ext : List Byte) : Nat := if ext.isEmpty then 1 else 2

/-- Bytes of a completion record (13 Table 13-6), PHASE clear. -/
def recordBytes (tag : Dword) (status sqHead : Half) (queue op : Nat) (r0 : Dword) (r1 : BitVec 48) (ext : Bool) : List Byte :=
  let w1 := status.toNat * 2 ^ 48 + sqHead.toNat * 2 ^ 32 + queue % 1024 * 2 ^ 22 + op % 256
  let w3 := (if ext then 2 ^ 62 else 0) + r1.toNat
  bytesLE 8 tag.toNat ++ bytesLE 8 w1 ++ bytesLE 8 r0.toNat ++ bytesLE 8 w3

/-- Descriptor fields of word 0 (13 Table 13-4). -/
def descWord0 (d : List Byte) : Dword := BitVec.ofNat 64 (leAt d 0 8)
def descTag (d : List Byte) : Dword := BitVec.ofNat 64 (leAt d 8 8)
def Cmd.word0 (c : Cmd) : Dword := descWord0 c.desc
def Cmd.waitSem (c : Cmd) : Option Nat := if c.word0.getLsbD 16 then some (c.word0.extractLsb' 40 12).toNat else none
def Cmd.signalSem (c : Cmd) : Option Nat := if c.word0.getLsbD 17 then some (c.word0.extractLsb' 52 12).toNat else none
def Cmd.order (c : Cmd) : Bool := c.word0.getLsbD 18
def Cmd.quiet (c : Cmd) : Bool := c.word0.getLsbD 19
def Cmd.killNote (c : Cmd) : Bool := c.word0.getLsbD 20
def Cmd.interrupt (c : Cmd) : Bool := c.word0.getLsbD 21

/-- Opcodes that write extension records (13 Table 13-8). -/
def extOp (op : Nat) : Bool := op == 0x36 || op == 0x47

/-- Writes a command's record, with its extension (13 R515, R517, R523). A timed command's record is
held while its ring is full (R533). -/
def Tun.writeRecord (now : Nat) (c : Cmd) (status : Half) (r0 : Dword) (r1 : BitVec 48) (ext : List Byte) (t : Tun) : Tun :=
  let k := t.queue c.queue
  let r := k.cring.toNat
  let b := recordBytes (descTag c.desc) status k.c c.queue c.op r0 r1 (!ext.isEmpty)
  let t := t.bump 5 1 c.queue
  if c.timed && (decide (t.ringFree r < slotsOf ext) || t.bm.held.any (·.ring == r)) then
    t.modBm fun m => { m with held := m.held ++ [{ ring := r, interrupt := c.interrupt, bytes := b, ext := ext }] }
  else
    let t := t.putRecord now r b ext
    let g := t.ring r
    if c.interrupt && !g.endpoint && g.intEn then t.msi (t.ringFn g) g.vector.toNat else t

/-! ### Effective priority (14 R553, R573) -/

/-- Target of a semaphore (14): its holder if a LOCK, its OWNER if a COUNT at 0. -/
def Sem.target (s : Sem) : Option Nat := if s.mode = 1 then s.holder else if s.mode = 2 ∧ s.count = 0 then s.owner else none

/-- Commands waiting at check 8 on a semaphore. -/
def Tun.semWaiters (t : Tun) (n : Nat) : List Cmd := t.bm.cmds.filter fun c => c.phase == .waitSem && c.waitSem == some n

/-- Effective priority of a context: its PRIORITY and what it inherits from commands waiting on semaphores it is the target
of, through at most `fuel` semaphores, `skip` left out (14 R573). -/
def Tun.effFrom (t : Tun) (skip : Option Nat) : Nat → Nat → Nat
  | 0, c => (t.ctx c).priority.toNat
  | n + 1, c =>
    let sems := (t.bm.cmds.filter fun k => k.phase == .waitSem).filterMap fun k =>
      match k.waitSem with
      | some s => if k.queue ≠ 0 ∧ skip ≠ some s ∧ (t.sem s).target = some c ∧ k.ctx ≠ c then some k.ctx else none
      | none => none
    sems.foldl (fun m w => max m (Tun.effFrom t skip n w)) (t.ctx c).priority.toNat

def Tun.eff (t : Tun) (c : Nat) : Nat := t.effFrom none 16 c

/-- The priority a command competes at (14 R553); queue 0 has no context and lends no priority (13 R497). -/
def Tun.effOf (t : Tun) (k : Cmd) : Nat := if k.queue = 0 then 0 else t.eff k.ctx

/-- Context a command acts for on semaphores: none for queue 0 (13 R497). -/
def Cmd.holder (k : Cmd) : Option Nat := if k.queue = 0 then none else some k.ctx

/-- Inheritance through a semaphore is in force, so its lease runs (14 R573). -/
def Tun.leaseActive (t : Tun) (n : Nat) : Bool :=
  match (t.sem n).target with
  | some c => (t.semWaiters n).any fun k => k.queue != 0 && k.ctx != c && decide (t.effFrom (some n) 16 c < t.eff k.ctx)
  | none => false

/-! ### Units (13 R526 check 9, 14 R554-R557, Table 12-4) -/

def mashUnits : List Nat := List.range 8
def cellarUnits : List Nat := [0x08]
def steepUnits : List Nat := (List.range 16).map (0x10 + ·)
def pourUnits : List Nat := [0x20, 0x21]
def lauterUnits : List Nat := [0x28, 0x29]
def gristUnits : List Nat := [0x30, 0x31, 0x32, 0x33]

/-- Every unit of the kind of a unit. -/
def kindOf (u : Nat) : List Nat :=
  if u < 8 then mashUnits else if u = 8 then cellarUnits else if u < 0x20 then steepUnits
  else if u < 0x28 then pourUnits else if u < 0x30 then lauterUnits else gristUnits

/-- Units named by a step or binding of the running Recipe (12 R471). -/
def Sched.recipeUnits (s : Sched) : List Nat :=
  if s.plane = .running ∨ s.plane = .stopping then
    match s.loaded with
    | some r =>
      r.steps.map (fun w => (w.extractLsb' 42 8).toNat) ++
        r.bindings.flatMap (fun w => (List.range 8).filter fun n => (w.extractLsb' 28 8).getLsbD n)
    | none => []
  else []

/-- Queues named by a step of the Recipe that runs: only its steps start their descriptors (13 R531). -/
def Sched.stepQueues (s : Sched) : List Nat :=
  if s.plane = .running ∨ s.plane = .stopping then
    match s.loaded with
    | some r => r.steps.map fun w => (w.extractLsb' 24 10).toNat
    | none => []
  else []

def Cmd.running (c : Cmd) : Bool := c.phase == .started || c.phase == .staged

/-- Units in use by started commands, timed steps and bindings. -/
def Tun.busyUnits (t : Tun) : List Nat :=
  (t.bm.cmds.filter Cmd.running).flatMap (·.units) ++ t.sched.runSteps.map (·.unit) ++
    t.sched.runBinds.flatMap fun b => (List.range 8).filter b.2.getLsbD

/-- Units of a list that are free: not in use, and not named by the running Recipe. -/
def Tun.freeOf (t : Tun) (us : List Nat) : List Nat :=
  us.filter fun u => !(t.busyUnits.contains u) && !(t.sched.recipeUnits.contains u)

/-- Units of one kind for a command: for Grist, Lauter and Pour first those that last ran its context (14 Table 14-4). -/
def Tun.pickKind (t : Tun) (c : Cmd) (extra : List Nat) (w : Nat × List Nat) : Option (List Nat) :=
  let free := t.freeOf w.2 ++ w.2.filter extra.contains
  let free := w.2.filter free.contains
  let order := if 0x20 ≤ w.2.headD 0 then
      (free.filter fun u => Tab.get 0 t.bm.lastCtx u == c.ctx + 1) ++ (free.filter fun u => Tab.get 0 t.bm.lastCtx u != c.ctx + 1)
    else free
  if w.1 ≤ order.length then some (order.take w.1) else none

/-- The units awarded to a command, `extra` counted as free; `none` when a kind falls short. -/
def Tun.pickUnits (t : Tun) (c : Cmd) (extra : List Nat) : Option (List Nat) :=
  c.wants.foldl (fun r w => match r, t.pickKind c extra w with | some us, some vs => some (us ++ vs) | _, _ => none) (some [])

/-- Proof space taken by started commands of a context (14 R558). -/
def Tun.proofUsed (t : Tun) (c : Nat) : Nat :=
  (t.bm.cmds.filter fun k => k.ctx == c && k.running).foldl (fun n k => n + k.bound) 0

def Tun.startedOf (t : Tun) (q : Nat) : Nat := (t.bm.cmds.filter fun k => k.queue == q && k.running).length
def Tun.started (t : Tun) : Nat := (t.bm.cmds.filter Cmd.running).length

/-- Free space of a stream (17 R682). -/
def TStream.free (x : TStream) : Nat := 2 ^ x.log2.toNat - (x.tail - x.head).toNat

/-- A stream has room for a bound; a stream that is not open holds nothing up (17 R682, R708). -/
def Tun.streamRoom (t : Tun) (n bound : Nat) : Bool :=
  let x := Tab.get {} t.token.streams n
  !x.isOpen || decide (bound ≤ x.free)

/-- Service states in which Brewmaster starts commands of every queue (05 Table 05-11). -/
def Tun.startsCommands (t : Tun) : Bool :=
  (t.svc.state == .pale || t.svc.state == .full) && t.svc.hold == .none_

/-- Admin opcodes that Table 05-11 answers in DRAINING: context definition and residency, RECIPE_LOAD, and BREW_START, which its
checks refuse there (05 R170, R171). -/
def drainOp (op : Nat) : Bool := (decide (0x10 ≤ op) && decide (op ≤ 0x14)) || op == 0x20 || op == 0x22

/-- A command of the queue with the opcode may be fetched and started now (05 R168, Table 05-11). -/
def Tun.startsOp (t : Tun) (q op : Nat) : Bool :=
  t.startsCommands || (t.svc.state == .draining && t.svc.hold == .none_ && q == 0 && drainOp op)

/-- Limits other than the unit that hold a command at check 9 (13 Table 13-1, Table 13-7, 14 R558), and the service state (05 R168). An
earlier command of the same queue that waits starts first (13 R527, 14 R559); a command that waits in a queue of the running Recipe's
steps starts at its slot (13 Table 13-11). -/
def Tun.mayStart (t : Tun) (c : Cmd) : Bool :=
  t.startsOp c.queue c.op && !(t.sched.stepQueues.contains c.queue) && decide (t.startedOf c.queue < 64) && decide (t.started < 1024) &&
    (c.queue == 0 || decide (t.proofUsed c.ctx + c.bound ≤ (t.ctx c.ctx).proof.toNat * blockSize)) &&
    !(t.bm.cmds.any fun k => k.queue == c.queue && decide (k.id < c.id) && !k.running) &&
    decide ((if extOp c.op then 2 else 1) ≤ t.ringFree (t.queue c.queue).cring.toNat + c.reserved) &&
    (c.streamNeeds.all fun n => t.streamRoom n.1 n.2) &&
    (match c.lstate with
     | some l => !(t.bm.cmds.any fun k => k.running && k.ctx == c.ctx && k.lstate == some l)
     | none => true)

/-- Bound slots of a context (17 R666). -/
def Tun.bindsOf (t : Tun) (c : Nat) : List (Nat × Nat × Nat × Nat) :=
  (List.range 16).filterMap fun i =>
    let b := Tab.get {} t.token.slots (c * 16 + i)
    if b.kind = 0 then none else some (i, b.kind, b.off, b.len)

/-- A command starts: it takes its units and its reservations (13 R519) and the bindings it runs with (17 R667). -/
def Tun.startCmd (c : Cmd) (us : List Nat) (t : Tun) : Tun :=
  let n := t.bm.starts
  let t := t.modBm fun b => { b with starts := b.starts + 1 }
  let t := if c.queue = 0 then t else t.modCtx c.ctx fun x => { x with lastStart := n + 1 }
  let t := us.foldl (fun t u => t.modBm fun b => { b with lastCtx := b.lastCtx.set 0 u (c.ctx + 1) }) t
  let t := if us.isEmpty then t else t.modBm fun b => { b with lastAward := b.lastAward.set 0 (t.eff c.ctx) (c.queue + 1) }
  t.modCmd c.id fun c => { c with
    phase := .started, units := us, startedAt := n, reserved := if extOp c.op then 2 else 1, binds := t.bindsOf c.ctx }

/-! ### Kills (14 R556, R559, R562) -/

/-- Releases the request entries of a command; they are not reused for REMOTE_TIMEOUT (14 R562). -/
def Tun.releaseEntries (id : Nat) (t : Tun) : Tun :=
  let mine := (t.bm.outstanding.filter fun o => o.cmd == some id).map (·.entry)
  t.modBm fun b => { b with outstanding := b.outstanding.filter (fun o => o.cmd != some id), released := b.released ++ mine }

/-- A context's generation advances (14 R559, R566, 04 Table 04-6). -/
def Tun.genAdvance (n : Nat) (t : Tun) : Tun := t.modCtx n fun x => { x with gen := x.gen + 1 }

/-- Pull-mode collectives (15 Table 15-5). -/
def collOp (op : Nat) : Bool := decide (0x43 ≤ op) && decide (op ≤ 0x47)

/-- Commands that hold an instance place of a group: pull-mode collectives and SAMPLE_STEP (15 R602, 17 R701). -/
def pullOp (op : Nat) : Bool := collOp op || op == 0x66

/-- What every kill does but for the generation: unit stopped, staged outputs discarded, entries released (14 R559). What landed for
an instance stays, and so do the chunks a collective has Racked (15 R609), each with its marks. -/
def Tun.killWork (c : Cmd) (t : Tun) : Tun :=
  let t := t.releaseEntries c.id
  let t := c.units.foldl (fun t u => t.bump 4 2 u) t
  let t := t.modBm fun b => { b with kills := satInc b.kills }
  let t := { t with sched := { t.sched with runSteps := t.sched.runSteps.filter (·.cmd != c.id) } }
  t.modCmd c.id fun c => { c with
    units := [], plan := [], planned := false, fetches := [], tables := [], batch := [], effects := [],
    forfeit := pullOp c.op && c.forfeit, poisoned := collOp c.op && c.progress != 0 && c.poisoned }

/-- What every kill of one command does (14 R559). -/
def Tun.killCmd (c : Cmd) (t : Tun) : Tun := (if c.queue = 0 then t else t.genAdvance c.ctx).killWork c

/-- A pre-emption or CTX_KILL MODE 0: the command will re-run; with KILL_NOTE a KILLED record is written into a released
reservation (13 R530, 14 R559). -/
def Tun.killRerun (now : Nat) (c : Cmd) (t : Tun) : Tun :=
  let t := t.killCmd c
  let t := t.modCmd c.id fun c => { c with phase := .waitUnit, reserved := 0, timed := false }
  if c.killNote then t.writeRecord now c 0x0101 0 0 [] else t

/-- Killable by pre-emption: running, not a PUSH_COLLECTIVE, its units not named by the running Recipe (14 R556). -/
def Tun.killable (t : Tun) (c : Cmd) : Bool :=
  c.running && c.op != 0x48 && !c.units.isEmpty && c.units.all fun u => !(t.sched.recipeUnits.contains u)

/-- Commands a waiter may pre-empt, the first to go first: of a kind it lacks, of lower effective priority, the lowest first and
the most recently started among equals (14 R555). -/
def Tun.victims (t : Tun) (w : Cmd) : List Cmd :=
  let short := w.wants.filter fun k => (t.pickKind w [] k).isNone
  let cs := t.bm.cmds.filter fun c => t.killable c && (c.units.any fun u => short.any fun k => k.2.contains u) &&
    decide (t.eff c.ctx < t.eff w.ctx)
  let first (a b : Cmd) : Bool :=
    decide (t.eff a.ctx < t.eff b.ctx) || (t.eff a.ctx == t.eff b.ctx && decide (b.startedAt < a.startedAt))
  cs.foldl (fun l c => l.takeWhile (fun x => first x c) ++ c :: l.dropWhile (fun x => first x c)) []

/-- The shortest run of victims that frees the units the waiter wants; none when all of them do not (15 R598). -/
def Tun.killSet (t : Tun) (w : Cmd) : Option (List Cmd) :=
  let vs := t.victims w
  ((List.range (vs.length + 1)).map (vs.take ·)).find? fun ks => (t.pickUnits w (ks.flatMap (·.units))).isSome

/-! ### Arbitration (14 R554, R555) -/


/-- Order of two waiters: higher effective priority first, then rotation of queue numbers after the queue last awarded at that
priority, then age (14 R554). -/
def Tun.before (t : Tun) (a b : Cmd) : Bool :=
  let pa := t.effOf a
  let pb := t.effOf b
  let turn (p : Nat) (q : Nat) := (q + 1024 - Tab.get 0 t.bm.lastAward p) % 1024
  if pa ≠ pb then decide (pb < pa)
  else if turn pa a.queue ≠ turn pb b.queue then decide (turn pa a.queue < turn pb b.queue)
  else decide (a.id < b.id)

/-- The first of the waiters that may start and is not in `tried`. -/
def Tun.nextWaiter (t : Tun) (tried : List Nat) : Option Cmd :=
  let ws := t.bm.cmds.filter fun c => c.phase == .waitUnit && !(tried.contains c.id) && t.mayStart c
  ws.foldl (fun best c => match best with | none => some c | some b => if t.before c b then some c else some b) none

/-- One arbitration decision over the waiting commands, highest first (14 R554, R555). `fuel` bounds the waiters. -/
def Tun.arbitrateN (now : Nat) : Nat → List Nat → Tun → Tun
  | 0, _, t => t
  | n + 1, tried, t =>
    match t.nextWaiter tried with
    | none => t
    | some w =>
      match t.pickUnits w [] with
      | some us => Tun.arbitrateN now n tried (t.startCmd w us)
      | none =>
        match t.killSet w with
        | none => Tun.arbitrateN now n (w.id :: tried) t
        | some ks =>
          let t := ks.foldl (fun t v => t.killRerun now v) t
          let t := match t.pickUnits w [] with
            | some us => t.startCmd w us
            | none => t
          Tun.arbitrateN now n (ks.map (·.id) ++ tried) t

def Tun.arbitrate (now : Nat) (t : Tun) : Tun :=
  if t.serving then t.arbitrateN now t.bm.cmds.length [] else t

/-! ### Semaphores (14 R570-R576) -/

/-- A semaphore is available (14 R571). -/
def Sem.available (s : Sem) : Bool := (s.mode == 1 && s.holder.isNone) || (s.mode == 2 && s.count != 0)

/-- The waiter a semaphore is granted to: highest effective priority, earliest among equals (14 R571). -/
def Tun.semNext (t : Tun) (n : Nat) : Option Cmd :=
  (t.semWaiters n).foldl (fun best c =>
    match best with
    | none => some c
    | some b => if t.effOf b < t.effOf c ∨ (t.effOf b = t.effOf c ∧ c.id < b.id) then some c else some b) none

/-- Takes an available semaphore for a context (14 R571); queue 0 has none to be the holder of a LOCK. -/
def Tun.semTake (n : Nat) (c : Option Nat) (t : Tun) : Tun :=
  t.modSem n fun s => if s.mode = 1 then { s with holder := c } else { s with count := s.count - 1 }

/-- Grants an available semaphore to its next waiter, if any; `notice` marks a forced grant (14 R571, R574). -/
def Tun.semGrant (n : Nat) (notice : Bool) (t : Tun) : Tun :=
  if ¬ (t.sem n).available then t else
  match t.semNext n with
  | some c => (t.semTake n c.holder).modCmd c.id fun c => { c with semHeld := true, phase := .waitUnit, notice := c.notice || notice }
  | none => t

/-- A release in Racking by context `c` (14 R572). -/
def Tun.semRelease (n : Nat) (c : Option Nat) (t : Tun) : Tun :=
  let s := t.sem n
  let misuse (t : Tun) := t.modBm fun b => { b with semMisuse := satInc b.semMisuse }
  if s.mode = 1 then
    if s.holder.isSome ∧ s.holder = c then (t.modSem n fun s => { s with holder := none }).semGrant n false else misuse t
  else if s.mode = 2 then
    if s.count = 0xFFFF then misuse t else (t.modSem n fun s => { s with count := s.count + 1 }).semGrant n false
  else t

/-- A forced release (14 R574, R576). -/
def Tun.semForce (n : Nat) (t : Tun) : Tun :=
  (t.modSem n fun s => if s.mode = 1 then { s with holder := none } else { s with count := satInc s.count }).semGrant n true

/-- LOCKs a context holds. -/
def Tun.locksOf (t : Tun) (c : Nat) : List Nat :=
  (t.bm.sems.entries.filter fun e => e.2.mode == 1 && e.2.holder == some c).map (·.1)

/-! ### Completion -/

/-- Status shown where a command would complete with OK (12 R460, R472, 14 R574, 19 R740). -/
def Cmd.okStatus (c : Cmd) (st : Half) : Half :=
  if st ≠ 0 ∧ st ≠ 1 then st
  else if c.forfeit then 0x0703
  else if c.overrun then 0x0705
  else if c.poisoned then 0x0013
  else if c.notice then 1
  else st

/-- Distance of an instance ahead of a group's oldest one not completed, modulo 1,024 (15 R602). -/
def Group.ahead (g : Group) (n : Nat) : Nat := (n + 1024 - g.oldest) % 1024

def Group.completed (g : Group) (n : Nat) : Bool := decide (512 ≤ g.ahead n) || g.done.contains n

/-- Moves the oldest instance on past those completed. -/
def Group.advance : Nat → Group → Group
  | 0, g => g
  | k + 1, g =>
    if g.done.contains g.oldest then
      Group.advance k { g with oldest := (g.oldest + 1) % 1024, done := g.done.filter (· != g.oldest) }
    else g

/-- An instance is completed: its state goes and the oldest one moves on (15 R602). -/
def Group.finishInst (n : Nat) (g : Group) : Group :=
  let g := { g with places := g.places.filter (·.inst != n), done := if g.completed n then g.done else g.done ++ [n] }
  g.advance g.done.length

def Tun.group (t : Tun) (n : Nat) : Option Group := (t.mash.groups.find? fun e => e.1 == n).map (·.2)

def Tun.modGroup (n : Nat) (f : Group → Group) (t : Tun) : Tun :=
  { t with mash := { t.mash with groups := t.mash.groups.map fun e => if e.1 = n then (n, f e.2) else e } }

/-- Group and INSTANCE a command names (15 Table 15-6, 17 Table 17-7). -/
def Cmd.groupNo (c : Cmd) : Nat := leAt c.desc 16 2 % 4096
def Cmd.instanceNo (c : Cmd) : Nat := leAt c.desc (if c.op = 0x66 then 44 else 60) 2 % 1024

/-- A command that ends leaves its instance completed. -/
def Tun.instDone (c : Cmd) (t : Tun) : Tun :=
  if pullOp c.op && c.running then t.modGroup c.groupNo (Group.finishInst c.instanceNo) else t

/-- Ends a command with a record, unless it is QUIET and OK (13 R519); then an arbitration decision follows (14 R554). -/
def Tun.finishCmd (now : Nat) (c : Cmd) (status : Half) (r0 : Dword) (r1 : BitVec 48) (ext : List Byte) (t : Tun) : Tun :=
  let t := ((t.instDone c).releaseEntries c.id).removeCmd c.id
  let t := c.units.foldl (fun t u => t.bump 4 1 u) t
  let t := { t with sched := { t.sched with
    runSteps := t.sched.runSteps.filter (·.cmd != c.id), runBinds := t.sched.runBinds.filter (·.1 != c.id) } }
  let t := if c.quiet && status == 0 then t.bump 5 1 c.queue else t.writeRecord now c status r0 r1 ext
  t.arbitrate now

/-- A command that fails by itself gives back the semaphore it had acquired (13 R528, assumption 35, DEDUCED). -/
def Tun.semGiveBack (c : Cmd) (t : Tun) : Tun :=
  match c.semHeld, c.waitSem with
  | true, some n => t.semRelease n c.holder
  | _, _ => t

/-- Ends a command with a failure: no effect outside its record (13 R528). -/
def Tun.failWith (now : Nat) (c : Cmd) (status : Half) (r0 : Dword) (t : Tun) : Tun :=
  (t.semGiveBack c).finishCmd now c status r0 0 []

def Tun.failCmd (now : Nat) (c : Cmd) (status : Half) (t : Tun) : Tun := t.failWith now c status 0

/-- Completes a command whose outputs, if any, are published: its semaphore release and its record (14 R561). -/
def Tun.completeExt (now : Nat) (c : Cmd) (status : Half) (r0 : Dword) (r1 : BitVec 48) (ext : List Byte) (t : Tun) : Tun :=
  let t := match c.signalSem with
    | some n => t.semRelease n c.holder
    | none => t
  t.finishCmd now c (c.okStatus status) r0 r1 ext

def Tun.completeNow (now : Nat) (c : Cmd) (status : Half) (r0 : Dword) (r1 : BitVec 48) (t : Tun) : Tun :=
  t.completeExt now c status r0 r1 []

/-- Commands of a context that are started and not complete. -/
def Tun.runningOf (t : Tun) (c : Nat) : List Cmd := t.bm.cmds.filter fun k => k.ctx == c && k.queue != 0 && k.running


/-- A PUSH_COLLECTIVE of the context is started and not complete (14 R565, R567). -/
def Tun.pushActive (t : Tun) (c : Nat) : Bool := (t.runningOf c).any (·.op == 0x48)

/-- Marks a started command's outputs staged, with the status and results Racking will publish. -/
def Tun.stage (id : Nat) (status : Half) (r0 : Dword) (r1 : BitVec 48) (effects : List Effect) (t : Tun) : Tun :=
  t.modCmd id fun c => { c with phase := .staged, status := status, result0 := r0, result1 := r1, effects := effects }

/-! ### Outstanding requests (14 R562, R563) -/

/-- The lowest free entry of the 4,096 (14 R562). -/
def Tun.freeEntry (t : Tun) : Option Nat :=
  (List.range 4096).find? fun e => !(t.bm.outstanding.any (·.entry == e)) && !(t.bm.released.contains e)

/-- Function of a command's SPACE 1 requests: the PF for queue 0, the VF of its context's slot otherwise (18 R718). -/
def Tun.cmdFn (t : Tun) (c : Cmd) : Option Nat := if c.queue = 0 then some 0 else t.fnOf c.ctx

/-- Issues the next read of a command's plan: data at hand counts as answered, a host read goes to the host port (18 R718), a
remote one takes an entry (10 R361, 14 R562). Without a free entry nothing is issued. A host read that cannot be sent waits for
its failure. -/
def Tun.issueNext (now id : Nat) (t : Tun) : Tun :=
  match t.cmd id with
  | none => t
  | some c =>
    let i := c.fetches.length
    let add (f : Fetch) (t : Tun) := t.modCmd id fun c => { c with fetches := c.fetches ++ [f] }
    match c.plan[i]? with
    | none => t
    | some p =>
      match p.ready with
      | some bs => add { entry := 0, host := false, dst := 0, data := some bs, poison := p.poison } t
      | none =>
        if p.host then
          let u := add { entry := i, host := true, dst := 0 } t
          if t.hostReads (t.cmdFn c) then u.emit (.hostRead ((id + 1) * 65536 + i) ((t.cmdFn c).getD 0) p.addr p.len) else u
        else match t.freeEntry with
          | none => t
          | some e =>
            let x := t.ctx c.ctx
            let g : BitVec 4 := x.gen.setWidth 4
            let q : Packet := { type := tyReadReq, cls := p.cls, channel := p.channel, dst := BitVec.ofNat 12 p.dst, dstKind := p.dstKind,
                                addr := BitVec.ofNat 64 p.addr, len := BitVec.ofNat 13 p.len, tag := (g ++ BitVec.ofNat 12 e : Half),
                                ctx := BitVec.ofNat 8 c.ctx, pkey := x.pkey }
            let d := ((t.translate q).map (·.dst.toNat)).getD p.dst
            let t := t.modBm fun b => { b with
              outstanding := b.outstanding ++ [{ entry := e, ctx := c.ctx, gen := g, cmd := some id, dst := d, atomic := false }] }
            (add { entry := e, host := false, dst := d } t).originate now q

def Tun.issueN (now id : Nat) : Nat → Tun → Tun
  | 0, t => t
  | n + 1, t => Tun.issueN now id n (t.issueNext now id)

/-- Issues as many of a command's remaining reads as the table takes. -/
def Tun.issueReads (now id : Nat) (t : Tun) : Tun :=
  match t.cmd id with
  | some c => t.issueN now id (c.plan.length - c.fetches.length)
  | none => t

/-- Sets a command's plan of reads and issues them. -/
def Tun.planReads (now id : Nat) (ps : List Piece) (t : Tun) : Tun :=
  (t.modCmd id fun c => { c with plan := ps, planned := true, fetches := [] }).issueReads now id

/-- Every read of a command's plan is answered. -/
def Cmd.fetched (c : Cmd) : Bool := c.planned && c.fetches.length == c.plan.length && c.fetches.all (·.data.isSome)

/-- Tag of the reads that fetch mask `unit` for a SAMPLE_STEP (17 R690). -/
def maskTag (unit : Nat) : Nat := 4096 + unit

/-- The entry is that of a mask read: its failure skips entries and does not end the command (17 R703). -/
def Cmd.maskRead (c : Cmd) (entry : Nat) : Bool :=
  c.op == 0x66 && (List.zip c.plan c.fetches).any fun (x : Piece × Fetch) =>
    x.2.entry == entry && !x.2.host && x.2.data.isNone && decide (4096 ≤ x.1.tag)

/-- A mask cannot be read. -/
def Tun.maskFail (id entry : Nat) (st : Half) (t : Tun) : Tun :=
  let t := t.modCmd id fun c => { c with
    fetches := c.fetches.map fun f => if f.entry = entry ∧ f.data.isNone ∧ ¬ f.host then { f with data := some [], fail := st } else f }
  t.modBm fun b => { b with outstanding := b.outstanding.filter (·.entry != entry), released := b.released ++ [entry] }

/-- Bytes the plan's reads returned, each with its answer's poison. -/
def Cmd.fetchedP (c : Cmd) : List (Byte × Bool) := c.fetches.flatMap fun f => (f.data.getD []).map fun b => (b, f.poison)

end Sys2Proof.Machine
end

