-- ==== Sys2Proof/Machine/Num.lean ====
section
/-! DEFINITION. The arithmetic of Mash, Tap, Steep and Pour (15 R589-R594): the float formats, exact conversion to binary32,
rounding to nearest with ties to even, the operators, and LSE records. -/

namespace Sys2Proof.Machine
open Sys2Proof

/-- A float value: not a number, an infinity, or plus or minus `man` times 2^`exp`. -/
inductive Fp where
  | nan
  | inf (neg : Bool)
  | fin (neg : Bool) (man : Nat) (exp : Int)
deriving DecidableEq, Repr

/-- A binary float format: exponent and mantissa widths; E4M3 has no infinity and saturates (15 R590, R591). -/
structure FpFmt where
  ebits : Nat
  mbits : Nat
  sat : Bool := false
deriving DecidableEq, Repr

def fmt32 : FpFmt := { ebits := 8, mbits := 23 }
def fmt16 : FpFmt := { ebits := 5, mbits := 10 }
def fmtBf16 : FpFmt := { ebits := 8, mbits := 7 }
def fmtE4m3 : FpFmt := { ebits := 4, mbits := 3, sat := true }
def fmtE5m2 : FpFmt := { ebits := 5, mbits := 2 }

def FpFmt.bias (f : FpFmt) : Nat := 2 ^ (f.ebits - 1) - 1

/-- Exponent of the least significant bit of a subnormal. -/
def FpFmt.qmin (f : FpFmt) : Int := 1 - (f.bias : Int) - f.mbits

def FpFmt.signBit (f : FpFmt) : Nat := 2 ^ (f.ebits + f.mbits)

/-- Quiet NaN of the format (15 R591). -/
def FpFmt.qnan (f : FpFmt) : Nat :=
  if f.sat then 2 ^ (f.ebits + f.mbits) - 1
  else if f = fmtE5m2 then 0x7F
  else (2 ^ f.ebits - 1) * 2 ^ f.mbits + 2 ^ (f.mbits - 1)

/-- The value of an encoding (15 R590, IEEE 754). -/
def FpFmt.decode (f : FpFmt) (x : Nat) : Fp :=
  let neg := decide (f.signBit ≤ x % (2 * f.signBit))
  let e := x / 2 ^ f.mbits % 2 ^ f.ebits
  let m := x % 2 ^ f.mbits
  if f.sat ∧ e = 2 ^ f.ebits - 1 ∧ m = 2 ^ f.mbits - 1 then .nan
  else if ¬ f.sat ∧ e = 2 ^ f.ebits - 1 then (if m = 0 then .inf neg else .nan)
  else if e = 0 then .fin neg m f.qmin
  else .fin neg (2 ^ f.mbits + m) (f.qmin + e - 1)

/-- `a` times 2^`e` as a fraction. -/
def scaleNum (a : Nat) (e : Int) : Nat := a * 2 ^ e.toNat
def scaleDen (d : Nat) (e : Int) : Nat := d * 2 ^ (-e).toNat

/-- floor(log2 (n / d)), for n and d above 0. -/
def floorLog2 (n d : Nat) : Int :=
  let k : Int := (Nat.log2 n : Int) - Nat.log2 d
  if scaleDen n k < scaleNum d k then k - 1 else k

/-- n / d rounded to the nearest whole number, ties to even. -/
def roundEven (n d : Nat) : Nat :=
  let q := n / d
  let r := 2 * (n % d)
  if r < d then q else if d < r then q + 1 else if q % 2 = 0 then q else q + 1

/-- Encoding of plus or minus (n / d) times 2^e, rounded once to the format (15 R591). -/
def FpFmt.round (f : FpFmt) (neg : Bool) (n d : Nat) (e : Int) : Nat :=
  let s := if neg then f.signBit else 0
  if n = 0 then s else
  let n := scaleNum n e
  let d := scaleDen d e
  let q := max (floorLog2 n d - f.mbits) f.qmin
  let r := roundEven (scaleDen n q) (scaleNum d q)
  let b := (q - f.qmin).toNat * 2 ^ f.mbits + r
  let top := (2 ^ f.ebits - 1) * 2 ^ f.mbits
  if f.sat then s + min b (top + 2 ^ f.mbits - 2) else s + min b top

/-- Encoding of a value in the format (15 R591). -/
def FpFmt.encode (f : FpFmt) : Fp → Nat
  | .nan => f.qnan
  | .inf neg =>
    let s := if neg then f.signBit else 0
    if f.sat then s + (2 ^ (f.ebits + f.mbits) - 2) else s + (2 ^ f.ebits - 1) * 2 ^ f.mbits
  | .fin neg m e => f.round neg m 1 e

/-! ### binary32 -/

def fval (x : Word) : Fp := fmt32.decode x.toNat
def fword (v : Fp) : Word := BitVec.ofNat 32 (fmt32.encode v)
def fround (neg : Bool) (n d : Nat) (e : Int) : Word := BitVec.ofNat 32 (fmt32.round neg n d e)

def fnan : Word := 0x7FC00000
def fposInf : Word := 0x7F800000
def fnegInf : Word := 0xFF800000

/-- The signed whole number a finite value is at exponent `e`. -/
def fixAt (e : Int) (neg : Bool) (m : Nat) (x : Int) : Int :=
  let v : Int := m * 2 ^ (x - e).toNat
  if neg then -v else v

/-- Exact sum of two values; zeros of opposite sign, and a sum that cancels, give +0. -/
def fpAdd : Fp → Fp → Fp
  | .nan, _ => .nan
  | _, .nan => .nan
  | .inf a, .inf b => if a = b then .inf a else .nan
  | .inf a, _ => .inf a
  | _, .inf b => .inf b
  | .fin a m x, .fin b n y =>
    let e := min x y
    let v := fixAt e a m x + fixAt e b n y
    if v = 0 then .fin (a && b) 0 0 else .fin (decide (v < 0)) v.natAbs e

def fpNeg : Fp → Fp
  | .nan => .nan
  | .inf a => .inf (!a)
  | .fin a m e => .fin (!a) m e

/-- Exact product of two values. -/
def fpMul : Fp → Fp → Fp
  | .nan, _ => .nan
  | _, .nan => .nan
  | .inf a, .inf b => .inf (a != b)
  | .inf a, .fin b n _ => if n = 0 then .nan else .inf (a != b)
  | .fin a m _, .inf b => if m = 0 then .nan else .inf (a != b)
  | .fin a m x, .fin b n y => .fin (a != b) (m * n) (x + y)

def fadd (a b : Word) : Word := fword (fpAdd (fval a) (fval b))
def fsub (a b : Word) : Word := fword (fpAdd (fval a) (fpNeg (fval b)))
def fmul (a b : Word) : Word := fword (fpMul (fval a) (fval b))

/-- Quotient in binary32. -/
def fdiv (a b : Word) : Word :=
  match fval a, fval b with
  | .nan, _ => fnan
  | _, .nan => fnan
  | .inf _, .inf _ => fnan
  | .inf s, .fin t _ _ => fword (.inf (s != t))
  | .fin s _ _, .inf t => fword (.fin (s != t) 0 0)
  | .fin s m x, .fin t n y =>
    if n = 0 then (if m = 0 then fnan else fword (.inf (s != t))) else fround (s != t) m n (x - y)

/-- a < b on numbers, with -0 below +0 (15 R593). -/
def fpLt : Fp → Fp → Bool
  | .nan, _ => false
  | _, .nan => false
  | .inf a, .inf b => a && !b
  | .inf a, _ => a
  | _, .inf b => !b
  | .fin a m x, .fin b n y =>
    let e := min x y
    let v := fixAt e a m x
    let w := fixAt e b n y
    decide (v < w) || (decide (v = w) && a && !b && m == 0)

def flt (a b : Word) : Bool := fpLt (fval a) (fval b)
def fisNan (a : Word) : Bool := fval a == .nan

/-- Comparison of numbers, zeros of either sign equal. -/
def fzero (a : Word) : Bool := a == 0 || a == 0x80000000
def fltNum (a b : Word) : Bool := flt a b && !(fzero a && fzero b)

def fmax (a b : Word) : Word := if fisNan a || fisNan b then fnan else if flt a b then b else a
def fmin (a b : Word) : Word := if fisNan a || fisNan b then fnan else if flt b a then b else a

/-- e^x (15 R594): e^0 is 1 and e^-infinity is 0, as the identity record needs; elsewhere the value within the bound is open. -/
def fexp (x : Word) : Word :=
  if fisNan x then fnan else if x = 0 ∨ x = 0x80000000 then 0x3F800000 else if x = fnegInf then 0
  else if x = fposInf then fposInf else Config.exp32 x

/-! ### Types (15 Table 15-2) -/

/-- Bytes of one element; `dim` is LSE_DIM. -/
def typeSize (ty dim : Nat) : Nat :=
  if ty = 0 ∨ ty = 5 then 4 else if ty = 1 ∨ ty = 2 then 2 else if ty = 3 ∨ ty = 4 then 1
  else if ty = 6 then 8 + 4 * dim else 8 + 2 * dim

def typeFmt (ty : Nat) : FpFmt :=
  if ty = 1 then fmt16 else if ty = 2 then fmtBf16 else if ty = 3 then fmtE4m3 else if ty = 4 then fmtE5m2 else fmt32

/-- An element read exactly into binary32; INT32 keeps its bits (15 R591). -/
def elemIn (ty : Nat) (bs : List Byte) : Word :=
  if ty = 5 then BitVec.ofNat 32 (natLE bs) else fword ((typeFmt ty).decode (natLE bs))

/-- A binary32 result converted to the type (15 R591). -/
def elemOut (ty : Nat) (x : Word) : List Byte :=
  if ty = 5 then bytesLE 4 x.toNat else bytesLE (typeSize ty 0) ((typeFmt ty).encode (fval x))

/-- One step of an operator on two elements (15 R592, R593); MAX and MIN of INT32 compare two's complement numbers. -/
def combine2 (op : Nat) (int : Bool) (a b : Word) : Word :=
  if op = 4 then a &&& b else if op = 5 then a ||| b else if op = 6 then a ^^^ b
  else if op = 0 then (if int then a + b else fadd a b)
  else if op = 1 then (if int then (if a.slt b then b else a) else fmax a b)
  else (if int then (if b.slt a then b else a) else fmin a b)

/-- Left fold of an operator over the members' values, from member 0's value (15 R593). -/
def combineAll (op : Nat) (int : Bool) : List Word → Word
  | [] => 0
  | x :: xs => xs.foldl (combine2 op int) x

/-! ### LSE records (15 R594) -/

/-- A log-sum-exp record: its maximum, its sum and its vector. -/
structure Lse where
  m : Word
  s : Word
  v : List Word
deriving DecidableEq, Repr

def lseIn (ty dim : Nat) (bs : List Byte) : Lse :=
  let k := if ty = 6 then 4 else 2
  { m := BitVec.ofNat 32 (leAt bs 0 4), s := BitVec.ofNat 32 (leAt bs 4 4),
    v := (List.range dim).map fun i => elemIn (if ty = 6 then 0 else 2) ((bs.drop (8 + k * i)).take k) }

def lseOut (ty : Nat) (r : Lse) : List Byte :=
  bytesLE 4 r.m.toNat ++ bytesLE 4 r.s.toNat ++ r.v.flatMap fun x => elemOut (if ty = 6 then 0 else 2) x

def lseMerge (a b : Lse) : Lse :=
  let m := fmax a.m b.m
  if m = fnegInf then { m := fnegInf, s := 0, v := a.v.map fun _ => 0 }
  else
    let ea := fexp (fsub a.m m)
    let eb := fexp (fsub b.m m)
    { m := m, s := fadd (fmul a.s ea) (fmul b.s eb), v := List.zipWith (fun x y => fadd (fmul x ea) (fmul y eb)) a.v b.v }

def lseFinal (fin_ : Bool) (r : Lse) : Lse :=
  if fin_ && flt 0 r.s && !(fzero r.s) then { r with v := r.v.map fun x => fdiv x r.s } else r

def lseAll (dim : Nat) : List Lse → Lse
  | [] => { m := fnegInf, s := 0, v := List.replicate dim 0 }
  | x :: xs => xs.foldl lseMerge x

end Sys2Proof.Machine
end

