-- ==== Sys2Proof/Machine/CollBase.lean ====
section
/-! DEFINITION. A collective's operands, striping and notices (15 R586, R595-R601): what ending one needs. -/

namespace Sys2Proof.Machine
open Sys2Proof

/-- Operands of a collective (15 Table 15-6). -/
structure Coll where
  group : Nat
  gen : Byte
  oper : Nat
  inTy : Nat
  outTy : Nat
  deliver : Nat
  notify : Nat
  final : Bool
  root : Nat
  dim : Nat
  chunk : Nat
  src : Nat
  dst : Dword
  count : Nat
  cap : Nat
  inst : Nat
  pushOp : Nat
deriving DecidableEq, Repr

def collOf (d : List Byte) : Coll :=
  let m := byteAt d 22
  { group := leAt d 16 2 % 4096, gen := byteAt d 18, oper := (byteAt d 19).toNat, inTy := (byteAt d 20).toNat,
    outTy := (byteAt d 21).toNat, deliver := (m.extractLsb' 4 2).toNat, notify := (m.extractLsb' 0 2).toNat,
    final := (byteAt d 23).getLsbD 0, root := leAt d 24 2, dim := leAt d 26 2, chunk := leAt d 28 4, src := leAt d 32 8,
    dst := BitVec.ofNat 64 (leAt d 40 8), count := leAt d 48 8, cap := leAt d 56 4, inst := leAt d 60 2 % 1024,
    pushOp := (byteAt d 62).toNat }

/-- The operation a command performs: PUSH_OP of a PUSH_COLLECTIVE. -/
def Coll.op (f : Coll) (opcode : Nat) : Nat := if opcode = 0x48 then f.pushOp else opcode

def lseType (ty : Nat) : Bool := ty == 6 || ty == 7

/-- First granule and number of granules of position `k` of `n` granules over `t` Tuns. -/
def stripeOf (n t k : Nat) : Nat × Nat := if t = 0 then (0, 0) else (k * (n / t) + min k (n % t), n / t + (if k < n % t then 1 else 0))

def bitCount (w : Word) : Nat := ((List.range 32).filter w.getLsbD).length

/-- Position of this Tun among the bits of a TUN_MASK. -/
def Tun.maskPos (t : Tun) (w : Word) : Nat := ((List.range (t.number - 192)).filter w.getLsbD).length

def Tun.stripe (t : Tun) (w : Word) (n : Nat) : Nat × Nat := stripeOf n (bitCount w) (t.maskPos w)

/-- Number of the Tun at position `k` of a TUN_MASK. -/
def maskTun (w : Word) (k : Nat) : Nat := 192 + ((List.range 32).filter w.getLsbD).getD k 0

/-- Elements of output in all, and elements of a granule; an all-to-all counts 64-byte pieces of a slot (15 R586, R595). -/
def Coll.outElems (f : Coll) (op m : Nat) : Nat := if op = 0x45 then m * f.count else if op = 0x47 then f.cap / 64 else f.count
def Coll.granElems (f : Coll) (op : Nat) : Nat := if op = 0x47 then 1 else if lseType f.outTy then 8 else 1024

def Coll.granules (f : Coll) (op m : Nat) : Nat :=
  let g := f.granElems op
  (f.outElems op m + g - 1) / g

def Coll.inSize (f : Coll) : Nat := typeSize f.inTy f.dim
def Coll.outSize (f : Coll) : Nat := typeSize f.outTy f.dim

def up64 (n : Nat) : Nat := (n + 63) / 64 * 64

/-- Bytes of one granule of output (15 R586): for an all-to-all, 64 bytes of each slot of each member. -/
def Coll.granBytes (f : Coll) (op m : Nat) : Nat := if op = 0x47 then 64 * m * m else f.granElems op * f.outSize

/-- Granules this Tun owns of a collective. -/
def Tun.ownGranules (t : Tun) (g : Group) (f : Coll) (op : Nat) : Nat × Nat :=
  t.stripe g.tunMask (f.granules op g.members.length)

/-- Output elements this Tun owns: from, to. -/
def Tun.ownElems (t : Tun) (g : Group) (f : Coll) (op : Nat) : Nat × Nat :=
  let s := t.ownGranules g f op
  let n := f.granElems op
  (s.1 * n, min ((s.1 + s.2) * n) (f.outElems op g.members.length))

/-- Bytes of input per member and of output in a member's window (15 Table 15-5). -/
def Coll.inBytes (f : Coll) (op m : Nat) : Nat := if op = 0x47 then up64 (4 * m) else f.count * f.inSize
def Coll.outBytes (f : Coll) (op m : Nat) : Nat :=
  if op = 0x47 then up64 (4 * m) + m * f.cap
  else if op = 0x44 then f.count / m * f.outSize
  else f.outElems op m * f.outSize

/-- Input bytes a member must give for output elements `a` to `b` (15 Table 15-5): (member, from, to). For an all-to-all these are
the bytes of its length table; its blocks follow from that. -/
def Coll.needs (f : Coll) (op m a b : Nat) : List (Nat × Nat × Nat) :=
  let z := f.inSize
  if a = b then []
  else if op = 0x47 then (List.range m).map fun i => (i, 0, 4 * m)
  else if op = 0x46 then [(f.root, a * z, b * z)]
  else if op = 0x45 then (List.range m).filterMap fun i =>
    let lo := max a (i * f.count)
    let hi := min b ((i + 1) * f.count)
    if lo < hi then some (i, (lo - i * f.count) * z, (hi - i * f.count) * z) else none
  else (List.range m).map fun i => (i, a * z, b * z)

/-- ADDR of a group's CONTRIB or RESULT packet (15 Table 15-7). -/
def groupAddr (gn gen kind inst off : Nat) : Dword :=
  BitVec.ofNat 64 (gn % 4096 * 2 ^ 52 + gen % 256 * 2 ^ 44 + kind % 4 * 2 ^ 42 + inst % 1024 * 2 ^ 32 + off % 2 ^ 32)

def groupPacket (t : Tun) (g : Group) (ty : BitVec 6) (dst : Nat) (addr : Dword) (bs : List Byte) : Packet :=
  { type := ty, cls := clAmber, channel := g.channel, dst := BitVec.ofNat 12 dst, addr := addr, len := BitVec.ofNat 13 bs.length,
    pkey := (t.ctx g.ctx).pkey, ctx := BitVec.ofNat 8 g.ctx, payload := bs }

/-- A CHUNK_DONE (kind 1) or DONE (kind 2) notice (15 R601). -/
def Tun.notice (now : Nat) (gn : Nat) (g : Group) (inst kind dst : Nat) (gen : Byte) (through : Nat) (st : Half) (t : Tun) : Tun :=
  t.originate now (groupPacket t g tyResult dst (groupAddr gn gen.toNat kind inst 0)
    (bytesLE 4 through ++ halfBytes st ++ [BitVec.ofNat 8 (t.number - 192), 0]))

/-- Endpoint members that receive output (15 Table 15-6 DELIVER). -/
def Coll.receivers (f : Coll) (g : Group) : List Nat :=
  let eps := (List.range g.members.length).filter fun i => !((g.members[i]?).map (·.tun)).getD true
  if f.deliver = 0 then eps else if f.deliver = 1 then eps.filter (· == f.root) else []

def Group.idOf (g : Group) (m : Nat) : Nat := ((g.members[m]?).map (·.id)).getD 0

/-- Members a DONE notice is due to: those that receive output and those whose input this Tun needs (15 R605, R608). -/
def Tun.doneDue (t : Tun) (g : Group) (f : Coll) (op : Nat) : List Nat :=
  let e := t.ownElems g f op
  let ins := (f.needs op g.members.length e.1 e.2).map (·.1)
  (List.range g.members.length).filter fun i =>
    !((g.members[i]?).map (·.tun)).getD true && (ins.contains i || (f.receivers g).contains i)

/-- DONE notices under NOTIFY at a command's end (15 R605, R609). `keep` names the IDs that still get one. -/
def Tun.doneNotices (now : Nat) (c : Cmd) (g : Group) (st : Half) (keep : List Nat) (t : Tun) : Tun :=
  let f := collOf c.desc
  if f.notify = 0 ∨ (t.ownGranules g f (f.op c.op)).2 = 0 then t else
  ((t.doneDue g f (f.op c.op)).filter fun m => keep.contains (g.idOf m)).foldl (fun t m =>
    t.notice now f.group g f.inst 2 (g.idOf m) f.gen (c.progress + 2 ^ 32 - 1) st) t

/-- RESULT0 and RESULT1 of a started command's record when it ends otherwise than by its own work: of a collective the chunks Racked
and the granules owned (15 R599). -/
def Tun.endResults (t : Tun) (c : Cmd) : Dword × BitVec 48 :=
  if collOp c.op ∨ c.op = 0x48 then
    let f := collOf c.desc
    (BitVec.ofNat 64 c.progress,
      match t.group f.group with | some g => BitVec.ofNat 48 (t.ownGranules g f (f.op c.op)).2 | none => 0)
  else (0, 0)

/-- Ends a PUSH_COLLECTIVE with its record, whose RESULT0 counts the ranges produced (15 R599, R612); its DONE notices follow. A kill
that reached its context meanwhile ends it with its own status (14 R569). -/
def Tun.pushEnd (now : Nat) (c : Cmd) (st : Half) (t : Tun) : Tun :=
  let st := c.abort.getD st
  let r := t.endResults c
  let t := { t with mash := { t.mash with tiles := t.mash.tiles.filter (·.cmd != c.id) } }
  let t := if st = 0 then t.completeNow now c st r.1 r.2 else (t.semGiveBack c).finishCmd now c st r.1 r.2 []
  match t.group (collOf c.desc).group with
  | some (g : Group) => t.doneNotices now c g st (g.members.map fun (m : Member) => m.id)
  | none => t

/-- Kills without re-run every running command of a context but a PUSH_COLLECTIVE, on which the kill acts when it completes
(14 R569). The generation advances once for them all (14 R566, 04 Table 04-6). -/
def Tun.abortAll (now c : Nat) (status : Half) (t : Tun) : Tun :=
  (t.runningOf c).foldl (fun t k =>
    if k.op = 0x48 then t.modCmd k.id fun k => { k with abort := some status }
    else
      let r := t.endResults k
      (t.killWork k).finishCmd now { k with units := [] } status r.1 r.2 []) (t.genAdvance c)

end Sys2Proof.Machine
end

