-- ==== Sys2Proof/Machine/SchedCore.lean ====
section
/-! DEFINITION. The shared operations of the scheduled plane (chapter 12): Recipe records and load checks, circuits, Brew
alignment, and the plane state machine. -/

namespace Sys2Proof.Machine
open Sys2Proof

def Tun.modSched (f : Sched → Sched) (t : Tun) : Tun := { t with sched := f t.sched }

/-! ### Recipe records (12 Table 12-3) -/

def recNat (w : Dword) (lsb n : Nat) : Nat := (w.extractLsb' lsb n).toNat

def cirSlot (w : Dword) : Nat := recNat w 50 14
def cirKind (w : Dword) : Nat := recNat w 48 2
def cirIn (w : Dword) : Nat := recNat w 39 9
def cirOut (w : Dword) : Nat := recNat w 30 9
def cirPeer (w : Dword) : Nat := recNat w 20 10
def cirPackets (w : Dword) : Nat := recNat w 18 2
def spanFirst (w : Dword) : Nat := recNat w 50 14
def spanLast (w : Dword) : Nat := recNat w 36 14
def bindPipes (w : Dword) : Byte := w.extractLsb' 28 8
def bindCtx (w : Dword) : Nat := recNat w 20 8
def bindGroup (w : Dword) : Nat := recNat w 8 12
def stepUnit (w : Dword) : Nat := recNat w 42 8
def stepCtx (w : Dword) : Nat := recNat w 34 8
def stepQueue (w : Dword) : Nat := recNat w 24 10
def stepBudget (w : Dword) : Nat := recNat w 10 14
def resMask (w : Dword) : Byte := w.extractLsb' 28 8
def resTxn (w : Dword) : Nat := recNat w 0 11

/-- `n` records of 8 bytes. -/
def recordsOf : Nat → List Byte → List Dword
  | 0, _ => []
  | n + 1, bs => BitVec.ofNat 64 (leAt bs 0 8) :: recordsOf n (bs.drop 8)

/-- A Recipe read from an image whose counts have been checked (12 R477). -/
def Recipe.ofImage (im : List Byte) : Recipe :=
  let c := leAt im 0x0C 4
  let b := leAt im 0x10 2
  let s := leAt im 0x12 2
  let v := leAt im 0x14 2
  let rs := im.drop 64
  { id := BitVec.ofNat 64 (leAt im 0x18 8), digest := (im.drop 0x20).take 16,
    circuits := recordsOf c rs, bindings := recordsOf b (rs.drop (8 * c)), steps := recordsOf s (rs.drop (8 * (c + b))),
    reserves := recordsOf v (rs.drop (8 * (c + b + s))) }

/-! ### Load checks (12 Table 12-5) -/

/-- The slot fields are ascending. -/
def ascending : List Nat → Bool
  | a :: b :: r => decide (a ≤ b) && ascending (b :: r)
  | _ => true

/-- IMAGE_CRC over the image with its own field taken as 0 (12 Table 12-2). -/
def imageCrcOk (im : List Byte) : Bool :=
  (crc32c (im.take 0x3C ++ [0, 0, 0, 0] ++ im.drop 0x40)).toNat == leAt im 0x3C 4

def slotOk (s : Nat) : Bool := decide (s < 9920)
def spanOk (w : Dword) : Bool := slotOk (spanFirst w) && slotOk (spanLast w) && decide (spanFirst w ≤ spanLast w)

/-- Check 6. -/
def Recipe.slotsOk (r : Recipe) : Bool :=
  ascending (r.circuits.map cirSlot) && ascending (r.bindings.map spanFirst) && ascending (r.steps.map cirSlot) &&
    ascending (r.reserves.map spanFirst) && r.circuits.all (fun w => slotOk (cirSlot w)) && r.bindings.all spanOk &&
    r.reserves.all spanOk && r.steps.all fun w => slotOk (cirSlot w) && decide (1 ≤ stepBudget w) && decide (cirSlot w + stepBudget w ≤ 9920)

/-- Engine codes of Table 12-4 allowed in circuits and in steps. -/
def circuitEngine (asOut : Bool) (e : Nat) : Bool := decide (e < 8) || (asOut && e == 8)
def stepEngine (e : Nat) : Bool :=
  decide (e < 8) || (decide (0x10 ≤ e) && decide (e < 0x20)) || e == 0x20 || e == 0x21 || e == 0x28 || e == 0x29 ||
    (decide (0x30 ≤ e) && decide (e < 0x34))

/-- An endpoint or annex port present on the Tun. -/
def Tun.circuitPort (t : Tun) (id : Nat) : Bool := t.hasPort id && (isEndpointId id || isAnnexId id)

/-- Check 7. -/
def Tun.recipePortsOk (t : Tun) (r : Recipe) : Bool :=
  r.circuits.all (fun w =>
    cirKind w != 3 && (if cirKind w = 2 then circuitEngine false (cirIn w) else t.circuitPort (cirIn w)) &&
      (if cirKind w = 1 then circuitEngine true (cirOut w) else t.circuitPort (cirOut w))) &&
    r.steps.all (fun w => stepEngine (stepUnit w)) && r.reserves.all (fun w => (resMask w &&& ~~~t.asm.caskMask) == 0)

def Tun.widthOf (t : Tun) (id : Nat) : Nat := t.planWidth id (t.port id)

/-- Packets a circuit slot of a port may carry (12 Table 12-1). -/
def Tun.slotCapacity (t : Tun) (id : Nat) : Nat := if t.widthOf id = 4 then 2 else 1

/-- Packets of the circuits that use port `id` as input, or as output, in a slot. -/
def Recipe.slotLoad (r : Recipe) (out : Bool) (id slot : Nat) : Nat :=
  (r.circuits.filter fun w => cirSlot w == slot &&
    (if out then cirKind w != 1 && cirOut w == id else cirKind w != 2 && cirIn w == id)).foldl (fun n w => n + cirPackets w) 0

/-- Check 8. -/
def Tun.recipeLoadOk (t : Tun) (r : Recipe) : Bool :=
  r.circuits.all fun w =>
    (cirPackets w == 1 || cirPackets w == 2) &&
    (cirKind w == 2 || (decide (r.slotLoad false (cirIn w) (cirSlot w) ≤ t.slotCapacity (cirIn w)) &&
      (cirPackets w != 2 || t.widthOf (cirIn w) == 4))) &&
    (cirKind w == 1 || (decide (r.slotLoad true (cirOut w) (cirSlot w) ≤ t.slotCapacity (cirOut w)) &&
      (cirPackets w != 2 || t.widthOf (cirOut w) == 4)))

/-- Check 9: at each reservation's first slot, the reservations of a stack that cover it (12 R474). -/
def Recipe.reserveOk (r : Recipe) : Bool :=
  r.reserves.all fun w => decide (1 ≤ resTxn w) && (List.range 8).all fun n =>
    decide ((r.reserves.filter fun v => (resMask v).getLsbD n && decide (spanFirst v ≤ spanFirst w) && decide (spanFirst w ≤ spanLast v)).foldl
      (fun s v => s + resTxn v) 0 ≤ 1020)

/-- Check 10: in no 10 consecutive slots starting at one of an output's circuits more than 8 hold circuits (12 R483). -/
def Recipe.headroomOk (r : Recipe) : Bool :=
  r.circuits.all fun w => cirKind w == 1 ||
    decide (((List.range 10).filter fun d => r.slotLoad true (cirOut w) (cirSlot w + d) != 0).length ≤ 8)

def overlap (a b c d : Nat) : Bool := decide (a ≤ d) && decide (c ≤ b)

/-- `p` holds of every two records at different places. -/
def pairsOk (p : Dword → Dword → Bool) : List Dword → Bool
  | [] => true
  | w :: ws => ws.all (p w) && pairsOk p ws

/-- Check 11. -/
def Recipe.unitsOk (r : Recipe) : Bool :=
  let stepEnd (w : Dword) := cirSlot w + stepBudget w - 1
  pairsOk (fun a b => stepUnit a != stepUnit b || !(overlap (cirSlot a) (stepEnd a) (cirSlot b) (stepEnd b))) r.steps &&
    pairsOk (fun a b => (bindPipes a &&& bindPipes b) == 0 || !(overlap (spanFirst a) (spanLast a) (spanFirst b) (spanLast b))) r.bindings &&
    r.bindings.all fun b => r.steps.all fun s =>
      !(decide (stepUnit s < 8) && (bindPipes b).getLsbD (stepUnit s)) || !(overlap (spanFirst b) (spanLast b) (cirSlot s) (stepEnd s))

/-- Check 12. -/
def Tun.recipeCtxOk (t : Tun) (r : Recipe) : Bool :=
  r.bindings.all (fun w => (t.ctx (bindCtx w)).state != .undefined) &&
    r.steps.all fun w => (t.ctx (stepCtx w)).state != .undefined && (t.queue (stepQueue w)).valid &&
      (t.queue (stepQueue w)).ctx.toNat == stepCtx w

/-- Header checks 1 to 4: status and REASON of the first that fails. -/
def Tun.headerCheck (t : Tun) (im : List Byte) : Option (Half × Byte) :=
  let n := 64 + 8 * (leAt im 0x0C 4 + leAt im 0x10 2 + leAt im 0x12 2 + leAt im 0x14 2)
  let len := leAt im 0x08 4
  if 8388608 < len ∨ len ≠ n ∨ im.length ≠ len ∨ 64 < leAt im 0x10 2 ∨ 16384 < leAt im 0x12 2 ∨ 4096 < leAt im 0x14 2 then some (0x0704, 0x01)
  else if leAt im 0 4 ≠ 0x52435045 ∨ byteAt im 4 ≠ 1 then some (0x0704, 0x01)
  else if (byteAt im 5).toNat ≠ t.asm.code.toNat then some (0x00F1, 0x00)
  else if (byteAt im 6).toNat ≠ t.rack.plan.toNat ∨ ((byteAt im 7).extractLsb' 4 3).toNat ≠ t.row ∨
      ((byteAt im 7).extractLsb' 0 2).toNat ≠ t.col.num then some (0x0704, 0x02)
  else none

/-- Record checks 5 to 12. -/
def Tun.recordCheck (t : Tun) (im : List Byte) (r : Recipe) : Option (Half × Byte) :=
  if ¬ imageCrcOk im then some (0x0704, 0x03)
  else if ¬ r.slotsOk then some (0x0704, 0x04)
  else if ¬ t.recipePortsOk r then some (0x0704, 0x05)
  else if ¬ t.recipeLoadOk r then some (0x0704, 0x06)
  else if ¬ r.reserveOk then some (0x0704, 0x07)
  else if ¬ r.headroomOk then some (0x0704, 0x08)
  else if ¬ r.unitsOk then some (0x0704, 0x09)
  else if ¬ t.recipeCtxOk r then some (0x0704, 0x0A)
  else none

/-! ### Circuits (12 R456-R463) -/

/-- The Recipe in force: the loaded one while the plane runs. -/
def Sched.inForce (s : Sched) : Option Recipe := if s.plane = .running ∨ s.plane = .stopping then s.loaded else none

/-- A port that suspends its circuits: down, DEGRADED, RATE_HELD or generation 1 (12 R463, 21 Table 21-5). -/
def Tun.suspends (t : Tun) (id : Nat) : Bool :=
  let p := t.port id
  p.state != .active || p.rateHeld || p.genNow

def Tun.suspended (t : Tun) (w : Dword) : Bool :=
  (cirKind w != 2 && t.suspends (cirIn w)) || (cirKind w != 1 && t.suspends (cirOut w))

/-- CIRCUIT_SUSPENDED (12 R463). -/
def Tun.suspendedCount (t : Tun) : Nat :=
  match t.sched.inForce with
  | some r => (r.circuits.filter t.suspended).length
  | none => 0

/-- FORFEIT_LAST and SLOT_FORFEIT (12 R459, R462); for cause 7 PORT names the output port (assumption 182, DESIGN CHOICE). -/
def Tun.countForfeit (cause port slot : Nat) (t : Tun) : Tun :=
  t.modSched fun s => { s with
    slotForfeit := satInc s.slotForfeit, forfeitCause := BitVec.ofNat 4 cause, forfeitPort := BitVec.ofNat 9 port,
    forfeitSlot := BitVec.ofNat 14 slot }

/-- Why a circuit packet is forfeited, or its circuit (12 R456, R457, R459). `first` and `last` are the arrival of its first
and last bit relative to its slot's start, in timestamp units; the window is 2.5 to 97.5 ns, 64 to 2,496 units. -/
def Tun.circuitMatch (t : Tun) (port : Nat) (p : Packet) (first last : Int) : Except Nat Dword :=
  match t.sched.inForce with
  | none => .error 6
  | some r =>
    if first < 64 then .error 1
    else if 2496 < last then .error 2
    else match r.circuits.find? fun w => cirKind w != 2 && cirIn w == port && cirSlot w == p.slot.toNat with
      | none => .error 3
      | some w =>
        let dstOk := !p.dstKind && (if cirKind w = 1 then p.dst.toNat == t.number else p.dst.toNat == cirPeer w)
        if ¬ dstOk then .error 4
        else if t.suspended w then .error 5
        else .ok w

/-- The header of a forfeited packet (12 R459). -/
def forfeited (p : Packet) : Packet :=
  let slate := p.type == tyWrite || p.type == tyReadReq || p.type == tyReadResp || p.type == tyAtomicReq ||
    p.type == tyAtomicResp || p.type == tyMcastWrite
  { p with circuit := false, slot := 0, cls := if slate then clSlate else clAmber : Packet }.sealed

/-- Timestamp units of a slot, 100 ns, and of a Brew, 1 ms (12 R441). -/
def slotUnits : Nat := 2560
def brewUnits : Nat := 25600000

/-- Hold of a circuit on its output, relative to its slot's start: 140 ns to 240 ns for one from a port, the slot itself for one from an
engine (12 R461). -/
def circuitHold (w : Dword) : Int × Int := if cirKind w = 2 then (0, 2560) else (3584, 6144)

/-- Some circuit of the Recipe in force holds output `o` at a moment of `now` to `now + dur` (12 R461). -/
def Tun.circuitHolds (t : Tun) (now dur o : Nat) : Bool :=
  match t.sched.inForce with
  | none => false
  | some r => (r.circuits.filter fun w => cirKind w != 1 && cirOut w == o && !(t.suspended w)).any fun w =>
      [0, 1].any fun (k : Nat) =>
        let start : Int := t.sched.boundary + (k * brewUnits + slotUnits * cirSlot w : Nat)
        decide ((now : Int) < start + (circuitHold w).2) && decide (start + (circuitHold w).1 < (now : Int) + (max dur 1 : Nat))

/-! ### The brew-keeper (02 R53, R58-R62, 12 R830) -/

/-- The designation in force names this Tun and lies within the plan (02 R53, R61). -/
def Tun.isKeeper (t : Tun) : Bool :=
  t.rack.forceRow == t.rack.row && t.rack.forceCol.toNat == t.col.num && decide (t.rack.forceRow.toNat < t.trays)

/-- The core PLL is referenced to RACK_REFCLK: present, and no slew to or from it under way (04 R107, R108, Table 04-10). -/
def Tun.refOk (t : Tun) : Bool := t.clk.coreRef == .rack && t.clk.refPresent && !t.clk.slewing

/-- ALIGNED has just been set: the bring-up stage completes, or BREW_UNALIGNED clears (05 R158). -/
def Tun.alignComplete (t : Tun) : Tun :=
  { t with svc := { t.svc with alignDone := t.svc.alignDone || t.svc.aligning || t.svc.brewUnaligned, aligning := false,
                               brewUnaligned := false } }

/-- Sets or clears ALIGNED on the keeper as its designation and reference say (12 R830); `was` says that the Tun was the keeper
before the change at hand. -/
def Tun.keeperAlign (was : Bool) (t : Tun) : Tun :=
  if t.isKeeper then
    if t.refOk ∧ t.sched.counting then
      (if t.sched.aligned then t else (t.modSched fun s => { s with aligned := true }).alignComplete)
    else t.modSched fun s => { s with aligned := false }
  else if was then t.modSched fun s => { s with aligned := false, acquired := false }
  else t

/-- Keeper designation of the RACK_CONFIG fields (02 Table 02-5). -/
def Rack.heldRow (r : Rack) : BitVec 3 := if r.keeperOverride then r.keeperRow else 0
def Rack.heldCol (r : Rack) : BitVec 2 := if r.keeperOverride then r.keeperCol else 0

/-- The designation of the keeper fields comes into force; a Tun that was the keeper keeps its counter, boundary and ALIGNED, and
follows the new keeper's markers from then on (02 R58, R62). -/
def Tun.keeperTakes (t : Tun) : Tun :=
  (({ t with rack := { t.rack with forceRow := t.rack.heldRow, forceCol := t.rack.heldCol } }).modSched fun s => { s with
    acquired := s.acquired || s.aligned }).keeperAlign false

/-! ### Plane operations (12 R485-R492) -/

/-- A scheduled-plane operation completes: LAST_BREW_STATUS, and the record of the command that asked (12 Table 12-9). -/
def Tun.planeDone (now : Nat) (who : Issuer) (st : Half) (t : Tun) : Tun :=
  let t := t.modSched fun s => { s with lastStatus := st }
  match who with
  | .reg => t
  | .cmd id =>
    match t.cmd id with
    | some c => if st = 0 ∨ st = 1 then t.completeNow now c st 0 0 else t.failCmd now c st
    | none => t

/-- The recorded or armed BREW_START completes with a status; ARM_STATE and ARM_BREW return to 0. -/
def Tun.endStart (now : Nat) (st : Half) (t : Tun) : Tun :=
  if t.sched.startBrew.isSome then
    let who := t.sched.starter
    (t.modSched fun s => { s with startBrew := none, armState := 0, starter := .reg }).planeDone now who st
  else t

/-- What every release does (12 R486): holds end, bindings' commands complete with BREW_STOPPED, reservations lapse with the
Recipe no longer in force. -/
def Tun.releaseWork (now : Nat) (t : Tun) : Tun :=
  let bs := t.sched.runBinds
  let t := t.modSched fun s => { s with stopBrew := none, releaseDue := none, runBinds := [] }
  bs.foldl (fun t b => match t.cmd b.1 with | some c => t.pushEnd now c 0x070A | none => t) t

/-- A release that leaves the plane STOPPED and records a status, a recorded start included (12 R485, R487). -/
def Tun.releaseStopped (now : Nat) (st : Half) (t : Tun) : Tun :=
  if t.sched.plane = .stopped then t else
  let t := (t.modSched fun s => { s with plane := .stopped, lastStatus := st }).releaseWork now
  ((t.endStart now st).modSched fun s => { s with lastStatus := st }).arbitrate now

/-- RACK_REFCLK missing: NO_COMMON_CLOCK at once (12 Table 12-8, 04 R110). -/
def Tun.planeRelease (now : Nat) (t : Tun) : Tun := t.releaseStopped now 0x0701

/-- Contexts of the Recipe's bindings are resident and pinned (12 R488 check 9). -/
def Tun.bindingsReady (t : Tun) (r : Recipe) : Bool :=
  r.bindings.all fun w => (t.ctx (bindCtx w)).state == .resident && (t.ctx (bindCtx w)).pin

/-- The Recipe a BREW_START would arm (12 R488). -/
def Sched.toArm (s : Sched) : Option Recipe := if s.shadowValid then s.shadow else if s.storeBad then none else s.loaded

/-- The Recipe store read badly: both Recipes are marked not valid, and a plane that is not STOPPED is released at the next boundary
(19 Table 19-3). -/
def Tun.storeFails (t : Tun) : Tun :=
  t.modSched fun s => { s with
    shadowValid := false, storeBad := s.loaded.isSome, releaseDue := if s.plane = .stopped then s.releaseDue else some 0x0704 }

/-- First BREW_START check that fails (12 R488). -/
def Tun.startRefusal (t : Tun) (f : BitVec 48) : Option Half :=
  let s := t.sched
  let early : Bool := match s.stopBrew with
    | some b => decide (f.toNat < b.toNat + 16)
    | none => false
  if t.svc.state ≠ .full then some 0x0010
  else if ¬ t.refOk then some 0x0701
  else if t.trays ≤ t.rack.heldRow.toNat then some 0x00F1
  else if s.plane = .armed ∨ s.plane = .running ∨ (s.plane = .stopping ∧ (s.startBrew.isSome ∨ early)) then some 0x0706
  else if s.loading.isSome then some 0x070B
  else match s.toArm with
    | none => some 0x0708
    | some r =>
      if f.toNat < s.brew.toNat + 32 then some 0x0707
      else if ¬ s.aligned then some 0x0709
      else if ¬ t.bindingsReady r then some 0x0201
      else none

/-- BREW_START (12 R485, R488). -/
def Tun.brewStart (now : Nat) (who : Issuer) (f : BitVec 48) (t : Tun) : Tun :=
  match t.startRefusal f with
  | some st => t.planeDone now who st
  | none => t.keeperTakes.modSched fun s => { s with
      startBrew := some f, starter := who, armState := 1, plane := if s.plane = .stopping then .stopping else .armed }

/-- BREW_STOP (12 R485, R491). -/
def Tun.brewStop (now : Nat) (who : Issuer) (b : BitVec 48) (t : Tun) : Tun :=
  let s := t.sched
  let at_ := if b.toNat ≤ s.brew.toNat then s.brew + 1 else b
  match s.plane with
  | .stopped => t.planeDone now who 1
  | .armed => ((t.modSched fun s => { s with plane := .stopped }).endStart now 0x070A).planeDone now who 0
  | .running => (t.modSched fun s => { s with plane := .stopping, stopBrew := some at_ }).planeDone now who 0
  | .stopping => (t.endStart now 0x070A).planeDone now who 0

/-- SHADOW_DISCARD (12 R492). -/
def Tun.shadowDiscard (now : Nat) (who : Issuer) (t : Tun) : Tun :=
  if t.sched.startBrew.isSome then t.planeDone now who 0x0706
  else (t.modSched fun s => { s with shadowValid := false, shadow := none }).planeDone now who 0

/-- A RECIPE_LOAD ends: LOAD_STATUS and REASON, and the command's record (12 R479-R481, 13 Table 13-8). -/
def Tun.loadDone (now : Nat) (who : Issuer) (st : Half) (reason : Byte) (t : Tun) : Tun :=
  let t := t.modSched fun s => { s with loadStatus := st, loadReason := reason }
  let r0 : Dword := BitVec.ofNat 64 (st.toNat * 65536 + reason.toNat)
  match who with
  | .reg => t
  | .cmd id =>
    match t.cmd id with
    | some c => if st = 0 then t.completeNow now c 0 r0 0 else t.finishCmd now c st r0 0 []
    | none => t

/-- RECIPE_LOAD issued (12 R479, R481): the image is read through the host port. -/
def Tun.recipeLoad (now : Nat) (who : Issuer) (src : Dword) (t : Tun) : Tun :=
  let s := t.sched
  if s.loading.isSome then t.loadDone now who 0x070B 0
  else if s.startBrew.isSome then t.loadDone now who 0x0706 0
  else if ¬ t.hostReads (some 0) then ({ t with host := { t.host with readFail := satInc t.host.readFail } }).loadDone now who 0x0704 0x01
  else (t.modSched fun s => { s with loading := some who, loadSrc := src }).emit (.hostRead 0 0 src.toNat 64)

/-- The load's image has been read, or its read failed (12 R479, R480). -/
def Tun.recipeLoaded (now : Nat) (image : Option (List Byte)) (t : Tun) : Tun :=
  match t.sched.loading with
  | none => t
  | some who =>
    let t := t.modSched fun s => { s with loading := none }
    match image with
    | none => t.loadDone now who 0x0704 0x01
    | some im =>
      match t.headerCheck im with
      | some e => t.loadDone now who e.1 e.2
      | none =>
        let r := Recipe.ofImage im
        let t := t.modSched fun s => { s with shadow := some r, shadowValid := false }
        match t.recordCheck im r with
        | some e => t.loadDone now who e.1 e.2
        | none => (t.modSched fun s => { s with shadowValid := true }).loadDone now who 0 0

/-- A Recipe is RUNNING. -/
def Tun.recipeRuns (t : Tun) : Bool := t.sched.plane == .running || t.sched.plane == .stopping

/-- A circuit of the Recipe in force names the port. -/
def Tun.circuitNames (t : Tun) (id : Nat) : Bool :=
  match t.sched.inForce with
  | some r => r.circuits.any fun w => (cirKind w != 2 && cirIn w == id) || (cirKind w != 1 && cirOut w == id)
  | none => false

/-- Ports a Tun sends its marker on: every up fabric link, and while aligned and ARMED or RUNNING every up IN port of a circuit
of the Recipe it runs or will start (12 R446, R449, R454). No marker goes to a generation-1 port (21 R795). -/
def Tun.markPorts (t : Tun) : List Nat :=
  let s := t.sched
  let ins := if s.aligned ∧ (s.plane = .armed ∨ s.plane = .running) then
      let rs := (if s.startBrew.isSome then s.toArm.toList else []) ++ s.inForce.toList
      rs.flatMap fun r => (r.circuits.filter fun w => cirKind w != 2).map cirIn
    else []
  t.upPorts.filter fun id => (isFabricId id || ins.contains id) && !(t.port id).genNow

/-- A port that naps wakes when a Recipe that uses it for a circuit, or sends markers on it, runs (09 R344). -/
def Tun.wakeCircuits (now : Nat) (t : Tun) : Tun :=
  (t.portIds.filter fun id => t.circuitNames id || t.markPorts.contains id).foldl (fun t id => t.wakeTx now id) t

/-- Brew F begins on an ARMED plane (12 R485, R488). -/
def Tun.armedBegin (now : Nat) (t : Tun) : Tun :=
  let s := t.sched
  if s.plane ≠ .armed then t
  else if s.armState ≠ 1 then (t.modSched fun s => { s with plane := .stopped }).endStart now 0x0702
  else match s.toArm with
    | none => (t.modSched fun s => { s with plane := .stopped }).endStart now 0x0708
    | some r =>
      if ¬ t.bindingsReady r then (t.modSched fun s => { s with plane := .stopped }).endStart now 0x0201
      else ((t.modSched fun s => { s with
        plane := .running, loaded := some r, storeBad := false, shadow := if s.shadowValid then none else s.shadow,
        shadowValid := false }).wakeCircuits now).endStart now 0

/-- Entry to DRAINING: the plane stops at the next boundary (12 Table 12-8). -/
def Tun.planeDrain (t : Tun) : Tun :=
  if t.sched.plane = .running ∨ t.sched.plane = .stopping then t.modSched fun s => { s with releaseDue := some 0x070A } else t

/-! ### Alignment (12 R446-R453, R830) -/

/-- Alignment lost: ALIGNED clears and a running plane stops at the next boundary (12 R453). -/
def Tun.alignLost (t : Tun) : Tun :=
  let t := t.modSched fun s => { s with aligned := false, goodRun := 0, wideRun := 0 }
  if t.sched.plane = .running ∨ t.sched.plane = .stopping then t.modSched fun s => { s with releaseDue := some 0x0709 } else t

/-- BREW_MARK payload (09 Table 09-5). -/
def markPayload (brew : BitVec 48) (kRow kCol sRow sCol hops : Byte) (offset : Word) : List Byte :=
  bytesLE 6 brew.toNat ++ [kRow, kCol, sRow, sCol, hops, 0] ++ bytesLE 4 offset.toNat

/-- Sends the Tun's marker with its offset from its own boundary (12 R446, R449). -/
def Tun.sendMarks (now : Nat) (brew : BitVec 48) (kRow kCol hops : Byte) (t : Tun) : Tun :=
  let off := BitVec.ofInt 32 ((now : Int) - t.sched.boundary)
  t.markPorts.foldl (fun t id => t.putOrdered now id ftMark
    (markPayload brew kRow kCol (BitVec.ofNat 8 t.row) (BitVec.ofNat 8 t.col.num) hops off)) t

/-- The better of two markers: lowest HOPS, then the lower port or link ID (12 R448). -/
def betterMark (a b : Marker) : Marker :=
  if b.hops.toNat < a.hops.toNat ∨ (b.hops = a.hops ∧ b.port < a.port) then b else a

/-- Correction of the boundary toward the estimate: at most 0.1 ns, 2 whole units (12 R451). -/
def correction (e : Int) : Int := if 2 < e then 2 else if e < -2 then -2 else e

/-- PHASE_ERR as its 16-bit field shows it; the manual gives no value for an error outside the field (12 Table 12-10). -/
def phaseField (e : Int) : Half := if -32768 ≤ e ∧ e ≤ 32767 then BitVec.ofInt 16 e else Config.phaseErrWide e

/-- Takes a marker for timing (12 R448-R453). 0.25 ns is 6 whole units, 1.0 ns is 25. -/
def Tun.takeMark (m : Marker) (t : Tun) : Tun :=
  let s := t.sched
  let p := t.port m.port
  let est : Int := (m.rx : Int) - p.delay.toNat - m.offset.toNat
  let e := est - s.boundary
  let t := t.modSched fun s => { s with
    taken := true, best := none, parent := BitVec.ofNat 9 m.port, hops := BitVec.ofNat 4 (m.hops.toNat + 1), missedRun := 0 }
  if s.plane = .stopped ∧ (¬ s.acquired ∨ m.brew ≠ s.brew) then
    t.modSched fun s => { s with
      acquired := true, aligned := false, brew := m.brew, boundary := est, goodRun := 0, wideRun := 0, phaseErr := 0 }
  else
    let good := if e ≤ 6 ∧ -6 ≤ e then s.goodRun + 1 else 0
    let wide := if 25 < e ∨ e < -25 then s.wideRun + 1 else 0
    let t := t.modSched fun s => { s with
      boundary := s.boundary + correction e, goodRun := good, wideRun := wide, phaseErr := phaseField e }
    if s.aligned ∧ (2 ≤ wide ∨ m.brew ≠ s.brew) then t.alignLost
    else if ¬ s.aligned ∧ 16 ≤ good ∧ m.brew = s.brew then (t.modSched fun s => { s with aligned := true }).alignComplete
    else t

end Sys2Proof.Machine
end

