-- ==== Sys2Proof/Machine/Arb.lean ====
section
/-! DEFINITION. The stream stage of the reorder buffer (10 R383-R387), output arbitration (11 R408-R414), deflection (R415-R422)
and the Vorlauf ring holds (R424-R434). -/

namespace Sys2Proof.Machine
open Sys2Proof

/-! ### Streams (10 R383-R387) -/

def streamKey (p : Packet) : Nat := p.srcEp.toNat * 16 + p.channel.toNat

/-- An incarnation is newer when the difference modulo 256 is 1 to 127 (10 R383). -/
def newer (a b : Byte) : Bool := decide (1 ≤ (a - b).toNat) && decide ((a - b).toNat ≤ 127)

/-- What the stream stage does with a packet (10 R383). -/
inductive StreamStep where
  | staleSource | staleSeq | pass | next | hold
deriving DecidableEq, Repr

/-- The stream as it stands after the incarnation steps, and the decision (10 R383). -/
def streamStep (s : Stream) (p : Packet) : Stream × StreamStep :=
  let stale := s.valid && p.incarn != s.incarn && !(newer p.incarn s.incarn)
  if stale then (s, .staleSource)
  else if ¬ sequenced p then (s, .pass)
  else
    let s := if ¬ s.valid ∨ newer p.incarn s.incarn then { s with valid := true, incarn := p.incarn, expected := 0, held := [] : Stream } else s
    let d := (p.seq - s.expected).toNat
    if 32768 ≤ d ∨ s.held.any (fun h => h.1 == p.seq) then (s, .staleSeq)
    else if d = 0 then (s, .next) else (s, .hold)

/-- Packets the reorder buffer holds (10 R387, R393 REORDER_DEPTH). -/
def Tun.reorderDepth (t : Tun) : Nat := t.plane.streams.entries.foldl (fun n e => n + e.2.held.length) 0

def Tun.stream (t : Tun) (p : Packet) : Stream := Tab.get {} t.plane.streams (streamKey p)

/-- The reorder buffer takes the packet: a drop takes no entry, the packet a stream waits for needs one free entry, every other
more than 64 (10 R387). -/
def Tun.reorderAccepts (t : Tun) (p : Packet) : Bool :=
  let free := 4096 - t.reorderDepth
  match (streamStep (t.stream p) p).2 with
  | .staleSource => true
  | .staleSeq => true
  | .next => decide (0 < free)
  | _ => decide (64 < free)

def Tun.setStream (k : Nat) (s : Stream) (t : Tun) : Tun :=
  { t with plane := { t.plane with streams := t.plane.streams.set {} k s } }

/-- The run of held packets that follows on the expected SEQ (10 R383). `fuel` bounds the run. -/
def heldRun : Nat → Stream → Stream × List (Nat × Packet)
  | 0, s => (s, [])
  | n + 1, s =>
    match s.held.find? fun h => h.1 == s.expected with
    | none => (s, [])
    | some h =>
      let r := heldRun n { s with expected := s.expected + 1, held := s.held.filter fun x => x.1 != h.1 }
      (r.1, h.2.2 :: r.2)

/-- The stream stage: the packets it delivers, in order, each with the port it came in on (10 R383). -/
def Tun.streamAccept (now port : Nat) (p : Packet) (t : Tun) : Tun × List (Nat × Packet) :=
  let k := streamKey p
  let s0 := t.stream p
  let r := streamStep s0 p
  match r.2 with
  | .staleSource => (t.drop 0x0D port p, [])
  | .pass => (t, [(port, p)])
  | step =>
    let lost := if s0.valid && newer p.incarn s0.incarn then s0.held else []
    let t := lost.foldl (fun t h => t.drop 0x0D h.2.2.1 h.2.2.2) t
    if step = .staleSeq then ((t.setStream k r.1).drop 0x0E port p, [])
    else if step = .next then
      let run := heldRun r.1.held.length { r.1 with expected := r.1.expected + 1 }
      (t.setStream k run.1, (port, p) :: run.2)
    else
      let t := t.setStream k { r.1 with held := r.1.held ++ [(p.seq, now, port, p)] }
      (t.peak 3 1 0 t.reorderDepth, [])

/-- HOLE_TIMEOUT of a stream: the expected SEQ skips to the lowest held one (10 R384). -/
def Tun.holeSkip (k : Nat) (t : Tun) : Tun × List (Nat × Packet) :=
  let s := Tab.get {} t.plane.streams k
  match s.held.foldl (fun (m : Option Half) h =>
      match m with
      | none => some h.1
      | some x => if (h.1 - s.expected).toNat < (x - s.expected).toNat then some h.1 else some x) none with
  | none => (t, [])
  | some q =>
    let run := heldRun s.held.length { s with expected := q }
    let t := t.setStream k run.1
    ({ t with plane := { t.plane with seqGap := satInc t.plane.seqGap } }, run.2)

/-! ### Ring holds (11 R424-R427) -/

/-- The onward link in a direction is the dateline (11 R424). -/
def Tun.datelineAhead (t : Tun) (north : Bool) : Bool := if north then t.row + 1 == t.trays else t.row == 0

def Tun.ringHold (t : Tun) (north : Bool) : RingHold := if north then t.plane.north else t.plane.south

/-- Queue a packet would join, Stout or Straw (11 R426, R427); `none` when a Stout packet stands before the dateline. -/
def Tun.ringQueue (t : Tun) (north : Bool) (continuing vc : Bool) : Option Bool :=
  if ¬ t.plane.modeNow then some false
  else if t.datelineAhead north then (if continuing && vc then none else some true)
  else some (continuing && vc)

/-- The ring hold accepts the packet (11 R426, R427). -/
def Tun.ringAccepts (t : Tun) (north continuing vc : Bool) : Bool :=
  let h := t.ringHold north
  if ¬ t.plane.modeNow then
    if continuing then decide (h.straw.length + 1 ≤ 8) else decide (h.straw.length + 2 ≤ 8)
  else match t.ringQueue north continuing vc with
    | none => false
    | some true => decide (h.stout.length < 4)
    | some false => decide (h.straw.length < 4)

def Tun.ringJoin (north continuing vc : Bool) (p : Packet) (t : Tun) : Tun :=
  let h := t.ringHold north
  let h := if t.ringQueue north continuing vc == some true then { h with stout := h.stout ++ [p] } else { h with straw := h.straw ++ [p] }
  let t := { t with plane := if north then { t.plane with north := h } else { t.plane with south := h } }
  t.peak 3 (if north then 2 else 3) 0 (h.straw.length + h.stout.length)

/-- The Vorlauf link sends from its hold while it can: the oldest Stout packet, else the oldest Straw one (11 R425). -/
def Tun.ringSend (now : Nat) (north : Bool) : Nat → Tun → Tun
  | 0, t => t
  | n + 1, t =>
    let id := if north then 259 else 260
    let p := t.port id
    if !p.up || p.replayFull || !p.txq.isEmpty then t else
    let h := t.ringHold north
    let set (h : RingHold) (t : Tun) : Tun := { t with plane := if north then { t.plane with north := h } else { t.plane with south := h } }
    let go (q : Packet) (vc : Bool) (t : Tun) : Tun :=
      (t.modPort id fun p => { p with txq := packetFlits q.header q.payload q.cls vc }).pump now id
    match h.stout, h.straw with
    | q :: r, _ => Tun.ringSend now north n (go q true (set { h with stout := r } t))
    | [], q :: r => Tun.ringSend now north n (go q false (set { h with straw := r } t))
    | [], [] => t

def Tun.ringPump (now : Nat) (t : Tun) : Tun := (t.ringSend now true 8).ringSend now false 8

/-- After an acknowledgement the queue of a port moves on, and a ring hold behind it. -/
def Tun.pumpLink (now id : Nat) (t : Tun) : Tun := (t.pump now id).ringPump now

/-! ### Bidding (11 R408-R422) -/

/-- Takes a packet out of its hold. -/
def Tun.takeFrom (h : HoldRef) (w : Waiting) (now : Nat) (t : Tun) : Tun :=
  let pl := t.plane
  match h with
  | .inj id => { t with plane := { pl with inj := pl.inj.modify [] id (·.erase w) } }
  | .forfeit id => { t with plane := { pl with forfeit := pl.forfeit.modify [] id (·.erase w) } }
  | .engine => ({ t with plane := { pl with engine := pl.engine.erase w } }).refillEngine now
  | .landing id => { t with plane := { pl with landing := pl.landing.modify [] id (·.erase w) } }

/-- Replaces a waiting packet where it stands. -/
def Tun.putBack (h : HoldRef) (w v : Waiting) (t : Tun) : Tun :=
  let pl := t.plane
  let sub (l : List Waiting) := l.map fun x => if x = w then v else x
  match h with
  | .inj id => { t with plane := { pl with inj := pl.inj.modify [] id sub } }
  | .forfeit id => { t with plane := { pl with forfeit := pl.forfeit.modify [] id sub } }
  | .engine => { t with plane := { pl with engine := sub pl.engine } }
  | .landing id => { t with plane := { pl with landing := pl.landing.modify [] id sub } }

/-- Every packet that waits, with its hold; a multicast under replication does not bid (11 R439). -/
def Tun.bidders (t : Tun) : List (HoldRef × Waiting) :=
  let pl := t.plane
  let all := pl.landing.entries.flatMap (fun e => e.2.map fun w => (HoldRef.landing e.1, w)) ++
    pl.inj.entries.flatMap (fun e => e.2.map fun w => (HoldRef.inj e.1, w)) ++
    pl.forfeit.entries.flatMap (fun e => e.2.map fun w => (HoldRef.forfeit e.1, w)) ++ pl.engine.map fun w => (HoldRef.engine, w)
  all.filter fun b => b.2.copies.isNone

def Waiting.inTransit (w : Waiting) : Bool := isFabricId w.input

/-- Direction a ring arrival travels in: from the south link it goes north. -/
def Waiting.north (w : Waiting) : Bool := w.input == 260

def Waiting.onRing (w : Waiting) : Bool := isRingId w.input && !w.offRing

/-- A row hop is permitted (11 R416). -/
def Tun.rowOk (t : Tun) (w : Waiting) : Bool := !(isMeshId w.input) || w.released || t.ringBroken

/-- A deflection may use the link: its peer shows no DRAIN, and no PALE for OCHRE (11 R419). -/
def Tun.peerAllows (t : Tun) (id : Nat) (p : Packet) : Bool :=
  !(t.port id).peerDrain && !(p.cls == clOchre && (t.port id).peerSvc == 2)

/-- Flits of a packet. -/
def pktFlits (p : Packet) : Nat := flitCount p.payload.length

/-- Timestamp units `n` flits take on a port's lanes: 10.24 ns a flit on one lane at Full rate, rounded up (12 Table 12-1). -/
def Port.flitUnits (p : Port) (n : Nat) : Nat := (n * 262144 * (if p.rateFull then 1 else 2) + 1000 * p.widthNow - 1) / (1000 * p.widthNow)

/-- Time a packet takes on an output's wire; none into the engines. -/
def Tun.wireUnits (t : Tun) (o : Nat) (p : Packet) : Nat := if o = engineOut then 0 else (t.port o).flitUnits (pktFlits p)

/-- The Tap receive queue is full for a TAP packet (15 R624). -/
def Tun.tapFull (t : Tun) (p : Packet) : Bool := p.type == tyTap && decide (64 ≤ t.mash.tapQueue.length)

/-- The engine input takes the packet: the reorder buffer and, for a TAP packet, the Tap receive queue have room (10 R387, 15 R624). -/
def Tun.engineTakes (t : Tun) (p : Packet) : Bool := t.reorderAccepts p && !(t.tapFull p)

/-- The output can take this packet now (11 R413, R426, R427, R430). -/
def Tun.canTake (t : Tun) (now : Nat) (free : List Nat) (w : Waiting) (o : Nat) : Bool :=
  free.contains o && !(t.circuitHolds now (t.wireUnits o w.pkt) o) &&
    (if o = engineOut then t.engineTakes w.pkt
     else if isRingId o then
       let north := o == 259
       let cont := w.onRing && w.north == north
       t.portUp o && !(t.port o).replayFull && (cont || !t.plane.ringDrain) && t.ringAccepts north cont w.vc
     else t.portUp o && !(t.port o).replayFull && (t.port o).txq.isEmpty)

/-- The outputs a packet bids for, in order, each marked when it is a target (11 R402, R415-R420, R428, R434). -/
def Tun.options (t : Tun) (now : Nat) (free : List Nat) (w : Waiting) : List (Nat × Bool) :=
  let p := w.pkt
  let ts := (t.targets p.dst.toNat).filter fun o => !(isMeshId o) || t.rowOk w
  let routedRing := ts.any isRingId
  let target := (ts.filter (t.canTake now free w)).map fun o => (o, true)
  if routedRing ∧ ¬ w.onRing then target
  else
    let mesh := if t.rowOk w then
        ((List.range 3).map fun i => 256 + (t.plane.meshRot + i) % 3).filter fun o =>
          !(ts.contains o) && t.peerAllows o p && t.canTake now free w o
      else []
    let out (n : Bool) := if n then 259 else 260
    let dir := if w.onRing then w.north else !((p.srcEp.getLsbD 0).xor (p.channel.getLsbD 0))
    let ring := if t.ringBroken then [] else [out dir].filter fun o => !(ts.contains o) && t.peerAllows o p && t.canTake now free w o
    target ++ (mesh ++ ring).map fun o => (o, false)

/-- One packet's bids of the cycle. -/
structure Bid where
  ix : Nat
  hold : HoldRef
  w : Waiting
  opts : List (Nat × Bool)
deriving DecidableEq, Repr

def Bid.heads (o : Nat) (b : Bid) : Bool := match b.opts with | h :: _ => h.1 == o | [] => false
def Bid.tgt (b : Bid) : Bool := match b.opts with | h :: _ => h.2 | [] => false

/-- `a` ranks ahead of `b` for an output whose last award went to input `last` (11 R408, R422): among Gilded packets the greater
HOPS first; then target before deflected, in-transit before injected, then rotating input order. -/
def ranksAhead (gilded : Bool) (last : Nat) (a b : Bid) : Bool :=
  let turn (i : Nat) := (i + 511 - last) % 512
  if gilded ∧ a.w.pkt.hops ≠ b.w.pkt.hops then decide (b.w.pkt.hops.toNat < a.w.pkt.hops.toNat)
  else if a.tgt ≠ b.tgt then a.tgt
  else if a.w.inTransit ≠ b.w.inTransit then a.w.inTransit
  else decide (turn a.w.input < turn b.w.input)

def bestBid (gilded : Bool) (last : Nat) (bs : List Bid) : Option Bid :=
  bs.foldl (fun m b => match m with | none => some b | some x => if ranksAhead gilded last b x then some b else some x) none

/-- Weight in flits of class 1 to 5 (11 R412). -/
def classWeight (weights : Word) (c : Nat) : Nat := (bitsOf weights (6 * (c - 1)) 6).toNat + 1

/-- Deficit round-robin over classes 1 to 5 (11 R410): `need c` is the flit count of class c's first packet, 0 for none. -/
def drrNext (weights : Word) (need : Nat → Nat) (skip : Nat → Bool) : Nat → OutArb → Option Nat × OutArb
  | 0, a => (none, a)
  | n + 1, a =>
    let i := a.turn % 5
    let c := i + 1
    let step (a : OutArb) : OutArb := { a with turn := (i + 1) % 5, visited := false }
    if skip c then drrNext weights need skip n (step a)
    else if need c = 0 then drrNext weights need skip n (step { a with deficit := a.deficit.set i 0 })
    else
      let d := a.deficit.getD i 0 + (if a.visited then 0 else classWeight weights c)
      if need c ≤ d then (some c, { a with deficit := a.deficit.set i (d - need c), visited := true })
      else drrNext weights need skip n (step { a with deficit := a.deficit.set i d })

/-- SCARLET tokens earned up to now: one for each 20 flit times, at most 16 (11 R409). A flit takes 10.24 ns per lane at Full
rate, so 20 of them on `w` lanes take 131,072 / (25 w) units, and twice that at Pale rate. -/
def OutArb.refresh (now w : Nat) (full : Bool) (a : OutArb) : OutArb :=
  let part := a.tokenPart + (now - a.tokenAt) * 25 * w * (if full then 2 else 1)
  { a with tokens := min 16 (a.tokens + part / 262144), tokenPart := part % 262144, tokenAt := now }

def Tun.outArb (t : Tun) (now o : Nat) : OutArb :=
  let a := Tab.get {} t.plane.arb o
  if o = engineOut then a else a.refresh now (t.port o).widthNow (t.port o).rateFull

/-- The award of a free output among its bidders, and the arbitration state after it (11 R408). -/
def Tun.award (t : Tun) (now o : Nat) (bs : List Bid) : Option Bid × OutArb :=
  let a := t.outArb now o
  let pick (g : Bool) (l : List Bid) := bestBid g a.lastInput l
  let cls (c : BitVec 3) := bs.filter fun b => b.w.pkt.cls == c
  let take (b : Option Bid) (a : OutArb) : Option Bid × OutArb :=
    (b, { a with lastInput := match b with | some x => x.w.input | none => a.lastInput })
  let gilded := bs.filter fun b => b.w.pkt.gild
  let amberOut := t.plane.collPrio
  if ¬ gilded.isEmpty then take (pick true gilded) a
  else if ¬ (cls clScarlet).isEmpty ∧ (o = engineOut ∨ 0 < a.tokens) then
    take (pick false (cls clScarlet)) (if o = engineOut then a else { a with tokens := a.tokens - 1 })
  else if amberOut ∧ ¬ (cls clAmber).isEmpty then take (pick false (cls clAmber)) a
  else
    let first (c : Nat) := pick false (cls (BitVec.ofNat 3 c))
    let need (c : Nat) := match first c with | some b => pktFlits b.w.pkt | none => 0
    let r := drrNext t.plane.weights need (fun c => amberOut && c == 1) 100 a
    match r.1 with
    | some c => take (first c) r.2
    | none => take (pick false (cls clScarlet)) r.2

/-- One round of bids: every packet that does not win its present choice moves on to its next. -/
def Tun.bidRound (t : Tun) (now : Nat) (outs : List Nat) (bs : List Bid) : List Bid :=
  let wins := outs.filterMap fun o => (t.award now o (bs.filter (Bid.heads o))).1
  bs.map fun b => if b.opts.isEmpty || wins.contains b then b else { b with opts := b.opts.drop 1 }

def Tun.bidRounds (t : Tun) (now : Nat) (outs : List Nat) : Nat → List Bid → List Bid
  | 0, bs => bs
  | n + 1, bs =>
    let bs' := t.bidRound now outs bs
    if bs' = bs then bs else Tun.bidRounds t now outs n bs'

/-- The bids the packets that wait begin a cycle with. -/
def Tun.firstBids (t : Tun) (now : Nat) (free : List Nat) : List Bid :=
  t.bidders.mapIdx fun i (b : HoldRef × Waiting) => { ix := i, hold := b.1, w := b.2, opts := t.options now free b.2 }

/-- The winners of one cycle over the free outputs (11 R408, R415). -/
def Tun.cycleBids (t : Tun) (now : Nat) (free : List Nat) : List Bid :=
  let bs := t.firstBids now free
  t.bidRounds now free (bs.foldl (fun n b => n + b.opts.length) 1) bs

/-- The bids output `o` had in a cycle that began with `bs0` and ended with `bs`: each packet bid for its options up to the one it
kept, or for all of them. -/
def bidsFor (o : Nat) (bs0 bs : List Bid) : List Bid :=
  (bs0.zip bs).filterMap fun (b0, b) =>
    let made := b0.opts.take (b0.opts.length + 1 - b.opts.length)
    if made.any (·.1 == o) then some { b0 with opts := b0.opts.dropWhile (·.1 != o) } else none

/-- DEFL and GILD of a packet placed on an output that is not its target (11 R418, R421). -/
def Tun.deflected (t : Tun) (p : Packet) : Packet :=
  let d := satInc p.defl
  { p with defl := d, gild := p.gild || decide (t.plane.gildThreshold.toNat ≤ d.toNat) : Packet }.sealed

/-- Counts a deflection: away from each target output, in on the output taken, GILD set there (20 Table 20-2). -/
def Tun.countDeflection (o : Nat) (before after : Packet) (t : Tun) : Tun :=
  let t := ((t.targets before.dst.toNat).filter (· != engineOut)).foldl (fun t x => t.bump 1 4 x) t
  let t := t.bump 1 5 o
  if after.gild && !before.gild then t.bump 1 6 o else t

/-- Delivery on an endpoint or annex port: the partition check and the generation-1 conversion (10 R372, 21 R800). -/
def Tun.sendPort (now o : Nat) (p : Packet) (t : Tun) : Tun :=
  if ¬ t.pkeyEgress o p then t.dropAnswered now 0x08 o p
  else
    match (if (t.port o).genNow then toGen1 p else some p) with
    | none => t.drop 0x04 o p
    | some q => (t.modPort o fun x => { x with txq := x.txq ++ packetFlits q.header q.payload q.cls false }).pump now o

/-- Places a winner on a link output (11 R407, R415-R418): not the engine input. -/
def Tun.placeLink (now o : Nat) (tgt : Bool) (w : Waiting) (t : Tun) : Tun :=
  let p := if tgt then w.pkt else t.deflected w.pkt
  let t := if tgt then t else
    let t := t.countDeflection o w.pkt p
    { t with plane := { t.plane with meshRot := (t.plane.meshRot + 1) % 3 } }
  if isFabricId o then
    if p.hops = 63 then t.drop 0x0B o p
    else
      let p := { p with hops := p.hops + 1 : Packet }.sealed
      if isMeshId o then
        (t.modPort o fun x => { x with txq := x.txq ++ packetFlits p.header p.payload p.cls false }).pump now o
      else
        let north := o == 259
        (t.ringJoin north (w.onRing && w.north == north) w.vc p).ringPump now
  else t.sendPort now o p

/-- A ring arrival that won nothing and cannot stay on the ring is taken off it: an ejection, unless its onward link is up and it is a
Stout packet before the dateline or the ring is broken (11 R427, R429, R434). -/
def Tun.ejectRing (h : HoldRef) (w : Waiting) (t : Tun) : Tun :=
  if ¬ w.onRing then t else
  let out := if w.north then 259 else 260
  let stout := t.plane.modeNow && t.datelineAhead w.north && w.vc
  let routed := (t.targets w.pkt.dst.toNat).contains out
  if t.portUp out ∧ (stout ∨ t.ringBroken ∧ ¬ routed) then t.putBack h w { w with offRing := true }
  else if ¬ t.portUp out ∨ ¬ t.ringAccepts w.north true w.vc then
    let t := t.putBack h w { w with offRing := true }
    { t with plane := { t.plane with ringEject := satInc t.plane.ringEject } }
  else t

/-- Packets that no longer have a route are dropped where they wait (11 R406). -/
def Tun.dropUnroutable (now : Nat) (t : Tun) : Tun :=
  t.bidders.foldl (fun t b =>
    if t.noRoute b.2.pkt then (t.takeFrom b.1 b.2 now).dropAnswered now 0x0A (if b.2.input = 300 then ownPort else b.2.input) b.2.pkt else t) t

end Sys2Proof.Machine
end

