-- ==== Sys2Proof/Machine/CellarCore.lean ====
section
/-! DEFINITION. The shared operations of the Cellar (16 R627-R653, R660-R662): Cask memory, sequences and their striping, pages,
batch steps and sequence locks. -/

namespace Sys2Proof.Machine
open Sys2Proof

/-- A byte with its poison flag. -/
abbrev PByte := Byte × Bool

def plain (bs : List Byte) : List PByte := bs.map fun b => (b, false)
def pbytes (ps : List PByte) : List Byte := ps.map (·.1)
def anyPoison (ps : List PByte) : Bool := ps.any (·.2)

/-- Bytes of a share with the poison of their units. -/
def Tun.shareReadP (t : Tun) (c off len : Nat) : List PByte :=
  let x := t.ctx c
  (List.range len).map fun i =>
    let a := x.wortAddr (off + i)
    (t.wortByte a, Tab.get false t.bm.poison (a / 64))

/-! ### Cask memory -/

def pageBytes : Nat := 32768
/-- Pages of one stack: 47.5 GiB of 32 KiB pages (16 R627). -/
def stackPages : Nat := 1556480

def caskAddr (stack loc : Nat) : Nat := (stack * stackPages + loc) * pageBytes

def Tun.modCellar (f : Cellar → Cellar) (t : Tun) : Tun := { t with cellar := f t.cellar }

def Tun.caskReadP (t : Tun) (a len : Nat) : List PByte :=
  (List.range len).map fun i => (Tab.get 0 t.cellar.cask (a + i), Tab.get false t.cellar.poison ((a + i) / 64))

def stackOf (a : Nat) : Nat := a / (stackPages * pageBytes)

/-- Number of the slot in progress since the Brew counter began (12 R443). -/
def Tun.slotAbs (now : Nat) (t : Tun) : Nat := t.sched.brew.toNat * 10000 + ((now : Int) - t.sched.boundary).toNat / 2560

/-- Transactions a stack's reservations grant in the slot in progress (12 R474). -/
def Tun.reservedNow (now n : Nat) (t : Tun) : Nat :=
  let s := ((now : Int) - t.sched.boundary).toNat / 2560
  match t.sched.inForce with
  | some r => (r.reserves.filter fun w => (resMask w).getLsbD n && decide (spanFirst w ≤ s) && decide (s ≤ spanLast w)).foldl (fun k w => k + resTxn w) 0
  | none => 0

/-- An access to Cask: the stack leaves self-refresh and makes up a calibration it owes (03 R101, 19 R753); its transactions of 256
bytes are counted, those within the slot's reservation too (12 R475, 20 Table 20-4). -/
def Tun.caskTxn (now : Nat) (write : Bool) (a len : Nat) (t : Tun) : Tun :=
  if len = 0 then t else
  let n := stackOf a
  let k := (a + len - 1) / 256 + 1 - a / 256
  let slot := t.slotAbs now
  let r := t.rel
  let used := if r.resSlot = slot then Tab.get 0 r.resUsed n else 0
  let res := min k (t.reservedNow now n - used)
  let bit : Byte := 1#8 <<< n
  let wasIn : Bool := r.selfRefresh.getLsbD n
  let r : Rel := { r with
    selfRefresh := r.selfRefresh &&& ~~~bit, calPending := if wasIn then r.calPending &&& ~~~bit else r.calPending, resSlot := slot,
    resUsed := (if r.resSlot = slot then r.resUsed else ⟨[]⟩).set 0 n (used + res) }
  (({ t with rel := r }).bumpBy 7 (if write then 1 else 0) n k).bumpBy 7 2 n res

/-- Writes bytes to Cask; a unit written whole takes the data's poison, one written in part keeps what it had or becomes poisoned
(19 R739). Writes to an offline stack are discarded (16 R660). -/
def Tun.caskWriteP (now a : Nat) (ps : List PByte) (t : Tun) : Tun :=
  if t.cellar.lostStacks.getLsbD (stackOf a) then t else
  let t := t.caskTxn now true a ps.length
  let c := t.cellar
  let mem := (List.range ps.length).foldl (fun m i => m.set 0 (a + i) (ps.getD i (0, false)).1) c.cask
  let us := (List.range ((a + ps.length + 63) / 64 - a / 64)).map (a / 64 + ·)
  let poi := us.foldl (fun m u =>
    let bad := (List.range 64).any fun i => decide (a ≤ 64 * u + i) && (ps.getD (64 * u + i - a) (0, false)).2
    let whole := decide (a ≤ 64 * u) && decide (64 * u + 64 ≤ a + ps.length)
    if bad then m.set false u true else if whole then m.set false u false else m) c.poison
  t.modCellar fun c => { c with cask := mem, poison := poi }

/-! ### Sequences -/

/-- The sequence a partition names (16 R629). -/
def Tun.cseq (t : Tun) (k : Half) (id : Nat) : Option CSeq := t.cellar.seqs.find? fun q => q.pkey == k && q.id == id

def Tun.modSeq (k : Half) (id : Nat) (f : CSeq → CSeq) (t : Tun) : Tun :=
  t.modCellar fun c => { c with seqs := c.seqs.map fun q => if q.pkey = k ∧ q.id = id then f q else q }

def seqEsize (fmt : Nat) : Nat := if fmt < 2 then 1 else 2

/-- Element format of a sequence as a type of Table 15-2 (16 Table 16-2). -/
def seqType (fmt : Nat) : Nat := if fmt = 0 then 3 else if fmt = 1 then 4 else if fmt = 2 then 2 else 1

/-- ROW_BYTES and TPP (16 R631, R632). A KIND 1 unit is one row of 32 KiB. -/
def rowBytesOf (kind fmt heads dim : Nat) : Nat := if kind = 1 then pageBytes else 2 ^ heads * 2 ^ dim * seqEsize fmt
def tppOf (kind fmt heads dim : Nat) : Nat := if kind = 1 then 1 else pageBytes / (2 * rowBytesOf kind fmt heads dim)

def CSeq.rowBytes (q : CSeq) : Nat := rowBytesOf q.kind q.fmt q.heads q.dim
def CSeq.tpp (q : CSeq) : Nat := tppOf q.kind q.fmt q.heads q.dim

/-- Geometry in range (16 R630, R631). -/
def geomOk (kind fmt heads dim layers : Nat) : Bool :=
  if kind = 1 then fmt == 0 && heads == 0 && dim == 0 && layers == 1
  else kind == 0 && decide (fmt ≤ 3) && decide (heads ≤ 6) && decide (5 ≤ dim) && decide (dim ≤ 8) && decide (1 ≤ layers) &&
    decide (layers ≤ 256) && decide (64 ≤ rowBytesOf kind fmt heads dim) && decide (rowBytesOf kind fmt heads dim ≤ 16384)

def stripeAxis (s : Byte) : Bool := s.getLsbD 7
def stripeMirror (s : Byte) : Bool := s.getLsbD 6
def stripeIndex (s : Byte) : Nat := (s.extractLsb' 0 3).toNat

/-- STRIPE in range for the plan (16 Table 16-2). -/
def Tun.stripeOk (t : Tun) (s : Byte) : Bool :=
  s.extractLsb' 3 3 == 0 && (if stripeAxis s then decide (stripeIndex s < 4) else decide (stripeIndex s < t.trays))

/-- Stripe width (16 R633). -/
def Tun.stripeWidth (t : Tun) (s : Byte) : Nat := if stripeAxis s then t.trays else 4

/-- Number of the stripe Tun at a position, and of its mirror (16 R633, R635). -/
def stripeTun (s : Byte) (pos : Nat) : Nat := if stripeAxis s then 192 + 4 * pos + stripeIndex s else 192 + 4 * stripeIndex s + pos
def Tun.mirrorTun (t : Tun) (s : Byte) (pos : Nat) : Nat :=
  let n := stripeTun s pos
  192 + 4 * ((tunRow n + 1) % t.trays) + tunCol n

/-- Positions of a stripe. -/
def Tun.positions (t : Tun) (s : Byte) : List Nat := List.range (t.stripeWidth s)

/-- Stripe position this Tun has, and position it mirrors. -/
def Tun.homePos (t : Tun) (s : Byte) : Option Nat := (t.positions s).find? fun p => stripeTun s p == t.number
def Tun.mirrorPos (t : Tun) (s : Byte) : Option Nat :=
  if stripeMirror s then (t.positions s).find? fun p => t.mirrorTun s p == t.number else none

/-- Positions whose pages this Tun holds as its own: its own one and those it was promoted to (16 R661). -/
def Tun.ownPositions (t : Tun) (s : Byte) (promoted : List Nat) : List Nat := (t.homePos s).toList ++ promoted

/-- The position this Tun still mirrors. -/
def Tun.mirrorPosition (t : Tun) (s : Byte) (promoted : List Nat) : Option Nat :=
  match t.mirrorPos s with
  | some p => if promoted.contains p then none else some p
  | none => none

/-- Sequence entries a sequence takes on this Tun: one per role (16 R645). -/
def Tun.seqRoles (t : Tun) (s : Byte) : Nat := (t.homePos s).toList.length + (t.mirrorPos s).toList.length

/-- Roles in which this Tun holds page `g` of a sequence: false own, true mirror. -/
def Tun.rolesAt (t : Tun) (s : Byte) (promoted : List Nat) (g : Nat) : List Bool :=
  let p := g % t.stripeWidth s
  (if (t.ownPositions s promoted).contains p then [false] else []) ++ (if t.mirrorPosition s promoted == some p then [true] else [])

def CSeq.page (q : CSeq) (mirror : Bool) (layer g : Nat) : Option PageRef :=
  q.pages.find? fun p => p.mirror == mirror && p.layer == layer && p.page == g

/-! ### Pages (16 R627, R628, R637, R663) -/

/-- Stacks that are fitted and online. -/
def Tun.onlineStacks (t : Tun) : List Nat := (List.range t.asm.casks).filter fun n => !(t.cellar.lostStacks.getLsbD n)

/-- Locations in use on a stack: pages held and pages still being freed. -/
def Tun.usedOn (t : Tun) (n : Nat) : List Nat :=
  t.cellar.seqs.flatMap (fun q => (q.pages.filter (·.stack == n)).map (·.loc)) ++
    t.cellar.freeing.flatMap fun f => (f.1.filter (·.1 == n)).map (·.2)

def Tun.totalPages (t : Tun) : Nat := if t.cellar.opened then t.onlineStacks.length * stackPages else 0

def Tun.freePages (t : Tun) : Nat :=
  if t.cellar.opened then t.onlineStacks.foldl (fun s n => s + (stackPages - (t.usedOn n).length)) 0 else 0

def Tun.pagesOf (t : Tun) (c : Nat) : Nat :=
  (t.cellar.seqs.filter fun q => q.ctx == some c).foldl (fun s q => s + q.pages.length) 0

/-- Pages a context may still take: all the free ones where it has no limit (16 R637). -/
def Tun.quotaRoom (t : Tun) (c : Nat) : Nat :=
  let l := (Tab.get 0 t.cellar.quotas c).toNat
  if l = 0 then t.freePages else l - t.pagesOf c

/-- Sequence entries in use, all roles. -/
def Tun.seqEntries (t : Tun) : Nat := t.cellar.seqs.foldl (fun n q => n + t.seqRoles q.stripe) 0

/-- Takes the next new page: the next stack of the rotation with a free page, its lowest free location (16 R628). -/
def Tun.newPage (t : Tun) : Option (Nat × Nat × Tun) :=
  let f := t.asm.casks
  let order := (List.range f).map fun i => (t.cellar.rot + i) % f
  match order.find? fun n => t.onlineStacks.contains n && decide ((t.usedOn n).length < stackPages) with
  | none => none
  | some n =>
    let used := t.usedOn n
    match (List.range (used.length + 1)).find? fun l => !(used.contains l) with
    | none => none
    | some l => some (n, l, t.modCellar fun c => { c with rot := (n + 1) % f })

/-! ### Batch steps (16 R640-R647) -/

/-- New pages one entry needs on this Tun (16 R645). -/
def Tun.pagesNeeded (t : Tun) (s : Byte) (promoted : List Nat) (tpp base a layers : Nat) : Nat :=
  if a = 0 ∨ tpp = 0 then 0 else
  let g0 := (base + tpp - 1) / tpp
  let g1 := (base + a - 1) / tpp
  ((List.range (g1 + 1 - g0)).foldl (fun n i => n + (t.rolesAt s promoted (g0 + i)).length) 0) * layers

/-- Bytes of one entry's appends that this Tun stages (16 R647). -/
def Tun.appendBytes (t : Tun) (s : Byte) (promoted : List Nat) (kind row tpp base a layers : Nat) : Nat :=
  if tpp = 0 then 0 else
  let per := if kind = 1 then row else 2 * row
  ((List.range a).foldl (fun n i => n + (t.rolesAt s promoted ((base + i) / tpp)).length) 0) * per * layers

/-- Reads one batch entry (16 Table 16-5) under its header. -/
def batchEntry (h e : List Byte) : BEntry :=
  { id := leAt e 0 4, action := (byteAt e 4).toNat, stripe := byteAt e 5, a := leAt e 6 2, base := leAt e 8 4,
    stage := leAt e 16 8, first := leAt h 2 2, last := leAt h 4 2, kind := (byteAt h 6).toNat, fmt := (byteAt h 7).toNat,
    heads := (byteAt h 8).toNat, dim := (byteAt h 9).toNat, layers := leAt h 10 2 }

/-- Bytes reserved in a batch entry and its header are 0 (16 Tables 16-4, 16-5). -/
def allZero (bs : List Byte) : Bool := bs.all (· == 0)

/-- The entries a Cellar command makes: a batch step's, or the one of SEQ_OPEN, KV_APPEND and SEQ_CLOSE (16 R640). -/
def Tun.batchOf (t : Tun) (c : Cmd) : List BEntry :=
  let d := c.desc
  if c.op = 0x36 then
    let o := leAt d 16 8
    let h := t.shareRead c.ctx o 32
    (List.range (leAt h 0 2)).map fun i => batchEntry h (t.shareRead c.ctx (o + 32 + 32 * i) 32)
  else if c.op = 0x30 then
    let layers := leAt d 24 2
    [{ id := leAt d 16 4, action := 1, stripe := byteAt d 26, first := 0, last := layers - 1, kind := (byteAt d 20).toNat,
       fmt := (byteAt d 21).toNat, heads := (byteAt d 22).toNat, dim := (byteAt d 23).toNat, layers := layers }]
  else if c.op = 0x34 then
    [{ id := leAt d 16 4, action := 0, a := leAt d 20 2, base := leAt d 28 4, first := leAt d 22 2, last := leAt d 24 2,
       stage := leAt d 32 8 }]
  else [{ id := leAt d 16 4, action := 2 }]

/-- Layers of an entry's range. -/
def BEntry.span (e : BEntry) : Nat := e.last + 1 - e.first

/-- Kind, row bytes and TPP an entry works with: those of its sequence, or its own geometry for a JOIN. -/
def Tun.entryGeom (t : Tun) (k : Half) (e : BEntry) : Nat × Nat × Nat :=
  match t.cseq k e.id with
  | some q => (q.kind, q.rowBytes, q.tpp)
  | none => (e.kind, rowBytesOf e.kind e.fmt e.heads e.dim, tppOf e.kind e.fmt e.heads e.dim)

/-- Bytes of an entry's staging (16 R646). -/
def Tun.stagingLen (t : Tun) (k : Half) (e : BEntry) : Nat :=
  let g := t.entryGeom k e
  e.span * e.a * (if g.1 = 1 then g.2.1 else 2 * g.2.1)

/-- Field checks of one entry at check 6 (16 R636, R639, R642, R643): none when it passes. -/
def Tun.entryFields (t : Tun) (c : Cmd) (e : BEntry) : Option Half :=
  let x := t.ctx c.ctx
  let join : Bool := e.action == 1
  let badJoin := join && (e.base != 0 || !(geomOk e.kind e.fmt e.heads e.dim e.layers) || !(t.stripeOk e.stripe) ||
    decide (e.layers ≤ e.last) || ((t.homePos e.stripe).isNone && (t.mirrorPos e.stripe).isNone))
  let layersBad : Bool := match t.cseq x.pkey e.id with
    | some q => decide (q.lens.length ≤ e.last)
    | none => false
  if 2 < e.action ∨ e.id = 0xFFFFFFFF ∨ e.last < e.first ∨ badJoin ∨ (¬ join ∧ e.stripe ≠ 0) ∨ 2 ^ 20 < e.base + e.a ∨ layersBad ∨
      e.stage % 64 ≠ 0 then some 0x00F1
  else if e.a ≠ 0 ∧ e.action ≠ 2 ∧ ¬ x.inUsable e.stage (t.stagingLen x.pkey e) then some 0x0012
  else none

/-- SEQ_LOCK state allows a context to change the sequence (16 R644). -/
def CSeq.lockedTo (q : CSeq) (c : Nat) : Bool :=
  match q.holder with
  | some h => h == c
  | none => !q.orphaned

/-- Table 16-6 for one entry: a failure, or whether the entry is skipped. `single` is SEQ_OPEN (16 R640). -/
def Tun.entryStart (t : Tun) (c : Cmd) (e : BEntry) : Except Half Bool :=
  match t.cseq (t.ctx c.ctx).pkey e.id with
  | none => if e.action = 1 then .ok false else .error 0x0304
  | some q =>
    let range := (List.range e.span).map fun i => q.lens.getD (e.first + i) 0
    if ¬ q.lockedTo c.ctx then .error 0x0305
    else if q.lost ∧ e.action ≠ 2 then .error 0x0303
    else if e.action = 2 then .ok false
    else if e.action = 1 then
      (if c.op ≠ 0x30 ∧ range.all (· == e.a) then .ok true else .error 0x0307)
    else if range.all (· == e.base) then .ok false
    else if range.all (· == e.base + e.a) ∧ e.a ≠ 0 then .ok true
    else .error 0x0306

/-- Pages and entries an entry to be appended needs. -/
def Tun.entryNeeds (t : Tun) (k : Half) (e : BEntry) : Nat × Nat :=
  let g := t.entryGeom k e
  match t.cseq k e.id with
  | some q => (t.pagesNeeded q.stripe q.promoted g.2.2 e.base e.a e.span, 0)
  | none => (t.pagesNeeded e.stripe [] g.2.2 e.base e.a e.span, t.seqRoles e.stripe)

/-- The context an entry's pages are charged to: the one that opened its sequence, the command's for a new one (16 R637). -/
def Tun.chargedTo (t : Tun) (c : Nat) (k : Half) (e : BEntry) : Option Nat :=
  match t.cseq k e.id with
  | some q => q.ctx
  | none => some c

/-- An entry's pages would take a context above its LIMIT; `taken` lists the pages granted before it (16 R637). -/
def Tun.quotaShort (t : Tun) (o : Option Nat) (taken : List (Nat × Nat)) (n : Nat) : Bool :=
  match o with
  | none => false
  | some c =>
    let l := (Tab.get 0 t.cellar.quotas c).toNat
    let before := (taken.filter (·.1 == c)).foldl (fun s x => s + x.2) 0
    l != 0 && n != 0 && decide (l < t.pagesOf c + before + n)

/-- The page check of a command of context `c` (16 R645): entries not granted with why each was not, in order. -/
def Tun.grant (t : Tun) (c : Nat) (k : Half) : List BEntry → Nat → List (Nat × Nat) → Nat → List (BEntry × Bool × Bool × Bool)
  | [], _, _, _ => []
  | e :: es, free, taken, ents =>
    let n := t.entryNeeds k e
    let o := t.chargedTo c k e
    let short := t.quotaShort o taken n.1
    if n.1 ≤ free ∧ ¬ short ∧ n.2 ≤ ents then
      Tun.grant t c k es (free - n.1) (match o with | some x => (x, n.1) :: taken | none => taken) (ents - n.2)
    else (e, decide (free < n.1), short, decide (ents < n.2)) :: Tun.grant t c k es free taken ents

/-- Staging of an entry, read after its checks (16 R646, R647). -/
def Tun.readStaging (t : Tun) (c : Cmd) (e : BEntry) : BEntry :=
  if e.skip ∨ e.action = 2 then e else { e with data := t.shareReadP c.ctx e.stage (t.stagingLen (t.ctx c.ctx).pkey e) }

/-- Adds a page to a sequence where the Cask has one; where none is left the sequence is lost. -/
def Tun.addPage (k : Half) (id : Nat) (mirror : Bool) (layer g : Nat) (t : Tun) : Tun :=
  match t.newPage with
  | some (n, l, t) => t.modSeq k id fun q => { q with pages := q.pages ++ [{ mirror := mirror, layer := layer, page := g, stack := n, loc := l }] }
  | none => t.modSeq k id fun q => { q with lost := true }

/-- Writes one row of a token into the page that holds it in a role, a new page being taken for the first one (16 R631). -/
def Tun.putToken (now : Nat) (k : Half) (id : Nat) (mirror : Bool) (layer tok : Nat) (key val : List PByte) (t : Tun) : Tun :=
  match t.cseq k id with
  | none => t
  | some q =>
    let g := tok / q.tpp
    let t := if (q.page mirror layer g).isSome then t else t.addPage k id mirror layer g
    match (t.cseq k id).bind fun q => q.page mirror layer g with
    | none => t
    | some p =>
      let a := caskAddr p.stack p.loc
      let i := tok % q.tpp
      let t := t.caskWriteP now (a + i * q.rowBytes) key
      if q.kind = 1 then t else t.caskWriteP now (a + q.tpp * q.rowBytes + i * q.rowBytes) val

/-- Appends the tokens of one entry in one layer (16 R646, R647). -/
def Tun.appendLayer (now : Nat) (k : Half) (e : BEntry) (j : Nat) (t : Tun) : Tun :=
  match t.cseq k e.id with
  | none => t
  | some q =>
    let row := q.rowBytes
    let per := if q.kind = 1 then e.a * row else 2 * e.a * row
    let block := (e.data.drop (j * per)).take per
    let t := (List.range e.a).foldl (fun t i =>
      let key := (block.drop (i * row)).take row
      let val := if q.kind = 1 then [] else (block.drop ((e.a + i) * row)).take row
      (t.rolesAt q.stripe q.promoted ((e.base + i) / q.tpp)).foldl (fun t m => t.putToken now k e.id m (e.first + j) (e.base + i) key val) t) t
    t.modSeq k e.id fun q => { q with lens := q.lens.set (e.first + j) (e.base + e.a) }

/-- Publishes one entry in Racking (16 R647). -/
def Tun.applyEntry (now : Nat) (c : Cmd) (steeps : List Nat) (e : BEntry) (t : Tun) : Tun :=
  let k := (t.ctx c.ctx).pkey
  if e.skip then t
  else if e.action = 2 then
    match t.cseq k e.id with
    | none => t
    | some q =>
      let ps := (q.pages.filter fun p => !(t.cellar.lostStacks.getLsbD p.stack)).map fun p => (p.stack, p.loc)
      t.modCellar fun x => { x with
        seqs := x.seqs.filter fun y => !(y.pkey == k && y.id == e.id),
        freeing := if steeps.isEmpty || ps.isEmpty then x.freeing else x.freeing ++ [(ps, steeps)] }
  else
    let t := if e.action = 1 then t.modCellar fun x => { x with
        seqs := x.seqs ++ [{ pkey := k, id := e.id, kind := e.kind, fmt := e.fmt, heads := e.heads, dim := e.dim, stripe := e.stripe,
                             ctx := some c.ctx, lens := List.replicate e.layers 0 }] } else t
    if e.a = 0 then t else (List.range e.span).foldl (fun t j => t.appendLayer now k e j) t

/-- Sequence locks: who waits on one (16 R638, R651). -/
def Tun.lockWaiters (t : Tun) (k : Half) (id : Nat) : List Cmd :=
  t.bm.cmds.filter fun c => c.phase == .waitLock && (t.ctx c.ctx).pkey == k && leAt c.desc 16 4 == id

/-- The waiter a lock goes to: the highest effective priority, the earliest among equals (16 R651). -/
def Tun.lockNext (t : Tun) (k : Half) (id : Nat) : Option Cmd :=
  (t.lockWaiters k id).foldl (fun best c =>
    match best with
    | none => some c
    | some b => if t.eff b.ctx < t.eff c.ctx ∨ (t.eff b.ctx = t.eff c.ctx ∧ c.id < b.id) then some c else some b) none

/-- A lock leaves its holder: it goes to a waiter, or becomes free or orphaned (16 Table 16-8). -/
def Tun.lockPass (k : Half) (id : Nat) (orphan : Bool) (t : Tun) : Tun :=
  match t.lockNext k id with
  | some c => (t.modSeq k id fun q => { q with holder := some c.ctx, orphaned := false }).modCmd c.id fun c => { c with
      phase := .waitUnit, orphanLock := orphan }
  | none => t.modSeq k id fun q => { q with holder := none, orphaned := orphan }

/-- Every lock a context holds is orphaned: it faulted, took CTX_KILL MODE 1 or was undefined (16 Table 16-8). -/
def Tun.orphanLocks (c : Nat) (t : Tun) : Tun :=
  (t.cellar.seqs.filter fun q => q.holder == some c).foldl (fun t q =>
    (t.lockPass q.pkey q.id true).modCellar fun x => { x with orphans := satInc x.orphans }) t

/-- A sequence was removed: commands waiting for its lock complete with NO_SEQUENCE (16 Table 16-8). -/
def Tun.failLockWaiters (now : Nat) (k : Half) (id : Nat) (t : Tun) : Tun :=
  (t.lockWaiters k id).foldl (fun t c => t.failCmd now c 0x0304) t

/-! ### SPACE 4 (13 R511) -/

/-- The stripe position whose units SPACE 4 names: this Tun's own one, else the lowest it was promoted to (13 R511, 16 R661). -/
def Tun.localPos (t : Tun) (q : CSeq) : Option Nat :=
  match t.homePos q.stripe with
  | some p => some p
  | none => (t.positions q.stripe).find? q.promoted.contains

/-- Local units of a KIND 1 sequence in ascending unit order, those below its length: local unit l is unit position + l × S
(13 R511). -/
def Tun.localUnits (t : Tun) (q : CSeq) : List PageRef :=
  match t.localPos q with
  | none => []
  | some p => ((List.range (q.lens.getD 0 0)).filter fun u => u % t.stripeWidth q.stripe == p).filterMap fun u => q.page false 0 u

/-- A SPACE 4 range's failure, or the sequence (13 R511). -/
def Tun.space4 (t : Tun) (k : Half) (addr : Dword) (len : Nat) : Except Half CSeq :=
  let id := (addr.extractLsb' 32 32).toNat
  let off := (addr.extractLsb' 0 32).toNat
  match t.cseq k id with
  | none => .error 0x0304
  | some q =>
    if q.kind ≠ 1 ∨ (t.localPos q).isNone then .error 0x0304
    else if q.lost then .error 0x0303
    else if (t.localUnits q).length * pageBytes < off + len then .error 0x0012
    else .ok q

/-- Cask address of a byte of a SPACE 4 location. -/
def Tun.localAddr (t : Tun) (q : CSeq) (o : Nat) : Nat :=
  match (t.localUnits q)[o / pageBytes]? with
  | some p => caskAddr p.stack p.loc + o % pageBytes
  | none => 0

def Tun.space4ReadP (t : Tun) (q : CSeq) (off len : Nat) : List PByte :=
  (List.range len).flatMap fun i => t.caskReadP (t.localAddr q (off + i)) 1

end Sys2Proof.Machine
end

