-- ==== Sys2Proof/Machine/LocCore.lean ====
section
/-! DEFINITION. Locations of the general opcodes (13 R510-R512, Table 13-5): their checks, the reads that fetch them and the
outputs that write them. -/

namespace Sys2Proof.Machine
open Sys2Proof

/-- A location (13 Table 13-5); `rsv` says that its reserved bits are 0. -/
structure Loc where
  addr : Dword
  dest : Nat
  channel : BitVec 4
  space : Nat
  cls : BitVec 3
  rsv : Bool
deriving DecidableEq, Repr

def locOf (bs : List Byte) : Loc :=
  let h := leAt bs 8 2
  let b := byteAt bs 10
  let k := byteAt bs 11
  { addr := BitVec.ofNat 64 (leAt bs 0 8), dest := h % 4096, channel := b.extractLsb' 4 4, space := (b.extractLsb' 0 4).toNat,
    cls := k.extractLsb' 0 3, rsv := decide (h < 4096) && decide (k.toNat < 8) && leAt bs 12 4 == 0 }

def Loc.remote (l : Loc) : Bool := l.space == 2 || l.space == 3

/-- The fields of a location are valid (13 Table 13-5). -/
def Loc.ok (l : Loc) : Bool :=
  l.rsv && (if l.remote then decide (l.channel.toNat ≤ 14) && bulkClass l.cls
            else decide (l.space ≤ 4) && l.dest == 0 && l.channel == 0 && l.cls == 0)

/-- Why a location of `len` bytes is refused at check 6 (13 R510, R511). -/
def Tun.locFault (t : Tun) (c : Cmd) (l : Loc) (len : Nat) : Option Half :=
  let x := t.ctx c.ctx
  if ¬ l.ok then some 0x00F1
  else if l.space = 0 then (if x.inUsable l.addr.toNat len then none else some 0x0012)
  else if l.space = 1 then
    (match t.cmdFn c with
     | some f => if t.hostReach f then none else some 0x0012
     | none => some 0x0012)
  else if l.space = 4 then (match t.space4 x.pkey l.addr len with | .error e => some e | .ok _ => none)
  else none

/-- Cuts `len` bytes into lengths of at most `n`: (offset, length). -/
def cutLens (n : Nat) : Nat → Nat → Nat → List (Nat × Nat)
  | 0, _, _ => []
  | k + 1, off, len => if len = 0 then [] else (off, min n len) :: cutLens n k (off + min n len) (len - min n len)

/-- Cuts `len` bytes from address `a` at multiples of `n`: (offset, length). -/
def cutAligned (n a : Nat) : Nat → Nat → Nat → List (Nat × Nat)
  | 0, _, _ => []
  | k + 1, off, len =>
    if len = 0 then [] else
    let m := min len (n - (a + off) % n)
    (off, m) :: cutAligned n a k (off + m) (len - m)

def cut64 (a len : Nat) : List (Nat × Nat) := cutAligned 64 a (len / 64 + 2) 0 len

/-- READ_REQs of at most 4,096 bytes for `len` bytes at a destination. -/
def remotePieces (dst : Nat) (rank : Bool) (ch : BitVec 4) (cls : BitVec 3) (addr len tag : Nat) : List Piece :=
  (cutLens 4096 (len / 4096 + 1) 0 len).map fun p =>
    { dst := dst, dstKind := rank, channel := ch, cls := cls, addr := addr + p.1, len := p.2, tag := tag }

def readyPiece (ps : List PByte) (tag : Nat) : Piece := { len := ps.length, tag := tag, ready := some (pbytes ps), poison := anyPoison ps }

/-- Pieces that keep each poison unit apart. -/
def readyPieces (a : Nat) (ps : List PByte) (tag : Nat) : List Piece :=
  if anyPoison ps then (cut64 a ps.length).map fun p => readyPiece ((ps.drop p.1).take p.2) tag else [readyPiece ps tag]

/-- The reads that fetch `len` bytes of a location (13 R510, R511). -/
def Tun.locPlan (t : Tun) (c : Cmd) (l : Loc) (len : Nat) : List Piece :=
  let a := l.addr.toNat
  if l.space = 0 then readyPieces a (t.shareReadP c.ctx a len) 0
  else if l.space = 1 then [{ host := true, addr := a, len := len }]
  else if l.space = 4 then
    (match t.space4 (t.ctx c.ctx).pkey l.addr len with
     | .ok q => readyPieces (a % 2 ^ 32) (t.space4ReadP q (a % 2 ^ 32) len) 0
     | .error _ => [])
  else remotePieces l.dest (l.space == 3) l.channel l.cls a len 0

/-- Counts the Cask reads of a SPACE 4 location. -/
def Tun.space4Txn (now : Nat) (c : Cmd) (l : Loc) (len : Nat) (t : Tun) : Tun :=
  if l.space ≠ 4 then t else
  match t.space4 (t.ctx c.ctx).pkey l.addr len with
  | .ok q =>
    (cutAligned pageBytes (l.addr.toNat % 2 ^ 32) (len / pageBytes + 2) 0 len).foldl (fun t p =>
      t.caskTxn now false (t.localAddr q (l.addr.toNat % 2 ^ 32 + p.1)) p.2) t
  | .error _ => t

/-- WRITE packets of at most 4,096 bytes; a block that holds poison goes unit by unit (19 R740). -/
def Tun.writePackets (t : Tun) (ctx dst : Nat) (rank : Bool) (ch : BitVec 4) (cls : BitVec 3) (addr : Nat) (ps : List PByte) : List Packet :=
  let x := t.ctx ctx
  let one (o n : Nat) : Packet :=
    let d := (ps.drop o).take n
    { type := tyWrite, cls := cls, channel := ch, dst := BitVec.ofNat 12 dst, dstKind := rank, addr := BitVec.ofNat 64 (addr + o),
      len := BitVec.ofNat 13 n, pkey := x.pkey, ctx := BitVec.ofNat 8 ctx, poison := anyPoison d, payload := pbytes d }
  (cutLens 4096 (ps.length / 4096 + 1) 0 ps.length).flatMap fun p =>
    let d := (ps.drop p.1).take p.2
    if anyPoison d then (cut64 (addr + p.1) p.2).map fun q => one (p.1 + q.1) q.2 else [one p.1 p.2]

/-- Writes to a share, unit by unit. -/
def wortEffects (ctx off : Nat) (ps : List PByte) : List Effect :=
  (cut64 off ps.length).map fun p =>
    let d := (ps.drop p.1).take p.2
    Effect.wort ctx (off + p.1) (pbytes d) (anyPoison d)

/-- The outputs that write bytes to a location (13 R510, R511). -/
def Tun.locEffects (t : Tun) (c : Cmd) (l : Loc) (ps : List PByte) : List Effect :=
  let a := l.addr.toNat
  if l.space = 0 then wortEffects c.ctx a ps
  else if l.space = 1 then
    (if anyPoison ps then (cut64 a ps.length).map fun p => let d := (ps.drop p.1).take p.2; Effect.host (a + p.1) (pbytes d) (anyPoison d)
     else [.host a (pbytes ps) false])
  else if l.space = 4 then
    (if anyPoison ps then cut64 (a % 2 ^ 32) ps.length else cutAligned pageBytes (a % 2 ^ 32) (ps.length / pageBytes + 2) 0 ps.length).map fun p =>
      let d := (ps.drop p.1).take p.2
      Effect.cask (a / 2 ^ 32) (a % 2 ^ 32 + p.1) (pbytes d) (anyPoison d)
  else (t.writePackets c.ctx l.dest (l.space == 3) l.channel l.cls a ps).map .send

/-- Operand bytes not used by an opcode are 0: `used` lists (first, last) byte ranges in ascending order (14 R539, 16 R639). -/
def restZero (d : List Byte) (used : List (Nat × Nat)) : Bool :=
  (List.range 48).all fun i => (used.any fun u => decide (u.1 ≤ 16 + i) && decide (16 + i ≤ u.2)) || byteAt d (16 + i) == 0

end Sys2Proof.Machine
end

