-- ==== Sys2Proof/Machine/CollCore.lean ====
section
/-! DEFINITION. The shared operations of groups and collectives (chapter 15): descriptors, striping, contributions, the chunks of
pull mode, and the Tap unit. -/

namespace Sys2Proof.Machine
open Sys2Proof

/-! ### Striping (15 R586) -/

/-! ### Checks (15 R583, R592, R595-R597, R613) -/

/-- An operator with its types (15 Table 15-4). -/
def operOk (oper inTy outTy : Nat) : Bool :=
  if oper ≤ 2 then (decide (inTy ≤ 4) && decide (outTy ≤ 4)) || (inTy == 5 && outTy == 5)
  else if oper = 3 then lseType inTy && lseType outTy
  else if oper ≤ 6 then inTy == 5 && outTy == 5
  else oper == 7 && decide (inTy ≤ 7) && outTy == inTy

/-- Fields a form does not use are 0, and the others are in range (15 R596, R597, R613). -/
def Coll.fieldsOk (f : Coll) (opcode m : Nat) (d : List Byte) : Bool :=
  let op := f.op opcode
  let lse := lseType f.inTy || lseType f.outTy
  leAt d 16 2 / 4096 == 0 && (byteAt d 22 &&& 0xCC) == 0 && decide ((byteAt d 23).toNat ≤ 1) && leAt d 60 2 / 1024 == 0 && byteAt d 63 == 0 &&
    operOk f.oper f.inTy f.outTy && decide (f.notify ≤ 2) &&
    (if lse then decide (1 ≤ f.dim) && decide (f.dim ≤ 256) else f.dim == 0) &&
    (!f.final || f.oper == 3) && decide (1 ≤ f.chunk) && decide (f.chunk ≤ 1024) &&
    (if opcode = 0x48 then op == 0x43 || op == 0x44 || op == 0x45 else f.pushOp == 0) &&
    (if op = 0x47 then decide (64 ≤ f.cap) && decide (f.cap ≤ 2 ^ 24) && f.cap % 64 == 0 && f.count == 0 && decide (f.deliver ≤ 1)
     else f.cap == 0 && decide (1 ≤ f.count) && decide (f.count ≤ 2 ^ 32)) &&
    (if op = 0x43 ∨ op = 0x44 then f.oper != 7 else f.oper == 7) && (op != 0x44 || f.count % m == 0) &&
    (if op = 0x46 ∨ f.deliver = 1 then decide (f.root < m) else f.root == 0)

/-- What check 6 says of a collective; `none` when it passes (15 R584, R597, R612, R613, R617). -/
def Tun.collCheck (t : Tun) (c : Cmd) : Option Half :=
  let f := collOf c.desc
  match t.group f.group with
  | none => some 0x0404
  | some g =>
    let m := g.members.length
    let op := f.op c.op
    if g.queue ≠ c.queue ∨ g.ctx ≠ c.ctx then some 0x0404
    else if f.gen ≠ g.gen then some 0x0401
    else if op = 0x47 ∧ f.cap = 0 then some 0x00F0
    else if ¬ f.fieldsOk c.op m c.desc then some 0x00F1
    else if f.deliver = 1 ∧ ((g.members[f.root]?).map (·.tun)).getD true then some 0x00F1
    else if g.windowLen < f.src + f.inBytes op m then some 0x00F1
    else if f.deliver ≤ 1 ∧ g.windowLen < f.dst.toNat + f.outBytes op m then some 0x00F1
    else
      let e := t.ownElems g f op
      let n := (e.2 - e.1) * f.outSize
      if f.deliver = 2 ∧ ¬ (t.ctx c.ctx).inUsable f.dst.toNat n then some 0x0012
      else if f.deliver = 3 then (match t.space4 (t.ctx c.ctx).pkey f.dst n with | .error st => some st | .ok _ => none)
      else none

/-! ### Members and group commands (15 R581-R585) -/

/-- A member list in a share: the members, or the failure (15 R581, R583). -/
def Tun.memberList (t : Tun) (c off n : Nat) : Except Half (List Member) :=
  let x := t.ctx c
  if ¬ x.inUsable off (2 * n) then .error 0x0012
  else
    let es := (List.range n).map fun i => leAt (t.shareRead c (off + 2 * i) 2) 0 2
    let one (e : Nat) : Except Half Member :=
      if 32768 ≤ e then (if e - 32768 < 4 * t.trays then .ok { tun := true, id := 192 + (e - 32768) } else .error 0x00F1)
      else if 4096 ≤ e then .error 0x00F1
      else match (t.rankTable x.pkey).bind fun tab => t.rankEp tab e with
        | some i => .ok { tun := false, id := i }
        | none => .error 0x0503
    es.foldr (fun e r =>
      match one e, r with
      | .error st, _ => .error st
      | _, .error st => .error st
      | .ok m, .ok ms => if ms.contains m then .error 0x00F1 else .ok (m :: ms)) (.ok [])

/-- Bits of a TUN_MASK within the plan, this Tun among them (15 Table 15-1). -/
def Tun.maskOk (t : Tun) (w : Word) : Bool :=
  w.getLsbD (t.number - 192) && decide (w.toNat < 2 ^ (4 * t.trays))

/-! ### Ready and landing state (15 R602, R603) -/

/-- The place belongs to the instance: it is not completed, nor is an older one that maps to the same place (15 R602). -/
def Group.owns (g : Group) (n : Nat) : Bool :=
  !(g.completed n) && (List.range (g.ahead n)).all fun j =>
    decide ((g.oldest + j) % 4 ≠ n % 4) || g.completed ((g.oldest + j) % 1024)

def Group.place (g : Group) (n : Nat) : Place := (g.places.find? (·.inst == n)).getD { inst := n }

def Group.setPlace (p : Place) (g : Group) : Group := { g with places := g.places.filter (·.inst != p.inst) ++ [p] }

/-- Instances older than a command's and without a command are taken as completed (15 R602, assumption 70, DEDUCED). -/
def Group.openInst (n id : Nat) (g : Group) : Group :=
  let older := if 512 ≤ g.ahead n then [] else (List.range (g.ahead n)).map fun j => (g.oldest + j) % 1024
  let g := older.foldl (fun g k => if (g.place k).cmd.isSome || g.completed k then g else g.finishInst k) g
  g.setPlace { g.place n with cmd := some id }

/-- First byte not covered by landed ranges from `a` on, up to `b`. -/
def coverFrom (rs : List (Nat × Nat)) : Nat → Nat → Nat
  | 0, a => a
  | k + 1, a =>
    match rs.find? fun r => decide (r.1 ≤ a) && decide (a < r.1 + r.2) with
    | some r => coverFrom rs k (r.1 + r.2)
    | none => a

/-- Every byte from `a` to `b` of a member's input has landed (15 R603). -/
def Place.covers (p : Place) (m a b : Nat) : Bool :=
  let rs := (p.landed.filter (·.1 == m)).map (·.2)
  decide (b ≤ coverFrom rs rs.length a)

/-- First input byte this Tun needs from a member (15 R603). -/
def Tun.landStart (t : Tun) (g : Group) (f : Coll) (op m : Nat) : Nat :=
  let e := t.ownElems g f op
  match (f.needs op g.members.length e.1 e.2).find? (·.1 == m) with
  | some n => n.2.1
  | none => 0

/-- First byte of a SAMPLE_STEP's rows this Tun needs: the rows of its own entries (17 R701). -/
def Tun.sampleStart (t : Tun) (g : Group) (d : List Byte) : Nat :=
  let esz := if byteAt d 22 = 0 then 4 else 2
  (t.stripe g.tunMask (leAt d 20 2)).1 * (leAt d 28 4 * esz)

/-- Landing start of the command of an instance. -/
def Tun.startOf (t : Tun) (g : Group) (c : Cmd) (m : Nat) : Nat :=
  if c.op = 0x66 then t.sampleStart g c.desc else t.landStart g (collOf c.desc) c.op m

/-- Lands bytes of a member; `none` when they fall outside its landing slot (15 R602, R603). -/
def Tun.landBytesAt (t : Tun) (gn : Nat) (c : Cmd) (inst m off : Nat) (bs : List Byte) (poison : Bool) : Option Tun :=
  match t.group gn with
  | none => none
  | some g =>
    let s := t.startOf g c m
    if off < s ∨ g.landBytes < off - s + bs.length then none
    else
      let t := t.shareStore g.ctx (g.landOff + m * g.landBytes + (off - s)) bs poison
      let p := g.place inst
      some (t.modGroup gn (Group.setPlace { p with landed := p.landed ++ [(m, off, bs.length)] }))

def Tun.modMash (f : Mash → Mash) (t : Tun) : Tun := { t with mash := f t.mash }

def Tun.discardContrib (t : Tun) : Tun := t.modMash fun m => { m with contribDiscard := satInc m.contribDiscard }

/-- Data of a member for an instance: landed, kept until its command starts, or discarded (15 R602, R603). -/
def Tun.landData (gn inst m off : Nat) (bs : List Byte) (poison forfeit : Bool) (t : Tun) : Tun :=
  match t.group gn with
  | none => t.discardContrib
  | some g =>
    let oldest := (g.advance g.done.length).oldest
    if ¬ g.owns inst ∨ inst ≠ oldest then t.discardContrib
    else
      let p := g.place inst
      match p.cmd.bind t.cmd with
      | some c =>
        match t.landBytesAt gn c inst m off bs poison with
        | some t => if forfeit then t.modCmd c.id fun c => { c with forfeit := true } else t
        | none => t.discardContrib
      | none => t.modGroup gn (Group.setPlace { p with early := p.early ++ [(m, off, bs, poison)], forfeit := p.forfeit || forfeit })

/-- A command takes its instance: data that came early lands now. -/
def Tun.openInstance (c : Cmd) (t : Tun) : Tun :=
  let gn := c.groupNo
  let i := c.instanceNo
  let t := t.modGroup gn (Group.openInst i c.id)
  match t.group gn with
  | none => t
  | some g =>
    let p := g.place i
    let t := t.modGroup gn (Group.setPlace { p with early := [] })
    let t := p.early.foldl (fun t e => (t.landBytesAt gn c i e.1 e.2.1 e.2.2.1 e.2.2.2).getD t.discardContrib) t
    if p.forfeit then t.modCmd c.id fun c => { c with forfeit := true } else t

/-- A member's input for a chunk is ready (15 R603); a Tun member only by landing. -/
def Group.ready (g : Group) (inst chunk m a b : Nat) : Bool :=
  let p := g.place inst
  let sig : Bool := match p.ready.find? (·.1 == m) with
    | some r => r.2 == 0xFFFFFFFF || decide (chunk ≤ r.2)
    | none => false
  a == b || p.covers m a b || (sig && !((g.members[m]?).map (·.tun)).getD true)

/-- The reads of one needed range: landed bytes from the landing area, the rest from the member's window (15 R605). -/
def Tun.gatherPieces (t : Tun) (g : Group) (c : Cmd) (src m a b : Nat) : List Piece :=
  if a = b then []
  else if (g.place c.instanceNo).covers m a b then
    let o := g.landOff + m * g.landBytes + (a - t.startOf g c m)
    readyPieces o (t.shareReadP g.ctx o (b - a)) m
  else remotePieces ((g.members[m]?).map (·.id) |>.getD 0) false g.channel clAmber (g.window + src + a) (b - a) m

/-- Bytes the plan's pieces with a tag returned, with their poison. -/
def Cmd.gathered (c : Cmd) (m : Nat) : List PByte :=
  (List.zip c.plan c.fetches).flatMap fun x =>
    if x.1.tag = m then (x.2.data.getD []).map fun b => (b, x.2.poison) else []

/-! ### Combining a chunk (15 R593, R594, R605, R614) -/

/-- Output elements `a` to `b` of a chunk. -/
def Tun.chunkElems (t : Tun) (g : Group) (f : Coll) (op j : Nat) : Nat × Nat :=
  let s := t.ownGranules g f op
  let n := f.granElems op
  let g0 := s.1 + j * f.chunk
  (g0 * n, min (min (s.1 + s.2) (g0 + f.chunk) * n) (f.outElems op g.members.length))

def Tun.chunksOwned (t : Tun) (g : Group) (f : Coll) (op : Nat) : Nat :=
  let n := (t.ownGranules g f op).2
  (n + f.chunk - 1) / f.chunk

/-- One element of every member combined into output bytes; poisoned when any input is (15 R593, R594, 19 R740). -/
def Coll.combineElem (f : Coll) (ins : List (List PByte)) : List PByte :=
  let p := ins.any anyPoison
  let out :=
    if lseType f.inTy then lseOut f.outTy (lseFinal f.final (lseAll f.dim (ins.map fun b => lseIn f.inTy f.dim (pbytes b))))
    else elemOut f.outTy (combineAll f.oper (f.inTy == 5) (ins.map fun b => elemIn f.inTy (pbytes b)))
  out.map fun b => (b, p)

/-- Output of a chunk from what its members gave. -/
def Coll.combine (f : Coll) (op a b : Nat) (ins : List (List PByte)) : List PByte :=
  if op = 0x45 ∨ op = 0x46 then ins.flatten
  else (List.range (b - a)).flatMap fun i => f.combineElem (ins.map fun x => (x.drop (i * f.inSize)).take f.inSize)

/-- Lengths L(i, j) of an all-to-all (15 R614). -/
def Cmd.lenOf (c : Cmd) (i j : Nat) : Nat := leAt (c.tables.getD i []) (4 * j) 4

/-- Start of block j in member i's input (15 R614). -/
def Cmd.blockStart (c : Cmd) (m i j : Nat) : Nat :=
  up64 (4 * m) + (List.range j).foldl (fun n k => n + up64 (c.lenOf i k)) 0

/-- Bytes of block j of member i that 64-byte pieces `a` to `b` of its slot take: from, to. -/
def Cmd.blockPart (c : Cmd) (f : Coll) (m i j a b : Nat) : Nat × Nat :=
  let l := min (c.lenOf i j) f.cap
  let s := c.blockStart m i j
  (s + min l (64 * a), s + min l (64 * b))

/-- Pairs (i, j) in ascending order. -/
def pairs (m : Nat) : List (Nat × Nat) := (List.range m).flatMap fun i => (List.range m).map fun j => (i, j)

/-- Overflowing pairs (15 R616). -/
def Cmd.overflows (c : Cmd) (f : Coll) (m : Nat) : List (Nat × Nat) := (pairs m).filter fun p => decide (f.cap < c.lenOf p.1 p.2)

/-- Extension record of an all-to-all (15 Table 15-8). -/
def Cmd.overflowExt (c : Cmd) (f : Coll) (m : Nat) : List Byte :=
  let ps := c.overflows f m
  let dropped := ps.foldl (fun n p => n + (c.lenOf p.1 p.2 - f.cap)) 0
  let four := (List.range 4).flatMap fun k =>
    match ps[k]? with
    | some p => bytesLE 2 p.1 ++ bytesLE 2 p.2
    | none => [0xFF, 0xFF, 0xFF, 0xFF]
  bytesLE 4 ps.length ++ bytesLE 8 dropped ++ four ++ [0, 0, 0]

/-! ### Delivering and notices (15 R600, R601, R606) -/

/-- Ends a pull-mode command: DONE notices, then its record with RESULT0 and RESULT1 (15 R599, R605, R609). -/
def Tun.collEnd (now : Nat) (c : Cmd) (st : Half) (ext : List Byte) (t : Tun) : Tun :=
  let f := collOf c.desc
  match t.group f.group with
  | none => t.failCmd now c st
  | some g =>
    let own := (t.ownGranules g f c.op).2
    let ok := st = 0 ∨ st = 1 ∨ st = 0x0402
    let t := t.doneNotices now c g (if ok then 0 else st) (g.members.map (·.id))
    let r0 := BitVec.ofNat 64 c.progress
    let r1 := BitVec.ofNat 48 own
    if ok then t.completeExt now c st r0 r1 ext
    else (t.semGiveBack c).finishCmd now c st r0 r1 []

/-- A started command ends with a failure it met while running (13 R528, R529, 15 R609, 17 R701). -/
def Tun.runFail (now : Nat) (c : Cmd) (st : Half) (t : Tun) : Tun :=
  if 0x43 ≤ c.op ∧ c.op ≤ 0x47 then t.collEnd now c st [] else t.failCmd now c st

/-- Applies the outputs of a Racking in order: copy_local, then hand_to_egress (14 R561). -/
def Tun.applyLocal (now : Nat) (c : Cmd) (e : Effect) (t : Tun) : Tun :=
  match e with
  | .wort x off bs p => t.shareStore x off bs p
  | .cask id off bs p =>
    match t.cseq (t.ctx c.ctx).pkey id with
    | some q => if q.lost then t else t.caskWriteP now (t.localAddr q off) (bs.map fun b => (b, p))
    | none => t
  | _ => t

/-- An engine-to-port circuit of the Recipe in force that carries an output of the unit to the packet's destination. -/
def Tun.engineCircuit (t : Tun) (u dst : Nat) : Option Dword :=
  match t.sched.inForce with
  | none => none
  | some r => r.circuits.find? fun w => cirKind w == 2 && cirIn w == u && cirPeer w == dst

/-- Hands a remote output to egress: as a circuit's engine output where the unit has one, else unscheduled (12 R462, 14 R561). -/
def Tun.handOut (now : Nat) (c : Cmd) (p : Packet) (t : Tun) : Tun :=
  let r := t.formOwn now p
  r.1.foldl (fun t q =>
    match c.units.findSome? fun u => (t.engineCircuit u q.dst.toNat).map fun w => (u, w) with
    | some x => t.modSched fun s => { s with
        outputs := s.outputs ++ [{ unit := x.1, port := cirOut x.2, slot := cirSlot x.2, pkt := q, cmd := c.id }] }
    | none => t.queueOut now [q]) r.2

def Tun.applyRemote (now : Nat) (c : Cmd) (e : Effect) (t : Tun) : Tun :=
  match e with
  | .send p => t.handOut now c p
  | .host a bs p => t.hostWrite (t.cmdFn c) a bs p
  | _ => t

def Tun.applyEffects (now : Nat) (c : Cmd) (es : List Effect) (t : Tun) : Tun :=
  es.foldl (fun t e => t.applyRemote now c e) (es.foldl (fun t e => t.applyLocal now c e) t)

/-- Outputs of one chunk's bytes (15 R606 step 1): `a` is its first element. Also the members that receive some of it. -/
def Tun.chunkOutputs (t : Tun) (g : Group) (f : Coll) (c : Cmd) (op a b : Nat) (out : List PByte) : List Effect × List Nat :=
  let z := f.outSize
  let e0 := (t.ownElems g f op).1
  let m := g.members.length
  if f.deliver = 2 then (wortEffects c.ctx (f.dst.toNat + (a - e0) * z) out, [])
  else if f.deliver = 3 then
    (t.locEffects c { addr := f.dst + BitVec.ofNat 64 ((a - e0) * z), dest := 0, channel := 0, space := 4, cls := 0, rsv := true } out, [])
  else
    let parts := (f.receivers g).filterMap fun i =>
      if op = 0x44 then
        let blk := f.count / m
        let lo := max a (i * blk)
        let hi := min b ((i + 1) * blk)
        if lo < hi then some (i, (lo - i * blk) * z, (out.drop ((lo - a) * z)).take ((hi - lo) * z)) else none
      else some (i, a * z, out)
    (parts.flatMap fun p =>
      (t.writePackets c.ctx (g.idOf p.1) false g.channel clAmber (g.window + f.dst.toNat + p.2.1) p.2.2).map Effect.send, parts.map (·.1))

/-- Outputs of an all-to-all's chunk: slot pieces `a` to `b` of each member, and with piece 0 the length tables (15 R614, R615). -/
def Tun.a2aOutputs (t : Tun) (g : Group) (f : Coll) (c : Cmd) (a b : Nat) : List Effect × List Nat :=
  let m := g.members.length
  let bad := c.poisoned
  let base := g.window + f.dst.toNat
  let rs := f.receivers g
  let slot (i j : Nat) : List PByte :=
    let p := c.blockPart f m i j a b
    let d := (c.gathered (i * m + j)).take (p.2 - p.1)
    (d ++ List.replicate (64 * (b - a) - d.length) (0, false)).map fun (x : PByte) => (x.1, x.2 || bad)
  let tables := fun (j : Nat) => (List.range m).flatMap fun i => (bytesLE 4 (min (c.lenOf i j) f.cap)).map fun x => (x, bad)
  (rs.flatMap fun j =>
    (if a = 0 then t.writePackets c.ctx (g.idOf j) false g.channel clAmber base (tables j) else []).map Effect.send ++
      (List.range m).flatMap fun i =>
        (t.writePackets c.ctx (g.idOf j) false g.channel clAmber (base + up64 (4 * m) + i * f.cap + 64 * a) (slot i j)).map Effect.send, rs)

/-! ### The Tap unit (15 R620-R624) -/

/-- Exact sum of floats, rounded once (15 R622). -/
def tapSum (ty : Nat) (xs : List (List Byte)) : List Byte :=
  let f := typeFmt ty
  bytesLE (typeSize ty 0) (f.encode ((xs.map fun b => f.decode (natLE b)).foldl fpAdd (match xs with | [] => .fin false 0 0 | _ => .fin true 0 0)))

/-- One element of the Tap result, from the members' values in member order. -/
def tapElem (op ty : Nat) (xs : List (List Byte)) : List Byte :=
  if op = 0 ∧ ty ≠ 5 then tapSum ty xs else elemOut ty (combineAll op (ty == 5) (xs.map (elemIn ty)))

/-- Result of a step (15 R622). -/
def TapSlot.result (s : TapSlot) : List Byte :=
  let val (i : Nat) : List Byte := ((s.cur.find? (·.1 == i)).map (·.2)).getD []
  if s.op = 7 then val s.root
  else
    let z := typeSize s.type 0
    let ins := (List.range s.members.length).map val
    (List.range (s.size / z)).flatMap fun k => tapElem s.op s.type (ins.map fun b => (b.drop (k * z)).take z)

def Tun.modTap (n : Nat) (f : TapSlot → TapSlot) (t : Tun) : Tun :=
  t.modMash fun m => { m with taps := m.taps.map fun e => if e.1 = n then (n, f e.2) else e }

/-- ADDR of a TAP packet (15 R621). -/
def tapAddr (slot gen step : Nat) : Dword := BitVec.ofNat 64 (slot % 256 * 2 ^ 56 + gen % 256 * 2 ^ 48 + step % 65536 * 2 ^ 32)

/-- Completes a slot's current step as long as all members have contributed to it (15 R622). -/
def Tun.tapAdvance (now n : Nat) : Nat → Tun → Tun
  | 0, t => t
  | k + 1, t =>
    match (t.mash.taps.find? (·.1 == n)).map (·.2) with
    | none => t
    | some s =>
      if s.cur.length < s.members.length then t else
      let bs := s.result
      let t := (t.modTap n fun s => { s with step := s.step + 1, cur := s.nxt, nxt := [] }).bump 4 1 0x38
      let t := s.members.foldl (fun t id => t.originate now
        { type := tyTap, cls := clScarlet, channel := Config.openChannel 0, dst := BitVec.ofNat 12 id, addr := tapAddr n s.gen.toNat s.step.toNat,
          len := BitVec.ofNat 13 bs.length, pkey := (t.ctx s.ctx).pkey, ctx := BitVec.ofNat 8 s.ctx, payload := bs }) t
      Tun.tapAdvance now n k t

/-- A contribution taken from the receive queue (15 R621). -/
def Tun.tapTake (now : Nat) (p : Packet) (t : Tun) : Tun :=
  let n := (p.addr.extractLsb' 56 8).toNat
  let refused (t : Tun) := t.modMash fun m => { m with tapRefused := satInc m.tapRefused }
  match (t.mash.taps.find? (·.1 == n)).map (·.2) with
  | none => refused t
  | some s =>
    let i := s.members.idxOf p.srcEp.toNat
    if p.addr.extractLsb' 48 8 ≠ s.gen ∨ s.members.length ≤ i ∨ p.len.toNat ≠ s.size ∨ p.ctx.toNat ≠ s.ctx ∨ p.poison then refused t
    else
      let d := p.addr.extractLsb' 32 16 - s.step
      let dup (t : Tun) := t.modMash fun m => { m with tapDup := satInc m.tapDup }
      if d = 0 then
        (if s.cur.any (·.1 == i) then dup t
         else ((t.modTap n fun s => { s with cur := s.cur ++ [(i, p.payload)] }).bump 4 3 0x38).tapAdvance now n 2)
      else if d = 1 then
        (if s.nxt.any (·.1 == i) then dup t else (t.modTap n fun s => { s with nxt := s.nxt ++ [(i, p.payload)] }).bump 4 3 0x38)
      else t.modMash fun m => { m with tapEarly := satInc m.tapEarly }

end Sys2Proof.Machine
end

