-- ==== Sys2Proof/Machine/TokenCore.lean ====
section
/-! DEFINITION. The shared operations of the token engines (chapter 17): table images and their checks, Grist's normalisation,
splitting and trie walk, host text streams, Lauter's masks and lists, and Pour's choice of a token. -/

namespace Sys2Proof.Machine
open Sys2Proof

/-! ### Table images (17 R664-R667) -/

def imgKind (im : List Byte) : Nat := (byteAt im 4).toNat
def imgVocab (im : List Byte) : Nat := leAt im 0x0C 4
def imgA (im : List Byte) : Nat := leAt im 0x10 4
def imgB (im : List Byte) : Nat := leAt im 0x14 4
def imgC (im : List Byte) : Nat := leAt im 0x18 4
def imgParam (im : List Byte) : Nat := leAt im 0x1C 4
def imgExtra (im : List Byte) : Nat := leAt im 0x28 8

/-- Sizes of the parts of a body, in order (17 Table 17-2). -/
def partSizes (im : List Byte) : List Nat :=
  let a := imgA im
  let b := imgB im
  let c := imgC im
  match imgKind im with
  | 1 => [8 * a, 4 * b]
  | 2 => [32, 17408, 1024 * a, 4 * b, 12 * c]
  | 3 => [4 * (a + 1), b]
  | 4 => [8 * a, 8 * b, 4 * c]
  | 5 => [8 * a, 8 * b]
  | _ => []

/-- Offset of part `i`: each part starts at a multiple of 64 bytes (17 R665). -/
def partAt (im : List Byte) (i : Nat) : Nat := ((partSizes im).take i).foldl (fun n s => n + up64 s) 64

/-- Word `k` of `n` bytes of part `i`. -/
def partWord (im : List Byte) (i n k : Nat) : Nat := leAt im (partAt im i + n * k) n

/-- Bits `lo` upward, `n` of them. -/
def fieldOf (w lo n : Nat) : Nat := w / 2 ^ lo % 2 ^ n

def strictlyRising : List Nat → Bool
  | a :: b :: r => decide (a < b) && strictlyRising (b :: r)
  | _ => true

def rising : List Nat → Bool
  | a :: b :: r => decide (a ≤ b) && rising (b :: r)
  | _ => true

/-! Trie (17 Table 17-4) -/

def nodeWord (im : List Byte) (n : Nat) : Nat := partWord im 0 8 n
def edgeWord (im : List Byte) (e : Nat) : Nat := partWord im 1 4 e

/-- Edges of a node: (byte, child). -/
def trieEdges (im : List Byte) (n : Nat) : List (Nat × Nat) :=
  let w := nodeWord im n
  (List.range (fieldOf w 36 9)).map fun i => let e := edgeWord im (fieldOf w 0 32 + i); (fieldOf e 24 8, fieldOf e 0 24)

def trieOk (im : List Byte) : Bool :=
  decide (1 ≤ imgA im) && decide (imgParam im + 255 < imgVocab im) &&
    (List.range (imgA im)).all (fun n =>
      let w := nodeWord im n
      decide (fieldOf w 36 9 ≤ 256) && decide (fieldOf w 0 32 + fieldOf w 36 9 ≤ imgB im) &&
        (fieldOf w 63 1 == 0 || decide (fieldOf w 45 18 < imgVocab im)) && strictlyRising ((trieEdges im n).map (·.1))) &&
    (List.range (imgB im)).all fun e => decide (fieldOf (edgeWord im e) 0 24 < imgA im)

/-! Normalisation table (17 R672) -/

/-- Property word of a code point; 0 for a block without a page. -/
def propOf (im : List Byte) (cp : Nat) : Nat :=
  let l1 := partWord im 1 4 (cp / 256)
  if l1 = 0 then 0 else partWord im 2 4 ((l1 - 1) * 256 + cp % 256)

def cccOf (w : Nat) : Nat := fieldOf w 20 8

/-- Map sequence of a property word with HAS_MAP set. -/
def mapOf (im : List Byte) (w : Nat) : List Nat :=
  let i := fieldOf w 0 19
  (List.range (partWord im 3 4 i)).map fun k => partWord im 3 4 (i + 1 + k)

def pairAt (im : List Byte) (k : Nat) : Nat × Nat × Nat :=
  let o := partAt im 4 + 12 * k
  (leAt im o 4, leAt im (o + 4) 4, leAt im (o + 8) 4)

def normOk (im : List Byte) : Bool :=
  let piece := fieldOf (imgParam im) 0 11
  decide (1 ≤ piece) && decide (piece ≤ 1024) &&
    (List.range 4352).all (fun k => decide (partWord im 1 4 k ≤ imgA im)) &&
    (List.range (256 * imgA im)).all (fun k =>
      let w := partWord im 2 4 k
      fieldOf w 19 1 == 0 ||
        (let i := fieldOf w 0 19
         decide (i < imgB im) && decide (1 ≤ partWord im 3 4 i) && decide (partWord im 3 4 i ≤ 18) && decide (i + partWord im 3 4 i < imgB im))) &&
    strictlyRising ((List.range (imgC im)).map fun k => let p := pairAt im k; p.1 * 2 ^ 32 + p.2.1)

/-! Decode table (17 R678) -/

/-- Bytes of a token. -/
def tokenBytes (im : List Byte) (tok : Nat) : List Byte :=
  let a := partWord im 0 4 tok
  let b := partWord im 0 4 (tok + 1)
  (im.drop (partAt im 1 + a)).take (b - a)

def decodeOk (im : List Byte) : Bool :=
  decide (1 ≤ imgParam im) && decide (imgParam im ≤ 256) &&
    (List.range (imgA im)).all (fun k =>
      decide (partWord im 0 4 k ≤ partWord im 0 4 (k + 1)) && decide (partWord im 0 4 (k + 1) - partWord im 0 4 k ≤ imgParam im)) &&
    decide (partWord im 0 4 (imgA im) ≤ imgB im)

/-! Lauter list (17 R687) -/

def poolWords (im : List Byte) (i n : Nat) : List Nat := (List.range n).map fun k => partWord im 2 4 (i + k)

/-- Banned entry `k`. -/
def bannedEntry (im : List Byte) (k : Nat) : List Nat :=
  let o := partAt im 0 + 8 * k
  poolWords im (leAt im (o + 4) 4) (byteAt im o).toNat

/-- Forced entry `k`: trigger and body. -/
def forcedEntry (im : List Byte) (k : Nat) : List Nat × List Nat :=
  let o := partAt im 1 + 8 * k
  let a := (byteAt im o).toNat
  let i := leAt im (o + 4) 4
  (poolWords im i a, poolWords im (i + a) (byteAt im (o + 1)).toNat)

def listOk (im : List Byte) : Bool :=
  let inPool (i n : Nat) := decide (i + n ≤ imgC im)
  decide (imgA im ≤ 4096) && decide (imgB im ≤ 256) &&
    (List.range (imgA im)).all (fun k =>
      let o := partAt im 0 + 8 * k
      let n := (byteAt im o).toNat
      decide (1 ≤ n) && decide (n ≤ 13) && inPool (leAt im (o + 4) 4) n) &&
    (List.range (imgB im)).all (fun k =>
      let o := partAt im 1 + 8 * k
      let a := (byteAt im o).toNat
      let b := (byteAt im (o + 1)).toNat
      decide (1 ≤ a) && decide (a ≤ 12) && decide (1 ≤ b) && decide (b ≤ 64) && inPool (leAt im (o + 4) 4) (a + b)) &&
    (List.range (imgC im)).all fun k => decide (partWord im 2 4 k < imgVocab im)

/-! Lauter automaton (17 R689) -/

def noState : Nat := 0xFFFFF

/-- Transitions of a state: (token, next). -/
def stateTrans (im : List Byte) (s : Nat) : List (Nat × Nat) :=
  let w := partWord im 0 8 s
  (List.range (fieldOf w 32 12)).map fun i => let x := partWord im 1 8 (fieldOf w 0 32 + i); (fieldOf x 32 18, fieldOf x 0 20)

/-- Next state after a token: 0xF_FFFF is none (17 R689). -/
def nextState (im : List Byte) (s tok : Nat) : Nat :=
  match (stateTrans im s).find? (·.1 == tok) with
  | some x => x.2
  | none => fieldOf (partWord im 0 8 s) 44 20

def automatonOk (im : List Byte) : Bool :=
  let okNext (n : Nat) := n == noState || decide (n < imgA im)
  decide (imgA im ≤ 1048576) &&
    (List.range (imgA im)).all (fun s =>
      let w := partWord im 0 8 s
      decide (fieldOf w 0 32 + fieldOf w 32 12 ≤ imgB im) && okNext (fieldOf w 44 20) && strictlyRising ((stateTrans im s).map (·.1))) &&
    (List.range (imgB im)).all fun k =>
      let x := partWord im 1 8 k
      decide (fieldOf x 32 18 < imgVocab im) && okNext (fieldOf x 0 20)

/-- Why a bind is TABLE_INVALID (17 R667); `none` when the image is valid. -/
def tableReason (im : List Byte) : Option Nat :=
  let k := imgKind im
  let len := leAt im 8 4
  if leAt im 0 4 ≠ 0x4C425447 ∨ byteAt im 5 ≠ 1 ∨ k < 1 ∨ 5 < k ∨ len % 64 ≠ 0 ∨ 67108864 < len ∨ im.length ≠ len ∨
      partAt im (partSizes im).length ≠ len ∨ imgVocab im < 1 ∨ 262144 < imgVocab im ∨ (k = 3 ∧ imgA im ≠ imgVocab im) then some 1
  else if ¬ imageCrcOk im then some 2
  else if (k = 1 ∧ ¬ trieOk im) ∨ (k = 2 ∧ ¬ normOk im) ∨ (k = 3 ∧ ¬ decodeOk im) ∨ (k = 4 ∧ ¬ listOk im) ∨ (k = 5 ∧ ¬ automatonOk im) then some 3
  else none

/-! ### UTF-8 (17 R670, RFC 3629) -/

/-- What the front of a byte string is: a character, a maximal invalid subpart, or a character cut off by the end. -/
inductive Utf8Head where
  | char (cp n : Nat)
  | bad (n : Nat)
  | cut (n : Nat)
deriving DecidableEq, Repr

/-- Continuation bytes of a lead byte: how many, and the range of the first. -/
def utf8Lead (b : Nat) : Option (Nat × Nat × Nat) :=
  if 0xC2 ≤ b ∧ b ≤ 0xDF then some (1, 0x80, 0xBF)
  else if b = 0xE0 then some (2, 0xA0, 0xBF)
  else if b = 0xED then some (2, 0x80, 0x9F)
  else if 0xE1 ≤ b ∧ b ≤ 0xEF then some (2, 0x80, 0xBF)
  else if b = 0xF0 then some (3, 0x90, 0xBF)
  else if b = 0xF4 then some (3, 0x80, 0x8F)
  else if 0xF1 ≤ b ∧ b ≤ 0xF3 then some (3, 0x80, 0xBF)
  else none

/-- Reads continuation bytes: `k` still wanted, `n` bytes read, `v` the value so far. -/
def utf8Cont : Nat → Nat → Nat → Nat → Nat → List Byte → Utf8Head
  | 0, n, v, _, _, _ => .char v n
  | _ + 1, n, _, _, _, [] => .cut n
  | k + 1, n, v, lo, hi, b :: bs =>
    if lo ≤ b.toNat ∧ b.toNat ≤ hi then utf8Cont k (n + 1) (v * 64 + b.toNat % 64) 0x80 0xBF bs else .bad n

def utf8Head : List Byte → Utf8Head
  | [] => .cut 0
  | b :: bs =>
    if b.toNat < 0x80 then .char b.toNat 1
    else match utf8Lead b.toNat with
      | none => .bad 1
      | some (k, lo, hi) => utf8Cont k 1 (b.toNat % 2 ^ (6 - k)) lo hi bs

def utf8Encode (cp : Nat) : List Byte :=
  if cp < 0x80 then [BitVec.ofNat 8 cp]
  else if cp < 0x800 then [BitVec.ofNat 8 (0xC0 + cp / 64), BitVec.ofNat 8 (0x80 + cp % 64)]
  else if cp < 0x10000 then [BitVec.ofNat 8 (0xE0 + cp / 4096), BitVec.ofNat 8 (0x80 + cp / 64 % 64), BitVec.ofNat 8 (0x80 + cp % 64)]
  else [BitVec.ofNat 8 (0xF0 + cp / 262144), BitVec.ofNat 8 (0x80 + cp / 4096 % 64), BitVec.ofNat 8 (0x80 + cp / 64 % 64),
        BitVec.ofNat 8 (0x80 + cp % 64)]

/-- A piece of decoded input: a code point or a raw byte that bypasses normalisation (17 R670). -/
inductive GItem where
  | cp (c : Nat)
  | raw (b : Byte)
deriving DecidableEq, Repr

/-- Decoded input, the number of invalid subparts, and the offset of the first one. -/
structure Decoded where
  items : List GItem := []
  bad : Nat := 0
  first : Option Nat := none
deriving DecidableEq, Repr

/-- Decodes under a POLICY (17 R670); `off` is the offset of the front. `fuel` bounds the input's length. -/
def utf8All (policy : Nat) : Nat → Nat → List Byte → Decoded
  | 0, _, _ => {}
  | _, _, [] => {}
  | k + 1, off, b :: bs =>
    let invalid (n : Nat) : Decoded :=
      let r := utf8All policy k (off + n) ((b :: bs).drop n)
      let its := if policy = 1 then ((b :: bs).take n).map GItem.raw else [.cp 0xFFFD]
      { items := its ++ r.items, bad := r.bad + 1, first := some off }
    match utf8Head (b :: bs) with
    | .char c n =>
      let r := utf8All policy k (off + n) ((b :: bs).drop n)
      { r with items := .cp c :: r.items }
    | .bad n => invalid n
    | .cut n => invalid n

/-! ### Normalisation and splitting (17 R671-R673) -/

/-- Inserts a code point into a run sorted by CCC, after those of equal CCC. -/
def insertCcc (im : List Byte) (c : Nat) : List Nat → List Nat
  | [] => [c]
  | x :: xs => if cccOf (propOf im x) ≤ cccOf (propOf im c) then x :: insertCcc im c xs else c :: x :: xs

/-- Pass 2: sorts each run of code points of non-zero CCC; `run` is the run at hand, sorted. -/
def reorderRun (im : List Byte) : List Nat → List Nat → List Nat
  | run, [] => run
  | run, c :: cs =>
    if cccOf (propOf im c) = 0 then run ++ c :: reorderRun im [] cs else reorderRun im (insertCcc im c run) cs

/-- Composite of a pair, if the table holds it. -/
def compositeOf (im : List Byte) (a b : Nat) : Option Nat :=
  ((List.range (imgC im)).map (pairAt im)).find? (fun p => p.1 == a && p.2.1 == b) |>.map (·.2.2)

/-- Pass 3: `done` is what stands before the last starter, `s` that starter and `mid` what stands after it. -/
def composeRun (im : List Byte) : List Nat → Option Nat → List Nat → List Nat → List Nat
  | done, s, mid, [] => done ++ s.toList ++ mid
  | done, s, mid, c :: cs =>
    let k := cccOf (propOf im c)
    let open_ := mid.all fun x => cccOf (propOf im x) != 0 && decide (cccOf (propOf im x) < k)
    match (if open_ then s.bind fun a => compositeOf im a c else none) with
    | some z => composeRun im done (some z) mid cs
    | none =>
      if k = 0 then composeRun im (done ++ s.toList ++ mid) (some c) [] cs
      else composeRun im done s (mid ++ [c]) cs

/-- Normalises one run of code points; without a NORM table nothing changes (17 R671, R673). -/
def normalise (im : Option (List Byte)) (cs : List Nat) : List Nat :=
  match im with
  | none => cs
  | some im =>
    let m := cs.flatMap fun c => let w := propOf im c; if fieldOf w 19 1 = 1 then mapOf im w else [c]
    let r := reorderRun im [] m
    if fieldOf (imgParam im) 31 1 = 1 then composeRun im [] none [] r else r

/-- SPLIT[a][b] (17 R672). -/
def splitBit (im : Option (List Byte)) (x y : Nat) : Bool :=
  match im with
  | none => false
  | some im =>
    let a := fieldOf (propOf im x) 28 4
    let b := fieldOf (propOf im y) 28 4
    fieldOf (leAt im (64 + 2 * a) 2) b 1 == 1

def maxPiece (im : Option (List Byte)) : Nat := match im with | some im => fieldOf (imgParam im) 0 11 | none => 1024

/-- Cuts normalised code points into pieces of UTF-8 bytes (17 R673): `piece` is the piece at hand, `prev` its last code point. -/
def cutPieces (im : Option (List Byte)) : List Byte → Option Nat → List Nat → List (List Byte)
  | piece, _, [] => if piece.isEmpty then [] else [piece]
  | piece, prev, c :: cs =>
    let b := utf8Encode c
    let cut := match prev with
      | some x => splitBit im x c || decide (maxPiece im < piece.length + b.length)
      | none => false
    if cut then piece :: cutPieces im b (some c) cs else cutPieces im (piece ++ b) (some c) cs

/-! ### Trie walk (17 R674) -/

/-- The longest token from the front of a piece: (token, bytes), from node `n` with `j` bytes read. -/
def trieWalk (im : List Byte) : Nat → Nat → Option (Nat × Nat) → List Byte → Option (Nat × Nat)
  | _, _, best, [] => best
  | n, j, best, b :: bs =>
    match (trieEdges im n).find? (·.1 == b.toNat) with
    | none => best
    | some e =>
      let w := nodeWord im e.2
      trieWalk im e.2 (j + 1) (if fieldOf w 63 1 = 1 then some (fieldOf w 45 18, j + 1) else best) bs

/-- Greedy longest match with byte fallback. `fuel` bounds the piece's length. -/
def encodePiece (im : List Byte) : Nat → List Byte → List Nat
  | 0, _ => []
  | _, [] => []
  | k + 1, b :: bs =>
    match trieWalk im 0 0 none (b :: bs) with
    | some (tok, n) => tok :: encodePiece im k ((b :: bs).drop n)
    | none => (imgParam im + b.toNat) :: encodePiece im k bs

/-- Tokens of decoded items: runs of code points between raw bytes (17 R671, R674). -/
def encodeItems (trie : List Byte) (norm : Option (List Byte)) : List Nat → List GItem → List Nat
  | run, [] => (cutPieces norm [] none (normalise norm run)).flatMap fun p => encodePiece trie p.length p
  | run, .cp c :: r => encodeItems trie norm (run ++ [c]) r
  | run, .raw b :: r =>
    ((cutPieces norm [] none (normalise norm run)).flatMap fun p => encodePiece trie p.length p) ++
      (imgParam trie + b.toNat) :: encodeItems trie norm [] r

/-! ### Host text streams (17 R680-R684) -/

/-- Complete text at the front of held bytes, and what stays held (17 R680). -/
def takeText (replace : Bool) : Nat → List Byte → List Byte × List Byte
  | 0, bs => ([], bs)
  | _, [] => ([], [])
  | k + 1, b :: bs =>
    match utf8Head (b :: bs) with
    | .cut _ => ([], b :: bs)
    | .char _ n => let r := takeText replace k ((b :: bs).drop n); ((b :: bs).take n ++ r.1, r.2)
    | .bad n => let r := takeText replace k ((b :: bs).drop n); ((if replace then [0xEF, 0xBF, 0xBD] else (b :: bs).take n) ++ r.1, r.2)

def Tun.tstream (t : Tun) (n : Nat) : TStream := Tab.get {} t.token.streams n

def Tun.modToken (f : Token → Token) (t : Tun) : Tun := { t with token := f t.token }

def Tun.modStream (n : Nat) (f : TStream → TStream) (t : Tun) : Tun :=
  t.modToken fun k => { k with streams := k.streams.set {} n (f (t.tstream n)) }

/-- Writes text to a stream's ring, then its new T at TAIL_ADDR (17 R681). -/
def Tun.ringText (n : Nat) (bs : List Byte) (t : Tun) : Tun :=
  let x := t.tstream n
  let size := 2 ^ x.log2.toNat
  let o := x.tail.toNat % size
  let a := bs.take (size - o)
  let b := bs.drop (size - o)
  let fn := t.fnOf x.ctx
  let tail := x.tail + BitVec.ofNat 32 bs.length
  if bs.isEmpty then t else
  let t := t.hostWrite fn (x.ring.toNat + o) a false
  let t := if b.isEmpty then t else t.hostWrite fn x.ring.toNat b false
  (t.modStream n fun x => { x with tail := tail }).hostWrite fn x.tailAddr.toNat (bytesLE 8 tail.toNat) false

/-- Publishes a command's text to a stream; a closed stream drops it (17 R680, R708). -/
def Tun.putText (n : Nat) (bs : List Byte) (t : Tun) : Tun :=
  let x := t.tstream n
  if ¬ x.isOpen then t.modToken fun k => { k with streamDrop := satInc k.streamDrop }
  else
    let r := takeText x.replace (x.held.length + bs.length) (x.held ++ bs)
    (t.modStream n fun x => { x with held := r.2 }).ringText n r.1

/-- STREAM_HEADs (17 R683). -/
def Tun.streamHead (n : Nat) (i : Word) (t : Tun) : Tun :=
  let x := t.tstream n
  let d := (i - x.head).toNat
  let a := (x.tail - x.head).toNat
  if ¬ x.isOpen ∨ d = 0 then t
  else if d ≤ a then t.modStream n fun x => { x with head := i }
  else if d < 2 ^ 31 then t.modStream n fun x => { x with head := x.tail, overrun := true }
  else t

/-! ### Lauter (17 R686-R694) -/

/-- A Lauter state record (17 Table 17-5). -/
structure LState where
  state : Nat
  force : Nat
  pos : Nat
  hist : List Nat
deriving DecidableEq, Repr

def noMask : Nat := 0xFFFFFFFF
def noForce : Nat := 0xFFFF

def lstateOf (bs : List Byte) : LState :=
  { state := leAt bs 0 4, force := leAt bs 4 2, pos := leAt bs 6 2,
    hist := (List.range (min 12 (byteAt bs 8).toNat)).map fun i => leAt bs (12 + 4 * i) 4 }

def LState.bytes (s : LState) : List Byte :=
  bytesLE 4 s.state ++ bytesLE 2 s.force ++ bytesLE 2 s.pos ++ [BitVec.ofNat 8 s.hist.length, 0, 0, 0] ++
    ((s.hist.flatMap fun t => bytesLE 4 t) ++ List.replicate 48 0).take 48 ++ [0, 0, 0, 0]

/-- The end of a history equals a token sequence. -/
def endsWith (hist xs : List Nat) : Bool := decide (xs.length ≤ hist.length) && hist.drop (hist.length - xs.length) == xs

/-- A banned entry bans a token after a history (17 R688). -/
def bans (hist e : List Nat) (tok : Nat) : Bool :=
  match e.getLast? with
  | some l => l == tok && endsWith hist e.dropLast
  | none => false

/-- Token `t` is allowed (17 R691): `mask` is the mask of STATE, if one applies. -/
def tokenAllowed (vocab : Nat) (list : Option (List Byte)) (mask : Option (List Byte)) (s : Option LState) (tok : Nat) : Bool :=
  decide (tok < vocab) &&
    (match mask with | some m => (byteAt m (tok / 8)).getLsbD (tok % 8) | none => true) &&
    (match list, s with
     | some im, some x => !((List.range (imgA im)).any fun k => bans x.hist (bannedEntry im k) tok)
     | _, _ => true)

/-- The forced token of a state record, if a forced entry is active (17 R692). -/
def forcedToken (list : Option (List Byte)) (s : Option LState) : Option Nat :=
  match list, s with
  | some im, some x => if x.force < imgB im then (forcedEntry im x.force).2[x.pos]? else none
  | _, _ => none

/-- The record after a step's token (17 R693). -/
def LState.step (auto list : Option (List Byte)) (forced : Bool) (tok : Nat) (s : LState) : LState :=
  let h := s.hist ++ [tok]
  let s := { s with hist := h.drop (h.length - 12) }
  let s := match auto with
    | some im => if s.state = noMask then s else
        let n := nextState im s.state tok
        { s with state := if n = noState then noMask else n }
    | none => s
  match list with
  | none => s
  | some im =>
    if forced then
      (if s.pos + 1 < (forcedEntry im s.force).2.length then { s with pos := s.pos + 1 } else { s with force := noForce, pos := 0 })
    else if s.force = noForce then
      match (List.range (imgB im)).find? fun k => endsWith s.hist (forcedEntry im k).1 with
      | some k => { s with force := k, pos := 0 }
      | none => s
    else s

/-! ### Pour (17 R696-R698) -/

/-- High and low words of a 32 by 32 product. -/
def mulHiLo (a b : Word) : Word × Word :=
  let p := a.toNat * b.toNat
  (BitVec.ofNat 32 (p / 2 ^ 32), BitVec.ofNat 32 p)

/-- Philox4x32 with `n` rounds left (17 R698). -/
def philox : Nat → Word → Word → Word → Word → Word → Word → Word
  | 0, _, _, c0, _, _, _ => c0
  | n + 1, k0, k1, c0, c1, c2, c3 =>
    let a := mulHiLo 0xD2511F53 c0
    let b := mulHiLo 0xCD9E8D57 c2
    philox n (k0 + 0x9E3779B9) (k1 + 0xBB67AE85) (b.1 ^^^ c1 ^^^ k0) b.2 (a.1 ^^^ c3 ^^^ k1) a.2

/-- u × Z′ rounded once, u = (x0 >> 8) × 2^-24. -/
def drawAt (seed seq step z : Word) : Word :=
  let x := (philox 10 seed seq step 0 0 0).toNat / 256
  fword (fpMul (.fin false x (-24)) (fval z))

/-- Inserts (id, logit) in descending logit, after equal ones. -/
def insertLogit (p : Nat × Word) : List (Nat × Word) → List (Nat × Word)
  | [] => [p]
  | x :: xs => if fltNum x.2 p.2 then p :: x :: xs else x :: insertLogit p xs

/-- Shortest prefix whose running sum of weights reaches a bound (17 R697 step 4). -/
def prefixTo (bound : Word) : Word → List (Nat × Word) → List (Nat × Word)
  | _, [] => []
  | s, x :: xs => let s := fadd s x.2; if fltNum s bound then x :: prefixTo bound s xs else [x]

/-- First token whose running sum exceeds a bound, else the last one (17 R697 step 6). -/
def drawFrom (bound : Word) : Word → List (Nat × Word) → Option Nat
  | _, [] => none
  | _, [x] => some x.1
  | s, x :: xs => let s := fadd s x.2; if fltNum bound s then some x.1 else drawFrom bound s xs

def sumWeights (xs : List (Nat × Word)) : Word := xs.foldl (fun s x => fadd s x.2) 0

/-- Pour's token among the allowed logits (id, binary32), ascending by id (17 R697); `none` when there is none. -/
def pourToken (p : ParamSet) (seed seq step : Word) (ls : List (Nat × Word)) : Option Nat :=
  let ls := ls.filter fun l => !(fisNan l.2)
  match ls.find? fun l => l.2 == fposInf with
  | some l => some l.1
  | none =>
    let best := ls.foldl (fun (m : Option (Nat × Word)) l => match m with | some b => if fltNum b.2 l.2 then some l else some b | none => some l) none
    match best with
    | none => none
    | some b =>
      if ¬ p.sample then some b.1
      else
        let ord := ls.foldl (fun o l => insertLogit l o) []
        let ws := ord.map fun l => (l.1, fexp (fdiv (fsub l.2 b.2) p.temp))
        let ws := if p.topK = 0 then ws else ws.take p.topK
        let ws := if p.topP = 0x3F800000 then ws else prefixTo (fmul p.topP (sumWeights ws)) 0 ws
        let kept := if p.minP = 0 then ws else ws.filter fun w => !(fltNum w.2 p.minP)
        let z := sumWeights kept
        drawFrom (drawAt seed seq step z) 0 kept

end Sys2Proof.Machine
end

