-- ==== Sys2Proof/Machine/SteepCore.lean ====
section
/-! DEFINITION. Steep's attention (16 R654-R658): operands, checks and the LSE partial records of one command. -/

namespace Sys2Proof.Machine
open Sys2Proof

/-- Operands of STEEP_DECODE (16 Table 16-9). -/
structure Steep where
  qbatch : Nat
  query : Nat
  out : Nat
  entries : Nat
  layer : Nat
  g : Nat
  q : Nat
  units : Nat
  merge : Bool
  lse16 : Bool
  softmax : Word
  kScale : Word
  vScale : Word
  group : Nat
  gen : Byte
  inst : Nat
deriving DecidableEq, Repr

def steepOf (d : List Byte) : Steep :=
  { qbatch := leAt d 16 4, query := leAt d 20 4, out := leAt d 24 4, entries := leAt d 28 2, layer := leAt d 30 2,
    g := (byteAt d 32).toNat, q := (byteAt d 33).toNat, units := (byteAt d 34).toNat, merge := (byteAt d 35).getLsbD 0,
    lse16 := (byteAt d 35).getLsbD 1, softmax := BitVec.ofNat 32 (leAt d 36 4), kScale := BitVec.ofNat 32 (leAt d 40 4),
    vScale := BitVec.ofNat 32 (leAt d 44 4), group := leAt d 48 2 % 4096, gen := byteAt d 50, inst := leAt d 52 2 % 1024 }

/-- A query batch entry (16 R654): sequence, first token, end token. -/
structure QEntry where
  seq : Nat
  first : Nat
  last : Nat
deriving DecidableEq, Repr

def Tun.qentries (t : Tun) (c : Cmd) (f : Steep) : List QEntry :=
  (List.range f.entries).map fun i =>
    let e := t.shareRead c.ctx (f.qbatch + 16 * i) 16
    { seq := leAt e 0 4, first := leAt e 4 4, last := leAt e 8 4 }

/-- Heads and dimension of the batch: those of its first sequence. -/
def Tun.steepShape (t : Tun) (c : Cmd) (es : List QEntry) : Nat × Nat × Nat :=
  match es.head?.bind fun e => t.cseq (t.ctx c.ctx).pkey e.seq with
  | some s => (2 ^ s.heads, 2 ^ s.dim, s.fmt)
  | none => (0, 0, 0)

def Steep.records (f : Steep) (heads : Nat) : Nat := f.entries * heads * f.g * f.q
def Steep.recSize (f : Steep) (dim : Nat) : Nat := typeSize (if f.lse16 then 7 else 6) dim

/-- First entry that fails check 6, with its status (16 R655). -/
def Tun.steepEntryFault (t : Tun) (c : Cmd) (f : Steep) (es : List QEntry) : Option (Half × Nat) :=
  let k := (t.ctx c.ctx).pkey
  let sh := t.steepShape c es
  es.findSome? fun e =>
    match t.cseq k e.seq with
    | none => some (0x0304, e.seq)
    | some s =>
      if s.kind ≠ 0 ∨ s.lens.length ≤ f.layer ∨ e.last < e.first ∨ (2 ^ s.heads, 2 ^ s.dim, s.fmt) ≠ sh then some (0x00F1, e.seq)
      else if s.lost then some (0x0303, e.seq)
      else if s.lens.getD f.layer 0 < e.last then some (0x0306, e.seq)
      else none

/-- Check 6 of STEEP_DECODE: status and RESULT0 (16 R654, R655). -/
def Tun.steepCheck (t : Tun) (c : Cmd) : Option (Half × Nat) :=
  let f := steepOf c.desc
  let d := c.desc
  let x := t.ctx c.ctx
  if ¬ restZero d [(16, 50), (52, 53)] ∨ f.qbatch % 64 ≠ 0 ∨ f.query % 64 ≠ 0 ∨ f.out % 64 ≠ 0 ∨ f.entries < 1 ∨ 1024 < f.entries ∨ 256 ≤ f.layer ∨
      f.g < 1 ∨ 64 < f.g ∨ f.q < 1 ∨ 16 < f.q ∨ f.units < 1 ∨ 16 < f.units ∨ 4 ≤ (byteAt d 35).toNat ∨
      (f.merge ∧ (4096 ≤ leAt d 48 2 ∨ 1024 ≤ leAt d 52 2)) then some (0x00F1, 0)
  else if ¬ x.inUsable f.qbatch (16 * f.entries) then some (0x0012, 0)
  else
    let es := t.qentries c f
    match t.steepEntryFault c f es with
    | some e => some e
    | none =>
      let sh := t.steepShape c es
      let n := f.records sh.1
      if ¬ x.inUsable f.query (n * sh.2.1 * seqEsize sh.2.2) ∨ (¬ f.merge ∧ ¬ x.inUsable f.out (n * f.recSize sh.2.1)) then some (0x0012, 0)
      else if ¬ f.merge then none
      else match t.group f.group with
        | none => some (0x0404, 0)
        | some g => if g.gen = f.gen ∧ g.members.contains { tun := true, id := t.number } then none else some (0x0404, 0)

/-- Units of a STEEP_DECODE in order of preference: upward from unit 2n on OT4-M, where stack n holds the first page read, wrapping
after unit 15; elsewhere upward from the lowest (16 R654, 14 Table 14-4). -/
def Tun.steepOrder (t : Tun) (c : Cmd) (f : Steep) : List Nat :=
  let es := t.qentries c f
  let k := (t.ctx c.ctx).pkey
  let first := es.findSome? fun e =>
    (t.cseq k e.seq).bind fun s =>
      ((List.range (e.last - e.first)).findSome? fun i => s.page false f.layer ((e.first + i) / s.tpp)).map (·.stack)
  match t.asm, first with
  | .m, some n => (List.range 16).map fun i => 0x10 + (2 * n + i) % 16
  | _, _ => steepUnits

/-- Elements of one row of a token in a page held: head `h`, `dim` elements (16 R631). -/
def Tun.rowElems (t : Tun) (s : CSeq) (p : PageRef) (tok h : Nat) (value : Bool) : List Word × Bool :=
  let z := seqEsize s.fmt
  let d := 2 ^ s.dim
  let a := caskAddr p.stack p.loc + (if value then s.tpp * s.rowBytes else 0) + (tok % s.tpp) * s.rowBytes + h * d * z
  let ps := t.caskReadP a (d * z)
  ((List.range d).map fun i => elemIn (seqType s.fmt) (pbytes ((ps.drop (i * z)).take z)), anyPoison ps)

/-- Exact products summed in binary32, in order (16 R657). -/
def dot (xs ys : List Word) : Word :=
  (List.zip xs ys).foldl (fun acc p => fword (fpAdd (fval acc) (fpMul (fval p.1) (fval p.2)))) 0

/-- One partial record (16 R657): the query vector against every held token of the entry. -/
def Tun.steepRecord (t : Tun) (f : Steep) (s : CSeq) (e : QEntry) (h : Nat) (qv : List Word) : Lse × Bool :=
  let d := 2 ^ s.dim
  let toks := ((List.range (e.last - e.first)).map (e.first + ·)).filterMap fun tok =>
    (s.page false f.layer (tok / s.tpp)).map fun p => (tok, p)
  let rows := toks.map fun tp =>
    let k := t.rowElems s tp.2 tp.1 h false
    let v := t.rowElems s tp.2 tp.1 h true
    (fmul (fmul f.softmax f.kScale) (dot qv k.1), v.1, k.2 || v.2)
  match rows with
  | [] => ({ m := fnegInf, s := 0, v := List.replicate d 0 }, false)
  | r :: rs =>
    let m := rs.foldl (fun m x => fmax m x.1) r.1
    let ws := rows.map fun x => (fexp (fsub x.1 m), x.2.1)
    let sum := ws.foldl (fun a w => fadd a w.1) 0
    let ty := seqType s.fmt
    let acc := ws.foldl (fun (a : List Word) w =>
      let p := elemIn ty (elemOut ty w.1)
      List.zipWith (fun x y => fword (fpAdd (fval x) (fpMul (fval p) (fval y)))) a w.2) (List.replicate d 0)
    ({ m := m, s := sum, v := acc.map (fmul f.vScale) }, rows.any fun x => x.2.2)

/-- Every record of a command, in order, with its bytes (16 R656-R658). -/
def Tun.steepRecords (t : Tun) (c : Cmd) : List PByte :=
  let f := steepOf c.desc
  let es := t.qentries c f
  let k := (t.ctx c.ctx).pkey
  let ty := if f.lse16 then 7 else 6
  (List.zip es (List.range es.length)).flatMap fun eb =>
    match t.cseq k eb.1.seq with
    | none => []
    | some s =>
      let z := seqEsize s.fmt
      let d := 2 ^ s.dim
      let hs := 2 ^ s.heads
      (List.range (hs * f.g * f.q)).flatMap fun i =>
        let h := i / (f.g * f.q)
        let o := f.query + (eb.2 * hs * f.g * f.q + i) * d * z
        let qs := t.shareReadP c.ctx o (d * z)
        let qv := (List.range d).map fun j => elemIn (seqType s.fmt) (pbytes ((qs.drop (j * z)).take z))
        let r := t.steepRecord f s eb.1 h qv
        (lseOut ty r.1).map fun b => (b, r.2 || anyPoison qs)

/-- CONTRIB packets that carry the records to the stripe owners, and the byte ranges this Tun keeps (16 R658): each owner's granules
of 8 records, in packets of at most 4,096 bytes. -/
def steepShares (g : Group) (f : Steep) (dim total : Nat) : List (Nat × Nat × Nat) :=
  let gran := 8 * f.recSize dim
  let n := (total + gran - 1) / gran
  let k := bitCount g.tunMask
  (List.range k).flatMap fun i =>
    let s := stripeOf n k i
    let a := s.1 * gran
    let b := min ((s.1 + s.2) * gran) total
    (cutLens 4096 ((b - a) / 4096 + 1) 0 (b - a)).map fun p => (maskTun g.tunMask i, a + p.1, p.2)

end Sys2Proof.Machine
end

