-- ==== Sys2Proof/Machine/Checks.lean ====
section
/-! DEFINITION. Checks 2 to 6 before a command starts (13 R526, Table 13-7): which opcodes exist and where, and the operands of
each. -/

namespace Sys2Proof.Machine
open Sys2Proof

/-- Opcodes of 13 Table 13-8. -/
def opDefined (op : Nat) : Bool :=
  op == 0 || op == 1 || op == 2 || op == 4 || (decide (0x10 ≤ op) && decide (op ≤ 0x16)) || (decide (0x20 ≤ op) && decide (op ≤ 0x23)) ||
    (decide (0x30 ≤ op) && decide (op ≤ 0x36)) || (decide (0x40 ≤ op) && decide (op ≤ 0x49)) || op == 0x50 ||
    (decide (0x60 ≤ op) && decide (op ≤ 0x67))

def opAdmin (op : Nat) : Bool := (decide (0x10 ≤ op) && decide (op ≤ 0x16)) || (decide (0x20 ≤ op) && decide (op ≤ 0x23))

/-- Check 3 (13 R497). -/
def opAllowed (q op : Nat) : Bool := if q = 0 then opAdmin op || op == 0 || op == 4 else !(opAdmin op)

/-- A location of the command is Cask (13 R512). -/
def caskOperand (op : Nat) (d : List Byte) : Bool :=
  let sp (o : Nat) : Bool := (byteAt d (o + 10)).extractLsb' 0 4 == 4
  if op = 1 then sp 16
  else if op = 2 then sp 16 || sp 32
  else if op = 0x35 then sp 32
  else if 0x43 ≤ op ∧ op ≤ 0x48 then (byteAt d 22).extractLsb' 4 2 == 3
  else false

/-- A table image that holds masks: an automaton (17 R668). -/
def Tun.maskTable (t : Tun) (c : Cmd) : Bool :=
  byteAt c.desc 17 == 0 && !(t.ctx c.ctx).blocks.isEmpty && (t.ctx c.ctx).inUsable (leAt c.desc 20 4) 64 && byteAt (t.shareRead c.ctx (leAt c.desc 20 4) 64) 4 == 5

/-- Kind 1 to 5 of the table bound to a slot of a context; 0 for none (17 R666). -/
def Tun.slotKind (t : Tun) (c slot : Nat) : Nat := if slot < 16 then (Tab.get {} t.token.slots (c * 16 + slot)).kind else 0

/-- The command runs only in FULL (13 Table 13-8, R512, 17 R668, R700). -/
def Tun.needsFull (t : Tun) (c : Cmd) : Bool :=
  c.op == 0x22 || (decide (0x30 ≤ c.op) && decide (c.op ≤ 0x36)) || c.op == 0x48 || c.op == 0x50 || caskOperand c.op c.desc ||
    (c.op == 0x64 && t.maskTable c) || (c.op == 0x65 && t.slotKind c.ctx (byteAt c.desc 23).toNat == 5) ||
    (c.op == 0x66 && byteAt c.desc 50 != 0xFF)

/-- What a command that passes its checks needs at check 9. -/
structure Pre where
  bound : Nat := 0
  wants : List (Nat × List Nat) := []
  streams : List (Nat × Nat) := []
  lstate : Option Nat := none
deriving DecidableEq, Repr

/-- A failing check: status and RESULT0. -/
abbrev Chk := Except (Half × Nat) Pre

def bad : Chk := .error (0x00F1, 0)
def pass : Chk := .ok {}

def chk (ok : Bool) (r : Chk) : Chk := if ok then r else bad


/-- Image of a slot bound at a command's start (17 R667). -/
def Tun.boundImage (t : Tun) (c : Cmd) (slot : Nat) : Option (List Byte) :=
  (c.binds.find? (·.1 == slot)).map fun b => t.shareRead c.ctx b.2.2.1 b.2.2.2

/-- PARAM of the image now bound to a slot. -/
def Tun.slotParam (t : Tun) (c slot : Nat) : Nat :=
  leAt (t.shareRead c ((Tab.get {} t.token.slots (c * 16 + slot)).off + 0x1C) 4) 0 4

def Tun.streamOpenIn (t : Tun) (c n : Nat) : Bool := decide (n < 256) && (t.tstream n).isOpen && (t.tstream n).ctx == c

/-- Bound of the text of `n` tokens (17 R682). -/
def textBound (n maxTok : Nat) : Nat := 3 * (n * maxTok + 3)

/-- Operands of the general opcodes (13 Table 13-8). -/
def Tun.checkGeneral (t : Tun) (c : Cmd) : Chk :=
  let d := c.desc
  if c.op = 0 ∨ c.op = 4 then chk (restZero d []) pass
  else if c.op = 1 then
    let n := (byteAt d 32).toNat
    if ¬ restZero d [(16, 32), (40, 63)] ∨ n < 1 ∨ 24 < n then bad
    else match t.locFault c (locOf (d.drop 16)) n with
      | some st => .error (st, 0)
      | none => .ok { bound := n }
  else
    let s := locOf (d.drop 16)
    let w := locOf (d.drop 32)
    let n := leAt d 48 4
    if ¬ restZero d [(16, 51)] ∨ n < 1 ∨ 65536 < n ∨ (s.remote ∧ w.remote) then bad
    else match t.locFault c s n, t.locFault c w n with
      | some st, _ => .error (st, 0)
      | _, some st => .error (st, 0)
      | none, none => .ok { bound := n }

/-- Operands of the admin opcodes (14 Table 14-1, 13 Table 13-8). -/
def Tun.checkAdmin (t : Tun) (c : Cmd) : Chk :=
  let d := c.desc
  let b (i : Nat) := (byteAt d i).toNat
  match c.op with
  | 0x10 => chk (restZero d [(16, 22)] && decide (b 17 ≤ 7) && decide (1 ≤ leAt d 18 2) && decide (leAt d 18 2 ≤ 0xFFFE) &&
      decide (2 ≤ b 20) && decide (b 20 ≤ 224) && decide (1 ≤ b 21) && decide (b 21 ≤ 6) && decide (b 21 < b 20) && decide (b 22 ≤ 1)) pass
  | 0x11 => chk (restZero d [(16, 16)]) pass
  | 0x12 => chk (restZero d [(16, 16), (18, 19), (24, 31)] && decide (leAt d 18 2 ≤ 256) && leAt d 24 8 % 64 == 0) pass
  | 0x13 => chk (restZero d [(16, 16)]) pass
  | 0x14 => chk (restZero d [(16, 18)] && decide (b 17 ≤ 7) && decide (b 18 ≤ 2)) pass
  | 0x15 => chk (restZero d [(16, 17)] && decide (b 17 ≤ 1)) pass
  | 0x16 => chk (restZero d [(16, 23)] && decide (leAt d 16 2 < 4096) && decide (b 18 ≤ 2) && decide (leAt d 22 2 ≤ 1000) &&
      (b 18 != 2 || (t.ctx (b 19)).state != .undefined)) pass
  | 0x20 => chk (restZero d [(16, 23)]) pass
  | 0x21 => chk (restZero d [(16, 21)]) pass
  | 0x22 => chk (restZero d [(16, 21)]) pass
  | _ => chk (restZero d []) pass

/-- KV_FETCH's own conditions (16 R639, R641, R662). -/
def Tun.checkFetch (t : Tun) (c : Cmd) : Chk :=
  let d := c.desc
  let k := (t.ctx c.ctx).pkey
  let layer := leAt d 22 2
  let first := leAt d 24 4
  let n := leAt d 28 4
  let mirror := byteAt d 20 == 1
  if ¬ restZero d [(16, 20), (22, 47)] ∨ 1 < (byteAt d 20).toNat ∨ n = 0 ∨ ((locOf (d.drop 32)).space = 0 ∧ leAt d 32 8 % 64 ≠ 0) then bad
  else match t.cseq k (leAt d 16 4) with
    | none => .error (0x0304, 0)
    | some q =>
      if (mirror ∧ (t.mirrorPosition q.stripe q.promoted).isNone) ∨ (¬ mirror ∧ (t.ownPositions q.stripe q.promoted).isEmpty) then .error (0x0304, 0)
      else if q.lost ∧ ¬ mirror then .error (0x0303, 0)
      else if q.lens.length ≤ layer then bad
      else if q.lens.getD layer 0 < first + n then .error (0x0306, 0)
      else
        let per := if q.kind = 1 then q.rowBytes else 2 * q.rowBytes
        match t.locFault c (locOf (d.drop 32)) (n * per) with
        | some st => .error (st, 0)
        | none => .ok { bound := min (n * per) (((List.range n).filter fun i => (q.page mirror layer ((first + i) / q.tpp)).isSome).length * per),
                        wants := [(1, cellarUnits)] }

/-- Operands of the Cellar opcodes (16 R636, R639, R642, R643). -/
def Tun.checkCellar (t : Tun) (c : Cmd) : Chk :=
  let d := c.desc
  let one : Pre := { wants := [(1, cellarUnits)] }
  let entries (ok : Bool) : Chk :=
    if ¬ ok then bad else
    let es := t.batchOf c
    match es.findSome? (t.entryFields c) with
    | some st => .error (st, 0)
    | none =>
      let k := (t.ctx c.ctx).pkey
      let n := es.foldl (fun n e =>
        if e.action = 2 then n else
        let g := t.entryGeom k e
        let s := match t.cseq k e.id with | some q => (q.stripe, q.promoted) | none => (e.stripe, [])
        n + t.appendBytes s.1 s.2 g.1 g.2.1 g.2.2 e.base e.a e.span) 0
      .ok { one with bound := n }
  match c.op with
  | 0x30 => entries (restZero d [(16, 26)])
  | 0x31 => entries (restZero d [(16, 19)])
  | 0x32 => chk (restZero d [(16, 20)] && decide ((byteAt d 20).toNat ≤ 1)) (.ok one)
  | 0x33 => chk (restZero d [(16, 19)]) (.ok one)
  | 0x34 => entries (restZero d [(16, 25), (28, 39)] && decide (1 ≤ leAt d 20 2))
  | 0x35 => t.checkFetch c
  | _ =>
    let o := leAt d 16 8
    let x := t.ctx c.ctx
    if ¬ restZero d [(16, 23)] ∨ o % 64 ≠ 0 then bad
    else if ¬ x.inUsable o 32 then .error (0x0012, 0)
    else
      let h := t.shareRead c.ctx o 32
      let n := leAt h 0 2
      if n < 1 ∨ 1024 < n then bad
      else if ¬ x.inUsable o (32 + 32 * n) then .error (0x0012, 0)
      else
        let ids := (t.batchOf c).map (·.id)
        if ids.eraseDups.length == ids.length then entries true else bad

/-- GROUP field of 12 bits. -/
def groupField (d : List Byte) : Bool := decide (leAt d 16 2 < 4096)

/-- Operands of the group opcodes and TAP_GROUP_SET (15 Tables 15-1 and 15-9). -/
def Tun.checkGroup (t : Tun) (c : Cmd) : Chk :=
  let d := c.desc
  let x := t.ctx c.ctx
  let n := leAt d 24 2
  let b (i : Nat) := (byteAt d i).toNat
  let lists := groupField d && t.maskOk (BitVec.ofNat 32 (leAt d 20 4)) && decide (1 ≤ n) && decide (n ≤ 1024) && leAt d 32 8 % 64 == 0
  match c.op with
  | 0x40 => chk (restZero d [(16, 27), (32, 63)] && lists && decide (b 19 ≤ 14) && decide (1 ≤ b 26) && decide (b 26 ≤ 8) && decide (b 27 ≤ 7) &&
      leAt d 40 8 % 64 == 0 && leAt d 48 8 % 64 == 0 && leAt d 56 4 % 64 == 0 && leAt d 60 4 % 64 == 0 &&
      (leAt d 60 4 == 0 || x.inUsable (leAt d 56 4) (n * leAt d 60 4))) pass
  | 0x41 => chk (restZero d [(16, 18), (20, 25), (32, 39)] && lists) pass
  | 0x42 => chk (restZero d [(16, 17)] && groupField d) pass
  | _ =>
    let ty := b 19
    let op := b 18
    let set_ := b 21 == 1
    let tyOk := ty == 0 || ty == 1 || ty == 2 || ty == 5
    chk (restZero d [(16, 25), (32, 39)] && decide (b 21 ≤ 1) &&
      (!set_ || (tyOk && op != 3 && operOk op ty ty && decide (2 ≤ b 20) && decide (b 20 ≤ 64) && b 20 % typeSize ty 0 == 0 &&
        decide (1 ≤ leAt d 22 2) && decide (leAt d 22 2 ≤ 256) && (op != 7 || decide (leAt d 24 2 < leAt d 22 2))))) pass

/-- Pipes from PIPE_HINT upward, wrapping after pipe 7 (15 R598). -/
def Group.pipeOrder (g : Group) : List Nat := (List.range 8).map fun i => (g.hint + i) % 8

/-- Checks of a collective (15 R597, R598, R606, R610, 14 R568). A PUSH_COLLECTIVE waits for its binding: no queue award serves it. -/
def Tun.checkColl (t : Tun) (c : Cmd) : Chk :=
  match t.collCheck c with
  | some st => .error (st, 0)
  | none =>
    let f := collOf c.desc
    match t.group f.group with
    | none => .error (0x0404, 0)
    | some g =>
      if c.op = 0x48 then (if (t.ctx c.ctx).pin then .ok { wants := [(9, mashUnits)] } else .error (0x0204, 0))
      else .ok { bound := 2 * f.chunk * f.granBytes (f.op c.op) g.members.length, wants := [(g.pipes, g.pipeOrder)] }

/-- A binary32 operand in a range. -/
def fAbove0 (x : Word) : Bool := flt 0 x && !(fzero x)
def fAtMost1 (x : Word) : Bool := !(fisNan x) && !(flt 0x3F800000 x)
def fAtLeast0 (x : Word) : Bool := !(fisNan x) && (fzero x || flt 0 x)

/-- Operands of the token opcodes but SAMPLE_STEP (17 R666, R676, R679, R684, R685, R694, R696). -/
def Tun.checkToken (t : Tun) (c : Cmd) : Chk :=
  let d := c.desc
  let x := t.ctx c.ctx
  let b (i : Nat) := (byteAt d i).toNat
  match c.op with
  | 0x60 =>
    let l := locOf (d.drop 16)
    let n := leAt d 32 4
    let m := leAt d 40 4
    if ¬ restZero d [(16, 46)] ∨ 1 < l.space ∨ n < 1 ∨ 16777216 < n ∨ m < 1 ∨ 1048576 < m ∨ 2 < b 46 ∨ t.slotKind c.ctx (b 44) ≠ 1 ∨
        (b 45 ≠ 0xFF ∧ t.slotKind c.ctx (b 45) ≠ 2) then bad
    else if ¬ x.inUsable (leAt d 36 4) (4 * m) then .error (0x0012, 0)
    else match t.locFault c l n with
      | some st => .error (st, 0)
      | none => .ok { wants := [(1, gristUnits)] }
  | 0x61 =>
    let n := leAt d 20 4
    let str := (byteAt d 25).getLsbD 0
    if ¬ restZero d [(16, 35)] ∨ n < 1 ∨ 65536 < n ∨ 1 < b 25 ∨ t.slotKind c.ctx (b 24) ≠ 3 ∨ (str ∧ ¬ t.streamOpenIn c.ctx (leAt d 26 2)) then bad
    else if ¬ x.inUsable (leAt d 16 4) (4 * n) ∨ (¬ str ∧ ¬ x.inUsable (leAt d 28 4) (leAt d 32 4)) then .error (0x0012, 0)
    else .ok { wants := [(1, gristUnits)], streams := if str then [(leAt d 26 2, textBound n (t.slotParam c.ctx (b 24)))] else [] }
  | 0x62 =>
    if ¬ restZero d [(16, 19), (24, 39)] ∨ 256 ≤ leAt d 16 2 ∨ b 18 < 12 ∨ 24 < b 18 ∨ 1 < b 19 ∨ leAt d 24 8 % 2 ^ b 18 ≠ 0 ∨ leAt d 32 8 % 8 ≠ 0 then bad
    else match t.cmdFn c with
      | some f => if t.hostReach f then pass else .error (0x0012, 0)
      | none => .error (0x0012, 0)
  | 0x63 =>
    if ¬ restZero d [(16, 17)] ∨ ¬ t.streamOpenIn c.ctx (leAt d 16 2) then bad
    else .ok { wants := [(1, gristUnits)], streams := [(leAt d 16 2, textBound 0 0)] }
  | 0x64 => if ¬ restZero d [(16, 17), (20, 23)] ∨ 15 < b 16 ∨ 1 < b 17 ∨ leAt d 20 4 % 64 ≠ 0 then bad else pass
  | 0x65 =>
    let slot := b 23
    let kind := if b 22 = 0 then 5 else 4
    if ¬ restZero d [(16, 29)] ∨ 3 < b 22 ∨ (slot ≠ 0xFF ∧ t.slotKind c.ctx slot ≠ kind ∧ (b 22 = 0 ∨ b 22 = 2)) then bad
    else if ¬ x.inUsable (leAt d 16 4 + 64 * leAt d 20 2) 64 then .error (0x0012, 0)
    else .ok { wants := [(1, lauterUnits)], lstate := some (leAt d 16 4) }
  | _ =>
    let f (i : Nat) : Word := BitVec.ofNat 32 (leAt d i 4)
    chk (restZero d [(16, 52)] && decide (b 16 ≤ 15) && decide (b 17 ≤ 1) && decide (leAt d 18 2 ≤ 1024) && fAbove0 (f 20) && fAbove0 (f 24) &&
      fAtMost1 (f 24) && fAtLeast0 (f 28) && flt (f 28) 0x3F800000 && decide (b 52 ≤ 1)) pass

/-- One entry of a sample batch (17 Table 17-8). -/
structure SEntry where
  ix : Nat
  seq : Nat
  step : Nat
  lslot : Nat
  stream : Nat
  mcast : Nat
  flags : Nat
  pset : Nat
deriving DecidableEq, Repr

def Tun.sampleEntries (t : Tun) (c : Cmd) : List SEntry :=
  (List.range (leAt c.desc 20 2)).map fun i =>
    let e := t.shareRead c.ctx (leAt c.desc 32 4 + 16 * i) 16
    let b (k : Nat) := (byteAt e k).toNat
    { ix := i, seq := leAt e 0 4, step := leAt e 4 4, lslot := leAt e 8 2, stream := leAt e 10 2, mcast := b 12, flags := b 13, pset := b 14 }

/-- Bytes of a logit (17 Table 17-7). -/
def logitSize (d : List Byte) : Nat := if byteAt d 22 = 0 then 4 else 2

/-- Checks of SAMPLE_STEP (17 R699, R700, R702). -/
def Tun.checkSample (t : Tun) (c : Cmd) : Chk :=
  let d := c.desc
  let x := t.ctx c.ctx
  let b (i : Nat) := (byteAt d i).toNat
  let n := leAt d 20 2
  let z := logitSize d
  match t.group c.groupNo with
  | none => .error (0x0404, 0)
  | some g =>
    let m := g.members.length
    let shard := leAt d 28 4
    let slotOkFor (s k : Nat) : Bool := s == 0xFF || t.slotKind c.ctx s == k
    if g.queue ≠ c.queue ∨ g.ctx ≠ c.ctx then .error (0x0404, 0)
    else if byteAt d 18 ≠ g.gen then .error (0x0401, 0)
    else if ¬ restZero d [(16, 45), (48, 50), (56, 63)] ∨ ¬ groupField d ∨ b 19 < 1 ∨ 2 < b 19 ∨ n < 1 ∨ 1024 < n ∨ 2 < b 22 ∨ 1 < b 23 ∨
        leAt d 24 4 < 1 ∨ 262144 < leAt d 24 4 ∨ shard * z % 64 ≠ 0 ∨ m * shard < leAt d 24 4 ∨ 1024 ≤ leAt d 44 2 ∨
        ¬ slotOkFor (b 48) 3 ∨ ¬ slotOkFor (b 49) 4 ∨ ¬ slotOkFor (b 50) 5 ∨ g.members.any (·.tun) ∨
        g.windowLen < leAt d 56 8 + n * shard * z then bad
    else if ¬ x.inUsable (leAt d 32 4) (16 * n) ∨ (b 23 = 1 ∧ ¬ x.inUsable (leAt d 36 4) (16 * n)) then .error (0x0012, 0)
    else
      let es := t.sampleEntries c
      let tables : Bool := b 49 != 0xFF || b 50 != 0xFF
      if es.any fun e => decide (15 < e.pset) || (e.lslot != 0xFFFF && !tables) ||
          (e.stream != 0xFFFF && !(t.streamOpenIn c.ctx e.stream)) then bad
      else if es.any fun e => e.lslot != 0xFFFF && !(x.inUsable (leAt d 40 4 + 64 * e.lslot) 64) then .error (0x0012, 0)
      else
        let text : Bool := es.any fun e => e.stream != 0xFFFF
        let ss := ((es.map (·.stream)).filter (· != 0xFFFF)).eraseDups
        let own := t.stripe g.tunMask n
        let mine := (es.drop own.1).take own.2
        let maxTok := if b 48 = 0xFF then 0 else t.slotParam c.ctx (b 48)
        .ok { wants := [(b 19, pourUnits)] ++ (if tables then [(1, lauterUnits)] else []) ++ (if text then [(1, gristUnits)] else []),
              streams := ss.map fun s => (s, textBound ((mine.filter (·.stream == s)).length) maxTok),
              lstate := some (leAt d 40 4) }

/-- Checks of STEEP_DECODE. -/
def Tun.checkSteep (t : Tun) (c : Cmd) : Chk :=
  match t.steepCheck c with
  | some e => .error e
  | none =>
    let f := steepOf c.desc
    let sh := t.steepShape c (t.qentries c f)
    .ok { bound := f.records sh.1 * f.recSize sh.2.1, wants := [(f.units, t.steepOrder c f)] }

/-- Reserved bits of word 0, and WAIT_SEM on a free semaphore (13 R509, 14 R571). -/
def Tun.headerOk (t : Tun) (c : Cmd) : Bool :=
  c.word0.extractLsb' 22 18 == 0 && c.word0.extractLsb' 8 8 == 0 &&
    (match c.waitSem with | some n => (t.sem n).mode != 0 | none => true)

/-- Check 6 (13 R526). -/
def Tun.check6 (t : Tun) (c : Cmd) : Chk :=
  if ¬ t.headerOk c then bad else
  let r :=
    if c.op ≤ 4 then t.checkGeneral c
    else if c.op < 0x30 then t.checkAdmin c
    else if c.op < 0x40 then t.checkCellar c
    else if c.op < 0x43 ∨ c.op = 0x49 then t.checkGroup c
    else if c.op < 0x49 then t.checkColl c
    else if c.op = 0x50 then t.checkSteep c
    else if c.op = 0x66 then t.checkSample c
    else t.checkToken c
  match r with
  | .ok p => if c.queue ≠ 0 ∧ (t.ctx c.ctx).proof.toNat * blockSize < p.bound then bad else .ok p
  | e => e

/-- Check 5: the context is resident (13 R526, 14 R552). -/
def Tun.check5 (t : Tun) (c : Cmd) : Option Half :=
  if c.queue = 0 then none
  else match (t.ctx c.ctx).state with
    | .resident => none
    | .faulted => some 0x0202
    | _ => some 0x0201

/-- Opcodes a generation-1 rack does not have (21 R802). -/
def gen1Lacks (op : Nat) : Bool := (decide (0x20 ≤ op) && decide (op ≤ 0x23)) || op == 0x48 || op == 0x49

/-- Check 2 (13 R534, 21 R802). -/
def Tun.opKnown (t : Tun) (op : Nat) : Bool := opDefined op && (t.rack.gensel || !(gen1Lacks op))

/-- Checks 2 to 6 in order. In PALE and DRAINING, SERVICE_UNAVAILABLE takes precedence over every other code (05 R171); a context that is
not resident has no share, so its other descriptors complete with NOT_RESIDENT whatever they hold (14 R566). -/
def Tun.checks (t : Tun) (c : Cmd) : Chk :=
  match c.abort with
  | some st => .error (st, 0)
  | none =>
    if t.opKnown c.op ∧ t.svc.state ≠ .full ∧ t.needsFull c then .error (0x0010, 0)
    else if c.queue ≠ 0 ∧ (t.ctx c.ctx).blocks.isEmpty then .error (0x0201, 0)
    else if ¬ t.opKnown c.op then .error (0x00F0, 0)
    else if ¬ opAllowed c.queue c.op then .error (0x0011, 0)
    else match t.check5 c with
      | some st => .error (st, 0)
      | none => t.check6 c

end Sys2Proof.Machine
end

