-- ==== Sys2Proof/Machine/Commands.lean ====
section
/-! DEFINITION. Brewmaster's own events (chapters 13 and 14): doorbells and command packets, fetching, starting and Racking
commands, queue and ring configuration, contexts and semaphores, and the general opcodes. -/

namespace Sys2Proof.Machine
open Sys2Proof

/-! ### Doorbells and command packets (13 R500-R506, R521) -/

/-- A write to QUEUE_DOORBELLq (13 R505); a doorbell that advances P is an enqueue (14 R554). -/
def execQueueDoorbell (t : TunId) (q : BitVec 10) (index : Half) (s : State) : Res :=
  onTun t s (Tun.windowWrite fun u => (u.producerDoorbell q.toNat index).arbitrate s.now)

/-- A write to CRING_HEADr (13 R521). -/
def execCringHead (t : TunId) (r : BitVec 10) (index : Half) (s : State) : Res :=
  onTun t s (Tun.windowWrite (Tun.headDoorbell r.toNat index))

/-- Bytes of a queue ring's slot for an index: a share offset (13 R496, R498). -/
def Queue.slotOff (k : Queue) (i : Half) : Nat := k.ring.toNat + 64 * (i.toNat % 2 ^ k.log2.toNat)

/-- Appends descriptors at P; a context that is not resident has no ring to hold them (14 R544). -/
def Tun.appendDescs (q : Nat) : List (List Byte) → Tun → Tun
  | [], t => t
  | d :: ds, t =>
    let k := t.queue q
    let c := k.ctx.toNat
    let t := if (t.ctx c).blocks.isEmpty then t else t.shareStore c (k.slotOff k.p) d false
    Tun.appendDescs q ds (t.modQueue q fun k => { k with p := k.p + 1 })

/-- `n` blocks of 64 bytes. -/
def cutDescs : Nat → List Byte → List (List Byte)
  | 0, _ => []
  | n + 1, bs => bs.take 64 :: cutDescs n (bs.drop 64)

/-- A queue that takes nothing from endpoints, or not from this context (13 R501). -/
def Tun.refusesSubmit (t : Tun) (q : Nat) (ctx : Byte) : Bool :=
  let k := t.queue q
  q == 0 || !k.valid || !k.endpointSubmit || k.ctx != ctx

/-- A CMD packet (13 R500, R501, R506, Table 13-11). -/
def Tun.takeCmd (now : Nat) (p : Packet) (t : Tun) : Tun :=
  let q := (p.addr.extractLsb' 0 10).toNat
  let k := t.queue q
  let refuse (t : Tun) : Tun := t.modBm fun b => { b with cmdRefused := satInc b.cmdRefused }
  if t.refusesSubmit q p.ctx then refuse t
  else if p.poison then
    (if t.ringFree k.cring.toNat = 0 then refuse t
     else t.putSlot now k.cring.toNat (recordBytes 0 0x0504 k.c q 0 0 0 false))
  else
    let n := p.payload.length / 64
    let f := queueFree q k
    let t := t.appendDescs q ((cutDescs n p.payload).take f)
    let t := if n ≤ f then t else t.modQueue q fun k => { k with overrun := true, overrunCount := satInc k.overrunCount }
    t.arbitrate now

def Tun.dbRefuse (t : Tun) : Tun := t.modBm fun b => { b with dbRefused := satInc b.dbRefused }

/-- One word of a DOORBELL packet (13 R502, R503, Table 13-2). -/
def Tun.doorbellWord (p : Packet) (w : Word) (t : Tun) : Tun :=
  let n := (bitsOf w 0 10).toNat
  let i : Half := bitsOf w 16 16
  if w.getLsbD 15 then
    let r := t.ring n
    if r.valid && r.endpoint && r.dest == p.srcEp then t.headDoorbell n i else t.dbRefuse
  else if t.refusesSubmit n p.ctx then t.dbRefuse
  else t.producerDoorbell n i

/-- A DOORBELL packet: its words in payload order (13 R502, R503, Table 13-11). -/
def Tun.takeDoorbell (now : Nat) (p : Packet) (t : Tun) : Tun :=
  if p.poison then t.dbRefuse
  else
    let ws := (List.range (p.payload.length / 4)).map fun i => (BitVec.ofNat 32 (leAt p.payload (4 * i) 4) : Word)
    (ws.foldl (fun t w => t.doorbellWord p w) t).arbitrate now

/-! ### Fetching and starting (13 R499, R526, Table 13-7) -/


/-- A fetched command of the queue waits to start. -/
def Tun.headWaiting (t : Tun) (q : Nat) : Bool := t.bm.cmds.any fun c => c.queue == q && !c.running

/-- The queue's next descriptor as a command; `admin` gives the 64 bytes of queue 0's slot, which lies in Brewmaster's own
blocks. A poisoned descriptor, or one whose read `fails`, makes
a command that can only fail, with OPCODE 0 and USER_TAG 0 (19 R740, Table 19-3). -/
def Tun.fetchNext (q : Nat) (admin : List Byte) (fails : Bool) (t : Tun) : Cmd × Tun :=
  let k := t.queue q
  let c := if q = 0 then 0 else k.ctx.toNat
  let off := k.slotOff k.c
  let blank : List Byte := List.replicate 64 0
  let held : Bool := q != 0 && !(t.ctx c).blocks.isEmpty
  let bad : Bool := fails || (held && t.sharePoison c off 64)
  let d := if bad then blank else if q = 0 then (admin ++ blank).take 64 else if held then t.shareRead c off 64 else blank
  let cmd : Cmd := { id := t.bm.nextCmd, queue := q, ctx := c, op := (byteAt d 0).toNat, desc := d, index := k.c,
                     abort := if bad then some 0x0504 else none }
  let t := t.modBm fun b => { b with cmds := b.cmds ++ [cmd], nextCmd := b.nextCmd + 1 }
  (cmd, (t.modQueue q fun k => { k with c := k.c + 1 }).bump 5 0 q)

/-- A queue's next descriptor is fetched: only while none fetched waits, and not from a queue a running Recipe's step names. In DRAINING
only the admin queue is read, for the requests Table 05-11 answers there; the rest is recorded until RESUME (05 R168, R170). -/
def Tun.descriptorFetch (q : Nat) (admin : List Byte) (fails : Bool) (t : Tun) : Tun :=
  let k := t.queue q
  let r := t.fetchNext q admin fails
  if t.startsOp q r.1.op && k.valid && k.held != 0 && !t.headWaiting q && !(t.sched.stepQueues.contains q) then r.2
  else t

def execDescriptorFetch (t : TunId) (q : BitVec 10) (admin : List Byte) (s : State) : Res :=
  onTun t s (Tun.descriptorFetch q.toNat admin false)

/-- A SEQ_LOCK that must wait: another context holds the lock, and NO_WAIT is clear (16 Table 16-8). -/
def Tun.lockWaits (t : Tun) (c : Cmd) : Bool :=
  c.op == 0x32 && byteAt c.desc 20 == 0 &&
    (match t.cseq (t.ctx c.ctx).pkey (leAt c.desc 16 4) with
     | some q => (match q.holder with | some h => h != c.ctx | none => false)
     | none => false)

/-- Every earlier command of the queue has completed (13 Table 13-7 check 7). -/
def Tun.orderMet (t : Tun) (c : Cmd) : Bool := !c.order || !(t.bm.cmds.any fun k => k.queue == c.queue && decide (k.id < c.id))

/-- Check 8: the semaphore is acquired, or the command waits (14 R571); then the wait of a SEQ_LOCK. -/
def Tun.check8 (c : Cmd) (t : Tun) : Tun :=
  let go (t : Tun) : Tun :=
    t.modCmd c.id fun k => { k with phase := if t.lockWaits c then .waitLock else .waitUnit }
  match c.waitSem with
  | none => go t
  | some n =>
    if (t.sem n).available then go ((t.semTake n c.holder).modCmd c.id fun k => { k with semHeld := true })
    else t.modCmd c.id fun k => { k with phase := .waitSem }

/-- A fetched command passes its checks, in order, and competes for its units (13 R526). -/
def Tun.commandStart (now q : Nat) (t : Tun) : Tun :=
  match t.bm.cmds.find? fun c => c.queue == q && !c.running with
  | none => t
  | some c =>
    if ¬ t.startsOp c.queue c.op ∨ t.sched.stepQueues.contains q then t
    else if c.phase = .waitUnit then t.arbitrate now
    else if c.phase ≠ .fetched ∨ t.ringFree (t.queue q).cring.toNat = 0 then t
    else match t.checks c with
      | .error e => t.failWith now c e.1 (BitVec.ofNat 64 e.2)
      | .ok p =>
        if ¬ t.orderMet c then t
        else
          let t := t.modCmd c.id fun k => { k with bound := p.bound, wants := p.wants, streamNeeds := p.streams, lstate := p.lstate }
          (t.check8 c).arbitrate now

def execCommandStart (t : TunId) (q : BitVec 10) (s : State) : Res := onTun t s (Tun.commandStart s.now q.toNat)

/-! ### The work of a started command -/

/-- The started command `id` of one of the opcodes, on engines that run: FENCED stops every engine (05 R161, R169). -/
def Tun.startedCmd (t : Tun) (id : Nat) (ops : List Nat) : Option Cmd :=
  match t.cmd id with
  | some c => if t.serving ∧ c.phase = .started ∧ ops.contains c.op then some c else none
  | none => none

def execOn (t : TunId) (id : Nat) (ops : List Nat) (f : Cmd → Tun → Tun) (s : State) : Res :=
  onTun t s fun u => match u.startedCmd id ops with
    | some c => f c u
    | none => u

/-- A host read fails: it is counted, and its command ends (18 R719). -/
def Tun.hostReadFail (now : Nat) (c : Cmd) (t : Tun) : Tun :=
  ({ t with host := { t.host with readFail := satInc t.host.readFail } }).runFail now c 0x0012


/-- Plans a command's reads; one that would read host memory it cannot reach fails at once (18 R719). -/
def Tun.planOrFail (now : Nat) (c : Cmd) (ps : List Piece) (t : Tun) : Tun :=
  if ps.any (·.host) && !(t.hostReads (t.cmdFn c)) then t.hostReadFail now c
  else t.planReads now c.id ps

/-- Plans on the first call; issues what is left, until every read is answered; then `k` runs. -/
def Tun.withReads (now : Nat) (c : Cmd) (plan : Tun → List Piece) (k : Cmd → Tun → Tun) (t : Tun) : Tun :=
  let t := if c.planned then t.issueReads now c.id else t.planOrFail now c (plan t)
  match t.cmd c.id with
  | some c => if c.fetched then k c t else t
  | none => t

/-- Work counted for a command's first unit of a kind (20 Table 20-3 WORK). -/
def Tun.work (c : Cmd) (kind : List Nat) (n : Nat) (t : Tun) : Tun :=
  match c.units.find? kind.contains with
  | some u => t.bumpBy 4 3 u n
  | none => t

/-! ### Racking (14 R561) -/

/-- Outputs that leave the Tun, in order: packets and host writes, and stream text (17 R681). -/
def Tun.applyOut (now : Nat) (c : Cmd) (e : Effect) (t : Tun) : Tun :=
  match e with
  | .text n bs => t.putText n bs
  | e => t.applyRemote now c e

/-- Publishes staged outputs: those to Wort and Cask, then those that leave. -/
def Tun.publish (now : Nat) (c : Cmd) (es : List Effect) (t : Tun) : Tun :=
  es.foldl (fun t e => t.applyOut now c e) (es.foldl (fun t e => t.applyLocal now c e) t)


/-! ### Requests (14 R562, 13 R529, R533) -/

/-- A request has had no response for REMOTE_TIMEOUT (13 R529). -/
def Tun.remoteTimeout (now entry : Nat) (t : Tun) : Tun :=
  match t.bm.outstanding.find? (·.entry == entry) with
  | none => t
  | some o =>
    match o.cmd.bind t.cmd with
    | some c => if c.maskRead entry then t.maskFail c.id entry 0x0506 else t.runFail now c 0x0506
    | none => t.modBm fun b => { b with outstanding := b.outstanding.filter (·.entry != entry), released := b.released ++ [entry] }

def execRemoteTimeout (t : TunId) (entry : BitVec 12) (s : State) : Res := onTun t s (Tun.remoteTimeout s.now entry.toNat)

/-- REMOTE_TIMEOUT has passed since the entry's release (14 R562). -/
def execReleasedEntryReuse (t : TunId) (entry : BitVec 12) (s : State) : Res :=
  onTun t s (Tun.modBm fun b => { b with released := b.released.filter (· != entry.toNat) })

/-- The oldest held record of a ring that has a free slot is written (13 R533). -/
def Tun.writeHeld (now : Nat) (t : Tun) : Tun :=
  match t.bm.held.find? fun h => decide (slotsOf h.ext ≤ t.ringFree h.ring) with
  | none => t
  | some h =>
    let t := (t.modBm fun b => { b with held := b.held.erase h }).putRecord now h.ring h.bytes h.ext
    let g := t.ring h.ring
    if h.interrupt && !g.endpoint && g.intEn then t.msi (t.ringFn g) g.vector.toNat else t

/-- Held records are written while the engines run (05 R169). -/
def execHeldRecordWrite (t : TunId) (s : State) : Res := onTun t s fun u => if u.serving then u.writeHeld s.now else u

/-! ### Queue and ring configuration (13 R536, R537) -/

/-- A set-up request in FENCED is not acted on (05 Table 05-11). -/
def Tun.setUp (f : Tun → Tun) (t : Tun) : Tun := if t.svc.state = .fenced then t else f t

def Tun.queueRefuse (q : Nat) (t : Tun) : Tun := t.modQueue q fun k => { k with cfgRefused := true }
def Tun.ringRefuse (r : Nat) (t : Tun) : Tun := t.modRing r fun k => { k with cfgRefused := true }

/-- A queue may be made valid: depth, binding, context and ring offset (13 R496, R513, R537). -/
def Tun.queueOk (t : Tun) (q : Nat) (k : Queue) : Bool :=
  let r := t.ring k.cring.toNat
  let x := t.ctx k.ctx.toNat
  r.valid && decide (4 ≤ k.log2.toNat) && decide (k.log2.toNat ≤ 12) &&
    (if q = 0 then !r.endpoint
     else r.ctx == k.ctx && x.state != .undefined && k.ring.toNat % (64 * 2 ^ k.log2.toNat) == 0 &&
       x.inUsable k.ring.toNat (64 * 2 ^ k.log2.toNat))

/-- A write to QUEUE_CFG of the selected queue. -/
def Tun.writeQueueCfg (v : Word) (t : Tun) : Tun :=
  let q := t.bm.queueSel.toNat
  let k := t.queue q
  let n : Queue := { k with
    valid := v.getLsbD 31, endpointSubmit := v.getLsbD 30, cring := bitsOf v 20 10,
    log2 := if q = 0 then 8 else bitsOf v 16 4, ctx := if q = 0 then 0 else bitsOf v 8 8 }
  if t.bm.cmds.any (·.queue == q) then t.queueRefuse q
  else if k.valid && n.valid then (if n = k then t else t.queueRefuse q)
  else if n.valid then (if t.queueOk q n then t.modQueue q fun _ => { n with p := 0, c := 0 } else t.queueRefuse q)
  else t.modQueue q fun _ => { n with p := if k.valid then k.c else k.p }

/-- A write to QUEUE_RING of the selected queue; queue 0's is read-only. -/
def Tun.writeQueueRing (v : Word) (t : Tun) : Tun :=
  let q := t.bm.queueSel.toNat
  let k := t.queue q
  let o : BitVec 29 := (v &&& 0x1FFFFFC0).setWidth 29
  if t.bm.cmds.any (·.queue == q) then t.queueRefuse q
  else if q = 0 then t
  else if k.valid && o != k.ring then t.queueRefuse q
  else t.modQueue q fun k => { k with ring := o }

/-- Writes to QUEUE_CFG, or QUEUE_RING when `ring` is set. -/
def execQueueCfgWrite (t : TunId) (ring : Bool) (v : Word) (s : State) : Res :=
  onTun t s (Tun.windowWrite (Tun.setUp (if ring then Tun.writeQueueRing v else Tun.writeQueueCfg v)))

/-- A ring may be made valid (13 R537, 18 R718, R722). A ring that the physical function writes needs no context. -/
def Tun.ringOk (t : Tun) (k : Ring) : Bool :=
  let defined : Bool := (t.ctx k.ctx.toNat).state != .undefined
  decide (4 ≤ k.log2.toNat) && decide (k.log2.toNat ≤ 12) && k.addr.toNat % (32 * 2 ^ k.log2.toNat) == 0 &&
    (if k.endpoint then k.channel != 15 && (Tab.get 0 t.plane.routes k.dest.toNat).getLsbD 31 && defined
     else decide (k.function.toNat ≤ 1) && (!k.intEn || decide (k.vector.toNat < if k.function = 0 then 1024 else 64)) &&
       (k.function == 0 || defined))

/-- A write to CRING_CFG of the selected ring. -/
def Tun.writeRingCfg (v : Word) (t : Tun) : Tun :=
  let r := t.bm.cringSel.toNat
  let k := t.ring r
  let n : Ring := { k with
    valid := v.getLsbD 31, endpoint := v.getLsbD 30, split := v.getLsbD 29, intEn := v.getLsbD 28, log2 := bitsOf v 24 4,
    ctx := bitsOf v 16 8, vector := bitsOf v 0 11 }
  if k.valid then
    let used := t.reservations r != 0 || t.bm.queues.entries.any fun e => e.2.valid && e.2.cring.toNat == r
    if n = { k with valid := false } ∧ ¬ used then t.modRing r fun _ => n else t.ringRefuse r
  else if n.valid then (if t.ringOk n then t.modRing r fun _ => { n with tail := 0, head := 0 } else t.ringRefuse r)
  else t.modRing r fun _ => n

/-- A write to CRING_ADDR_LO, CRING_ADDR_HI or CRING_DEST of the selected ring. -/
def Tun.writeRingOther (reg : BitVec 2) (v : Word) (t : Tun) : Tun :=
  let r := t.bm.cringSel.toNat
  if (t.ring r).valid then t.ringRefuse r
  else t.modRing r fun k =>
    if reg = 1 then { k with addr := (k.addr.extractLsb' 32 32 ++ v : Dword) }
    else if reg = 2 then { k with addr := (v ++ k.addr.extractLsb' 0 32 : Dword) }
    else { k with channel := bitsOf v 28 4, dest := bitsOf v 16 10, function := bitsOf v 8 8 }

/-- Writes to CRING_CFG (0), CRING_ADDR_LO (1), CRING_ADDR_HI (2) and CRING_DEST (3). -/
def execCringCfgWrite (t : TunId) (reg : BitVec 2) (v : Word) (s : State) : Res :=
  onTun t s (Tun.windowWrite (Tun.setUp (if reg = 0 then Tun.writeRingCfg v else Tun.writeRingOther reg v)))

/-! ### General opcodes (13 R534) -/

def execNop (t : TunId) (id : Nat) (s : State) : Res := execOn t id [0x00] (fun _ u => u.stage id 0 0 0 []) s

/-- WRITE_IMM: LEN bytes of DATA to the location. -/
def execWriteImm (t : TunId) (id : Nat) (s : State) : Res :=
  execOn t id [0x01] (fun c u =>
    let n := (byteAt c.desc 32).toNat
    u.stage id 0 0 0 (u.locEffects c (locOf (c.desc.drop 16)) (plain ((c.desc.drop 40).take n)))) s

/-- COPY: reads the source, then stages the destination; poison travels with its bytes (19 R740). -/
def Tun.copyWork (now : Nat) (c : Cmd) (t : Tun) : Tun :=
  let n := leAt c.desc 48 4
  let t := if c.planned then t else t.space4Txn now c (locOf (c.desc.drop 16)) n
  t.withReads now c (fun t => t.locPlan c (locOf (c.desc.drop 16)) n) fun c t =>
    let d := c.fetchedP
    let t := if anyPoison d then t.modCmd c.id fun c => { c with poisoned := true } else t
    t.stage c.id 0 (BitVec.ofNat 64 n) 0 (t.locEffects c (locOf (c.desc.drop 32)) d)

def execCopy (t : TunId) (id : Nat) (s : State) : Res := execOn t id [0x02] (Tun.copyWork s.now) s

/-- TIMESTAMP: the values are taken at Racking. -/
def execTimestamp (t : TunId) (id : Nat) (s : State) : Res := execOn t id [0x04] (fun _ u => u.stage id 0 0 0 []) s

/-! ### Contexts (14 R538-R578) -/

/-- Operands of CTX_DEFINE (14 Table 14-1). -/
def Tun.ctxDefine (now : Nat) (c : Cmd) (t : Tun) : Tun :=
  let d := c.desc
  let n := (byteAt d 16).toNat
  if (t.ctx n).state ≠ .undefined then t.failCmd now c 0x0207
  else
    let t := t.modCtx n fun x => { x with
      state := .defined, priority := (byteAt d 17).setWidth 3, pkey := BitVec.ofNat 16 (leAt d 18 2), share := byteAt d 20,
      proof := (byteAt d 21).setWidth 3, pin := (byteAt d 22).getLsbD 0 }
    let t := t.modToken fun k => { k with
      seeds := k.seeds.set 0 n 0, params := (List.range 16).foldl (fun p i => p.set {} (n * 16 + i) {}) k.params }
    t.completeNow now c 0 0 0

def execCtxDefine (t : TunId) (id : Nat) (s : State) : Res := execOn t id [0x10] (Tun.ctxDefine s.now) s

/-- A valid queue or ring names the context (14 R541). -/
def Tun.ctxNamed (t : Tun) (n : Nat) : Bool :=
  t.bm.queues.entries.any (fun e => e.1 != 0 && e.2.valid && e.2.ctx.toNat == n) ||
    t.bm.rings.entries.any fun e => e.2.valid && e.2.ctx.toNat == n && (e.2.endpoint || e.2.function != 0)

/-- The context ends: its LOCKs go to their waiters with a notice, its COUNTs lose their target, its sequences and their locks
their owner, its streams close (14 R576, 16 R637, Table 16-8, 17 R684). -/
def Tun.ctxEnd (n : Nat) (t : Tun) : Tun :=
  let t := (t.locksOf n).foldl (fun t k => t.semForce k) t
  let t := ((t.bm.sems.entries.filter fun e => e.2.owner == some n).map (·.1)).foldl (fun t k => t.modSem k fun x => { x with owner := none }) t
  let t := t.orphanLocks n
  let t := t.modCellar fun x => { x with seqs := x.seqs.map fun q => if q.ctx = some n then { q with ctx := none } else q }
  (List.range 256).foldl (fun t k => if (t.tstream k).isOpen && (t.tstream k).ctx == n then
    t.modStream k fun x => { x with isOpen := false, held := [] } else t) t

def Tun.ctxUndefine (now : Nat) (c : Cmd) (t : Tun) : Tun :=
  let n := (byteAt c.desc 16).toNat
  if (t.ctx n).state ≠ .defined ∨ t.ctxNamed n then t.failCmd now c 0x0207
  else
    let t := t.ctxEnd n
    (t.modCtx n fun x => { gen := x.gen }).completeNow now c 0 0 0

def execCtxUndefine (t : TunId) (id : Nat) (s : State) : Res := execOn t id [0x11] (Tun.ctxUndefine s.now) s

/-! #### Residency and eviction -/

/-- A preload entry: host address, share offset, length (14 Table 14-2). -/
def preloads (n : Nat) (bs : List Byte) : List (Nat × Nat × Nat) :=
  (List.range n).map fun i => (leAt bs (16 * i) 8, leAt bs (16 * i + 8) 4, leAt bs (16 * i + 12) 4)

def preloadOk (x : Ctx) (p : Nat × Nat × Nat) : Bool :=
  p.1 % 64 == 0 && p.2.1 % 64 == 0 && p.2.2 % 64 == 0 && decide (64 ≤ p.2.2) && x.inUsable p.2.1 p.2.2

/-- CTX_RESIDE: the list is read and checked, then the command waits for the streamer (14 R546-R548). -/
def Tun.ctxReside (now : Nat) (c : Cmd) (t : Tun) : Tun :=
  let n := (byteAt c.desc 16).toNat
  let k := leAt c.desc 18 2
  if t.bm.resideWait.contains c.id ∨ ((t.bm.streaming.map (·.1)) == some c.id) then t
  else if (t.ctx n).state ≠ .defined then t.failCmd now c 0x0207
  else t.withReads now c (fun _ => if k = 0 then [] else [{ host := true, addr := leAt c.desc 24 8, len := 16 * k }]) fun c t =>
    let ps := preloads k (pbytes c.fetchedP)
    if ps.all (preloadOk (t.ctx n)) then
      (t.modCmd c.id fun c => { c with tables := [pbytes c.fetchedP] }).modBm fun b => { b with resideWait := b.resideWait ++ [c.id] }
    else t.failCmd now c 0x00F1

def execCtxReside (t : TunId) (id : Nat) (s : State) : Res := execOn t id [0x12] (Tun.ctxReside s.now) s

def Tun.slotsUsed (t : Tun) : List Nat := t.bm.ctxs.entries.filterMap (·.2.slot)
def Tun.freeSlots (t : Tun) : List Nat := (List.range 16).filter fun n => !(t.slotsUsed.contains n)
def Tun.freeBlocks (t : Tun) : List Nat :=
  let used := t.bm.ctxs.entries.flatMap (·.2.blocks)
  (List.range' 32 224).filter fun n => !(used.contains n)

/-- Eviction (14 R566): commands that run or wait complete with NOT_RESIDENT, slot and blocks are free, and the groups of the
context lose their ready and landing state (15 R619). -/
def Tun.evict (now n : Nat) (t : Tun) : Tun :=
  let t := t.abortAll now n 0x0201
  let t := (t.bm.cmds.filter fun k => k.ctx == n && k.queue != 0 && !k.running).foldl (fun t k => t.failCmd now k 0x0201) t
  let t := t.modCtx n fun x => { x with state := .defined, slot := none, blocks := [] }
  let t := { t with mash := { t.mash with groups := t.mash.groups.map fun (e : Nat × Group) => if e.2.ctx = n then (e.1, { e.2 with places := [] }) else e } }
  t.modBm fun b => { b with evictions := satInc b.evictions }

/-- Contexts that may be evicted for one of a priority, the first to go first (14 R565). -/
def Tun.evictable (t : Tun) (prio : Nat) : List Nat :=
  let cs := (t.bm.ctxs.entries.map (·.1)).filter fun n =>
    let x := t.ctx n
    (x.state == .resident || x.state == .faulted) && !x.pin && !(t.pushActive n) && decide (t.eff n < prio)
  let first (a b : Nat) : Bool :=
    let x := t.ctx a
    let y := t.ctx b
    if t.eff a ≠ t.eff b then decide (t.eff a < t.eff b)
    else if x.lastStart ≠ y.lastStart then decide (x.lastStart < y.lastStart)
    else decide (b < a)
  cs.foldl (fun l c => l.takeWhile (fun x => first x c) ++ c :: l.dropWhile (fun x => first x c)) []

/-- The shortest run of victims that frees a slot and the blocks; none when all do not suffice. -/
def Tun.victimsFor (t : Tun) (prio share : Nat) : Option (List Nat) :=
  let vs := t.evictable prio
  ((List.range (vs.length + 1)).map (vs.take ·)).find? fun ks =>
    decide (0 < t.freeSlots.length + ks.length) &&
      decide (share ≤ t.freeBlocks.length + (ks.map fun n => (t.ctx n).blocks.length).foldl (· + ·) 0)

/-- The waiting CTX_RESIDE whose turn is next: highest PRIORITY, earliest among equals (14 R548). -/
def Tun.residePick (t : Tun) : Option Cmd :=
  let pr (c : Cmd) : Nat := (t.ctx (byteAt c.desc 16).toNat).priority.toNat
  (t.bm.resideWait.filterMap t.cmd).foldl (fun best c =>
    match best with | none => some c | some b => if pr b < pr c then some c else some b) none

/-- Every byte of the blocks is 0 and not poisoned. -/
def Tun.zeroBlocks (bs : List Nat) (t : Tun) : Tun :=
  let out {α : Type} (u : Nat) (e : Nat × α) : Bool := !(bs.contains (e.1 * u / blockSize))
  t.modBm fun b => { b with wort := ⟨b.wort.entries.filter (out 1)⟩, poison := ⟨b.poison.entries.filter (out 64)⟩ }

/-- A waiting CTX_RESIDE's turn (14 R546, R548, R565). -/
def Tun.resideTurn (now : Nat) (t : Tun) : Tun :=
  if t.bm.streaming.isSome ∨ ¬ (t.svc.state = .pale ∨ t.svc.state = .full ∨ t.svc.state = .draining) then t else
  match t.residePick with
  | none => t
  | some c =>
    let n := (byteAt c.desc 16).toNat
    let x := t.ctx n
    let ps := preloads (leAt c.desc 18 2) (c.tables.headD [])
    let t := t.modBm fun b => { b with resideWait := b.resideWait.filter (· != c.id) }
    if x.state ≠ .defined then t.failCmd now c 0x0207
    else match t.victimsFor x.priority.toNat x.share.toNat with
      | none => t.failCmd now c 0x0206
      | some vs =>
        let t := vs.foldl (fun t v => t.evict now v) t
        let slot := t.freeSlots.headD 0
        let bs := t.freeBlocks.take x.share.toNat
        let t := (t.zeroBlocks bs).modCtx n fun x => { x with state := .streaming, slot := some slot, blocks := bs }
        let t := { t with host := { t.host with residence := t.host.residence.modify 0 slot (· + 1) } }
        let t := t.modBm fun b => { b with streaming := some (c.id, n) }
        let t := t.modCmd c.id fun c => { c with result0 := BitVec.ofNat 64 (slot + 256 * vs.length) }
        t.planReads now c.id (ps.map fun p => { host := true, addr := p.1, len := p.2.2 })

def execResideTurn (t : TunId) (s : State) : Res := onTun t s (Tun.resideTurn s.now)

/-- Copies preload entries in list order. -/
def Tun.copyPreloads (n : Nat) : List (Nat × Nat × Nat) → List (List Byte) → Tun → Tun
  | p :: ps, d :: ds, t => Tun.copyPreloads n ps ds (t.shareStore n p.2.1 d false)
  | _, _, t => t

/-- The last preload entry is copied: the context is RESIDENT (14 R546). -/
def Tun.resideDone (now : Nat) (t : Tun) : Tun :=
  match t.bm.streaming with
  | none => t
  | some (id, n) =>
    match t.cmd id with
    | none => t
    | some c =>
      if ¬ c.fetched then t else
      let ps := preloads (leAt c.desc 18 2) (c.tables.headD [])
      let t := t.copyPreloads n ps (c.fetches.map fun f => f.data.getD [])
      let t := (t.modBm fun b => { b with streaming := none }).modCtx n fun x => { x with state := .resident }
      t.completeNow now c 0 c.result0 (BitVec.ofNat 48 (ps.foldl (fun k p => k + p.2.2) 0))

def execResideStreamDone (t : TunId) (s : State) : Res := onTun t s (Tun.resideDone s.now)

/-- A host read failed during streaming (14 R550). -/
def Tun.resideFail (now : Nat) (t : Tun) : Tun :=
  match t.bm.streaming with
  | none => t
  | some (id, n) =>
    let t := { t with host := { t.host with readFail := satInc t.host.readFail } }
    let t := (t.modBm fun b => { b with streaming := none }).modCtx n fun x => { x with state := .defined, slot := none, blocks := [] }
    match t.cmd id with
    | some c => t.failCmd now c 0x0012
    | none => t

def execResideReadFail (t : TunId) (s : State) : Res := onTun t s (Tun.resideFail s.now)

def Tun.ctxLive (t : Tun) (n : Nat) : Bool := (t.ctx n).state == .resident || (t.ctx n).state == .faulted

/-- CTX_EVICT (14 R567). -/
def Tun.ctxEvict (now : Nat) (c : Cmd) (t : Tun) : Tun :=
  let n := (byteAt c.desc 16).toNat
  if ¬ t.ctxLive n then t.failCmd now c 0x0207
  else if (t.ctx n).pin ∨ t.pushActive n then t.failCmd now c 0x0205
  else (t.evict now n).completeNow now c 0 0 0

def execCtxEvict (t : TunId) (id : Nat) (s : State) : Res := execOn t id [0x13] (Tun.ctxEvict s.now) s

/-- CTX_SET_PRIORITY (14 R568, R577, R578); the evaluation follows at the command's completion. -/
def Tun.ctxSetPriority (now : Nat) (c : Cmd) (t : Tun) : Tun :=
  let n := (byteAt c.desc 16).toNat
  let act := byteAt c.desc 18
  if (t.ctx n).state = .undefined then t.failCmd now c 0x0207
  else if act = 2 ∧ t.pushActive n then t.failCmd now c 0x0205
  else
    let t := t.modCtx n fun x => { x with
      priority := (byteAt c.desc 17).setWidth 3, pin := if act = 1 then true else if act = 2 then false else x.pin }
    t.completeNow now c 0 0 0

def execCtxSetPriority (t : TunId) (id : Nat) (s : State) : Res := execOn t id [0x14] (Tun.ctxSetPriority s.now) s

/-- A context reset (14 R564): running commands end with CTX_ABORTED, a FAULTED context is RESIDENT again, its sequence locks are
orphaned (16 Table 16-8). -/
def Tun.ctxReset (now n : Nat) (t : Tun) : Tun :=
  let t := t.abortAll now n 0x0203
  let t := t.modCtx n fun x => if x.state = .faulted then { x with state := .resident } else x
  t.orphanLocks n

/-- CTX_KILL (14 R559, R564). MODE 0 kills for a re-run, a PUSH_COLLECTIVE excepted (R569). -/
def Tun.ctxKill (now : Nat) (c : Cmd) (t : Tun) : Tun :=
  let n := (byteAt c.desc 16).toNat
  if ¬ t.ctxLive n then t.failCmd now c 0x0207
  else
    let t := if byteAt c.desc 17 = 1 then t.ctxReset now n
      else ((t.runningOf n).filter (·.op != 0x48)).foldl (fun t k => t.killRerun now k) t
    t.completeNow now c 0 0 0

def execCtxKill (t : TunId) (id : Nat) (s : State) : Res := execOn t id [0x15] (Tun.ctxKill s.now) s

/-! ### Semaphores (14 R570-R576) -/

def Tun.semInit (now : Nat) (c : Cmd) (t : Tun) : Tun :=
  let d := c.desc
  let n := leAt d 16 2
  let m : BitVec 2 := (byteAt d 18).setWidth 2
  let count : Half := BitVec.ofNat 16 (leAt d 20 2)
  if ¬ (t.semWaiters n).isEmpty ∨ (t.sem n).holder.isSome then t.failCmd now c 0x0207
  else
    let lease := leAt d 22 2
    let t := t.modSem n fun _ => {
      mode := m, owner := if m = 2 then some (byteAt d 19).toNat else none, count := if m = 2 then count else 0,
      leaseMs := if lease = 0 then 10 else lease : Sem }
    t.completeNow now c 0 0 0

def execSemInit (t : TunId) (id : Nat) (s : State) : Res := execOn t id [0x16] (Tun.semInit s.now) s

/-- The lease of a semaphore whose inheritance is in force has run out (14 R574). -/
def Tun.leaseExpiry (now n : Nat) (t : Tun) : Tun :=
  if ¬ t.leaseActive n then t else
  match (t.sem n).target with
  | none => t
  | some k =>
    let t := (t.semForce n).modBm fun b => { b with leaseExpired := satInc b.leaseExpired }
    let t := if (t.ctx k).state = .resident then
        let t := (t.modCtx k fun x => { x with state := .faulted }).abortAll now k 0x0202
        ((t.locksOf k).foldl (fun t m => t.semForce m) t).orphanLocks k
      else t
    t.arbitrate now

def execLeaseExpiry (t : TunId) (sem : BitVec 12) (s : State) : Res := onTun t s (Tun.leaseExpiry s.now sem.toNat)

end Sys2Proof.Machine
end

