-- ==== Sys2Proof/Machine/Mash.lean ====
section
/-! DEFINITION. Groups and collectives as events (chapter 15): the group opcodes, pull-mode chunks, contributions, push tiles and
the Tap unit. -/

namespace Sys2Proof.Machine
open Sys2Proof

/-! ### Group opcodes (15 R581-R585, R617, R618) -/

/-- The member list a group opcode gives and the landing area it makes, or its failure (15 R583). -/
def Tun.groupList (t : Tun) (c : Cmd) (off land : Nat) : Except Half (List Member) :=
  let n := leAt c.desc 24 2
  match t.memberList c.ctx (leAt c.desc 32 8) n with
  | .error st => .error st
  | .ok ms => if land ≠ 0 ∧ ¬ (t.ctx c.ctx).inUsable off (n * land) then .error 0x00F1 else .ok ms

def Tun.groupForm (now : Nat) (c : Cmd) (t : Tun) : Tun :=
  let d := c.desc
  let off := leAt d 56 4
  let land := leAt d 60 4
  match t.groupList c off land with
  | .error st => t.failCmd now c st
  | .ok ms =>
    if (t.group c.groupNo).isSome then t.failCmd now c 0x0403
    else if 256 ≤ t.mash.groups.length then t.failCmd now c 0x0406
    else
      let g : Group :=
        { gen := byteAt d 18, ctx := c.ctx, queue := c.queue, channel := (byteAt d 19).setWidth 4, tunMask := BitVec.ofNat 32 (leAt d 20 4),
          members := ms, pipes := (byteAt d 26).toNat, hint := (byteAt d 27).toNat, window := leAt d 40 8, windowLen := leAt d 48 8,
          landOff := off, landBytes := land }
      (t.modMash fun m => { m with groups := m.groups ++ [(c.groupNo, g)] }).completeNow now c 0 0 0

def execGroupForm (t : TunId) (id : Nat) (s : State) : Res := execOn t id [0x40] (Tun.groupForm s.now) s

/-- A re-form ends every started pull-mode command of the group and every one that waits, with GROUP_STALE; members of the new
list that were due a DONE get it (15 R617). `keep` is the new list's IDs; `gen` the new generation, or none for a disband. -/
def Tun.groupStale (now n : Nat) (g : Group) (keep : List Nat) (gen : Option Byte) (t : Tun) : Tun :=
  let mine (c : Cmd) : Bool := (pullOp c.op || c.op == 0x48) && c.groupNo == n
  let t := (t.bm.cmds.filter fun c => c.running && pullOp c.op && mine c).foldl (fun t c =>
    let t := if c.op = 0x66 then t else t.doneNotices now c g 0x0401 keep
    let r := t.endResults c
    (t.semGiveBack c).finishCmd now c 0x0401 r.1 r.2 []) t
  (t.bm.cmds.filter fun c => !c.running && c.phase != .fetched && mine c && some (byteAt c.desc 18) != gen).foldl
    (fun t c => t.failCmd now c 0x0401) t

/-- A PUSH_COLLECTIVE of the group is started. -/
def Tun.groupPushing (t : Tun) (n : Nat) : Bool := t.bm.cmds.any fun c => c.running && c.op == 0x48 && c.groupNo == n

/-- The group as its own communication queue names it (15 R584). -/
def Tun.ownGroup (t : Tun) (c : Cmd) : Option Group :=
  match t.group c.groupNo with
  | some g => if g.queue = c.queue ∧ g.ctx = c.ctx then some g else none
  | none => none

def Tun.groupReform (now : Nat) (c : Cmd) (t : Tun) : Tun :=
  let n := c.groupNo
  match t.ownGroup c with
  | none => t.failCmd now c 0x0404
  | some g =>
    let gen := byteAt c.desc 18
    if gen = g.gen then t.failCmd now c 0x00F1
    else match t.groupList c g.landOff g.landBytes with
      | .error st => t.failCmd now c st
      | .ok ms =>
        if t.groupPushing n then t.failCmd now c 0x0403
        else
          let t := t.groupStale now n g (ms.map fun (m : Member) => m.id) (some gen)
          let t := t.modGroup n fun g => { g with gen := gen, tunMask := BitVec.ofNat 32 (leAt c.desc 20 4), members := ms, places := [] }
          t.completeNow now c 0 0 0

def execGroupReform (t : TunId) (id : Nat) (s : State) : Res := execOn t id [0x41] (Tun.groupReform s.now) s

def Tun.groupDisband (now : Nat) (c : Cmd) (t : Tun) : Tun :=
  let n := c.groupNo
  match t.ownGroup c with
  | none => t.failCmd now c 0x0404
  | some g =>
    if t.groupPushing n then t.failCmd now c 0x0403
    else
      let t := t.groupStale now n g [] none
      (t.modMash fun m => { m with groups := m.groups.filter (·.1 != n) }).completeNow now c 0 0 0

def execGroupDisband (t : TunId) (id : Nat) (s : State) : Res := execOn t id [0x42] (Tun.groupDisband s.now) s

/-! ### Pull-mode collectives (15 R602-R609, R613-R616) -/

/-- The instance is the command's. -/
def Tun.holdsInstance (t : Tun) (c : Cmd) : Bool :=
  match t.group c.groupNo with
  | some g => (g.place c.instanceNo).cmd == some c.id
  | none => false

/-- A started collective takes its instance; one that owns no granule completes at once (15 R588). -/
def Tun.collOpen (now : Nat) (c : Cmd) (t : Tun) : Tun :=
  match t.group c.groupNo with
  | none => t.failCmd now c 0x0404
  | some g =>
    if t.holdsInstance c then t
    else
      let t := t.openInstance c
      if t.chunksOwned g (collOf c.desc) c.op = 0 then
        match t.cmd c.id with
        | some c => t.completeNow now c 0 0 0
        | none => t
      else t

def execAllReduce (t : TunId) (id : Nat) (s : State) : Res := execOn t id [0x43] (Tun.collOpen s.now) s
def execReduceScatter (t : TunId) (id : Nat) (s : State) : Res := execOn t id [0x44] (Tun.collOpen s.now) s
def execAllGather (t : TunId) (id : Nat) (s : State) : Res := execOn t id [0x45] (Tun.collOpen s.now) s
def execBroadcast (t : TunId) (id : Nat) (s : State) : Res := execOn t id [0x46] (Tun.collOpen s.now) s
def execAllToAll (t : TunId) (id : Nat) (s : State) : Res := execOn t id [0x47] (Tun.collOpen s.now) s

/-- What the next chunk needs of each member, with the tag its bytes are kept under. An all-to-all first needs the members'
length tables, then the blocks of the members that receive (15 R614). -/
def Tun.chunkNeeds (t : Tun) (g : Group) (c : Cmd) : List (Nat × Nat × Nat × Nat) :=
  let f := collOf c.desc
  let m := g.members.length
  let e := t.chunkElems g f c.op c.progress
  if c.op = 0x47 ∧ ¬ c.tables.isEmpty then
    (f.receivers g).flatMap fun j => (List.range m).map fun i =>
      let p := c.blockPart f m i j e.1 e.2
      (i, p.1, p.2, i * m + j)
  else (f.needs c.op m e.1 e.2).map fun n => (n.1, n.2.1, n.2.2, n.1)

/-- A chunk's inputs are ready: its reads are issued (15 R603, R605). -/
def Tun.chunkReady (now : Nat) (c : Cmd) (t : Tun) : Tun :=
  match t.group c.groupNo with
  | none => t
  | some g =>
    let f := collOf c.desc
    if ¬ t.holdsInstance c then t
    else if c.op = 0x47 ∧ c.tables.isEmpty ∧ c.fetched then
      let ts := (List.range g.members.length).map fun i => pbytes (c.gathered i)
      let bad := anyPoison c.fetchedP
      t.modCmd c.id fun c => { c with tables := ts, planned := false, plan := [], fetches := [], poisoned := c.poisoned || bad }
    else if c.planned then t.issueReads now c.id
    else
      let ns := t.chunkNeeds g c
      if ns.all fun n => g.ready c.instanceNo c.progress n.1 n.2.1 n.2.2.1 then
        t.planOrFail now c (ns.flatMap fun n => (t.gatherPieces g c f.src n.1 n.2.1 n.2.2.1).map fun p => { p with tag := n.2.2.2 })
      else t

def execChunkReady (t : TunId) (id : Nat) (s : State) : Res := execOn t id [0x43, 0x44, 0x45, 0x46, 0x47] (Tun.chunkReady s.now) s

/-- The last chunk is Racked: the command completes, with the overflow report of an all-to-all (15 R605, R616). -/
def Tun.collFinish (now : Nat) (c : Cmd) (g : Group) (t : Tun) : Tun :=
  let f := collOf c.desc
  let m := g.members.length
  if c.op = 0x47 ∧ ¬ (c.overflows f m).isEmpty then
    (t.bump 2 0x11 ownPort).collEnd now c 0x0402 (c.overflowExt f m)
  else t.collEnd now c 0 []

/-- A combined chunk is Racked: its output, its notices and the new progress (15 R606). -/
def Tun.chunkRack (now : Nat) (c : Cmd) (t : Tun) : Tun :=
  match t.group c.groupNo with
  | none => t
  | some g =>
    let f := collOf c.desc
    let m := g.members.length
    if ¬ t.serving ∨ ¬ t.holdsInstance c ∨ ¬ c.fetched ∨ (c.op = 0x47 ∧ c.tables.isEmpty) then t
    else
      let e := t.chunkElems g f c.op c.progress
      let ins := (List.range m).map c.gathered
      let res := if c.op = 0x47 then t.a2aOutputs g f c e.1 e.2
        else t.chunkOutputs g f c c.op e.1 e.2 (f.combine c.op e.1 e.2 ins)
      let t := (t.work c mashUnits c.fetchedP.length).applyEffects now c res.1
      let t := if f.notify = 2 then
          res.2.foldl (fun t i => t.notice now f.group g f.inst 1 (g.idOf i) f.gen c.progress 0) t else t
      let bad := anyPoison c.fetchedP
      let t := t.modCmd c.id fun c => { c with
        progress := c.progress + 1, planned := false, plan := [], fetches := [], poisoned := c.poisoned || bad }
      match t.cmd c.id with
      | some c => if t.chunksOwned g f c.op ≤ c.progress then t.collFinish now c g else t
      | none => t

def execChunkRacking (t : TunId) (id : Nat) (s : State) : Res := execOn t id [0x43, 0x44, 0x45, 0x46, 0x47] (Tun.chunkRack s.now) s

/-! ### Push mode (15 R610-R612) -/

/-- Output elements a tile of member `m` reaches: the tile's bytes `off` to `off + n` of its input (15 Table 15-5). -/
def Coll.tileElems (f : Coll) (op mcount m off n : Nat) : Nat × Nat :=
  let z := f.inSize
  let a := (off + z - 1) / z
  let b := (off + n) / z
  if op = 0x45 then (m * f.count + a, m * f.count + b) else if mcount = 0 then (0, 0) else (a, b)

/-- Bytes of one element of a member, from the tiles that wait. -/
def Tun.tileBytes (t : Tun) (c : Cmd) (m lo hi : Nat) : Option (List PByte) :=
  (t.mash.tiles.find? fun k => k.cmd == c.id && k.member == m && decide (k.off ≤ lo) && decide (hi ≤ k.off + k.bytes.length)).map
    fun k => ((k.bytes.drop (lo - k.off)).take (hi - lo)).map fun b => (b, k.poison)

/-- One output element from the members' tiles, once every needed one has arrived. -/
def Tun.pushElem (t : Tun) (g : Group) (f : Coll) (c : Cmd) (op e : Nat) : Option (List PByte) :=
  let ins := (f.needs op g.members.length e (e + 1)).map fun n => t.tileBytes c n.1 n.2.1 n.2.2
  if ins.all Option.isSome then some (f.combine op e (e + 1) (ins.map fun x => x.getD [])) else none

/-- Runs of elements that can be combined now: (first, bytes), one run for each stretch. -/
def pushRuns (get : Nat → Option (List PByte)) : List Nat → Option (Nat × Nat × List PByte) → List (Nat × Nat × List PByte)
  | [], r => r.toList
  | e :: es, r =>
    match get e, r with
    | some d, some (a, b, bs) => if b = e then pushRuns get es (some (a, e + 1, bs ++ d)) else (a, b, bs) :: pushRuns get es (some (e, e + 1, d))
    | some d, none => pushRuns get es (some (e, e + 1, d))
    | none, some x => x :: pushRuns get es none
    | none, none => pushRuns get es none

/-- Sends every output range of elements `a` to `b` whose tiles have all arrived, and frees tiles no longer needed (15 R611). -/
def Tun.pushProduce (now : Nat) (c : Cmd) (a b : Nat) (t : Tun) : Tun :=
  match t.group c.groupNo with
  | none => t
  | some g =>
    let f := collOf c.desc
    let op := f.op c.op
    let own := t.ownElems g f op
    let fresh (e : Nat) : Bool := decide (own.1 ≤ e) && decide (e < own.2) && !(c.produced.any fun p => decide (p.1 ≤ e) && decide (e < p.2))
    let es := ((List.range (b - a)).map (a + ·)).filter fresh
    let runs := pushRuns (t.pushElem g f c op) es none
    let t := runs.foldl (fun t r =>
      let o := t.chunkOutputs g f c op r.1 r.2.1 r.2.2
      let bad := anyPoison r.2.2
      (t.applyEffects now c o.1).modCmd c.id fun c => { c with
        progress := c.progress + 1, produced := c.produced ++ [(r.1, r.2.1)], poisoned := c.poisoned || bad }) t
    let done := (t.cmd c.id).elim [] (·.produced)
    let sent (e : Nat) : Bool := e < own.1 || own.2 ≤ e || done.any fun p => decide (p.1 ≤ e) && decide (e < p.2)
    t.modMash fun m => { m with tiles := m.tiles.filter fun k =>
      let r := f.tileElems op g.members.length k.member k.off k.bytes.length
      k.cmd != c.id || !((List.range (r.2 - r.1)).all fun i => sent (r.1 + i)) }

/-- A push tile: it takes a place in its pipe, 256 at most waiting, and its output ranges are combined (15 R611). -/
def Tun.pushTile (now : Nat) (c : Cmd) (g : Group) (m off : Nat) (bs : List Byte) (poison forfeit : Bool) (pipe : Option Nat) (t : Tun) : Tun :=
  let u := pipe.getD (c.units.foldl min 7)
  let f := collOf c.desc
  if 256 ≤ (t.mash.tiles.filter (·.pipe == u)).length then t.discardContrib
  else
    let t := t.modMash fun k => { k with tiles := k.tiles ++ [{ cmd := c.id, pipe := u, member := m, off := off, bytes := bs, poison := poison }] }
    let t := if forfeit then t.modCmd c.id fun c => { c with forfeit := true } else t
    let r := f.tileElems (f.op c.op) g.members.length m off bs.length
    match t.cmd c.id with
    | some c => (t.bumpBy 4 3 u bs.length).pushProduce now c r.1 r.2
    | none => t

/-- The started PUSH_COLLECTIVE takes the tiles that came before it (15 R611). -/
def Tun.pushOpen (now : Nat) (c : Cmd) (t : Tun) : Tun :=
  match t.group c.groupNo with
  | none => t
  | some g =>
    let p := g.place c.instanceNo
    let t := t.modGroup c.groupNo (Group.setPlace { p with early := [] })
    p.early.foldl (fun t e => match t.cmd c.id with
      | some c => t.pushTile now c g e.1 e.2.1 e.2.2.1 e.2.2.2 p.forfeit none
      | none => t) t

def execPushCollective (t : TunId) (id : Nat) (s : State) : Res := execOn t id [0x48] (Tun.pushOpen s.now) s

/-- Every output element the Tun owns has been sent. -/
def Tun.pushWhole (t : Tun) (c : Cmd) : Bool :=
  match t.group c.groupNo with
  | none => false
  | some g =>
    let f := collOf c.desc
    let own := t.ownElems g f (f.op c.op)
    decide (own.2 ≤ coverFrom (c.produced.map fun p => (p.1, p.2 - p.1)) c.produced.length own.1)

/-- The span of a binding ends: its engine outputs not yet sent leave as forfeited ones, and the command completes (15 R612, 12
R462). -/
def Tun.pushSpanEnd (now : Nat) (c : Cmd) (t : Tun) : Tun :=
  let mine := t.sched.outputs.filter (·.cmd == c.id)
  let t := t.modSched fun s => { s with outputs := s.outputs.filter (·.cmd != c.id) }
  let t := mine.foldl (fun t o => (t.countForfeit 7 o.port o.slot).queueOut now [o.pkt]) t
  match t.cmd c.id with
  | some c => t.pushEnd now c (if t.pushWhole c then 0 else 0x0405)
  | none => t

def execPushSpanEnd (t : TunId) (id : Nat) (s : State) : Res := execOn t id [0x48] (Tun.pushSpanEnd s.now) s

/-! ### Contributions (15 R600-R604) -/

/-- A CONTRIB at its stripe owner. `forfeit` says that it was forfeited by a circuit on this Tun, `pipe` the pipe of the circuit
that brought it. -/
def Tun.takeContrib (now : Nat) (p : Packet) (forfeit : Bool) (pipe : Option Nat) (t : Tun) : Tun :=
  let a := p.addr
  let gn := (a.extractLsb' 52 12).toNat
  let kind := (a.extractLsb' 42 2).toNat
  let inst := (a.extractLsb' 32 10).toNat
  let off := (a.extractLsb' 0 32).toNat
  match t.group gn with
  | none => t.discardContrib
  | some g =>
    let m := g.members.findIdx fun x => x.id == p.srcEp.toNat
    if (t.ctx g.ctx).state ≠ .resident ∨ p.ctx.toNat ≠ g.ctx ∨ g.members.length ≤ m ∨ 2 ≤ kind then t.discardContrib
    else if a.extractLsb' 44 8 ≠ g.gen then t.modMash fun k => { k with staleContrib := satInc k.staleContrib }
    else if kind = 1 then
      if ¬ g.owns inst then t.modMash fun k => { k with signalDiscard := satInc k.signalDiscard }
      else if p.len ≠ 8 ∨ p.poison then t.discardContrib
      else
        let r := leAt p.payload 0 4
        let x := g.place inst
        let old := ((x.ready.find? (·.1 == m)).map (·.2)).getD 0
        let t := t.modGroup gn (Group.setPlace { x with ready := x.ready.filter (·.1 != m) ++ [(m, max old r)], forfeit := x.forfeit || forfeit })
        match x.cmd with
        | some id => if forfeit then t.modCmd id fun c => { c with forfeit := true } else t
        | none => t
    else match t.bm.cmds.find? fun c => c.running && c.op == 0x48 && c.groupNo == gn && c.instanceNo == inst with
      | some c => t.pushTile now c g m off p.payload p.poison forfeit pipe
      | none => t.landData gn inst m off p.payload p.poison forfeit

/-! ### The Tap unit (15 R620-R624) -/

def Tun.tapGroupSet (now : Nat) (c : Cmd) (t : Tun) : Tun :=
  let d := c.desc
  let n := (byteAt d 16).toNat
  let held := (t.mash.taps.find? (·.1 == n)).map (·.2)
  let other : Bool := match held with | some s => s.ctx != c.ctx | none => false
  let rest := t.mash.taps.filter (·.1 != n)
  if byteAt d 21 = 0 then
    (if other then t.failCmd now c 0x0403 else (t.modMash fun m => { m with taps := rest }).completeNow now c 0 0 0)
  else match t.memberList c.ctx (leAt d 32 8) (leAt d 22 2) with
    | .error st => t.failCmd now c st
    | .ok ms =>
      if ms.any (·.tun) then t.failCmd now c 0x00F1
      else if other then t.failCmd now c 0x0403
      else
        let s : TapSlot :=
          { gen := byteAt d 17, ctx := c.ctx, op := (byteAt d 18).toNat, type := (byteAt d 19).toNat, size := (byteAt d 20).toNat,
            members := ms.map fun (m : Member) => m.id, root := leAt d 24 2 }
        (t.modMash fun m => { m with taps := rest ++ [(n, s)] }).completeNow now c 0 0 0

def execTapGroupSet (t : TunId) (id : Nat) (s : State) : Res := execOn t id [0x49] (Tun.tapGroupSet s.now) s

/-- The Tap unit takes the contribution at the front of its receive queue (15 R621, R624). -/
def Tun.tapPop (now : Nat) (t : Tun) : Tun :=
  match t.mash.tapQueue with
  | [] => t
  | p :: rest => (t.modMash fun m => { m with tapQueue := rest }).tapTake now p

/-- The unit works while its engines do: FENCE stops every engine (05 R161). -/
def execTapContribution (t : TunId) (s : State) : Res := onTun t s fun u => if u.serving then u.tapPop s.now else u

end Sys2Proof.Machine
end

