-- ==== Sys2Proof/Machine/CellarCmds.lean ====
section
/-! DEFINITION. The Cellar and Steep opcodes (chapter 16): batch steps and their single forms, sequence locks, fetches, attention,
freed pages and a stack that goes offline. -/

namespace Sys2Proof.Machine
open Sys2Proof

/-! ### Batch steps (16 R640-R647) -/

/-- Entry checks in order: the entries, those already applied marked, or the first failure with its SEQ_ID (16 R644). -/
def Tun.entriesStart (t : Tun) (c : Cmd) : List BEntry → Except (Half × Nat) (List BEntry)
  | [] => .ok []
  | e :: es =>
    match t.entryStart c e with
    | .error st => .error (st, e.id)
    | .ok skip =>
      match t.entriesStart c es with
      | .error x => .error x
      | .ok r => .ok ({ e with skip := skip } :: r)

/-- SEQ_IDs of the second to eighth entries not granted (16 Table 16-7). -/
def fullExt (ids : List Nat) : List Byte :=
  ((List.range 7).flatMap fun i => bytesLE 4 ((ids.drop 1).getD i 0xFFFFFFFF)) ++ [0, 0, 0]

/-- A step that the page check refuses (16 R640, R645, Table 16-7). -/
def Tun.cellarFull (now : Nat) (c : Cmd) (need room : Nat) (out : List (BEntry × Bool × Bool × Bool)) (t : Tun) : Tun :=
  let t := t.modCellar fun x => { x with fullCount := satInc x.fullCount }
  let ids := out.map fun o => o.1.id
  let any (f : BEntry × Bool × Bool × Bool → Bool) (n : Nat) : Nat := if out.any f then 2 ^ n else 0
  let r0 : Dword := BitVec.ofNat 64 (ids.headD 0 + (need - room) * 2 ^ 32)
  if c.op = 0x36 then
    let r1 := BitVec.ofNat 48 (out.length + any (fun o => o.2.1) 16 + any (fun o => o.2.2.1) 17 + any (fun o => o.2.2.2) 18)
    (t.semGiveBack c).finishCmd now c 0x0301 r0 r1 (fullExt ids)
  else t.failWith now c 0x0301 r0

/-- The step's entry checks and page check, then its staging is read into proof buffers (16 R644-R647). -/
def Tun.batchWork (now : Nat) (c : Cmd) (t : Tun) : Tun :=
  match t.entriesStart c (t.batchOf c) with
  | .error e => t.failWith now c e.1 (BitVec.ofNat 64 e.2)
  | .ok es =>
    let k := (t.ctx c.ctx).pkey
    let app := es.filter fun e => !e.skip && e.action != 2
    let free := t.freePages
    let out := t.grant c.ctx k app free [] (65536 - t.seqEntries)
    if ¬ out.isEmpty then
      t.cellarFull now c (app.foldl (fun n e => n + (t.entryNeeds k e).1) 0) (min free (t.quotaRoom c.ctx)) out
    else
      let es := es.map fun e => t.readStaging c e
      let bad : Bool := es.any fun e => anyPoison e.data
      let n := es.foldl (fun n e => n + e.data.length) 0
      let t := t.modCmd c.id fun c => { c with batch := es, poisoned := c.poisoned || bad }
      (t.work c cellarUnits n).stage c.id 0 0 0 []

def execSeqOpen (t : TunId) (id : Nat) (s : State) : Res := execOn t id [0x30] (Tun.batchWork s.now) s
def execSeqClose (t : TunId) (id : Nat) (s : State) : Res := execOn t id [0x31] (Tun.batchWork s.now) s
def execKvAppend (t : TunId) (id : Nat) (s : State) : Res := execOn t id [0x34] (Tun.batchWork s.now) s
def execBatchStep (t : TunId) (id : Nat) (s : State) : Res := execOn t id [0x36] (Tun.batchWork s.now) s

/-- STEEP_DECODE commands started and not complete. -/
def Tun.steepsRunning (t : Tun) : List Nat := (t.bm.cmds.filter fun c => c.running && c.op == 0x50).map (·.id)

/-- Racking of a batch step: its entries in order; waiters for the lock of a removed sequence end (16 R647, Table 16-8). -/
def Tun.batchPublish (now : Nat) (c : Cmd) (t : Tun) : Tun :=
  let steeps := t.steepsRunning
  let t := c.batch.foldl (fun t e => t.applyEntry now c steeps e) t
  (c.batch.filter fun e => e.action == 2).foldl (fun t e => t.failLockWaiters now (t.ctx c.ctx).pkey e.id) t

/-- Pages freed by a LEAVE return to the pool once the STEEP_DECODEs that started before its Racking have completed (16 R647). -/
def Tun.pageRelease (t : Tun) : Tun :=
  let live := t.steepsRunning
  t.modCellar fun x => { x with freeing := x.freeing.filter fun f => f.2.any live.contains }

def execPageRelease (t : TunId) (s : State) : Res := onTun t s Tun.pageRelease

/-! ### Sequence locks (16 R651, Table 16-8) -/

/-- SEQ_LOCK and SEQ_UNLOCK find the sequence and check what Table 16-8 refuses; the change itself is Racked. -/
def Tun.lockWork (now : Nat) (c : Cmd) (t : Tun) : Tun :=
  match t.cseq (t.ctx c.ctx).pkey (leAt c.desc 16 4) with
  | none => t.failCmd now c 0x0304
  | some q =>
    if q.lost then t.failCmd now c 0x0303
    else
      let mine : Bool := q.holder == some c.ctx
      if c.op = 0x33 then (if mine then t.stage c.id 0 0 0 [] else t.failCmd now c 0x0305)
      else if q.holder.isSome && !mine && byteAt c.desc 20 == 1 then t.failCmd now c 0x0305
      else t.stage c.id 0 0 0 []

def execSeqLock (t : TunId) (id : Nat) (s : State) : Res := execOn t id [0x32] (Tun.lockWork s.now) s
def execSeqUnlock (t : TunId) (id : Nat) (s : State) : Res := execOn t id [0x33] (Tun.lockWork s.now) s

/-- Racking of SEQ_LOCK and SEQ_UNLOCK: `none` when the lock has meanwhile gone to another context and the command waits again. -/
def Tun.lockPublish (c : Cmd) (t : Tun) : Except Half (Option (Half × Tun)) :=
  let k := (t.ctx c.ctx).pkey
  let id := leAt c.desc 16 4
  match t.cseq k id with
  | none => .error 0x0304
  | some q =>
    if c.op = 0x33 then
      (if q.holder = some c.ctx then .ok (some (0, t.lockPass k id false)) else .error 0x0305)
    else match q.holder with
      | some h =>
        if h = c.ctx then .ok (some (if c.orphanLock then 0x0302 else 0, t))
        else if byteAt c.desc 20 = 1 then .error 0x0305
        else .ok none
      | none => .ok (some (if q.orphaned then 0x0302 else 0, t.modSeq k id fun q => { q with holder := some c.ctx, orphaned := false }))

/-! ### KV_FETCH (16 R641) -/

/-- The held tokens' rows in the staging layout of R646: offset in the destination and bytes. -/
def Tun.fetchRows (t : Tun) (q : CSeq) (mirror : Bool) (layer first n : Nat) : List (Nat × List PByte) :=
  (List.range n).flatMap fun i =>
    let tok := first + i
    match q.page mirror layer (tok / q.tpp) with
    | none => []
    | some p =>
      let a := caskAddr p.stack p.loc + tok % q.tpp * q.rowBytes
      let key := (i * q.rowBytes, t.caskReadP a q.rowBytes)
      if q.kind = 1 then [key] else [key, ((n + i) * q.rowBytes, t.caskReadP (a + q.tpp * q.rowBytes) q.rowBytes)]

def Tun.fetchWork (now : Nat) (c : Cmd) (t : Tun) : Tun :=
  let d := c.desc
  match t.cseq (t.ctx c.ctx).pkey (leAt d 16 4) with
  | none => t.failCmd now c 0x0304
  | some q =>
    let mirror := byteAt d 20 == 1
    if q.lost ∧ ¬ mirror then t.failCmd now c 0x0303
    else
      let rows := t.fetchRows q mirror (leAt d 22 2) (leAt d 24 4) (leAt d 28 4)
      let l := locOf (d.drop 32)
      let es := rows.flatMap fun r => t.locEffects c { l with addr := l.addr + BitVec.ofNat 64 r.1 } r.2
      let bad : Bool := rows.any fun r => anyPoison r.2
      let t := if bad then t.modCmd c.id fun c => { c with poisoned := true } else t
      let t := ((List.range (leAt d 28 4)).filterMap fun i => q.page mirror (leAt d 22 2) ((leAt d 24 4 + i) / q.tpp)).eraseDups.foldl
        (fun t p => t.caskTxn now false (caskAddr p.stack p.loc) pageBytes) t
      (t.work c cellarUnits (rows.foldl (fun n r => n + r.2.length) 0)).stage c.id 0 0 0 es

def execKvFetch (t : TunId) (id : Nat) (s : State) : Res := execOn t id [0x35] (Tun.fetchWork s.now) s

/-! ### Steep (16 R654-R658) -/

/-- The outputs of a STEEP_DECODE: its records in the share, or as contributions of its group, the Tun's own ones for Racking to
land. -/
def Tun.steepOutputs (t : Tun) (c : Cmd) (ps : List PByte) : List Effect :=
  let f := steepOf c.desc
  if ¬ f.merge then wortEffects c.ctx f.out ps
  else match t.group f.group with
    | none => []
    | some g =>
      let sh := t.steepShape c (t.qentries c f)
      (steepShares g f sh.2.1 ps.length).filterMap fun (x : Nat × Nat × Nat) =>
        let d := (ps.drop x.2.1).take x.2.2
        if x.1 = t.number then none
        else some (.send { groupPacket t g tyContrib x.1 (groupAddr f.group f.gen.toNat 0 f.inst x.2.1) (pbytes d) with
                           poison := anyPoison d : Packet })

/-- Granules this Tun owns: member, offset and bytes landed in Racking. -/
def Tun.steepOwn (t : Tun) (c : Cmd) (ps : List PByte) : List (Nat × Nat × List PByte) :=
  let f := steepOf c.desc
  match f.merge, t.group f.group with
  | true, some g =>
    let sh := t.steepShape c (t.qentries c f)
    let m := g.members.findIdx fun x => x.tun && x.id == t.number
    (steepShares g f sh.2.1 ps.length).filterMap fun (x : Nat × Nat × Nat) =>
      if x.1 = t.number then some (m, x.2.1, (ps.drop x.2.1).take x.2.2) else none
  | _, _ => []

/-- A page on an offline stack was to be read (16 R660, 19 R757). -/
def Tun.readsLost (t : Tun) (c : Cmd) : Bool :=
  let k := (t.ctx c.ctx).pkey
  let lost (id : Nat) : Bool := match t.cseq k id with | some q => q.lost | none => false
  if c.op = 0x50 then (t.qentries c (steepOf c.desc)).any fun e => lost e.seq
  else if c.op = 0x35 then lost (leAt c.desc 16 4) && byteAt c.desc 20 != 1
  else false

def Tun.steepWork (now : Nat) (c : Cmd) (t : Tun) : Tun :=
  if t.readsLost c then t.failCmd now c 0x0303
  else
    let ps := t.steepRecords c
    let bad := anyPoison ps
    let own := (t.steepOwn c ps).map fun (x : Nat × Nat × List PByte) =>
      ({ id := x.1, action := 0, a := x.2.1, data := x.2.2 } : BEntry)
    let t := t.modCmd c.id fun c => { c with poisoned := c.poisoned || bad, batch := own }
    let f := steepOf c.desc
    let k := (t.ctx c.ctx).pkey
    let pages := (t.qentries c f).flatMap fun e =>
      match t.cseq k e.seq with
      | some s => ((List.range (e.last - e.first)).filterMap fun i => s.page false f.layer ((e.first + i) / s.tpp)).eraseDups
      | none => []
    let t := pages.foldl (fun t p => t.caskTxn now false (caskAddr p.stack p.loc) pageBytes) t
    let bytes := (t.qentries c f).foldl (fun n e =>
      match t.cseq k e.seq with
      | some s => n + 2 * ((List.range (e.last - e.first)).filter fun i => (s.page false f.layer ((e.first + i) / s.tpp)).isSome).length *
          2 ^ s.heads * 2 ^ s.dim * seqEsize s.fmt
      | none => n) 0
    (t.work c steepUnits bytes).stage c.id 0 0 0 (t.steepOutputs c ps)

def execSteepDecode (t : TunId) (id : Nat) (s : State) : Res := execOn t id [0x50] (Tun.steepWork s.now) s

/-- Racking lands the Tun's own granules (16 R658). -/
def Tun.steepPublish (c : Cmd) (t : Tun) : Tun :=
  let f := steepOf c.desc
  c.batch.foldl (fun t e => t.landData f.group f.inst e.id e.a (pbytes e.data) (anyPoison e.data) false) t

/-! ### A stack goes offline (16 R660, 19 R756, R757) -/

/-- Marks lost every sequence with a page on the stack and counts it. -/
def Tun.loseSeqs (p : CSeq → Bool) (t : Tun) : Tun :=
  let n := (t.cellar.seqs.filter fun q => p q && !q.lost).length
  t.modCellar fun x => { x with
    seqs := x.seqs.map fun q => if p q then { q with lost := true } else q, lostSeqs := satAdd x.lostSeqs n }

/-- Commands that run and read pages of a stack: those end with CELLAR_LOST and no effect. -/
def Tun.abortLostReaders (now n : Nat) (t : Tun) : Tun :=
  let k (c : Cmd) : Half := (t.ctx c.ctx).pkey
  let onStack (q : CSeq) (mirror : Bool) (layer g : Nat) : Bool :=
    match q.page mirror layer g with | some p => p.stack == n | none => false
  let reads (c : Cmd) : Bool :=
    if c.op = 0x35 then
      (match t.cseq (k c) (leAt c.desc 16 4) with
       | some q => (List.range (leAt c.desc 28 4)).any fun i => onStack q (byteAt c.desc 20 == 1) (leAt c.desc 22 2) ((leAt c.desc 24 4 + i) / q.tpp)
       | none => false)
    else if c.op = 0x50 then
      (t.qentries c (steepOf c.desc)).any fun e =>
        match t.cseq (k c) e.seq with
        | some q => (List.range (e.last - e.first)).any fun i => onStack q false (steepOf c.desc).layer ((e.first + i) / q.tpp)
        | none => false
    else false
  (t.bm.cmds.filter fun c => c.phase == .started && reads c).foldl (fun t c => t.failCmd now c 0x0303) t

/-- A fitted stack goes offline for a cause 1 to 4; one that still answers is placed in self-refresh (19 R756, R757, Table 19-7). -/
def Tun.stackOffline (now n cause : Nat) (t : Tun) : Tun :=
  if t.asm.casks ≤ n ∨ t.cellar.lostStacks.getLsbD n then t else
  let t := t.modRel fun r => { r with
    caskCause := setField4 r.caskCause n cause, selfRefresh := if cause = 2 then r.selfRefresh else r.selfRefresh ||| (1#8 <<< n),
    calPending := r.calPending &&& ~~~(1#8 <<< n) }
  let t := (t.logError now 0x0A 3 { inst := BitVec.ofNat 16 n }).abortLostReaders now n
  let t := t.modCellar fun x => { x with lostStacks := x.lostStacks ||| (1#8 <<< n) }
  t.loseSeqs fun q => q.pages.any (·.stack == n)

def execStackOffline (t : TunId) (stack : BitVec 3) (cause : BitVec 4) (s : State) : Res :=
  onTun t s fun u => if cause = 0 ∨ 4 < cause.toNat ∨ u.svc.state = .off ∨ u.svc.hold ≠ .none_ then u
    else u.stackOffline s.now stack.toNat cause.toNat

/-- A Cask PLL loses lock: its stack goes offline (04 R112). -/
def Tun.caskPllLost (now n : Nat) (t : Tun) : Tun :=
  if t.clk.caskLock.getLsbD n then
    ({ t with clk := { t.clk with caskLock := t.clk.caskLock &&& ~~~(1#8 <<< n) } }).stackOffline now n 1
  else t

def execCaskPllLoss (t : TunId) (stack : BitVec 3) (s : State) : Res := onTun t s (Tun.caskPllLost s.now stack.toNat)

end Sys2Proof.Machine
end

