-- ==== Sys2Proof/Machine/TokenCmds.lean ====
section
/-! DEFINITION. The token opcodes (chapter 17): table binds, Grist, host text streams, Lauter state, Pour parameters and the
sampling step; and Racking, which publishes what a command staged (14 R561). -/

namespace Sys2Proof.Machine
open Sys2Proof

/-- A poisoned unit lies in a share range a token engine reads (19 Table 19-3). -/
def Tun.tablePoison (t : Tun) (c : Cmd) (slots : List Nat) : Bool :=
  slots.any fun s => match c.binds.find? (·.1 == s) with
    | some b => t.sharePoison c.ctx b.2.2.1 b.2.2.2
    | none => false

/-! ### Table binds (17 R666-R668) -/

def Tun.tslot (t : Tun) (c n : Nat) : TableSlot := Tab.get {} t.token.slots (c * 16 + n)

/-- The image overlaps the range of another bound slot of the context. -/
def Tun.bindOverlaps (t : Tun) (c slot off len : Nat) : Bool :=
  (List.range 16).any fun n =>
    let b := t.tslot c n
    n != slot && b.kind != 0 && decide (off < b.off + b.len) && decide (b.off < off + len)

/-- What an automaton needs beside its image (17 R668). -/
def Tun.automatonFault (t : Tun) (c : Cmd) (im : List Byte) : Option Half :=
  match t.cseq (t.ctx c.ctx).pkey (imgExtra im % 2 ^ 32) with
  | none => some 0x0304
  | some q =>
    if q.kind ≠ 1 then some 0x0304
    else if q.lens.getD 0 0 < imgA im ∨ imgA im ≤ imgExtra im / 2 ^ 32 then some 0x00F1
    else none

def Tun.tableWork (now : Nat) (c : Cmd) (t : Tun) : Tun :=
  let d := c.desc
  if byteAt d 17 = 1 then t.stage c.id 0 0 0 []
  else
    let off := leAt d 20 4
    let x := t.ctx c.ctx
    if ¬ x.inUsable off 64 then t.failCmd now c 0x0012
    else
      let len := leAt (t.shareRead c.ctx (off + 8) 4) 0 4
      if ¬ x.inUsable off len then t.failCmd now c 0x0012
      else if t.sharePoison c.ctx off (max 64 len) then t.failCmd now c 0x0504
      else
        let im := t.shareRead c.ctx off len
        match tableReason im with
        | some r => t.failWith now c 0x0603 (BitVec.ofNat 64 r)
        | none =>
          if t.bindOverlaps c.ctx (byteAt d 16).toNat off len then t.failCmd now c 0x00F1
          else match if imgKind im = 5 then t.automatonFault c im else none with
            | some st => t.failCmd now c st
            | none => (t.modCmd c.id fun c => { c with binds := [((byteAt d 16).toNat, imgKind im, off, len)] }).stage c.id 0 0 0 []

def execTableLoad (t : TunId) (id : Nat) (s : State) : Res := execOn t id [0x64] (Tun.tableWork s.now) s

/-- Racking of a bind or unbind. -/
def Tun.tablePublish (c : Cmd) (t : Tun) : Tun :=
  let n := (byteAt c.desc 16).toNat
  let b : TableSlot := if byteAt c.desc 17 = 1 then {} else
    match c.binds with
    | [x] => { kind := x.2.1, off := x.2.2.1, len := x.2.2.2 }
    | _ => {}
  t.modToken fun k => { k with slots := k.slots.set {} (c.ctx * 16 + n) b }

/-! ### Grist (17 R670-R678, R685) -/

/-- Tokens as the 32-bit words a share holds. -/
def tokenWords (ts : List Nat) : List Byte := ts.flatMap (bytesLE 4)

def Tun.encodeWork (now : Nat) (c : Cmd) (t : Tun) : Tun :=
  let d := c.desc
  let n := leAt d 32 4
  t.withReads now c (fun t => t.locPlan c (locOf (d.drop 16)) n) fun c t =>
    let norm := (byteAt d 45).toNat
    if anyPoison c.fetchedP || t.tablePoison c [(byteAt d 44).toNat, norm] then t.failCmd now c 0x0504
    else
      let bs := pbytes c.fetchedP
      let policy := (byteAt d 46).toNat
      let r := utf8All policy bs.length 0 bs
      match (if policy = 2 then r.first else none), t.boundImage c (byteAt d 44).toNat with
      | some o, _ => t.failWith now c 0x0604 (BitVec.ofNat 64 o)
      | none, none => t.failCmd now c 0x00F1
      | none, some trie =>
        let toks := encodeItems trie (if norm = 0xFF then none else t.boundImage c norm) [] r.items
        if leAt d 40 4 < toks.length then t.failWith now c 0x0607 (BitVec.ofNat 64 toks.length)
        else (t.work c gristUnits bs.length).stage c.id 0 (BitVec.ofNat 64 toks.length) (BitVec.ofNat 48 r.bad)
          (wortEffects c.ctx (leAt d 36 4) (plain (tokenWords toks)))

def execGristEncode (t : TunId) (id : Nat) (s : State) : Res := execOn t id [0x60] (Tun.encodeWork s.now) s

def Tun.decodeWork (now : Nat) (c : Cmd) (t : Tun) : Tun :=
  let d := c.desc
  let off := leAt d 16 4
  let n := leAt d 20 4
  let slot := (byteAt d 24).toNat
  if t.sharePoison c.ctx off (4 * n) || t.tablePoison c [slot] then t.failCmd now c 0x0504
  else match t.boundImage c slot with
    | none => t.failCmd now c 0x00F1
    | some im =>
      let bs := t.shareRead c.ctx off (4 * n)
      let toks := (List.range n).map fun i => leAt bs (4 * i) 4
      match (List.range n).find? fun i => decide (imgVocab im ≤ toks.getD i 0) with
      | some i => t.failWith now c 0x00F1 (BitVec.ofNat 64 i)
      | none =>
        let text := toks.flatMap (tokenBytes im)
        if (byteAt d 25).getLsbD 0 then
          (t.work c gristUnits text.length).stage c.id 0 (BitVec.ofNat 64 text.length) 0 [.text (leAt d 26 2) text]
        else if leAt d 32 4 < text.length then t.failWith now c 0x0607 (BitVec.ofNat 64 text.length)
        else (t.work c gristUnits text.length).stage c.id 0 (BitVec.ofNat 64 text.length) 0
          (wortEffects c.ctx (leAt d 28 4) (plain text))

def execGristDecode (t : TunId) (id : Nat) (s : State) : Res := execOn t id [0x61] (Tun.decodeWork s.now) s

/-! ### Streams (17 R679-R684) -/

def Tun.streamOpenWork (now : Nat) (c : Cmd) (t : Tun) : Tun :=
  if (t.tstream (leAt c.desc 16 2)).isOpen then t.failCmd now c 0x0207 else t.stage c.id 0 0 0 []

def execStreamOpen (t : TunId) (id : Nat) (s : State) : Res := execOn t id [0x62] (Tun.streamOpenWork s.now) s

/-- Racking of STREAM_OPEN. -/
def Tun.streamOpenPublish (c : Cmd) (t : Tun) : Tun :=
  let d := c.desc
  let x : TStream :=
    { ctx := c.ctx, isOpen := true, replace := (byteAt d 19).getLsbD 0, log2 := (byteAt d 18).setWidth 5,
      ring := BitVec.ofNat 64 (leAt d 24 8), tailAddr := BitVec.ofNat 64 (leAt d 32 8) }
  t.modStream (leAt d 16 2) fun _ => x

def execStreamClose (t : TunId) (id : Nat) (s : State) : Res := execOn t id [0x63] (fun c u => u.stage c.id 0 0 0 []) s

/-- Racking of STREAM_CLOSE: the held bytes are written and counted. -/
def Tun.streamClosePublish (c : Cmd) (t : Tun) : Nat × Tun :=
  let n := leAt c.desc 16 2
  let x := t.tstream n
  let h := x.held
  let t := if h.isEmpty then t else t.ringText n (if x.replace then [0xEF, 0xBF, 0xBD] else h)
  (h.length, (t.work c gristUnits h.length).modStream n fun x => { x with isOpen := false, held := [] })

/-- A write of STREAM_HEADs (17 R683). -/
def execStreamHead (t : TunId) (stream : Byte) (index : Word) (s : State) : Res :=
  onTun t s (Tun.windowWrite (Tun.streamHead stream.toNat index))

/-! ### LAUTER_STATE and POUR_PARAMS (17 R694-R696) -/

def Tun.lauterWork (now : Nat) (c : Cmd) (t : Tun) : Tun :=
  let d := c.desc
  let off := leAt d 16 4 + 64 * leAt d 20 2
  let act := byteAt d 22
  let slot := (byteAt d 23).toNat
  if t.sharePoison c.ctx off 64 || (slot != 0xFF && t.tablePoison c [slot]) then t.failCmd now c 0x0504
  else
    let im := t.boundImage c slot
    let past (v : Nat) (n : List Byte → Nat) : Bool := match im with | some im => slot != 0xFF && decide (n im ≤ v) | none => false
    if (act = 0 ∧ past (leAt d 24 4) imgA) ∨ (act = 2 ∧ past (leAt d 28 2) imgB) then t.failCmd now c 0x00F1
    else
      let old := t.shareRead c.ctx off 8
      let w (o : Nat) (bs : List Byte) : Effect := .wort c.ctx (off + o) bs false
      let es := if act = 0 then [w 0 (bytesLE 4 (leAt d 24 4))]
        else if act = 1 then [w 8 [0], w 12 (List.replicate 48 0)]
        else if act = 2 then [w 4 (bytesLE 2 (leAt d 28 2) ++ [0, 0])]
        else [w 4 [0xFF, 0xFF, 0, 0]]
      t.stage c.id 0 (BitVec.ofNat 64 (leAt old 0 8)) 0 es

def execLauterState (t : TunId) (id : Nat) (s : State) : Res := execOn t id [0x65] (Tun.lauterWork s.now) s

def execPourParams (t : TunId) (id : Nat) (s : State) : Res := execOn t id [0x67] (fun c u => u.stage c.id 0 0 0 []) s

/-- Racking of POUR_PARAMS (17 R696). -/
def Tun.paramsPublish (c : Cmd) (t : Tun) : Tun :=
  let d := c.desc
  let w (o : Nat) : Word := BitVec.ofNat 32 (leAt d o 4)
  let p : ParamSet :=
    { sample := byteAt d 17 == 1, topK := leAt d 18 2, temp := w 20, topP := w 24, minP := w 28, stops := [w 32, w 36, w 40, w 44] }
  t.modToken fun k => { k with
    params := k.params.set {} (c.ctx * 16 + (byteAt d 16).toNat) p,
    seeds := if (byteAt d 52).getLsbD 0 then k.seeds.set 0 c.ctx (w 48) else k.seeds }

/-! ### SAMPLE_STEP (17 R699-R706) -/

def sampleAuto (c : Cmd) : Option Nat := let n := (byteAt c.desc 50).toNat; if n = 0xFF then none else some n
def sampleList (c : Cmd) : Option Nat := let n := (byteAt c.desc 49).toNat; if n = 0xFF then none else some n
def sampleDecode (c : Cmd) : Option Nat := let n := (byteAt c.desc 48).toNat; if n = 0xFF then none else some n

/-- Entries the Tun owns: one entry is one granule (17 R699). -/
def Tun.sampleOwn (t : Tun) (c : Cmd) (g : Group) : List SEntry :=
  let own := t.stripe g.tunMask (leAt c.desc 20 2)
  ((t.sampleEntries c).drop own.1).take own.2

/-- Share offset of an entry's state record. -/
def lstateOff (c : Cmd) (e : SEntry) : Nat := leAt c.desc 40 4 + 64 * e.lslot

/-- The Tun to read mask `unit` from; `none` when no Tun of the stripe holds it any more (17 R690, R661). -/
def Tun.maskHolder (t : Tun) (q : CSeq) (unit : Nat) : Option Nat :=
  let p := unit % t.stripeWidth q.stripe
  let n := stripeTun q.stripe p
  let m := t.mirrorTun q.stripe p
  if ¬ q.gone.contains n then some n
  else if stripeMirror q.stripe ∧ ¬ q.gone.contains m then some m
  else none

/-- The reads of one mask: own pages at hand, others as eight requests (17 R690). -/
def Tun.maskPieces (t : Tun) (c : Cmd) (seq unit : Nat) : List Piece :=
  match t.cseq (t.ctx c.ctx).pkey seq with
  | none => []
  | some q =>
    if q.lost ∨ q.lens.getD 0 0 ≤ unit then []
    else match q.page false 0 unit with
      | some p => readyPieces 0 (t.caskReadP (caskAddr p.stack p.loc) pageBytes) (maskTag unit)
      | none =>
        match t.maskHolder q unit with
        | none => []
        | some n =>
          if n = t.number then []
          else (List.range 8).map fun k =>
            { dst := n, channel := Config.openChannel 1, cls := clOchre, addr := 2 ^ 63 + k * 2 ^ 60 + unit * 2 ^ 32 + seq, len := 4096,
              tag := maskTag unit : Piece }

/-- Masks the owned entries need: the automaton's units of their states. -/
def Tun.maskUnits (t : Tun) (c : Cmd) (es : List SEntry) : List Nat :=
  if (sampleAuto c).isNone then [] else
  ((es.filter fun e => e.lslot != 0xFFFF).filterMap fun e =>
    let st := leAt (t.shareRead c.ctx (lstateOff c e) 4) 0 4
    if st = noMask then none else some st).eraseDups

/-- The rows of the owned entries are ready, and with them the masks are fetched (17 R690, R701). -/
def Tun.samplePlan (now : Nat) (c : Cmd) (g : Group) (es : List SEntry) (t : Tun) : Tun :=
  let d := c.desc
  let row := leAt d 28 4 * logitSize d
  let own := t.stripe g.tunMask (leAt d 20 2)
  let a := own.1 * row
  let b := (own.1 + own.2) * row
  let ms := List.range g.members.length
  if ¬ ms.all (fun m => g.ready c.instanceNo 0 m a b) then t
  else
    let rows := ms.flatMap fun m => (t.gatherPieces g c (leAt d 56 8) m a b).map fun p => { p with tag := m }
    let seq := match (sampleAuto c).bind (t.boundImage c) with | some im => imgExtra im % 2 ^ 32 | none => 0
    let masks := (t.maskUnits c es).map fun u => t.maskPieces c seq u
    let missed := (masks.filter fun ps => ps.any (·.ready.isNone)).length
    let recs := es.map fun e => if e.lslot = 0xFFFF then [] else t.shareRead c.ctx (lstateOff c e) 64
    let held := (t.maskUnits c es).filterMap fun u => (t.cseq (t.ctx c.ctx).pkey seq).bind fun q => q.page false 0 u
    let t := held.foldl (fun t p => t.caskTxn now false (caskAddr p.stack p.loc) pageBytes) t
    let t := t.modToken fun k => { k with maskMisses := satAdd k.maskMisses missed }
    (t.modCmd c.id fun c => { c with tables := recs }).planReads now c.id (rows ++ masks.flatten)

/-- The mask of a state: its bytes, or why it cannot be read. -/
def Cmd.maskOf (c : Cmd) (unit : Nat) : Except Half (List PByte) :=
  let fs := (List.zip c.plan c.fetches).filter fun (x : Piece × Fetch) => x.1.tag == maskTag unit
  match fs.find? fun (x : Piece × Fetch) => x.2.fail != 0 with
  | some x => .error x.2.fail
  | none => if fs.isEmpty then .error 0x0303 else .ok (c.gathered (maskTag unit))

/-- Logits of owned entry `i` in token order, with their poison (17 R701). -/
def Cmd.logitsOf (c : Cmd) (members i : Nat) : List PByte :=
  let d := c.desc
  let row := leAt d 28 4 * logitSize d
  ((List.range members).flatMap fun m => ((c.gathered m).drop (i * row)).take row).take (leAt d 24 4 * logitSize d)

/-- LOGIT_TYPE as an element type of 15 Table 15-2. -/
def logitType (d : List Byte) : Nat := (byteAt d 22).toNat

/-- What sampling one entry gave. -/
structure Sampled where
  tok : Nat := 0xFFFFFFFF
  status : Half := 0
  forced : Bool := false
  stop : Bool := false
  skip : Bool := true
  next : Option LState := none
deriving DecidableEq, Repr

/-- The token of one owned entry (17 R691-R693, R697, R703). `raw` is its state record, empty for none. -/
def Tun.sampleEntry (t : Tun) (c : Cmd) (e : SEntry) (raw : List Byte) (logits : List PByte) : Sampled :=
  let d := c.desc
  let list := (sampleList c).bind (t.boundImage c)
  let auto := (sampleAuto c).bind (t.boundImage c)
  let st : Option LState := if raw.isEmpty then none else some (lstateOf raw)
  let mask : Except Half (Option (List Byte)) :=
    match auto, st with
    | some _, some x => if x.state = noMask then .ok none else (c.maskOf x.state).map fun m => some (pbytes m)
    | _, _ => .ok none
  if anyPoison logits then { status := 0x0504 : Sampled }
  else match mask with
    | .error w => { status := w : Sampled }
    | .ok m =>
      let z := logitSize d
      let ok (k : Nat) : Bool := tokenAllowed (leAt d 24 4) list m st k
      let p := Tab.get {} t.token.params (c.ctx * 16 + e.pset)
      let stops (k : Nat) : Bool := p.stops.any fun w => w.toNat == k
      match (forcedToken list st).filter ok with
      | some f =>
        { tok := f, forced := true, stop := stops f, skip := false, next := st.map (LState.step auto list true f) : Sampled }
      | none =>
        let conflict := (forcedToken list st).isSome
        let bs := pbytes logits
        let ls := ((List.range (leAt d 24 4)).filter ok).map fun k => (k, elemIn (logitType d) ((bs.drop (k * z)).take z))
        match pourToken p (Tab.get 0 t.token.seeds c.ctx) (BitVec.ofNat 32 e.seq) (BitVec.ofNat 32 e.step) ls with
        | none => { status := 0x0606 : Sampled }
        | some k =>
          let st := if conflict then st.map fun x => { x with force := noForce, pos := 0 } else st
          { tok := k, status := if conflict then 0x0602 else 0, stop := stops k, skip := false,
            next := st.map (LState.step auto list false k) : Sampled }

/-- A token record (17 Table 17-9). -/
def tokenRecord (e : SEntry) (r : Sampled) : List Byte :=
  bytesLE 4 e.seq ++ bytesLE 4 r.tok ++ bytesLE 4 e.step ++ halfBytes r.status ++
    [(if r.forced then 1 else 0) ||| (if r.stop then 2 else 0), 0]

/-- Outputs of one entry (17 R704): state record, token record, text and multicast. -/
def Tun.sampleOutputs (t : Tun) (c : Cmd) (g : Group) (e : SEntry) (r : Sampled) : List Effect :=
  let d := c.desc
  let rec_ := tokenRecord e r
  let state := match r.next with
    | some x => [Effect.wort c.ctx (lstateOff c e) x.bytes false]
    | none => []
  let out := if byteAt d 23 = 1 then wortEffects c.ctx (leAt d 36 4 + 16 * e.ix) (plain rec_) else []
  let text := match (sampleDecode c).bind (t.boundImage c) with
    | some im => if e.stream = 0xFFFF ∨ r.skip ∨ r.stop then []
        else [Effect.text e.stream (if r.tok < imgVocab im then tokenBytes im r.tok else Config.openText r.tok)]
    | none => []
  let w := (t.rankTable (t.ctx g.ctx).pkey).elim 1 t.gridWidth
  let cast := if e.flags % 2 = 1 then
      [Effect.send { groupPacket t g tyResult (e.mcast * w) (groupAddr c.groupNo g.gen.toNat 0 c.instanceNo (16 * e.ix)) rec_ with
        axis := 1, index := BitVec.ofNat 8 e.mcast, dstKind := true : Packet }]
    else []
  state ++ out ++ text ++ cast

/-- Every row and mask has come: the entries are sampled and their outputs staged. -/
def Tun.sampleRun (now : Nat) (c : Cmd) (g : Group) (es : List SEntry) (t : Tun) : Tun :=
  let slots := (sampleDecode c).toList ++ (sampleList c).toList ++ (sampleAuto c).toList
  let masksBad : Bool := (List.zip c.plan c.fetches).any fun (x : Piece × Fetch) => decide (4096 ≤ x.1.tag) && x.2.poison
  let recsBad : Bool := es.any fun e => e.lslot != 0xFFFF && t.sharePoison c.ctx (lstateOff c e) 64
  if t.tablePoison c slots || masksBad || recsBad then t.failCmd now c 0x0504
  else
    let rs := (List.range es.length).filterMap fun i =>
      es[i]?.map fun e => (e, t.sampleEntry c e (c.tables.getD i []) (c.logitsOf g.members.length i))
    let fx := rs.flatMap fun (x : SEntry × Sampled) => t.sampleOutputs c g x.1 x.2
    let skipped := (rs.filter fun (x : SEntry × Sampled) => x.2.skip).length
    let clash := (rs.filter fun (x : SEntry × Sampled) => x.2.status == 0x0602).length
    let st : Half := if skipped ≠ 0 then 0x0605 else if clash ≠ 0 then 0x0602 else 0
    let text := fx.foldl (fun n e => match e with | .text _ bs => n + bs.length | _ => n) 0
    let masks := if (sampleAuto c).isSome then (t.maskUnits c es).length else 0
    let t := t.modCmd c.id fun c => { c with progress := clash }
    let t := ((t.work c pourUnits (rs.length - skipped)).work c lauterUnits masks).work c gristUnits text
    t.stage c.id st (BitVec.ofNat 64 skipped) (BitVec.ofNat 48 rs.length) fx

def Tun.sampleWork (now : Nat) (c : Cmd) (t : Tun) : Tun :=
  match t.group c.groupNo with
  | none => t.failCmd now c 0x0404
  | some g =>
    let es := t.sampleOwn c g
    if ¬ t.holdsInstance c then
      let t := t.openInstance c
      if es.isEmpty then (match t.cmd c.id with | some c => t.completeNow now c 0 0 0 | none => t) else t
    else if ¬ c.planned then t.samplePlan now c g es
    else
      let t := t.issueReads now c.id
      match t.cmd c.id with
      | some c => if c.fetched then t.sampleRun now c g es else t
      | none => t

def execSampleStep (t : TunId) (id : Nat) (s : State) : Res := execOn t id [0x66] (Tun.sampleWork s.now) s

/-- Racking of SAMPLE_STEP counts its skipped and abandoned entries (17 Table 17-10). -/
def Tun.samplePublish (c : Cmd) (t : Tun) : Tun :=
  t.modToken fun k => { k with
    entriesSkipped := satAdd k.entriesSkipped c.result0.toNat, forceConflicts := satAdd k.forceConflicts c.progress }

/-! ### Racking (14 R561) -/

/-- Ends a command whose state-changing part cannot be published any more: no effect outside its record. -/
def Tun.rackRefuse (now : Nat) (c : Cmd) (st : Half) (t : Tun) : Tun := t.failCmd now c st

/-- Racking of one staged command: Wort and Cask writes, Cellar tables, Lauter state, then what leaves, its semaphore release and its
record. -/
def Tun.rackCmd (now : Nat) (c : Cmd) (t : Tun) : Tun :=
  let fin (st : Half) (r0 : Dword) (r1 : BitVec 48) (t : Tun) : Tun :=
    match t.cmd c.id with
    | some c => t.completeExt now c st r0 r1 c.ext
    | none => t
  let done (t : Tun) : Tun := fin c.status c.result0 c.result1 t
  if c.op = 0x04 then fin 0 (BitVec.ofNat 64 now) t.sched.brew t
  else if c.op = 0x30 ∨ c.op = 0x31 ∨ c.op = 0x34 ∨ c.op = 0x36 then done (t.batchPublish now c)
  else if c.op = 0x32 ∨ c.op = 0x33 then
    match t.lockPublish c with
    | .error st => t.rackRefuse now c st
    | .ok none => t.modCmd c.id fun c => { c with phase := .waitLock, units := [], reserved := 0 }
    | .ok (some x) => fin x.1 0 0 x.2
  else if c.op = 0x50 then done ((t.steepPublish c).publish now c c.effects)
  else if c.op = 0x62 then
    (if (t.tstream (leAt c.desc 16 2)).isOpen then t.rackRefuse now c 0x0207 else done (t.streamOpenPublish c))
  else if c.op = 0x63 then
    let r := t.streamClosePublish c
    if r.1 = 0 then fin 0 0 0 r.2 else fin 0x0601 (BitVec.ofNat 64 r.1) 0 r.2
  else if c.op = 0x64 then done (t.tablePublish c)
  else if c.op = 0x66 then done ((t.samplePublish c).publish now c c.effects)
  else if c.op = 0x67 then done (t.paramsPublish c)
  else done (t.publish now c c.effects)

/-- RACKING of command `id`. -/
def execRacking (t : TunId) (id : Nat) (s : State) : Res :=
  onTun t s fun u => match u.cmd id with
    | some c => if c.phase = .staged ∧ u.serving then u.rackCmd s.now c else u
    | none => u

end Sys2Proof.Machine
end

