-- ==== Sys2Proof/Machine/Departure.lean ====
section
/-! DEFINITION. What a Tun does when a subject leaves service (10 R388, 15 R609, 16 R661, 19 R759). -/

namespace Sys2Proof.Machine
open Sys2Proof

/-- Ends one request entry whose request was addressed to a departed subject: a mask read fails, any other one ends its command as a
kill without re-run (17 R703, 19 R759). -/
def Tun.releaseGone (now entry : Nat) (t : Tun) : Tun :=
  match t.bm.outstanding.find? (·.entry == entry) with
  | none => t
  | some o =>
    match o.cmd.bind t.cmd with
    | some c =>
      if c.maskRead entry then t.maskFail c.id entry 0x0501
      else if c.phase = .staged then
        t.modBm fun b => { b with outstanding := b.outstanding.filter (·.entry != entry), released := b.released ++ [entry] }
      else (t.killCmd c).runFail now { c with units := [] } 0x0501
    | none => t.modBm fun b => { b with outstanding := b.outstanding.filter (·.entry != entry), released := b.released ++ [entry] }

/-- A started pull-mode command still needs input of the member (15 R609, 17 R701). -/
def Tun.needsMember (t : Tun) (subject : Nat) (c : Cmd) : Bool :=
  pullOp c.op && c.phase == .started &&
    (match t.group c.groupNo with
     | none => false
     | some g =>
       if c.op = 0x66 then g.members.any fun (m : Member) => m.id == subject
       else
         let f := collOf c.desc
         let a := (t.chunkElems g f c.op c.progress).1
         (f.needs c.op g.members.length a (t.ownElems g f c.op).2).any fun (n : Nat × Nat × Nat) => g.idOf n.1 == subject)

/-- Positions of a sequence this Tun is promoted to by a departure: those of the departed Tun that it still mirrors. -/
def Tun.promotesTo (t : Tun) (gone : Nat) (q : CSeq) : Option Nat :=
  match t.mirrorPosition q.stripe q.promoted with
  | some p => if stripeTun q.stripe p = gone then some p else none
  | none => none

/-- After departures `gone`, some position of the sequence is held by no Tun that has stayed (16 R661). -/
def Tun.positionLost (t : Tun) (q : CSeq) (gone : List Nat) : Bool :=
  (t.positions q.stripe).any fun p =>
    gone.contains (stripeTun q.stripe p) && !(stripeMirror q.stripe && !(gone.contains (t.mirrorTun q.stripe p)))

/-- One sequence entry after a Tun of the rack left service: the mirror pages of a promoted position become that position's
(16 R661). -/
def Tun.seqAfter (t : Tun) (n : Nat) (q : CSeq) : CSeq :=
  let g := q.gone ++ [n]
  match t.promotesTo n q with
  | some p => { q with
      gone := g, promoted := q.promoted ++ [p], pages := q.pages.map fun (x : PageRef) => { x with mirror := false },
      lost := q.lost || t.positionLost q g }
  | none => { q with gone := g, lost := q.lost || t.positionLost q g }

/-- Every sequence entry after a Tun of the rack left service (16 R661). -/
def Tun.cellarDeparts (n : Nat) (t : Tun) : Tun :=
  let ups := (t.cellar.seqs.filter fun q => (t.promotesTo n q).isSome).length
  let losses := (t.cellar.seqs.filter fun q => !q.lost && (t.seqAfter n q).lost).length
  t.modCellar fun x => { x with
    seqs := x.seqs.map (t.seqAfter n), promotions := satAdd x.promotions ups, lostSeqs := satAdd x.lostSeqs losses }

/-- The Tun acts on a departure: once within 1 ms (10 R388). `own` says that it learned of it on its own port or link, which sends the
notices; otherwise the notice goes on to its annex devices. -/
def Tun.departed (now subject scope : Nat) (incarn : Byte) (own : Bool) (t : Tun) : Tun :=
  if scope < 2 ∨ 6 < scope ∨ t.departedLately now subject then t else
  let t := (t.recordDeparture now subject).dropStreams subject
  let t := ((t.bm.outstanding.filter fun o => o.dst == subject).map (·.entry)).foldl (fun t e => t.releaseGone now e) t
  let t := (t.bm.cmds.filter (t.needsMember subject)).foldl (fun t c => t.runFail now c 0x0501) t
  let t := if 192 ≤ subject ∧ subject < 224 ∧ scope ≤ 5 then t.cellarDeparts subject else t
  if own then t.sendNotices now subject scope incarn else t.forwardNotice now subject scope incarn

/-- Subject of a departure learned on a port or link: the endpoint of the slot, the annex device, or the Tun across the link
(10 Table 10-2). -/
def Tun.subjectOf (t : Tun) (id : Nat) : Option Nat :=
  if isEndpointId id then some id
  else if isAnnexId id then (if t.paired id then some (id - 192) else t.annexId id)
  else if isMeshId id then some (192 + 4 * t.row + (t.col.num + 1 + (id - 256)) % 4)
  else
    let n := t.trays
    some (192 + 4 * ((t.row + (if id = 259 then 1 else n - 1)) % n) + t.col.num)

/-- A departure learned on port or link `id` (10 R388). -/
def Tun.departedOn (now id scope : Nat) (incarn : Byte) (t : Tun) : Tun :=
  match t.subjectOf id with
  | some s => t.departed now s scope incarn true
  | none => t

/-- PEER_DEPARTURE as a command: a port or link of the Tun reports that its peer left (10 R388). -/
def execPeerDeparture (t : TunId) (id : BitVec 9) (scope : Byte) (incarn : Byte) (s : State) : Res :=
  onTun t s fun u =>
    if u.svc.state = .off ∨ u.svc.hold ≠ .none_ ∨ ¬ u.hasPort id.toNat then u
    else u.departedOn s.now id.toNat scope.toNat incarn

/-- A FENCE_NOTICE at the Tun: acted on only from another Tun, in scope and without poison (10 R388, R378). -/
def Tun.takeNotice (now : Nat) (p : Packet) (t : Tun) : Tun :=
  let src := p.srcEp.toNat
  if 192 ≤ src ∧ src < 224 ∧ src ≠ t.number ∧ ¬ p.poison then
    t.departed now (leAt p.payload 0 2) (byteAt p.payload 2).toNat (byteAt p.payload 3) false
  else t

end Sys2Proof.Machine
end

