-- ==== Sys2Proof/Machine/LinkOps.lean ====
section
/-! DEFINITION. What resets clear and keep in a Tun (04 Table 04-6), the takedown of a rate-step round (05 R153-R157), entry to FENCED
(05 R169), and when a draining Tun is empty (05 R168). -/

namespace Sys2Proof.Machine
open Sys2Proof

/-- `f` applied to every port and link of the Tun. -/
def Tun.modPorts (f : Port → Port) (t : Tun) : Tun := t.portIds.foldl (fun t id => t.modPort id f) t

/-- A port after a Tun warm reset: configuration fields and the incarnation kept (04 Table 04-6, 09 R349). -/
def Port.warmed (p : Port) : Port :=
  { gen1 := p.gen1, disable := p.disable, napDisable := p.napDisable, width := p.width, paleOnly := p.paleOnly, incarn := p.incarn,
    downCause := 0xB }

/-- What the packet plane keeps through a Tun warm reset: every register of window 0x05_0000 but PACKET_STATUS, the partition and rank
tables and PORT_PKEY registers, and VORLAUF_MODE (10 R395, 11 R405, R831, 22 Table 22-1). -/
def Plane.warmed (p : Plane) : Plane :=
  { pkeys := p.pkeys, rankDesc := p.rankDesc, rankIndex := p.rankIndex, ranks := p.ranks, pkeyMap := p.pkeyMap, pkeyCtrl := p.pkeyCtrl,
    holeTimeout := p.holeTimeout, dropCode := p.dropCode, dropPort := p.dropPort, dropCount := p.dropCount, dropHdr := p.dropHdr,
    routeIndex := p.routeIndex, routes := p.routes, routeStatus := p.routeStatus, collPrio := p.collPrio, unreachHops := p.unreachHops,
    gildThreshold := p.gildThreshold, injectAge := p.injectAge, weights := p.weights, ringDrain := p.ringDrain, broken := p.broken,
    breakRow := p.breakRow, modeStored := p.modeStored, loopDrop := p.loopDrop, reorderRefuse := p.reorderRefuse }

/-- What a Tun warm reset leaves of the service registers: SERVICE_STATE reads 1, every stack is untrained (05 R152, R164). -/
def Svc.warmed (v : Svc) : Svc :=
  { v with
    state := .cold, fwRunning := false, caskCodes := [], caskFail := 0, caskTraining := false, stepRound := 0, aligning := false,
    alignDone := false, brewUnaligned := false, drainDone := false, drainTimeout := false, reqRefused := false, fenceCause := 0,
    resumeTo := 0, earlyWrites := 0 }

/-- A Tun warm reset's clearing. The Cask stacks stay in self-refresh with what they hold; no Cellar table names any of it (04
Table 04-6, R124). -/
def Tun.warmClear (t : Tun) : Tun :=
  let t := t.modPorts Port.warmed
  { t with
    svc := t.svc.warmed, proxy := {}, plane := t.plane.warmed, hyd := {}, sched := {}, bm := {}, mash := {},
    cellar := { cask := t.cellar.cask, poison := t.cellar.poison }, token := {}, rel := { selfRefresh := t.asm.caskMask } }

/-- A Tun cold reset's clearing: identity, the incarnations and the level of the host's PERST stay (04 Table 04-6, R123, 09 R329). -/
def Tun.coldReset (t : Tun) : Tun :=
  let ports := t.portIds.foldl (fun (m : Tab Port) id =>
    m.set {} id { incarn := (t.port id).incarn, downCause := if (t.port id).link = .disabled ∧ (t.port id).state = .down then 0 else 0xB }) ⟨[]⟩
  { col := t.col, asm := t.asm, stepping := t.stepping, svc := { incarn := t.svc.incarn }, ports := ports,
    host := { perst := t.host.perst }, out := t.out }

/-- A port's incarnation moves on as it leaves a Tun reset (09 R329). -/
def Port.reborn (p : Port) : Port := { p with incarn := p.incarn + 1 }

/-- The Brew counter counts from 0 (12 R444). -/
def Tun.startBrewCount (now : Nat) (t : Tun) : Tun :=
  ((t.modSched fun s => { s with brew := 0, counting := true, boundary := now }).keeperAlign false)

/-! ### The rate step (05 R153-R157) -/

/-- Ports and links of the round under way are all back or given up. -/
def Tun.roundSettled (t : Tun) : Bool := !(t.portIds.any fun id => (t.port id).stepping)

/-- A round begins: its ports that are up go down for a training at the rate both ends offer. -/
def Tun.stepDown (now round : Nat) (t : Tun) : Tun :=
  (t.upPorts.filter fun id => t.stepRoundOf id == round).foldl (fun t id =>
    ((t.putOrdered now id ftTrain [0x03]).portDown now id 0xE false).modPort id fun p => { p with stepping := true, stepFails := 0, inserted := false }) t

/-- Every fitted stack enters self-refresh (05 R149). -/
def Tun.selfRefreshAll (t : Tun) : Tun := t.modRel fun r => { r with selfRefresh := t.asm.caskMask }

/-- Entry to FULL loads the page pool (16 R663); the stacks leave self-refresh. -/
def Tun.cellarOpen (t : Tun) : Tun :=
  (t.modCellar fun c => { c with opened := true }).modRel fun r => { r with selfRefresh := 0 }

/-! ### FENCED (05 R169, 09 Table 09-8) -/

/-- Entry to FENCED: FENCE with scope 4 on every port, each of which is FENCED from then on; the scheduled plane is released and no engine
starts anything more (05 R161, R169, 12 R486). -/
def Tun.fenceAll (now : Nat) (t : Tun) : Tun :=
  let t := { t with svc := { t.svc with state := .fenced } }
  ((t.fenceLinks now 4 false).modPorts fun p => { p with state := .fenced, stepping := false }).releaseStopped now 0x070A

/-! ### Empty (05 R168, 11 R440) -/

/-- Crossbar, reorder buffer and engine outputs hold nothing. -/
def Tun.isEmpty (t : Tun) : Bool :=
  let p := t.plane
  p.inj.entries.isEmpty && p.forfeit.entries.isEmpty && p.landing.entries.isEmpty && p.engine.isEmpty && p.engineWait.isEmpty &&
    p.north == {} && p.south == {} && t.reorderDepth == 0 && t.mash.tapQueue.isEmpty && t.sched.outputs.isEmpty &&
    t.portIds.all fun id => (t.port id).txq.isEmpty

end Sys2Proof.Machine
end

