-- ==== Sys2Proof/Machine/PowerOps.lean ====
section
/-! DEFINITION. Shared power operations of the Maltster on one Tun or all four: what refuses a power-on (07 R221), the
power-on and power-down sequences (07 R214, R217), loss of power, and the Tun cold and warm resets (04 R120-R131, R828). -/

namespace Sys2Proof.Machine
open Sys2Proof

/-! ### Tun resets -/

/-- FENCE on every link, then every Tun register, table and link at its reset value, logic held (04 R120-R123). -/
def Tun.holdCold (now : Nat) (cause : BitVec 4) (t : Tun) : Tun :=
  let u := (t.fenceLinks now 3 true).coldReset
  { u with svc := { u.svc with state := .cold, hold := .cold, coldPowered := true, pendCause := cause } }

/-- A Tun cold-reset request (04 R120, R828): absorbed from a cold hold until the management domain answers again. -/
def Tun.coldRequest (now : Nat) (cause : BitVec 4) (t : Tun) : Tun :=
  if t.svc.state = .off ∨ t.svc.hold = .cold ∨ t.svc.mgmtUp = false then t else t.holdCold now cause

/-- A Tun warm-reset request (04 R120, R828): ignored during a warm hold, absorbed by a cold reset. `fatal` marks a reset for
a fatal error (19 R742). -/
def Tun.warmRequest (now : Nat) (cause : BitVec 4) (t : Tun) : Tun :=
  if t.svc.state = .off ∨ t.svc.hold ≠ .none_ ∨ t.svc.mgmtUp = false then t else
  let u := (t.fenceLinks now 2 true).warmClear
  { u with svc := { u.svc with hold := .warm, pendCause := cause } }

/-- Rails gone: the Tun answers on no path and holds nothing (05 R137, R161). -/
def Tun.powerOff (t : Tun) : Tun :=
  let u := t.coldReset
  { u with svc := { u.svc with state := .off, hold := .none_, coldPowered := false } }

/-- The Tun asserts THERMTRIP_N, sending FENCE on every link as it does (07 R224). -/
def Tun.assertTrip (now : Nat) (t : Tun) : Tun :=
  if t.junction.tripPin then t
  else ({ t with junction := { t.junction with tripPin := true } }).fenceLinks now 3 false

/-! ### The Maltster's records -/

/-- TUN_POWER changes, and a change sets ALERT_STATUS bit [5] (06 Table 06-12); a 4 stays until a power-on is accepted (07 R222). -/
def State.setPower (s : State) (t : TunId) (p : BitVec 3) : State :=
  let m := s.mtun t
  if m.power = p ∨ (m.power = 4 ∧ p ≠ 1) then s else (s.modMTun t fun m => { m with power := p }).raise 5

def tunOff (s : State) (t : TunId) : Bool := (s.tun t).svc.state == .off

/-- A Tun that is powered or has rails enabled. -/
def running (s : State) (t : TunId) : Bool := !(tunOff s t) || (s.mtun t).enables != 0

def allOff (s : State) : Bool := allTuns.all (fun t => !(running s t) && (s.mtun t).seq == .idle)

/-- A Tun owns its boot flash from the release of its cold reset until BOOT_RESULT is final; the Maltster at every other time
(08 R261). -/
def tunOwns (s : State) (t : TunId) : Bool :=
  let v := (s.tun t).svc
  v.state != .off && v.hold != .cold && v.bootResult == 0

/-- The main path opens; KEG4 and KEG5 lose their supply with it (03 power input), and no Tun's tray power-up start is due any more. -/
def State.openMain (s : State) : State :=
  { s with
    tray := { s.tray with mainClosed := false, openWhenOff := false },
    malt := { s.malt with mtun := Quad.map (fun m => { m with startDue := false }) s.malt.mtun },
    bays := s.bays.mapIdx fun i (b : Bay) => if 4 ≤ i then { b with powered := false, ready := false } else b }

/-- Once every Tun is OFF a main path that waits to open opens (07 R218). -/
def State.openIfDone (s : State) : State := if s.tray.openWhenOff && allOff s then s.openMain else s

/-- What the Maltster refuses a power-on or power-cycle for (07 R221); `none` when it accepts. A removal under way counts as the main
path open, which hardware opens within 8 ms (03 R78, assumption 170, DEDUCED). -/
def powerRefusal (s : State) (t : TunId) : Option Half :=
  let m := s.mtun t
  let hot := match m.tripTime with | none => false | some w => msSince s w < 30000
  if !s.tray.pwrEn || !s.tray.mainClosed || s.tray.removing || s.tray.leakSeen || hot then some stInhibited
  else if m.pinFault then some stPinFault
  else none

/-- A power command refused under 07 R221: event 0x0023, and TUN_POWER 4 for PIN_FAULT. -/
def State.refusePower (s : State) (t : TunId) (st : Half) : State :=
  let s := s.log 2 (tunObj t) 0x0023 (halfBytes st)
  if st = stPinFault then s.setPower t 4 else s

/-- The plan code a Tun takes from its own endpoint cartridge; 0 where the bay gives none (02 R29, R30). -/
def planCode (s : State) (t : TunId) : BitVec 2 :=
  let b := s.bay t.num
  let c := b.planCode.toNat
  if b.present && b.accepted && decide (1 ≤ c) && decide (c ≤ 3) then BitVec.ofNat 2 c else 0

/-- Nominal voltages of the seven rails in mV, in rail order (07 Table 07-1). -/
def railNominal : List Nat := [1800, 1050, 750, 900, 1200, 800, 750]

/-- A regulator after CLEAR_FAULTS, a clean STATUS_WORD and the writes of 07 Table 07-2: on, gated by its enable, 0.9 ms up, 0.4 ms
down. -/
def Regulator.setUp (mv : Nat) (r : Regulator) : Regulator :=
  { r with operation := true, onOffConfig := true, voutCommand := mv, tonRise := 9, toffFall := 4, status := 0 }

/-- Step 1 of the power-on sequence and the enable of rail 1 (07 R213, R214, R225). -/
def MTun.startUp (plan : BitVec 2) (m : MTun) : MTun :=
  { m with
    seq := .up 1, enables := 1, rails := 0, coldRstHeld := true, planSel := plan, thermLatch := false,
    offCause := 0, onAfterReflash := false, regs := List.zipWith Regulator.setUp railNominal m.regs }

/-- Starts the power-on sequence of a Tun in OFF; a Tun whose boot header failed waits for its re-flash (08 R268). -/
def State.startUp (s : State) (t : TunId) : State :=
  let s := s.setPower t 1
  if (s.mtun t).headerBad then s.modMTun t fun m => { m with onAfterReflash := true }
  else s.modMTun t (MTun.startUp (planCode s t))

/-- An accepted power-on: a re-flash is allowed again (08 R272). -/
def State.acceptOn (s : State) (t : TunId) : State :=
  (s.modMTun t fun m => { m with reflashed := false, startDue := false }).startUp t

/-- Number of rails enabled, which rise from bit 0. -/
def railsOn (e : BitVec 7) : Nat :=
  (List.range 7).foldl (fun n i => if e.getLsbD i then n + 1 else n) 0

/-- The power-down sequence from step 2; `record` is step 1, which takes RESET_STATUS from a Tun that answers
(07 R217, R219). A Tun still in OFF, its cold reset not released, has nothing to fence. -/
def State.powerDown (s : State) (t : TunId) (cause : Byte) (record : Bool) : State :=
  let u := s.tun t
  let m := s.mtun t
  let rec1 := if record && u.reachable then u.svc.incarn else m.incarnRec
  let s := (s.modTun t fun u => if u.svc.state = .off then u else u.holdCold s.now 2).setPower t 3
  s.modMTun t fun m => { m with coldRstHeld := true, incarnRec := rec1, offCause := cause, seq := .down (railsOn m.enables) }

/-- Completes the power-on or power-cycle executing on a Tun (06 Table 06-7). -/
def State.finishOn (s : State) (t : TunId) (status : Half) : State :=
  s.finishWhere (fun e => e.obj == .object (BitVec.ofNat 8 (tunObj t)) && e.req.op != 0x11) status []

/-- Completes whatever command executes on a Tun. -/
def State.finishTun (s : State) (t : TunId) (status : Half) : State := s.finish (BitVec.ofNat 8 (tunObj t)) status []

/-- A power-on or power-cycle of the Tun, waiting or under way, is abandoned with POWER_INHIBITED (07 Table 07-11). A Tun that waited
in OFF is off again. -/
def State.abandonOn (s : State) (t : TunId) : State :=
  let waits := (s.mtun t).onAfterReflash && (s.mtun t).seq == .idle
  let s := s.modMTun t fun m => { m with
    cycleAfter := none, onAfterReflash := false, startDue := false, seq := if m.seq = .cycleWait then .idle else m.seq }
  (if waits then s.setPower t 0 else s).finishOn t stInhibited

/-- Powers one Tun down with the others: one that is rising or on goes down, one already going down goes on (07 R218, R237). -/
def State.downWithAll (cause : Byte) (record : Bool) (s : State) (t : TunId) : State :=
  let s := s.abandonOn t
  match (s.mtun t).seq with
  | .down _ => s
  | _ => if running s t then s.powerDown t cause record else s

/-- Powers every Tun that is not already OFF down together (07 R218, R237). -/
def State.powerDownAll (s : State) (cause : Byte) (record : Bool) : State :=
  allTuns.foldl (State.downWithAll cause record) s

/-- A golden re-flash erases and writes the selected bank once the Maltster owns the flash: PARTIAL until it is done (08 R261, R283). -/
def State.reflashWrites (s : State) (t : TunId) : State :=
  if (s.mtun t).reflashing && !(tunOwns s t) then
    let f := s.flash t
    s.setFlash t (f.setBank (selectedBank f.hdr) { state := .partial_ })
  else s

/-- The golden re-flash of the selected bank is begun (08 R271). -/
def State.startReflash (s : State) (t : TunId) (status : Half) : State :=
  (s.modMTun t fun m => { m with headerBad := true, reflashing := true, failStatus := status }).reflashWrites t

/-- The Maltster's record of a Tun whose rails are gone. -/
def MTun.gone (m : MTun) : MTun := { m with service := 0, errArmed := false, rails := 0, portUps := [] }

/-- A Tun that lost power at once: every enable dropped, reported OFF (03 R72, 07 R223). -/
def State.dropPower (s : State) (t : TunId) (cause : Byte) : State :=
  let live := running s t
  let s := s.abandonOn t
  if live then
    let s := ((s.modTun t Tun.powerOff).reflashWrites t).setPower t 0
    let s := s.modMTun t fun m => { m.gone with enables := 0, seq := .idle, coldRstHeld := true, offCause := cause }
    (s.log 0 (tunObj t) 0x0021 [cause]).finishTun t stOk
  else s

/-- Every Tun's rails collapse while the Maltster is not running, which holds its enables and learns of it at its re-evaluation
(03 R71, R78, 07 R246). -/
def State.cutPower (s : State) : State :=
  allTuns.foldl (fun s t => (s.modTun t Tun.powerOff).modMTun t fun m => { m with rails := 0 }) s

/-- A rail fault: STATUS_WORD read, power-down from step 2, TUN_POWER 4, one record (07 R213, R220). `phase` is 0 rising, 1 on. -/
def State.railFault (s : State) (t : TunId) (k : Nat) (status : Half) (phase : Byte) : State :=
  let s := s.log 3 (tunObj t) 0x0022 ([BitVec.ofNat 8 (k - 1)] ++ halfBytes status ++ [phase])
  let s := (s.powerDown t 5 false).setPower t 4
  (s.modMTun t fun m => { m with
      cycleAfter := none, onAfterReflash := false,
      regs := m.regs.set (k - 1) { m.regs.getD (k - 1) {} with status := status } }).finishOn t stRailFault

/-- A power-on that waited for a re-flash runs Table 07-3 once the flash is written and the Tun is OFF, unless it is refused by then
(07 R221, 08 R271). -/
def State.resumeOn (s : State) (t : TunId) : State :=
  let m := s.mtun t
  if m.onAfterReflash && !m.reflashing && !(running s t) && m.seq == .idle then
    match powerRefusal s t with
    | none => s.startUp t
    | some st => (((s.modMTun t fun m => { m with onAfterReflash := false }).setPower t 0).refusePower t st).finishOn t st
  else s

/-- The Tun is reported OFF at the end of the power-down sequence (Table 07-4 step 5). -/
def State.reachOff (s : State) (t : TunId) : State :=
  let m := s.mtun t
  let s := (s.modTun t Tun.powerOff).reflashWrites t
  let s := s.modMTun t fun m => { m.gone with seq := if m.cycleAfter.isSome then .cycleWait else .idle }
  let s := (s.setPower t 0).log 0 (tunObj t) 0x0021 [m.offCause]
  let s := if m.cycleAfter.isSome || m.onAfterReflash then s else s.finishTun t stOk
  (s.resumeOn t).openIfDone

end Sys2Proof.Machine
end

