-- ==== Sys2Proof/Machine/TrayPower.lean ====
section
/-! DEFINITION. Tray insertion and removal (03 R69-R80), rail sequencing (07 R212-R222) and the thermal path (07 R223-R225,
R231). -/

namespace Sys2Proof.Machine
open Sys2Proof

/-- PWR_EN deasserted: every Tun goes down, and the main path opens once every Tun is OFF (07 R218). -/
def State.pwrEnLow (s : State) : State :=
  let s := s.powerDownAll 2 true
  (s.modTray fun y => { y with openWhenOff := s.tray.mainClosed }).openIfDone

/-- What the Maltster does at a filtered level of PWR_EN: assertion lets the main path close; deassertion powers all Tuns down and opens
the main path once every Tun is OFF (03 R69, 07 R218). -/
def State.actPwrEn (s : State) (level : Bool) : State :=
  if s.tray.pwrEn = level then s else
  let s := (s.modTray fun y => { y with pwrEn := level }).log 0 0x00 0x0010 [if level then 1 else 0]
  if level then s else s.pwrEnLow

/-- PWR_EN held for its filter time. A Maltster that is not running acts on the level when it re-reads its inputs (03 R69, 07 R247). -/
def execPwrEnChange (level : Bool) (s : State) : Res :=
  let s := s.modTray fun y => { y with pwrPin := level }
  if s.malt.alive then .next (s.actPwrEn level) else .next s

/-- What 03 R75, R76, 07 R238 and 08 R280 ask before the main path closes, beside PRSNT_S_N. -/
def mayClose (s : State) : Bool :=
  s.malt.imageOk && s.malt.alive && s.tray.pwrEn && !s.tray.mainClosed && !s.tray.leakSeen &&
    s.fw.stage != .activating && !s.fw.journal

/-- The main path closed: every Tun is due to be sequenced from OFF, and an accepted, latched active cartridge is powered again
(03 R91, 07 R216). -/
def State.closeMain (s : State) : State :=
  { s with
    tray := { s.tray with mainClosed := true, openWhenOff := false, removing := false, tripped := false },
    malt := { s.malt with mtun := Quad.map (fun m => { m with startDue := true }) s.malt.mtun },
    bays := s.bays.mapIdx fun i (b : Bay) =>
      if 4 ≤ i && b.present && b.accepted && b.latched && !b.overcurrent then { b with powered := true } else b }

/-- The command's arrival says that PRSNT_S_N has been asserted for 100 ms (03 R75). -/
def execMainPathClose (s : State) : Res :=
  let s := (s.modTray fun y => { y with prsntL := true, prsntS := true })
  if mayClose s && !s.tray.tripped then .next s.closeMain else .next s

/-- The hot-swap controller opens the main path by itself; every Tun has lost power (03 R71, R72). -/
def execMainPathTrip (high : Bool) (mv : Half) (s : State) : Res :=
  if s.tray.mainClosed then
    let s := s.openMain
    let s := (s.modTray fun y => { y with
                            tripped := true, inputV := mv, tripOver := s.tray.tripOver || high,
                            tripUnder := s.tray.tripUnder || !high })
    if s.malt.alive then
      .next (((allTuns.foldl (fun s t => s.dropPower t 6) s).raise 0).log 3 0x00 0x0011 ([if high then 2 else 1] ++ halfBytes mv))
    else .next s.cutPower
  else .next s

/-- The input has stayed between 44 V and 58 V for 1 s (03 R72). -/
def execMainPathReclose (s : State) : Res :=
  if s.tray.tripped && s.tray.prsntS && mayClose s then .next s.closeMain else .next s

/-- PRSNT_L_N asserted and PRSNT_S_N deasserted for 5 s (03 R76). -/
def execPartialSeating (s : State) : Res :=
  if s.tray.mainClosed then .next s else
  let s := (s.modTray fun y => { y with prsntL := true, prsntS := false })
  if s.malt.alive then .next ((s.modTray fun y => { y with partialSeat := true }).log 3 0x00 0x0012 []) else .next s

/-- A latched break of PRSNT_S_N while the main path is closed: FENCE on every link, reverse sequencing without step 1, and
the main path opened by hardware, once the Tuns are off or at once where no Maltster sequences them (03 R78, R80, 07 R218). -/
def execPrsntSNBreak (s : State) : Res :=
  let wasClosed := s.tray.mainClosed
  let s := (s.modTray fun y => { y with prsntS := false, removing := y.removing || wasClosed })
  let s := if s.malt.alive then s.log 2 0x00 0x0013 [] else s
  if wasClosed then
    let s := s.modAllTuns (Tun.fenceLinks s.now 5 false)
    if s.malt.alive then
      let s := s.powerDownAll 3 false
      .next (s.modTray fun y => { y with openWhenOff := true }).openIfDone
    else .next s.cutPower.openMain
  else .next s

/-- 5n ms after the intermediate bus is in regulation: the Tun's sequence starts, or the Tun is skipped (07 R216). -/
def execTunSequenceStart (t : TunId) (s : State) : Res :=
  let m := s.mtun t
  if s.malt.alive && m.startDue then
    if !(running s t) && m.seq == .idle && (powerRefusal s t).isNone then .next (s.acceptOn t)
    else .next (s.modMTun t fun m => { m with startDue := false })
  else .next s

/-- A rail in regulation; 0.5 ms later the next is enabled, and after rail 7 the cold reset is to be released (07 R214). -/
def execRailPowerGood (t : TunId) (k : Nat) (s : State) : Res :=
  let m := s.mtun t
  if m.seq = .up k ∧ s.malt.alive ∧ ¬ m.thermLatch then
    .next (s.modMTun t fun m => { m with
      rails := m.rails ||| (1#7 <<< (k - 1)),
      enables := if k < 7 then m.enables ||| (1#7 <<< k) else m.enables,
      seq := if k < 7 then .up (k + 1) else .release })
  else .next s

/-- No power-good 5 ms after the enable (07 R215). -/
def execRailTimeout (t : TunId) (k : Nat) (status : Half) (s : State) : Res :=
  if (s.mtun t).seq = .up k ∧ s.malt.alive then .next (s.railFault t k status 0) else .next s

/-- The routing table after a cold reset: the endpoint slots present are reachable (11 R405). -/
def Tun.presentRoutes (t : Tun) : Tun :=
  { t with plane := { t.plane with
      routes := (List.range (t.asm.endpointPorts t.rack.plan)).foldl (fun (r : Tab Word) e => r.set 0 e 0x80000000) ⟨[]⟩ } }

/-- The incarnation of 04 R124 is loaded and the cold reset released: the Tun leaves OFF for COLD, latching its straps and
its plan code (01 R18, 02 R29, R30, 21 R788); the Maltster's watch on its pins counts from here (07 Table 07-5). -/
def State.releaseCold (s : State) (t : TunId) (cause : BitVec 4) (inc : Byte) : State :=
  let m := s.mtun t
  let s := s.modTun t fun u => Tun.presentRoutes { u with
    svc := { u.svc with state := .cold, hold := .none_, incarn := inc, lastCause := cause, warmCount := 0, coldPowered := false },
    rack := { u.rack with row := s.tray.trayId, gensel := s.tray.gensel, plan := if m.planSel = 0 then 3 else m.planSel,
                          planDefaulted := decide (m.planSel = 0) } }
  s.modMTun t fun m => { m with releasedAt := some s.now }

def execTunColdResetRelease (t : TunId) (s : State) : Res :=
  let m := s.mtun t
  if m.seq = .release ∧ s.malt.alive then
    let inc := m.incarnRec + 1
    let s := (s.releaseCold t 0 inc).modTun t (Tun.modPorts fun p => { p with incarn := inc })
    let s := s.modMTun t fun m => { m with seq := .idle, coldRstHeld := false, errArmed := true, errLatched := false, errWindow := 0,
                                            hbBad := 0, hbOk := 0, hbLost := false, hbFastLogged := false }
    .next ((s.setPower t 2).log 0 (tunObj t) 0x0020 [inc])
  else .next s

/-- The next timed step of the power-down sequence: a rail disabled, or the Tun reported OFF (Table 07-4 steps 3 to 5). While the Maltster
is not running its enables hold (07 R246). -/
def execPowerDownRailStep (t : TunId) (s : State) : Res :=
  if s.malt.alive then
    match (s.mtun t).seq with
    | .down 0 => .next (s.reachOff t)
    | .down (k + 1) => .next (s.modMTun t fun m => { m with
        seq := .down k, enables := m.enables &&& ~~~(1#7 <<< k), rails := m.rails &&& ~~~(1#7 <<< k) })
    | _ => .next s
  else .next s

/-- Power-good lost or a regulator fault while the Tun is powered (07 R220). -/
def execRailFault (t : TunId) (k : Nat) (status : Half) (s : State) : Res :=
  let m := s.mtun t
  if s.malt.alive ∧ (m.power = 1 ∨ m.power = 2) ∧ m.enables ≠ 0 then
    .next ((s.modMTun t fun m => { m with rails := m.rails &&& ~~~(1#7 <<< (k - 1)) }).railFault t k status
      (if m.power = 1 then 0 else 1))
  else .next s

/-- A regulator's record takes what was read from it (07 Table 07-2). -/
def Regulator.take (r : Regulator) (x : RailRead) : Regulator :=
  { r with status := x.status, vout := x.vout, iout := x.iout, pout := x.pout, temp := x.temp }

/-- Telemetry of one Tun's regulators and of the input; a STATUS_WORD fault while powered is a rail fault (07 R213, R220). -/
def execPmbusPoll (t : TunId) (power : Half) (reads : List RailRead) (input : Option (Half × Half × Half))
    (s : State) : Res :=
  if s.malt.alive then
    let s := s.modMTun t fun m => { m with
      packagePower := power,
      regs := reads.foldl (fun rs x => rs.set (x.rail - 1) ((rs.getD (x.rail - 1) {}).take x)) m.regs }
    let s := match input with
      | none => s
      | some (v, i, p) => (s.modTray fun y => { y with inputV := v, inputI := i, inputP := p })
    match reads.find? (fun x => x.status != 0) with
    | some x => execRailFault t x.rail x.status s
    | none => .next s
  else .next s

/-- The hardware latch: all seven enables removed and TUN_COLD_RST_N asserted, after the Tun's FENCE (07 R223, R224). -/
def execThermtripLatch (t : TunId) (s : State) : Res :=
  if (s.mtun t).rails.getLsbD 6 then
    let s := s.modTun t fun u => (u.assertTrip s.now).powerOff
    .next (s.modMTun t fun m => { m with thermLatch := true, enables := 0, rails := 0, coldRstHeld := true, seq := .idle,
                                         tripTime := some s.now })
  else .next s

/-- The Maltster's report of a thermal trip: the Tun is OFF and stays so until a power-on is accepted (07 R231, Table 07-11). -/
def State.reportTrip (s : State) (t : TunId) : State :=
  let s := s.log 4 (tunObj t) 0x0036 ([0, 0, 0, 0] ++ halfBytes (s.mtun t).temp)
  let s := (((s.raise 2).abandonOn t).setPower t 0).reflashWrites t
  let s := s.modMTun t fun m => { m.gone with offCause := 7 }
  ((s.log 0 (tunObj t) 0x0021 [7]).finishTun t stOk).openIfDone

/-- The trip is reported once: OFF with cause 7 until the latch clears. -/
def execThermalTripReport (t : TunId) (s : State) : Res :=
  let m := s.mtun t
  if s.malt.alive ∧ m.thermLatch ∧ m.offCause ≠ 7 then .next (s.reportTrip t) else .next s

end Sys2Proof.Machine
end

