-- ==== Sys2Proof/Machine/Supervision.lean ====
section
/-! DEFINITION. The inputs the Maltster watches (07 R226-R245), the front panel's LED codes (03 Table 03-12), the Maltster's restart (07 R246, R247, 06 R210) and the locate function
(07 R248-R252). Filtering is done before these commands: each stands for a filtered event. -/

namespace Sys2Proof.Machine
open Sys2Proof

/-- Locate is active while any target bit is set (07 R249). -/
def Malt.locating (m : Malt) : Bool := m.locTray || m.locBays != 0

/-! ### Front panel (03 Table 03-12): priority row shown, 0 off -/

/-- First row, counting from 1, whose condition holds. -/
def firstRow : Nat → List Bool → Nat
  | _, [] => 0
  | n, b :: bs => if b then n else firstRow (n + 1) bs

def State.svcIs (s : State) (t : TunId) (v : SvcState) : Bool := (s.tun t).svc.state == v

/-- A warning latched: WARN_N since ALERT_STATUS [2] was last cleared, or a cartridge event not cleared (assumption 162, DESIGN CHOICE). -/
def State.warnLatched (s : State) : Bool :=
  s.malt.warnSeen || s.bays.any (fun b => b.refusal != 0 || b.unlatchedRemoval)

def State.ledTray (s : State) : Nat :=
  let palish (t : TunId) := s.svcIs t .pale || s.svcIs t .full
  let poweredT := allTuns.filter fun t => !(tunOff s t)
  firstRow 1
    [ s.tray.leakLow || allTuns.any (fun t => (s.mtun t).thermLatch),
      s.tray.partialSeat || s.tray.tripUnder || s.tray.tripOver || s.malt.imageFailed || allTuns.any (fun t => (s.mtun t).pinFault),
      s.warnLatched,
      s.tray.pwrEn && allTuns.any (fun t => !(palish t)),
      !poweredT.isEmpty && poweredT.all palish && poweredT.any (fun t => s.svcIs t .pale),
      allTuns.all (fun t => s.svcIs t .full),
      s.malt.alive && !s.tray.mainClosed ]

def State.ledLocate (s : State) : Nat :=
  firstRow 1 [s.malt.locating, !s.tray.mainClosed || allTuns.all (fun t => tunOff s t)]

/-- A Tun's health LED; off while it is OFF but for a thermal trip and a refused power-on (07 R222, assumption 168, DEDUCED). -/
def State.ledTun (s : State) (t : TunId) : Nat :=
  let m := s.mtun t
  let on := !(tunOff s t)
  firstRow 1
    [ m.thermLatch, (on && m.errLatched) || m.power == 4, s.svcIs t .pale && (s.tun t).svc.caskFail != 0, s.svcIs t .fenced,
      s.svcIs t .draining, s.svcIs t .cold, s.svcIs t .pale, s.svcIs t .full ]

/-- Every port and link the Maltster last saw of a bay's cartridge is up, and there is one (03 Table 03-12, 07 R245). -/
def State.bayAllUp (s : State) (n : Nat) : Bool :=
  if n < 4 then
    let t := TunId.fromNum n
    let a := (s.tun t).asm
    let ids := List.range (a.endpointPorts (s.tun t).rack.plan) ++ (List.range a.annexGroups).map (192 + ·)
    ids.all ((s.mtun t).portUps.contains ·)
  else allTuns.all fun t => (s.mtun t).portUps.contains (255 + n)

/-- A bay's LED, off when the bay is empty (03 Table 03-12). -/
def State.ledBay (s : State) (n : Nat) : Nat :=
  let b := s.bay n
  if !b.present then 0 else
  firstRow 1
    [ s.malt.locBays.getLsbD n, b.refusal != 0 || b.readFail, b.overcurrent, !b.latched,
      b.latched && b.accepted && !(s.bayAllUp n), b.latched && b.accepted ]

/-- LED_STATE (06 Table 06-15). -/
def State.ledWord (s : State) : Word :=
  BitVec.ofNat 32 (s.ledTray * 2 ^ 28 + s.ledLocate * 2 ^ 24 + s.ledTun .t3 * 2 ^ 20 + s.ledTun .t2 * 2 ^ 16 +
    s.ledTun .t1 * 2 ^ 12 + s.ledTun .t0 * 2 ^ 8)

/-- BAY_LED_STATE (06 Table 06-15). -/
def State.bayLedWord (s : State) : Word :=
  (List.range 6).foldl (fun w n => w ||| fieldAt (BitVec.ofNat 4 (s.ledBay n)) (4 * n)) 0

/-! ### Levels held through a restart (07 Table 07-6) -/

/-- TRAY, LOCATE and Tun LEDs as they show: a Maltster that is not running holds them, but the boot ROM shows an image failure
(08 R267). -/
def State.ledShown (s : State) : Word :=
  if s.malt.alive then s.ledWord else if s.malt.imageFailed then 0x20000000 else s.malt.heldLed

def State.bayLedShown (s : State) : Word := if s.malt.alive then s.bayLedWord else s.malt.heldBayLed

/-- The Maltster drives ALERT_N: while an alert is pending and a bus is in SMBus mode, or held through its restart (06 R204, 07
R246). -/
def State.alertDriven (s : State) : Bool :=
  if s.malt.alive then s.malt.alertPending && (!s.malt.buses.d0.modeNow || !s.malt.buses.d1.modeNow) else s.malt.heldAlert

/-- TUN_PINS [7:0] (06 Table 06-14). -/
def MTun.pins (m : MTun) : Byte :=
  (if m.errStorm then 0x20 else 0) ||| (if m.pinFault then 0x10 else 0) ||| (if m.hbLost then 0x08 else 0) |||
  (if m.thermLatch then 0x04 else 0) ||| (if m.warn then 0x02 else 0) ||| (if m.errLatched then 0x01 else 0)

/-- The Maltster watches a Tun's pins from `ms` after its cold reset was released to the start of its power-down (07 Table 07-5). -/
def watched (s : State) (t : TunId) (ms : Nat) : Bool :=
  let m := s.mtun t
  s.malt.alive && !(tunOff s t) && m.seq == .idle && (match m.releasedAt with | none => false | some w => decide (ms ≤ msSince s w))

/-- A filtered edge of ERR_N: counted either way; a falling edge while armed latches, alerts, logs and disarms
(07 R227, R229). -/
def execErrNEdge (t : TunId) (falling : Bool) (s : State) : Res :=
  if watched s t 50 then
    let s := s.modMTun t fun m => { m with errEdges := satInc m.errEdges, errWindow := m.errWindow + 1 }
    let m := s.mtun t
    if falling && m.errArmed then
      let s := s.modMTun t fun m => { m with errLatched := true, errArmed := false }
      .next ((s.raise 3).log 3 (tunObj t) 0x0030 ([(s.mtun t).pins] ++ halfBytes m.errEdges))
    else .next s
  else .next s

/-- ERR_N high for 100 ms without a break (07 R228). -/
def execErrNRearm (t : TunId) (s : State) : Res :=
  let m := s.mtun t
  if watched s t 50 && !m.errArmed then
    let s := s.modMTun t fun m => { m with errLatched := false, errArmed := true }
    .next (s.log 0 (tunObj t) 0x0031 ([0] ++ halfBytes m.errEdges))
  else .next s

/-- The end of a 1 s window of ERR_N edges (07 R229). -/
def execErrStormWindow (t : TunId) (s : State) : Res :=
  if watched s t 50 then
    let m := s.mtun t
    let n := m.errWindow
    let s := s.modMTun t fun m => { m with errWindow := 0, errStorm := decide (100 < n) }
    if 100 < n then .next (s.log 3 (tunObj t) 0x0032 ([0] ++ halfBytes (BitVec.ofNat 16 (min n 65535))))
    else if m.errStorm then .next (s.log 1 (tunObj t) 0x0033 [])
    else .next s
  else .next s

/-- TUN_PINS [1] follows filtered WARN_N (07 R230); once the Tun is off it keeps its last value (assumption 166, DESIGN CHOICE). -/
def execWarnNChange (t : TunId) (asserted : Bool) (s : State) : Res :=
  let m := s.mtun t
  if watched s t 50 && m.warn != asserted then
    let s := s.modMTun t fun m => { m with warn := asserted }
    let d := [0, 0, 0, 0] ++ halfBytes m.temp
    if asserted then .next (((s.modMalt fun y => { y with warnSeen := true }).raise 2).log 2 (tunObj t) 0x0034 d) else .next (s.log 1 (tunObj t) 0x0035 d)
  else .next s

/-- A status pin low for 10 ms on a Tun OFF and not sequenced (07 R232). -/
def execPinFaultSet (t : TunId) (s : State) : Res :=
  let m := s.mtun t
  if s.malt.alive && tunOff s t && m.seq == .idle && !m.pinFault then
    let s := s.modMTun t fun m => { m with pinFault := true }
    .next (s.log 3 (tunObj t) 0x0037 [(s.mtun t).pins])
  else .next s

/-- All three pins high for 100 ms while the Tun is OFF (07 R232). -/
def execPinFaultClear (t : TunId) (s : State) : Res :=
  let m := s.mtun t
  if s.malt.alive && tunOff s t && m.pinFault then
    let s := s.modMTun t fun m => { m with pinFault := false }
    .next (s.log 1 (tunObj t) 0x0038 [(s.mtun t).pins])
  else .next s

/-- The judgement of a 10 ms HEARTBEAT window (07 R233). -/
inductive Beat where
  | good | fast | bad
deriving DecidableEq, Repr

def beatOf (edges : Nat) : Beat :=
  if edges < 5 then .bad else if edges ≤ 20 then .good else if edges ≤ 100 then .fast else .bad

/-- One HEARTBEAT window of `edges` rising edges (07 R233-R236). -/
def execHeartbeatWindow (t : TunId) (edges : Nat) (s : State) : Res :=
  if watched s t 500 then
    let m := s.mtun t
    let b := beatOf edges
    let data : List Byte := [0, BitVec.ofNat 8 (min edges 255)]
    let s := s.modMTun t fun m => { m with
      hbBad := if b = .bad then m.hbBad + 1 else 0, hbOk := if b = .bad then 0 else m.hbOk + 1 }
    let s := match b with
      | .good => s.modMTun t fun m => { m with hbFastLogged := false }
      | .fast => if m.hbFastLogged then s
                 else (s.modMTun t fun m => { m with hbFastLogged := true }).log 2 (tunObj t) 0x003B data
      | .bad => s
    let m2 := s.mtun t
    if !m2.hbLost && decide (5 ≤ m2.hbBad) then
      .next ((s.modMTun t fun m => { m with hbLost := true, hbOk := 0 }).log 3 (tunObj t) 0x0039 data)
    else if m2.hbLost && decide (5 ≤ m2.hbOk) then
      .next ((s.modMTun t fun m => { m with hbLost := false, hbBad := 0 }).log 1 (tunObj t) 0x003A data)
    else .next s
  else .next s

/-- What the Maltster does when LEAK_N is treated as asserted (07 R237). -/
def State.leak (s : State) : State :=
  let s := (s.modTray fun y => { y with leakLow := true, leakSeen := true })
  let s := (s.raise 1).log 4 0x00 0x0040 []
  let s := s.powerDownAll 4 true
  let s := { s with
    tray := { s.tray with openWhenOff := s.tray.mainClosed },
    bays := s.bays.mapIdx fun i (b : Bay) => if 4 ≤ i then { b with powered := false, ready := false } else b }
  s.openIfDone

def execLeakAsserted (s : State) : Res :=
  if s.malt.alive then .next s.leak else .next s

/-- LEAK_N high for 1 s: LEAK_STATUS [1] stays until cleared (07 R226, R238). -/
def execLeakDeasserted (s : State) : Res :=
  if s.malt.alive && s.tray.leakLow then
    .next ((s.modTray fun y => { y with leakLow := false }).log 1 0x00 0x0041 [])
  else .next s

/-- SDA low for 25 ms starts recovery; at 35 ms the bus is stuck (07 R242). -/
def execSdaStuck (b : Bus) (at35ms : Bool) (s : State) : Res :=
  if s.malt.alive then
    if at35ms then
      if (s.bus b).stuck then .next s else
      let s := s.modBus b fun w => { w with stuck := true, serving := false, recovering := true }
      .next (s.log 2 0x30 0x0060 [BitVec.ofNat 8 b.num])
    else .next ((s.modBus b fun w => { w with recovering := true }).emitMalt (.recoveryPulses b))
  else .next s

/-- Nine clock pulses and a STOP, every 2 ms while SDA stays low (07 R242). -/
def execBusRecoveryPulse (b : Bus) (s : State) : Res :=
  if s.malt.alive && (s.bus b).recovering then .next (s.emitMalt (.recoveryPulses b)) else .next s

/-- SDA and SCL high together for 100 ms (07 R243). -/
def execBusServedAgain (b : Bus) (s : State) : Res :=
  if s.malt.alive then
    let was := (s.bus b).stuck
    let s := s.modBus b fun w => { w with stuck := false, serving := true, recovering := false }
    if was then .next (s.log 1 0x30 0x0061 [BitVec.ofNat 8 b.num]) else .next s
  else .next s

/-- SCL low for 25 ms: the bus is released and the transaction discarded; no frame in this model spans two commands, so
nothing else changes (06 R177, 07 R243). `stillLow35` says that SCL is still low at 35 ms. -/
def execSmbusTimeout (b : Bus) (stillLow35 : Bool) (s : State) : Res :=
  if stillLow35 then execSdaStuck b true s else .next s

/-- ALERT_N low for 1 s while the Maltster does not drive it (07 R244). -/
def execAlertNHeld (s : State) : Res :=
  if s.malt.alive && !s.malt.alertHeld && !s.alertDriven then
    .next ((s.modMalt fun y => { y with alertHeld := true }).log 2 0x30 0x0062 [])
  else .next s

/-- ALERT_N high for 100 ms (07 R244). -/
def execAlertNReleased (s : State) : Res :=
  if s.malt.alive && s.malt.alertHeld then
    .next ((s.modMalt fun y => { y with alertHeld := false }).log 1 0x30 0x0063 [])
  else .next s

/-- One 100 ms poll of a powered Tun (07 R245, R219). `answers` says whether the Tun's port answered,
and `took` how long its answers took, in units of 39.0625 ps: 1 ms is 25,600,000 of them. -/
def execTunPoll (t : TunId) (answers : Bool) (took : Nat) (s : State) : Res :=
  let u := s.tun t
  if s.malt.alive && !(tunOff s t) then
    if answers && decide (took ≤ 25600000) && u.reachable then
      let m := s.mtun t
      let code := u.svc.state.code
      let s := s.modMTun t fun m => { m with
        service := code, temp := u.junction.now, incarnRec := u.svc.incarn, noAnswer := 0, portUps := u.upPorts }
      if m.service = code then .next s
      else .next ((s.raise 4).log 1 (tunObj t) 0x003D [m.service.setWidth 8, code.setWidth 8])
    else
      let n := (s.mtun t).noAnswer + 1
      let s := s.modMTun t fun m => { m with noAnswer := n }
      if n = 3 then .next (s.log 2 (tunObj t) 0x003C []) else .next s
  else .next s

/-! ### Maltster restart -/

/-- What a restart leaves of a Tun's record: the outputs and what the flash records and the hardware hold (07 R246, Table 07-6). -/
def MTun.kept (x : MTun) : MTun :=
  { power := x.power, rails := x.rails, enables := x.enables, seq := x.seq, coldRstHeld := x.coldRstHeld, planSel := x.planSel,
    thermLatch := x.thermLatch, tripTime := x.tripTime, incarnRec := x.incarnRec, offCause := x.offCause, startDue := x.startDue,
    releasedAt := x.releasedAt, regs := x.regs, headerBad := x.headerBad, reflashing := x.reflashing, reflashed := x.reflashed,
    failStatus := x.failStatus }

/-- A restart: RAM and buses cleared, held and executing commands discarded, hold-state outputs, flash records and the log
kept; pending proxy frames end with TUN_NO_ANSWER; the boot ROM verifies an image anew. The registers of Tables 06-12 to 06-15 take their
reset values (assumption 161). A removal under way goes on in hardware (07 R246, 06 R210, R195, R175, 03 R78, 04 Table 04-6, 08 R266). -/
def State.restartMalt (s : State) : State :=
  let s := if s.tray.removing && s.tray.mainClosed then s.cutPower.openMain else s
  let m := s.malt
  let bus (b : SbBus) : SbBus := { modeStored := b.modeStored, modeNow := b.modeStored }
  let stage := s.fw.stage
  { s with
    tray := { s.tray with
      tripUnder := false, tripOver := false, partialSeat := false, openWhenOff := false, inputV := 0, inputI := 0, inputP := 0,
      leakLow := false, leakSeen := false },
    bays := s.bays.map fun (b : Bay) => { b with unlatchedRemoval := false },
    malt := {
      imageFailed := m.imageFailed, bank := m.bank, fwVersion := m.fwVersion,
      restarts := satInc m.restarts, bootTime := s.now, row := s.tray.trayId, stepping := m.stepping,
      heldAlert := s.alertDriven, heldLed := s.ledShown, heldBayLed := s.bayLedShown,
      buses := ⟨bus m.buses.d0, bus m.buses.d1⟩, log := if s.fw.logFlash.ramOnly then [] else m.log, logNext := m.logNext,
      mtun := Quad.map MTun.kept m.mtun, out := m.out },
    tuns := Quad.map Tun.proxyFail s.tuns,
    fw := { s.fw with
      recover := true, rerun := stage == .verifying || stage == .copying, owner := .none_, replyDue := false, updateMode := false,
      request := none, progress := 0, length := 0 } }

/-- Two seconds without firmware service (07 R246); event 0x0002 raises the alert of the restarted Maltster (Table 07-10, R254). -/
def execMaltsterWatchdogExpiry (s : State) : Res :=
  if s.malt.alive then .next (s.restartMalt.log 2 0x30 0x0002 []) else .next s

def execMaltsterRestart (s : State) : Res := .next s.restartMalt

/-- Re-evaluation of one Tun (07 Table 07-7). -/
def State.reevalTun (errLow : Bool) (s : State) (t : TunId) : State :=
  let m := s.mtun t
  if m.thermLatch then (s.modMTun t fun m => { m with tripTime := some s.now }).reportTrip t
  else if m.enables = 0 then (s.modMTun t fun m => { m with seq := .idle }).setPower t 0
  else if m.rails = 0x7F ∧ m.enables = 0x7F then
    if m.coldRstHeld then (s.modMTun t fun m => { m with seq := .release }).setPower t 1
    else (s.modMTun t fun m => { m with errArmed := !errLow, seq := .idle }).setPower t 2
  else s.powerDown t 8 false

/-- Before it answers, the restarted Maltster re-reads every input and re-evaluates each Tun; the bays' part is
`State.reevalBay` (07 R247). -/
def State.reevalTuns (s : State) (f : Quad Bool) : State :=
  allTuns.foldl (fun s t => s.reevalTun (Quad.get f t) t) s

/-! ### Locate -/

/-- SECONDS counts down; reaching 0 from 1 clears every target (07 R249). -/
def execLocateSecondTick (s : State) : Res :=
  let m := s.malt
  if m.alive ∧ m.locSeconds ≠ 0 then
    if m.locSeconds = 1 then .next { s with malt := { m with locSeconds := 0, locBays := 0, locTray := false } }
    else .next { s with malt := { m with locSeconds := m.locSeconds - 1 } }
  else .next s

/-- A filtered press of LOCATE_BTN_N, ignored within 500 ms of the last accepted press (07 R251, R252). -/
def execLocateButtonPress (s : State) : Res :=
  let m := s.malt
  let early := match m.btnTime with | none => false | some w => msSince s w < 500
  if m.alive && !early then
    let on := !m.locating
    let s := { s with malt := { m with
      btnTime := some s.now, locTray := on, locBays := if on then m.locBays else 0,
      locSeconds := if on then 0 else m.locSeconds } }
    .next (s.log 0 0x00 0x0070 [if on then 1 else 0])
  else .next s

end Sys2Proof.Machine
end

