-- ==== Sys2Proof/Machine/Bays.lean ====
section
/-! DEFINITION. Keg cartridges: the EEPROM image and its checks (03 R81-R89, 07 R240), latching, power and hot-swap
(03 R90-R96, 07 R239, R241). -/

namespace Sys2Proof.Machine
open Sys2Proof

/-- A lane record's four bytes (03 Table 03-9). -/
def laneRecOf (bs : List Byte) : LaneRec :=
  { loss := byteAt bs 0, rxPreset := (byteAt bs 1).extractLsb' 4 4, txPreset := (byteAt bs 1).extractLsb' 0 4,
    polarity := (byteAt bs 3).getLsbD 1, present := (byteAt bs 3).getLsbD 0 }

def laneRecsOf : Nat → List Byte → List LaneRec
  | 0, _ => []
  | n + 1, bs => laneRecOf (bs.take 4) :: laneRecsOf n (bs.drop 4)

/-- KIND a bay accepts (03 Table 03-7). -/
def bayKind (n : Nat) : Byte := if n < 4 then 0x01 else if n = 4 then 0x02 else 0x03

/-- LENGTH_CLASS values a bay accepts (03 Table 03-7). -/
def bayClassOk (n : Nat) (c : Byte) : Bool := if n < 4 then decide (c.toNat ≤ 1) else decide (c.toNat ≤ 2)

/-- Refusal reason of 06 KEG_STATE [15:12]: 1 HEADER_CRC, 2 KIND, 3 LENGTH_CLASS (03 R87). -/
def refusalOf (n : Nat) (rom : List Byte) : BitVec 4 :=
  if halfBytes (crc16 (rom.take 0x3E)) ≠ (rom.drop 0x3E).take 2 then 1
  else if byteAt rom 1 ≠ bayKind n then 2
  else if !(bayClassOk n (byteAt rom 3)) then 3
  else 0

/-- LANE_CRC holds over the LANE_COUNT records (03 Table 03-8). -/
def laneCrcOk (rom : List Byte) : Bool :=
  let n := leAt rom 4 2
  halfBytes (crc16 ((rom.drop 0x40).take (4 * n))) == (rom.drop (0x40 + 4 * n)).take 2

/-- SOURCE code of a bay (06 Table 06-6). -/
def bayObj (n : Nat) : Nat := 0x20 + n

/-- The ports or links a bay's cartridge carries on Tun `t`: an endpoint cartridge its own Tun's endpoint and annex ports,
KEG4 the north links and KEG5 the south links of all four (03 Table 03-10). -/
def bayPorts (n : Nat) (t : TunId) : List Nat :=
  if n < 4 then (if n = t.num then List.range 230 else []) else if n = 4 then [259] else [260]

/-- Directs the Tuns to fence and take down everything the bay's cartridge carries: FENCE with scope 1 and RETURN 0, for the ports train
again once a cartridge is latched (03 R90, assumption 155, DESIGN CHOICE). -/
def State.fenceBay (s : State) (n : Nat) : State :=
  allTuns.foldl (fun s t => s.modTun t fun u => (u.fencePorts s.now (bayPorts n t) 1 false).portsOffline s.now (bayPorts n t)) s

/-- The bay's ports and links are directed to train: PORT_ENABLE may now start them, in PALE at Pale rate (03 R91-R93). -/
def State.trainBay (s : State) (n : Nat) : State :=
  let s := allTuns.foldl (fun s t => s.modTun t fun u =>
    if u.svc.state = .off then u else (bayPorts n t).foldl (fun u id => if u.hasPort id then u.modPort id fun p => { p with inserted := true } else u) u) s
  s.modBay n fun b => { b with ready := true }

/-- An accepted, latched cartridge not yet brought up: a passive one trains at once, an active one is powered first (03 R91, 07 R238,
R241). -/
def State.bringUpBay (s : State) (n : Nat) : State :=
  let b := s.bay n
  if b.present && b.accepted && b.latched && !b.overcurrent && !b.ready then
    if n < 4 then s.trainBay n
    else if s.tray.mainClosed && !s.tray.leakSeen then s.modBay n fun b => { b with powered := true }
    else s
  else s

/-- A cartridge EEPROM read answered: the checks of 03 R87 and R88. -/
def State.readRom (s : State) (n : Nat) (rom : List Byte) : State :=
  let r := refusalOf n rom
  let crcOk := laneCrcOk rom
  let s := s.modBay n fun b => { b with
    rom := rom, kind := byteAt rom 1, lengthClass := byteAt rom 3, planCode := byteAt rom 2, refusal := r,
    accepted := decide (r = 0), readFail := false, retries := 0,
    lanes := if r = 0 then laneRecsOf (leAt rom 4 2) (rom.drop 0x40) else [], laneCrcBad := !crcOk }
  if r = 0 then
    let s := s.log 0 (bayObj n) 0x0050 [byteAt rom 1, byteAt rom 3, byteAt rom 2]
    (if crcOk then s else s.log 2 (bayObj n) 0x0053 []).bringUpBay n
  else (((s.fenceBay n).modBay n fun b => { b with powered := false, ready := false }).raise 6).log 2 (bayObj n) 0x0051 [r.setWidth 8]

/-- Three retries without an answer: present with an EEPROM read failure, everything of the bay down (07 R240). -/
def State.romFailed (s : State) (n : Nat) : State :=
  (((s.fenceBay n).modBay n fun b =>
    { b with readFail := true, accepted := false, refusal := 0, kind := 0, powered := false, ready := false, lanes := [], planCode := 0 }).raise
      6).log 2 (bayObj n) 0x0052 []

/-- Presence asserted; the EEPROM answers with `rom` or does not answer (03 R86, 07 R240). The latch has its own sensor (07 R239). -/
def execKegPresenceAsserted (n : Nat) (rom : Option (List Byte)) (s : State) : Res :=
  if s.malt.alive && n < 6 && !(s.bay n).present then
    let s := s.modBay n fun b =>
      { present := true, latched := b.latched, overcurrent := b.overcurrent, unlatchedRemoval := b.unlatchedRemoval }
    match rom with
    | some r => .next (s.readRom n r)
    | none => .next s
  else .next s

/-- A retry of the read, 100 ms after the last; the third without an answer is a read failure (07 R240). -/
def execKegEepromRetry (n : Nat) (rom : Option (List Byte)) (s : State) : Res :=
  let b := s.bay n
  if s.malt.alive && n < 6 && b.present && b.rom.isEmpty && !b.readFail then
    match rom with
    | some r => .next (s.readRom n r)
    | none =>
      let s := s.modBay n fun b => { b with retries := b.retries + 1 }
      if b.retries + 1 = 3 then .next (s.romFailed n) else .next s
  else .next s

/-- 200 consecutive asserted latch samples (07 R239, R241); an accepted cartridge is brought up. -/
def execKegLatched (n : Nat) (s : State) : Res :=
  if s.malt.alive && n < 6 && !(s.bay n).latched then
    .next ((s.modBay n fun b => { b with latched := true, overcurrent := false }).bringUpBay n)
  else .next s

/-- 20 ms after an active cartridge was powered (03 R91). -/
def execKegPowerReady (n : Nat) (s : State) : Res :=
  let b := s.bay n
  if s.malt.alive && 4 ≤ n && n < 6 && b.powered && b.latched && b.accepted && !b.ready then .next (s.trainBay n) else .next s

/-- An opened lever: ports and links fenced and taken down, then an active cartridge unpowered (03 R90). -/
def State.unlatchBay (s : State) (n : Nat) : State :=
  (s.fenceBay n).modBay n fun b => { b with latched := false, ready := false, powered := false }

def execKegUnlatched (n : Nat) (s : State) : Res :=
  if s.malt.alive && n < 6 && (s.bay n).latched then .next (s.unlatchBay n) else .next s

/-- The signal of every port and link of the bay is lost (03 R96). -/
def State.bayDark (s : State) (n : Nat) : State :=
  allTuns.foldl (fun s t => s.modTun t fun u => (bayPorts n t).foldl (fun u id => u.signalLost s.now id) u) s

/-- The bay without its cartridge; the latch sensor, a power fault and KEG_STATE [16] stay (07 R239, R241). -/
def Bay.emptied (seen : Bool) (b : Bay) : Bay :=
  { latched := b.latched, overcurrent := b.overcurrent, unlatchedRemoval := b.unlatchedRemoval || seen }

/-- Presence lost; with the lever still closed it is an unlatched removal, and ports go down by loss of signal (03 R96, Table 07-10). -/
def execKegPresenceDeasserted (n : Nat) (s : State) : Res :=
  let b := s.bay n
  if s.malt.alive && n < 6 && b.present then
    let s := (s.bayDark n).modBay n (Bay.emptied b.latched)
    let s := if b.latched then (s.raise 6).log 2 (bayObj n) 0x0054 [] else s
    .next (s.log 0 (bayObj n) 0x0056 [])
  else .next s

/-- An active cartridge's power switch reports overcurrent (07 R241). -/
def execKegOvercurrent (n : Nat) (s : State) : Res :=
  if s.malt.alive && 4 ≤ n && n < 6 && (s.bay n).powered then
    .next ((s.modBay n fun b => { b with powered := false, ready := false, overcurrent := true }).log 3 (bayObj n) 0x0055 [])
  else .next s

/-- Re-evaluation of one bay after a restart (07 Table 07-7): the EEPROM is read again, and an open lever is made safe. -/
def State.reevalBay (s : State) (n : Nat) (f : BayFound) : State :=
  let b := s.bay n
  if f.present then
    let s := s.modBay n fun b => { b with present := true, rom := [], accepted := false, readFail := false, retries := 0 }
    let s := if f.latched then s else s.unlatchBay n
    match f.rom with | some r => s.readRom n r | none => s
  else
    let s := if b.present then s.bayDark n else s
    s.modBay n fun b => Bay.emptied false { b with latched := b.latched && f.latched }

def reevalBays : Nat → List BayFound → State → State
  | _, [], s => s
  | n, f :: fs, s => reevalBays (n + 1) fs (s.reevalBay n f)

/-- The restarted Maltster answers after re-reading every input (07 R247); Table 07-10 event 0x0001. -/
def execMaltsterReevaluate (f : Found) (s : State) : Res :=
  if s.malt.reeval && s.malt.imageOk then
    let s := (s.modMalt fun y => { y with
      alive := true, reeval := false,
      buses := ⟨{ s.malt.buses.d0 with serving := true }, { s.malt.buses.d1 with serving := true }⟩ })
    let s := s.log 0 0x30 0x0001 [s.malt.bank.setWidth 8]
    let s := s.reevalTuns f.errLow
    let s := s.actPwrEn s.tray.pwrPin
    let s := if !s.tray.pwrEn && s.tray.mainClosed && !s.tray.openWhenOff then s.pwrEnLow else s
    let s := reevalBays 0 f.bays s
    if f.leakLow then .next s.leak else .next s
  else .next s

end Sys2Proof.Machine
end

