-- ==== Sys2Proof/Machine/Clocks.lean ====
section
/-! DEFINITION. The rack reference and the core PLL (04 R106-R112, R829) and the ends of the reset holds (04 R123, R126). -/

namespace Sys2Proof.Machine
open Sys2Proof

/-- RACK_REFCLK declared missing: holdover at once, the scheduled plane off (04 R106, R107, R110). Declared missing again
during the slew to LOCAL_OSC, with a return pending, the core keeps that slew and LOCAL_OSC and drops the return (assumption 157, DESIGN
CHOICE). -/
def Tun.refMissing (now : Nat) (t : Tun) : Tun :=
  let c := t.clk
  if c.refPresent then
    let c' : Clk :=
      if c.coreRef = CoreRef.rack then
        { c with lossCount := satInc c.lossCount, refPresent := false, coreRef := .holdover, slewing := false }
      else { c with lossCount := satInc c.lossCount, refPresent := false, returnPending := false }
    (({ t with clk := c' }).keeperAlign t.isKeeper).planeRelease now
  else t

def execRefclkMissing (t : TunId) (s : State) : Res := onTun t s (Tun.refMissing s.now)

/-- 10 ms after the declaration the core PLL starts its slew to LOCAL_OSC (04 R107). -/
def Tun.holdoverEnd (t : Tun) : Tun :=
  if t.clk.coreRef = .holdover ∧ ¬ t.clk.slewing then
    { t with clk := { t.clk with coreRef := .localOsc, slewing := true, slewTo := .localOsc } }
  else t

def execHoldoverExpiry (t : TunId) (s : State) : Res := onTun t s Tun.holdoverEnd

/-- A slew ends; a return that waited for it begins (04 R107, R108). -/
def Tun.slewEnd (t : Tun) : Tun :=
  let c := t.clk
  if c.slewing then
    if c.returnPending then
      { t with clk := { c with coreRef := .rack, slewTo := .rack, returnPending := false } }.keeperAlign t.isKeeper
    else { t with clk := { c with coreRef := c.slewTo, slewing := false } }.keeperAlign t.isKeeper
  else t

def execSlewComplete (t : TunId) (s : State) : Res := onTun t s Tun.slewEnd

/-- The reference good for 100 ms: declared present; the return slew begins now or after the slew under way (04 R108). -/
def Tun.refReturns (t : Tun) : Tun :=
  let c := t.clk
  if c.coreLock ∧ ¬ c.refPresent then
    if c.slewing then { t with clk := { c with refPresent := true, returnPending := true } }
    else { t with clk := { c with refPresent := true, coreRef := .rack, slewing := true, slewTo := .rack } }.keeperAlign t.isKeeper
  else t

def execRefclkPresent (t : TunId) (s : State) : Res := onTun t s Tun.refReturns

/-- The PLLs lock after a cold reset: the first reference is chosen and the management domain answers (04 R829, Table 04-7); `hostClk`
and `casks` say of the host PLL with its HOSTn_REFCLK, and of each stack's PLL, whether it locked (04 Table 04-2). -/
def Tun.pllLock (now : Nat) (k : PllLocks) (t : Tun) : Tun :=
  if t.svc.state = .cold ∧ t.svc.hold = .none_ ∧ ¬ t.clk.coreLock then
    { t with
      clk := { t.clk with coreLock := true, mgmtLock := true, hostOk := k.hostClk, caskLock := t.asm.caskMask &&& k.casks,
                          refPresent := k.refGood, coreRef := if k.refGood then .rack else .localOsc },
      svc := { t.svc with mgmtUp := true } }.startBrewCount now
  else t

def execCorePllLock (t : TunId) (locks : PllLocks) (s : State) : Res := onTun t s (Tun.pllLock s.now locks)

/-! ### Resets as commands -/

/-- Who asks for a Tun reset: a path's RESET_CTRL write, the Maltster's line or command, a fatal error, or a Function Level
Reset of the PF (04 Table 04-9 LAST_CAUSE). -/
def coldCause : ResetSrc → BitVec 4
  | .path .pcie => 1
  | .path .inband => 1
  | _ => 2

def warmCause : ResetSrc → BitVec 4
  | .path .pcie => 3
  | .path .inband => 3
  | .path .sideband => 4
  | .maltster => 4
  | .fatal => 5
  | .pfFlr => 6

def execTunColdReset (t : TunId) (src : ResetSrc) (s : State) : Res := onTun t s (Tun.coldRequest s.now (coldCause src))

def execTunWarmReset (t : TunId) (src : ResetSrc) (s : State) : Res := onTun t s (Tun.warmRequest s.now (warmCause src))

/-- The end of a warm-reset hold: the incarnation and WARM_COUNT advance and the cause is recorded (04 R123, R131, 19
R742). Firmware reloads on the way to Pale training (Table 04-7). -/
def Tun.warmRelease (now : Nat) (t : Tun) : Tun :=
  if t.svc.hold = .warm then
    (({ t with svc := { t.svc with
      hold := .none_, incarn := t.svc.incarn + 1, warmCount := satInc t.svc.warmCount, lastCause := t.svc.pendCause,
      fwRunning := t.svc.bootResult == 1, fatalEnd := if t.svc.pendCause = 5 then some now else t.svc.fatalEnd } }).modPorts Port.reborn).startBrewCount now
  else t

/-- After a TUN_RESET the Maltster records the new incarnation (07 R219). -/
def State.recordIncarn (s : State) (t : TunId) (cause : BitVec 4) : State :=
  if s.malt.alive ∧ (cause = 2 ∨ cause = 4) then s.modMTun t fun m => { m with incarnRec := (s.tun t).svc.incarn } else s

def execWarmResetRelease (t : TunId) (s : State) : Res :=
  .next ((s.modTun t (Tun.warmRelease s.now)).recordIncarn t (s.tun t).svc.pendCause)

/-- The end of the hold of a cold reset requested while powered: the incarnation advances, straps and plan are latched anew
(04 R123, 01 R18, 02 R29, R54, 21 R788). -/
def execColdResetHoldEnd (t : TunId) (s : State) : Res :=
  let u := s.tun t
  if u.svc.hold = .cold ∧ u.svc.coldPowered ∧ (s.mtun t).seq = .idle then
    let s := s.modMTun t fun m => { m with planSel := planCode s t }
    .next (((s.modTun t (Tun.modPorts Port.reborn)).releaseCold t u.svc.pendCause (u.svc.incarn + 1)).recordIncarn t u.svc.pendCause)
  else .next s

end Sys2Proof.Machine
end

