-- ==== Sys2Proof/Machine/Firmware.lean ====
section
/-! DEFINITION. Firmware images: the verification of 08 R265, boot of the Maltster and the Tuns (08 R266-R272), staging by
native frames and by PLDM (08 R273-R278, R284, R285) and activation (08 R279-R282). -/

namespace Sys2Proof.Machine
open Sys2Proof

/-! ### Verification -/

/-- A region of the Maltster's flash or of a Tun's boot flash, each device 64 MiB (08 Table 08-2). -/
inductive FlashRegion where
  | maltHeaders | records | maltA | maltB | maltGolden | tunGolden | staging
  | tunHeaders | tunA | tunB
deriving DecidableEq, Repr

def flashBytes : Nat := 0x4000000

/-- Offset of a region in its device (08 Table 08-2). -/
def FlashRegion.offset : FlashRegion → Nat
  | .maltHeaders => 0
  | .records => 0x2000
  | .maltA => 0x100000
  | .maltB => 0x500000
  | .maltGolden => 0x900000
  | .tunGolden => 0xD00000
  | .staging => 0x1D00000
  | .tunHeaders => 0
  | .tunA => 0x100000
  | .tunB => 0x1100000

/-- Size of a region in bytes (08 Table 08-2). -/
def FlashRegion.size : FlashRegion → Nat
  | .maltHeaders => 0x2000
  | .records => 0xFE000
  | .maltA => 0x400000
  | .maltB => 0x400000
  | .maltGolden => 0x400000
  | .tunGolden => 0x1000000
  | .staging => 0x1000000
  | .tunHeaders => 0x2000
  | .tunA => 0x1000000
  | .tunB => 0x1000000

/-- The largest image of a kind: the size of the banks that hold it (08 Table 08-1). -/
def maxImage (kind : Nat) : Nat := if kind = 1 then FlashRegion.maltA.size else FlashRegion.tunA.size

def componentsInside (img : List Byte) (bodyLen : Nat) : Nat → Bool
  | 0 => true
  | n + 1 =>
    let o := 0xB0 + 16 * n
    decide (leAt img (o + 4) 4 + leAt img (o + 8) 4 ≤ bodyLen) && componentsInside img bodyLen n

/-- The first check of Table 08-4 that an image fails for destination `kind` in a part with these fuses; `header` leaves out the body's
check 5. `none` when every check succeeds (08 R264, R265, R268). -/
def failedCheck (fuses : Fuses) (asm : Asm) (stepping : BitVec 4) (kind : Nat) (header : Bool) (img : List Byte) : Option Nat :=
  let bodyLen := leAt img 0x10 4
  let key := (byteAt img 0xE).toNat
  let pub := (img.drop 0x50).take 96
  if leAt img 0 4 ≠ 0x5746544F ∨ byteAt img 4 ≠ 1 ∨ maxImage kind < bodyLen ∨
      componentsInside img bodyLen (min (byteAt img 0xF).toNat 8) = false then some 1
  else if 4 ≤ key ∨ fuses.keyHashes[key]? ≠ some (Config.sha384 pub) then some 2
  else if Config.ecdsaP384 pub ((img.drop 0x1A0).take 96) (img.take 0x1A0) = false then some 3
  else if leAt img 0xC 2 < fuses.floor.toNat then some 4
  else if header = false ∧ Config.sha384 ((img.drop 0x200).take bodyLen) ≠ (img.drop 0x20).take 48 then some 5
  else if (byteAt img 5).toNat ≠ kind ∨ (byteAt img 6).getLsbD asm.code.toNat = false ∨
      (byteAt img 7).getLsbD stepping.toNat = false then some 6
  else none

/-- Status of a failed check (08 Table 08-4). -/
def checkStatus (c : Nat) : Half := if c = 4 then stImageRollback else if c = 6 then stImageMismatch else stImageInvalid

/-- BOOT_RESULT of a boot (08 Table 08-5). -/
def bootCode : Option Nat → Byte
  | none => 1
  | some c => if c ≤ 3 then 2 else if c = 4 then 3 else if c = 5 then 4 else 5

/-- Status of a failing BOOT_RESULT (08 R272). -/
def bootStatus (r : Byte) : Half :=
  if r = 3 then stImageRollback else if r = 5 then stImageMismatch else if r = 6 then stFlashFault else stImageInvalid

/-! ### Banks -/

def Fw.maltBank (fw : Fw) (b : Bool) : Bank := if b then fw.maltB else fw.maltA

def Fw.setMaltBank (fw : Fw) (b : Bool) (k : Bank) : Fw := if b then { fw with maltB := k } else { fw with maltA := k }

/-- The tray's assembly: the four Tuns are of one (01 R15). -/
def State.asm (s : State) : Asm := s.tuns.q0.asm

/-- The Maltster's verdict on a Maltster image. -/
def State.maltFails (s : State) (img : List Byte) : Option Nat := failedCheck s.fw.fuses s.asm s.malt.stepping 1 false img

/-- The Maltster's verdict on a Tun bundle for Tun `t`. -/
def State.tunFails (s : State) (t : TunId) (header : Bool) (img : List Byte) : Option Nat :=
  failedCheck s.fw.fuses s.asm (s.tun t).stepping 2 header img

/-- The verdict of a Tun's boot ROM on its image, by its own fuses (08 R264, R269). -/
def State.bootFails (s : State) (t : TunId) (img : List Byte) : Option Nat :=
  failedCheck (s.flash t).fuses (s.tun t).asm (s.tun t).stepping 2 false img

/-- The first check a Tun bundle fails for any Tun of the tray. -/
def State.bundleFails (s : State) (img : List Byte) : Option Nat := (allTuns.filterMap fun t => s.tunFails t false img).head?

/-! ### Boot -/

/-- The Maltster boot ROM runs the first image that passes: the selected bank, the other, the golden image. Firmware that runs from
another than the selected one marks the failed banks, rewrites the header unless it is the golden one, and logs. With none left, or a
flash whose SFDP table fails, nothing runs (08 R260, R266, R267). -/
def execMaltsterBootVerify (s : State) : Res :=
  if s.malt.alive || s.malt.imageOk then .next s else
  let sel := selectedBank s.fw.maltHdr
  let run (s : State) (bank : BitVec 2) (img : List Byte) : State :=
    (s.modMalt fun y => { y with
        imageOk := true, imageFailed := false, reeval := true, bank := bank, fwVersion := BitVec.ofNat 32 (leAt img 8 4),
        row := s.tray.trayId })
  let code (b : Bool) : BitVec 2 := if b then 1 else 0
  let mark (s : State) (b : Bool) : State :=
    { s with fw := s.fw.setMaltBank b { s.fw.maltBank b with state := .invalid } }
  if s.fw.maltSfdp = false then .next (s.modMalt fun y => { y with imageFailed := true }) else
  match s.maltFails (s.fw.maltBank sel).bytes with
  | none => .next (run s (code sel) (s.fw.maltBank sel).bytes)
  | some c1 =>
    let note (s : State) (b : BitVec 2) : State := s.log 3 0x30 0x0081 ([b.setWidth 8] ++ halfBytes (checkStatus c1))
    match s.maltFails (s.fw.maltBank (!sel)).bytes with
    | none =>
      let s := mark (run s (code (!sel)) (s.fw.maltBank (!sel)).bytes) sel
      let k := s.fw.maltBank (!sel)
      .next (note { s with fw := { (s.fw.setMaltBank (!sel) { k with state := .active }) with
        maltHdr := writeHeader s.fw.maltHdr (!sel) } } (code (!sel)))
    | some _ =>
      match s.maltFails s.fw.maltGolden.bytes with
      | none => .next (note (mark (mark (run s 2 s.fw.maltGolden.bytes) sel) (!sel)) 2)
      | some _ => .next (s.modMalt fun y => { y with imageFailed := true })

/-- The Maltster checks the header of each Tun's selected bank at its start, before it answers or just after; a failure, of the flash's SFDP
table too (assumption 181, DEDUCED), begins a golden re-flash (08 R260, R268, R271). -/
def execTunHeaderCheck (t : TunId) (s : State) : Res :=
  if (s.malt.alive || s.malt.imageOk && s.malt.reeval) && !(s.mtun t).reflashing then
    let f := s.flash t
    if f.sfdp = false then .next (s.startReflash t stFlashFault) else
    match s.tunFails t true (f.bank (selectedBank f.hdr)).bytes with
    | none => .next s
    | some c => .next (s.startReflash t (checkStatus c))
  else .next s

/-- The Tun boot ROM loads its selected bank after cold-reset release and reports BOOT_RESULT; a Tun that passes runs its
firmware (08 R269, R270, R261). `flashOk` is the outcome of its reads; a device whose SFDP table fails is a failed one (08 R260). -/
def execTunBootLoad (t : TunId) (flashOk : Bool) (s : State) : Res :=
  let u := s.tun t
  if u.svc.state = .cold ∧ u.svc.hold = .none_ ∧ u.svc.bootResult = 0 then
    let f := s.flash t
    let sel := selectedBank f.hdr
    let r := if flashOk && f.sfdp then bootCode (s.bootFails t (f.bank sel).bytes) else 6
    .next ((s.modTun t fun u => { u with
      svc := { u.svc with bootResult := r, bootBank := sel, fwRunning := decide (r = 1) } }).reflashWrites t)
  else .next s

/-- The Maltster reads BOOT_RESULT every 10 ms of a power-on: a pass completes the power command, a failure starts the one
golden re-flash, and a second failure leaves the Tun off with TUN_POWER 4 (08 R271, R272). -/
def execBootResultPoll (t : TunId) (s : State) : Res :=
  let u := s.tun t
  let m := s.mtun t
  if s.malt.alive ∧ m.power = 2 ∧ u.reachable then
    let r := u.svc.bootResult
    if r = 0 then .next s
    else if r = 1 then .next (s.finishOn t stOk)
    else if m.reflashed then
      let s := (s.powerDown t 0 false).setPower t 4
      .next ((s.modMTun t fun m => { m with cycleAfter := none }).finishOn t (bootStatus r))
    else
      let s := (s.powerDown t 0 false).modMTun t fun m => { m with onAfterReflash := true }
      .next (s.startReflash t (bootStatus r))
  else .next s

/-- A golden re-flash of a Tun's selected bank ends; the power-on that waited for it goes on (08 R271). -/
def execGoldenReflashDone (t : TunId) (s : State) : Res :=
  if s.malt.alive ∧ (s.mtun t).reflashing ∧ tunOwns s t = false then
    let f := s.flash t
    let sel := selectedBank f.hdr
    let f := { f.setBank sel { state := .active, bytes := s.fw.tunGolden } with recoveries := satInc f.recoveries }
    let s := (s.setFlash t f).log 3 (tunObj t) 0x0080 ([if sel then 1 else 0] ++ halfBytes (s.mtun t).failStatus)
    .next ((s.modMTun t fun m => { m with headerBad := false, reflashed := true, reflashing := false }).resumeOn t)
  else .next s

/-! ### Staging -/

/-- Owner of a stage for a source; a native frame over MCTP has its bus as path (08 R274). -/
def ownerOf : Src → Owner
  | .raw p => .raw p
  | .mctp b _ => .raw (.sb b)

def Fw.inProgress (fw : Fw) : Bool :=
  fw.stage == .erasing || fw.stage == .receiving || fw.stage == .verifying || fw.stage == .copying

def Fw.armedAny (fw : Fw) : Bool := fw.armedMalt || fw.armedTun

/-- The Maltster bank a Maltster image is staged to: the one not running, bank A under the golden image (08 staging). -/
def State.stageBank (s : State) : Bool := s.malt.bank == 0

/-- Replies the stage command owed, if any. -/
def State.stageReply (s : State) (status : Half) (payload : List Byte) : State :=
  if s.fw.replyDue then (s.modFw fun y => { y with replyDue := false }).finish 0x30 status payload else s

/-- Every PENDING Tun bank leaves that state for `st`. -/
def State.unpendTuns (s : State) (st : BankState) : State :=
  let fix (k : Bank) : Bank := if k.state = .pending then { k with state := st } else k
  (s.modFw fun y => { y with flash := Quad.map (fun f => { f with a := fix f.a, b := fix f.b }) s.fw.flash })

def State.unpendMalt (s : State) (st : BankState) : State :=
  let fix (k : Bank) : Bank := if k.state = .pending then { k with state := st } else k
  (s.modFw fun y => { y with maltA := fix s.fw.maltA, maltB := fix s.fw.maltB })

/-- The stage begins: the target PARTIAL and erased, a PENDING bank of its kind out of ARMED_KINDS (08 Table 08-9). -/
def State.beginStage (s : State) (o : Owner) (kind len : Nat) : State :=
  let s := if kind = 1 then s.unpendMalt .valid else s.unpendTuns .valid
  let b := s.stageBank
  let fw := if kind = 1 then { (s.fw.setMaltBank b { state := .partial_, bytes := [] }) with armedMalt := false }
            else { s.fw with staging := { state := .partial_, bytes := [] }, armedTun := false }
  { s with fw := { fw with stage := .erasing, owner := o, kind := kind, length := len, progress := 0, rerun := false } }

/-- STAGE_BEGIN as checked (08 R273, R274): a status, or the begun stage whose reply follows the erase. -/
def State.stageBegin (s : State) (o : Owner) (kind len : Nat) : Half × State :=
  if (kind ≠ 1 ∧ kind ≠ 2) ∨ len < 0x200 ∨ maxImage kind < len then (stBadParam, s)
  else if s.fw.inProgress ∧ s.fw.owner ≠ o then (stStageBusy, s)
  else if s.fw.stage = .activating then (stStageSequence, s)
  else (stOk, (s.stageReply stStageSequence []).beginStage o kind len)

/-- Programs the next bytes of the image (08 R275). -/
def State.program (s : State) (data : List Byte) : State :=
  let b := s.stageBank
  let fw := if s.fw.kind = 1 then
      s.fw.setMaltBank b { s.fw.maltBank b with bytes := (s.fw.maltBank b).bytes ++ data }
    else { s.fw with staging := { s.fw.staging with bytes := s.fw.staging.bytes ++ data } }
  { s with fw := { fw with progress := s.fw.progress + data.length } }

/-- STAGE_DATA (08 R274, R275). -/
def State.stageData (s : State) (o : Owner) (off : Nat) (data : List Byte) : Half × State :=
  if s.fw.inProgress ∧ s.fw.owner ≠ o then (stStageBusy, s)
  else if s.fw.stage = .receiving ∧ s.fw.owner = o ∧ off = s.fw.progress ∧ off + data.length ≤ s.fw.length then
    (stOk, s.program data)
  else (stStageSequence, s)

/-- STAGE_COMMIT (08 R274, R276): `stOk` means accepted, verification begins. -/
def State.stageCommit (s : State) (o : Owner) (kind : Nat) : Half × State :=
  if s.fw.inProgress ∧ s.fw.owner ≠ o then (stStageBusy, s)
  else if s.fw.stage = .receiving ∧ s.fw.owner = o ∧ kind = s.fw.kind ∧ s.fw.progress = s.fw.length then
    (stOk, (s.modFw fun y => { y with stage := .verifying }))
  else (stStageSequence, s)

/-- STAGE_ABORT or CancelUpdate (08 Table 08-9): PENDING banks become VALID, ARMED_KINDS cleared. -/
def State.stageAbort (s : State) (o : Owner) : Half × State :=
  if s.fw.stage = .activating then (stStageSequence, s)
  else if s.fw.inProgress ∧ s.fw.owner ≠ o then (stStageBusy, s)
  else
    let s := ((s.stageReply stStageSequence []).unpendTuns .valid).unpendMalt .valid
    (stOk, s.modFw fun y =>
      { y with stage := .idle, owner := .none_, armedMalt := false, armedTun := false, request := none, rerun := false })

def StageState.code : StageState → BitVec 4
  | .idle => 0
  | .erasing => 1
  | .receiving => 2
  | .verifying => 3
  | .copying => 4
  | .armed => 5
  | .activating => 6
  | .failed => 8

def Owner.code : Owner → BitVec 3
  | .none_ => 0
  | .raw p => BitVec.ofNat 3 (1 + p.num)
  | .pldm => 7

/-- FW_STAGE_STATE (08 Table 08-11). -/
def Fw.stageWord (fw : Fw) : Word :=
  fieldAt fw.owner.code 29 ||| bitAt fw.armedTun 25 ||| bitAt fw.armedMalt 24 ||| fieldAt fw.lastError 8 |||
  (if fw.inProgress then fieldAt (BitVec.ofNat 4 fw.kind) 4 else 0) ||| fieldAt fw.stage.code 0

/-- STAGE_STATUS payload (08 Table 08-6). -/
def Fw.statusBytes (fw : Fw) : List Byte :=
  bytesLE 4 fw.stageWord.toNat ++ bytesLE 4 fw.progress ++ bytesLE 4 fw.length ++ halfBytes fw.lastError ++ [0, 0]

/-- RequestFirmwareData for the next chunk (08 R277). -/
def State.requestData (s : State) : State :=
  let n := min (min s.fw.maxTransfer 512) (s.fw.length - s.fw.progress)
  (s.modFw fun y => { y with request := some (s.fw.progress, n), requestTries := 0 }).emitMalt (.fwData s.fw.progress n)

/-- The staging erase completes (08 Table 08-9). -/
def execStageEraseDone (s : State) : Res :=
  if s.malt.alive ∧ s.fw.stage = .erasing then
    let s := (s.modFw fun y => { y with stage := .receiving })
    if s.fw.owner = .pldm then .next s.requestData else .next (s.stageReply stOk [])
  else .next s

/-- The set is armed (08 Table 08-9, event 0x0082). -/
def State.arm (s : State) : State :=
  let k : Byte := (if s.fw.armedMalt then 1 else 0) ||| (if s.fw.armedTun then 2 else 0)
  (s.modFw fun y => { y with stage := .armed }).log 0 0x30 0x0082 [k]

/-- Tells a PLDM owner a completion, or replies to the native command (08 R276, R278). -/
def State.stageTell (s : State) (cmd : Byte) (status : Half) : State :=
  if s.fw.owner = .pldm then s.emitMalt (.fwComplete cmd (if status = 0 then 0 else 1)) else s.stageReply status []

/-- The stage fails; an image that fails its verification again after a restart is logged (08 Table 08-9, event 0x0084). -/
def State.stageFails (s : State) (status : Half) : State :=
  let s := if s.fw.rerun then s.log 2 0x30 0x0084 ([BitVec.ofNat 8 s.fw.kind] ++ halfBytes status) else s
  s.modFw fun y => { y with stage := .failed, lastError := status, rerun := false }

/-- The unselected bank of every Tun whose flash the Maltster owns is `k` (08 R261, R276). -/
def State.putCopies (s : State) (k : Bank) : State :=
  allTuns.foldl (fun s t =>
    let f := s.flash t
    if tunOwns s t then s else s.setFlash t (f.setBank (!(selectedBank f.hdr)) k)) s

/-- Copying to the Tuns' unselected banks begins: PARTIAL until it is done (08 R276, R283). -/
def State.beginCopy (s : State) : State := s.putCopies { state := .partial_ }

/-- Verification ends (08 Table 08-9). -/
def execStageVerifyDone (s : State) : Res :=
  if s.malt.alive ∧ s.fw.stage = .verifying then
    let b := s.stageBank
    if s.fw.kind = 1 then
      let k := s.fw.maltBank b
      match s.maltFails k.bytes with
      | none =>
        let s := { s with fw := { (s.fw.setMaltBank b { k with state := .pending }) with armedMalt := true, rerun := false } }
        let s := if s.fw.owner = .pldm then (s.stageTell 0x17 0).stageTell 0x18 0 else s.stageTell 0 0
        .next s.arm
      | some c =>
        let s := { s with fw := s.fw.setMaltBank b { k with state := .invalid } }
        .next ((s.stageFails (checkStatus c)).stageTell 0x17 (checkStatus c))
    else
      match s.bundleFails s.fw.staging.bytes with
      | none =>
        let s := (s.modFw fun y => { y with stage := .copying, staging := { s.fw.staging with state := .valid } }).beginCopy
        if s.fw.owner = .pldm then .next (s.stageTell 0x17 0) else .next s
      | some c =>
        let s := s.modFw fun y => { y with staging := { s.fw.staging with state := .invalid } }
        .next ((s.stageFails (checkStatus c)).stageTell 0x17 (checkStatus c))
  else .next s

/-- The copies to every Tun's unselected bank end, each verified by checks 5 and 6; `writeOk` false is a failed flash write,
and so is a device whose SFDP table fails (08 R260, R276, Table 08-9). A copy to a Tun-owned flash waits (08 R261). -/
def execStageCopyDone (writeOk : Bool) (s : State) : Res :=
  if s.malt.alive ∧ s.fw.stage = .copying ∧ ¬ (allTuns.any fun t => tunOwns s t) then
    let img := s.fw.staging.bytes
    match s.bundleFails img with
    | some c =>
      .next (((s.putCopies { state := .invalid, bytes := img }).stageFails (checkStatus c)).stageTell 0x18 (checkStatus c))
    | none =>
      if writeOk && allTuns.all fun t => (s.flash t).sfdp then
        let s := s.putCopies { state := .pending, bytes := img }
        .next ((s.modFw fun y => { y with armedTun := true, rerun := false }).stageTell 0x18 0).arm
      else
        let s := s.putCopies { state := .invalid, bytes := img }
        .next ((s.modFw fun y => { y with stage := .failed, lastError := stFlashFault, rerun := false }).stageTell 0x18 stFlashFault)
  else .next s

/-- A PENDING bank of an armed set that is verified again: INVALID where it fails, VALID once the set is armed no more. -/
def Bank.rechecked (fails : Bool) (k : Bank) : Bank :=
  if k.state = .pending then { k with state := if fails then .invalid else .valid } else k

/-- An armed set verified again after a restart (08 Table 08-10): every PENDING bank, and the staging copy of a Tun bundle. Any failure
disarms the set: the failing banks are INVALID, the others VALID (assumption 169, DEDUCED). -/
def State.recheck (s : State) : State :=
  let badM := if s.fw.armedMalt then s.maltFails (s.fw.maltBank s.stageBank).bytes else none
  let tunBad (t : TunId) : Option Nat :=
    if s.fw.armedTun then let f := s.flash t; s.tunFails t false (f.bank (!(selectedBank f.hdr))).bytes else none
  let badS := if s.fw.armedTun then s.bundleFails s.fw.staging.bytes else none
  match (badM :: badS :: allTuns.map tunBad).filterMap id with
  | [] => s
  | c :: _ =>
    let put (s : State) (t : TunId) : State :=
      let f := s.flash t
      s.setFlash t { f with a := f.a.rechecked (tunBad t).isSome, b := f.b.rechecked (tunBad t).isSome }
    let s := (allTuns.foldl put s).log 2 0x30 0x0084 ([if badM.isSome then 1 else 2] ++ halfBytes (checkStatus c))
    s.modFw fun y => { y with
      maltA := y.maltA.rechecked badM.isSome, maltB := y.maltB.rechecked badM.isSome,
      staging := if badS.isSome then { y.staging with state := .invalid } else y.staging,
      stage := .failed, armedMalt := false, armedTun := false, lastError := checkStatus c }

/-- Staging after a Maltster restart (08 R285, Table 08-10): a verification reruns, a copy starts again from its verified staging copy. -/
def execStageRestartRecovery (s : State) : Res :=
  if s.malt.alive ∧ s.fw.recover then
    let s := (s.modFw fun y => { y with recover := false, owner := .none_ })
    match s.fw.stage with
    | .erasing | .receiving => .next (s.modFw fun y => { y with stage := .failed, lastError := stStageInterrupted })
    | .copying =>
      match s.bundleFails s.fw.staging.bytes with
      | none => .next s.beginCopy
      | some c => .next ((s.modFw fun y => { y with staging := { y.staging with state := .invalid } }).stageFails (checkStatus c))
    | .armed | .failed => if s.fw.armedAny then .next s.recheck else .next s
    | .verifying | .activating | .idle => .next s
  else .next s

/-! ### Activation -/

/-- For an armed Tun bundle each Tun's boot header selects its PENDING bank (08 R279, R280 step 2). -/
def State.selectTuns (s : State) : State :=
  if s.fw.armedTun = false then s else
  allTuns.foldl (fun s t =>
    let f := s.flash t
    let sel := selectedBank f.hdr
    if (f.bank (!sel)).state = .pending then s.setFlash t { f with hdr := writeHeader f.hdr (!sel) } else s) s

/-- PENDING banks become ACTIVE and the previously active VALID; the journal and ARMED_KINDS clear (08 R280 steps 4, 5). -/
def State.finishActivation (s : State) : State :=
  let fix (st : BankState) : BankState := match st with | .pending => .active | .active => .valid | x => x
  let fixF (f : TunFlash) : TunFlash :=
    { f with a := { f.a with state := fix f.a.state }, b := { f.b with state := fix f.b.state } }
  let fw := s.fw
  let maltFell := fw.armedMalt && fw.maltA.state != .pending && fw.maltB.state != .pending
  let kinds : Byte := (if fw.armedMalt && !maltFell then 1 else 0) ||| (if fw.armedTun then 2 else 0)
  let fw := if fw.armedTun then { fw with flash := Quad.map fixF fw.flash } else fw
  let fw := if fw.armedMalt ∧ ¬ maltFell then
    { fw with maltA := { fw.maltA with state := fix fw.maltA.state }, maltB := { fw.maltB with state := fix fw.maltB.state } } else fw
  let fw := { fw with
    stage := .idle, journal := false, armedMalt := false, armedTun := false, owner := .none_,
    lastError := if maltFell then stImageInvalid else fw.lastError }
  ({ s with fw := fw }).log 1 0x30 0x0083 [kinds]

/-- An activation point: the Maltster's start or an opening of the main path, every Tun OFF, the main path open and the set
armed (08 R279-R282). With ACTIVATING journalled the activation is completed. -/
def execActivation (s : State) : Res :=
  if s.malt.alive ∧ ¬ s.tray.mainClosed ∧ allOff s then
    if s.fw.journal then .next s.selectTuns.finishActivation
    else if (s.fw.stage = .armed ∨ s.fw.stage = .failed) ∧ s.fw.armedAny then
      let s := (s.modFw fun y => { y with stage := .activating, journal := true }).selectTuns
      if s.fw.armedMalt then
        .next (s.modFw fun y => { y with maltHdr := writeHeader s.fw.maltHdr s.stageBank }).restartMalt
      else .next s.finishActivation
    else .next s
  else .next s

/-! ### PLDM for firmware update (08 R277, R278) -/

/-- VERSION of an image (08 Table 08-3). -/
def imageVersion (img : List Byte) : Word := BitVec.ofNat 32 (leAt img 8 4)

/-- A bus is served and the Maltster can be addressed on it: in I3C mode once it has a dynamic address (06 R174, R178). -/
def State.busServes (s : State) (b : Bus) : Bool :=
  let w := s.bus b
  s.malt.alive && w.serving && (!w.modeNow || w.dynAddr.isSome)

/-- A PLDM request on a bus: none is answered before an EID is assigned, and a ninth MCTP request in progress takes no effect
(06 R198, R200, assumption 165, PRESUMED: completion code ERROR_NOT_READY). `act` gives the effect, the completion code and the data. -/
def State.pldmAsk (s : State) (b : Bus) (type cmd : Byte) (act : State → State × Byte × List Byte) : Res :=
  if s.busServes b && (s.bus b).eid != 0 then
    if 8 ≤ s.malt.mctpBusy.length then .next (s.emitMalt (.pldm b type cmd 0x04 []))
    else
      let r := act s
      .next (r.1.emitMalt (.pldm b type cmd r.2.1 r.2.2))
  else .next s

/-- The one device descriptor: the IANA enterprise number (DSP0267 type 0x0001, assumption 167, PRESUMED). -/
def execQueryDeviceIdentifiers (b : Bus) (s : State) : Res :=
  s.pldmAsk b 5 0x01 fun s => (s, 0, bytesLE 4 8 ++ [1, 1, 0, 4, 0] ++ bytesLE 4 Config.ianaNumber.toNat)

/-- VERSION of a PENDING bank; 0 where neither is. -/
def pendingVersion (a b : Bank) : Word :=
  if a.state = .pending then imageVersion a.bytes else if b.state = .pending then imageVersion b.bytes else 0

/-- Components 0x0001 and, once per Tun, 0x0002, with their versions and DC power cycle as the activation method (08 Table 08-7). -/
def State.fwComponents (s : State) : List FwComponent :=
  { id := 1, index := 0, active := s.malt.fwVersion, pending := pendingVersion s.fw.maltA s.fw.maltB } ::
    allTuns.map fun t =>
      let f := s.flash t
      { id := 2, index := t.num, active := imageVersion (f.bank (selectedBank f.hdr)).bytes, pending := pendingVersion f.a f.b }

def execGetFirmwareParameters (b : Bus) (s : State) : Res :=
  s.pldmAsk b 5 0x02 fun s => (s.emitMalt (.fwParameters b s.fwComponents), 0, [])

/-- RequestUpdate (08 R278): ALREADY_IN_UPDATE_MODE is 0x81. -/
def execRequestUpdate (b : Bus) (maxTransfer : Nat) (s : State) : Res :=
  s.pldmAsk b 5 0x10 fun s =>
    if s.fw.updateMode ∨ s.fw.inProgress then (s, 0x81, [])
    else (s.modFw fun y => { y with updateMode := true, maxTransfer := maxTransfer }, 0, [])

def execPassComponentTable (b : Bus) (s : State) : Res :=
  s.pldmAsk b 5 0x13 fun s => (s, if s.fw.updateMode then 0 else 0x80, [])

/-- UpdateComponent begins a stage with PLDM as owner (08 Table 08-9). -/
def execUpdateComponent (b : Bus) (comp size : Nat) (s : State) : Res :=
  s.pldmAsk b 5 0x14 fun s =>
    if s.fw.updateMode = false then (s, 0x80, [])
    else
      let r := s.stageBegin .pldm comp size
      if r.1 = 0 then (r.2, 0, []) else (s, if r.1 = stBadParam then 0x02 else 0x01, [])

/-- The answer to RequestFirmwareData programs a chunk; after the last, TransferComplete and verification (08 R277). -/
def execFirmwareDataReceive (data : List Byte) (s : State) : Res :=
  match s.fw.request with
  | none => .next s
  | some (_, n) =>
    if s.malt.alive ∧ s.fw.stage = .receiving ∧ s.fw.owner = .pldm ∧ data.length = n then
      let s := s.program data
      let s := (s.modFw fun y => { y with request := none })
      if s.fw.progress = s.fw.length then
        .next ((s.modFw fun y => { y with stage := .verifying }).emitMalt (.fwComplete 0x16 0))
      else .next s.requestData
    else .next s

/-- No answer for 1 s: retried three times, then the update is cancelled and the stage FAILED (08 Table 08-7). -/
def execFirmwareDataRetry (s : State) : Res :=
  match s.fw.request with
  | none => .next s
  | some (off, n) =>
    if s.malt.alive = false then .next s
    else if s.fw.requestTries < 3 then
      .next ((s.modFw fun y => { y with requestTries := s.fw.requestTries + 1 }).emitMalt (.fwData off n))
    else .next (s.modFw fun y => { y with request := none, updateMode := false, stage := .failed })

/-- ActivateFirmware: self-contained activation is refused with ERROR_INVALID_DATA (08 Table 08-7). -/
def execActivateFirmware (b : Bus) (selfContained : Bool) (s : State) : Res :=
  s.pldmAsk b 5 0x1A fun s =>
    if selfContained then (s, 0x02, []) else (s.modFw fun y => { y with updateMode := false }, 0, [])

def execGetStatus (b : Bus) (s : State) : Res := s.pldmAsk b 5 0x1B fun s => (s, 0, [s.fw.stage.code.setWidth 8])

/-- CancelUpdateComponent asks for no more data of the component; the stage stays where Table 08-9 has it, its target PARTIAL (08 R277,
R284). -/
def execCancelUpdateComponent (b : Bus) (s : State) : Res :=
  s.pldmAsk b 5 0x1C fun s =>
    (if s.fw.owner = .pldm then s.modFw fun y => { y with request := none } else s, 0, [])

def execCancelUpdate (b : Bus) (s : State) : Res :=
  s.pldmAsk b 5 0x1D fun s =>
    let r := s.stageAbort .pldm
    if r.1 = 0 then (r.2.modFw fun y => { y with updateMode := false }, 0, []) else (s, 0x01, [])

end Sys2Proof.Machine
end

