-- ==== Sys2Proof/Machine/Service.lean ====
section
/-! DEFINITION. The service-state machine and the bring-up stages (05 R140-R168). -/

namespace Sys2Proof.Machine
open Sys2Proof

/-- Every fitted stack has passed training (05 R145). -/
def Tun.casksPassed (t : Tun) : Bool := (t.svc.caskCodes.take t.asm.casks).all (· == 3) && t.svc.caskCodes.length == t.asm.casks

/-- Some fitted stack failed its last training (05 R149). -/
def Tun.caskFailed (t : Tun) : Bool := t.svc.caskFail != 0

/-- Training of all fitted stacks together begins (05 R145, R150). -/
def Tun.beginTraining (t : Tun) : Tun :=
  { t with svc := { t.svc with caskTraining := true, caskFail := 0, caskCodes := List.replicate t.asm.casks 2 } }

/-- The Brew-alignment stage begins, and completes at once when ALIGNED is set (05 R158); a generation-1 rack performs none
(21 R802). -/
def Tun.beginAlign (t : Tun) : Tun :=
  if ¬ t.rack.gensel then { t with svc := { t.svc with brewUnaligned := true } }
  else if t.sched.aligned then { t with svc := { t.svc with alignDone := true } }
  else { t with svc := { t.svc with aligning := true } }

/-- Begins the next Full-service stage if PALE and STAY_PALE allow (05 R145, R146, R149, R168). The rate step's first round
begins with its own command. -/
def Tun.nextStage (t : Tun) : Tun :=
  let v := t.svc
  if v.state ≠ .pale ∨ v.stayPale ∨ v.caskTraining ∨ v.aligning ∨ v.alignDone ∨ v.brewUnaligned then t
  else if t.caskFailed then t
  else if ¬ t.casksPassed then t.beginTraining
  else if v.stepRound = 0xE then t.beginAlign
  else t

/-- COLD to PALE once every port trained or failed, or 1,500 ms have passed (05 R140). -/
def Tun.enterPale (now : Nat) (t : Tun) : Tun :=
  if t.svc.state = .cold ∧ t.svc.hold = .none_ ∧ t.svc.fwRunning then
    ({ t with svc := { t.svc with state := .pale } }).nextStage.announceState now
  else t

def execPaleWindowClose (t : TunId) (s : State) : Res := onTun t s (Tun.enterPale s.now)

/-- Codes a training may end with: 3 passed, 8 to E failed (05 Table 05-6). -/
def trainCode (c : BitVec 4) : Bool := c == 3 || (decide (8 ≤ c.toNat) && decide (c.toNat ≤ 14))

/-- CASK_TRAIN_FAIL from the codes: bit n set when stack n did not pass (05 R149). -/
def failMask (codes : List (BitVec 4)) : Byte :=
  (List.range codes.length).foldl (fun m n => if codes.getD n 3 = 3 then m else m ||| (1#8 <<< n)) 0

/-- CASK_PLL_LOCK from the codes: a stack whose PLL did not lock ended its training with 0xD (04 Table 04-2, 05 Table 05-6). -/
def lockMask (codes : List (BitVec 4)) : Byte :=
  (List.range codes.length).foldl (fun m n => if codes.getD n 0 = 0xD then m else m ||| (1#8 <<< n)) 0

/-- Training ends with one code per fitted stack; a failure keeps the Tun in PALE with every stack in self-refresh
(05 R148, R149). -/
def Tun.trainingDone (codes : List (BitVec 4)) (t : Tun) : Tun :=
  if t.svc.caskTraining ∧ codes.length = t.asm.casks ∧ codes.all trainCode then
    let f := failMask codes
    let u := { t with
      svc := { t.svc with caskTraining := false, caskCodes := codes, caskFail := f },
      clk := { t.clk with caskLock := lockMask codes } }
    if f = 0 then u.nextStage else u.selfRefreshAll
  else t

def execCaskTrainingDone (t : TunId) (codes : List (BitVec 4)) (s : State) : Res := onTun t s (Tun.trainingDone codes)

/-- The next rate-step round, once the round under way has brought its ports back; after round 13 the step is complete
(05 R153-R157, R168). A step once begun continues whether or not STAY_PALE is set (R146). -/
def Tun.rateRound (now : Nat) (t : Tun) : Tun :=
  let v := t.svc
  if ¬ t.casksPassed ∨ v.caskTraining ∨ ¬ t.roundSettled then t
  else if v.stepRound = 0xD ∧ (v.state = .pale ∨ v.state = .draining) then
    ({ t with svc := { v with stepRound := 0xE } }).nextStage
  else if v.stepRound.toNat < 0xD ∧ v.state = .pale ∧ (v.stepRound ≠ 0 ∨ ¬ v.stayPale) then
    ({ t with svc := { v with stepRound := v.stepRound + 1 } }).stepDown now (v.stepRound.toNat + 1)
  else t

def execRateStepRound (t : TunId) (s : State) : Res := onTun t s (Tun.rateRound s.now)

/-- Alignment not complete 2.0 s after its stage began (05 R158). -/
def Tun.alignTimeout (t : Tun) : Tun :=
  if t.svc.aligning then { t with svc := { t.svc with aligning := false, brewUnaligned := true } } else t

def execAlignmentTimeout (t : TunId) (s : State) : Res := onTun t s Tun.alignTimeout

/-- The four conditions of 05 R159. -/
def Tun.fullReady (t : Tun) : Bool :=
  t.svc.state == .pale && t.casksPassed && t.svc.stepRound == 0xE && (t.svc.alignDone || t.svc.brewUnaligned) && !t.svc.stayPale

def Tun.enterFull (now : Nat) (t : Tun) : Tun :=
  if t.fullReady then ({ t with svc := { t.svc with state := .full } }).cellarOpen.announceState now else t

def execEnterFull (t : TunId) (s : State) : Res := onTun t s (Tun.enterFull s.now)

/-- A request Table 05-8 does not allow (05 R167). -/
def Tun.refuse (t : Tun) : Tun := { t with svc := { t.svc with reqRefused := true } }

/-- A request of SERVICE_CTRL: a Tun whose register cannot be reached sees none, a warm hold refuses every one (05 R167). -/
def Tun.request (f : Tun → Tun) (t : Tun) : Tun :=
  if ¬ t.reachable then t else if t.svc.hold ≠ .none_ then t.refuse else f t

/-- FENCE: on every link, engines stopped, FENCED until a reset (05 R161, R167, R169). `cause` is FENCE_CAUSE. -/
def Tun.fenceRequest (now : Nat) (cause : BitVec 2) (t : Tun) : Tun :=
  t.request (fun t =>
    if t.svc.state = .fenced then t.refuse else
    let u := t.fenceAll now
    { u with svc := { u.svc with fenceCause := cause, resumeTo := 0, drainDone := false, drainTimeout := false } })

/-- FENCE_CAUSE of a FENCE written over a path (05 Table 05-9). -/
def fenceCauseOf : Path → BitVec 2
  | .sideband => 2
  | _ => 1

def execServiceFence (t : TunId) (p : Path) (s : State) : Res := onTun t s (Tun.fenceRequest s.now (fenceCauseOf p))

/-- Entry to DRAINING: the drain notice goes out with the next flit of every port (05 R168, 09 R334, R336). -/
def Tun.beginDrain (now : Nat) (back : BitVec 2) (t : Tun) : Tun :=
  (({ t with svc := { t.svc with
    state := .draining, resumeTo := back, drainDone := false, drainTimeout := false, drainFrom := now } }).modPorts fun p =>
      { p with drainAt := none }).planeDrain.announceState now

/-- DRAIN from PALE or FULL (05 R161, R168). -/
def Tun.drainRequest (now : Nat) (t : Tun) : Tun :=
  t.request (fun t =>
    match t.svc.state with
    | .pale => t.beginDrain now 2
    | .full => t.beginDrain now 3
    | _ => t.refuse)

def execServiceDrain (t : TunId) (s : State) : Res := onTun t s (Tun.drainRequest s.now)

/-- RESUME from DRAINING to the state of RESUME_TO; a paused stage continues (05 R161, R146, R168). -/
def Tun.resumeRequest (now : Nat) (t : Tun) : Tun :=
  t.request (fun t =>
    if t.svc.state = .draining then
      let u := { t with svc := { t.svc with
        state := if t.svc.resumeTo = 3 then .full else .pale, resumeTo := 0, drainDone := false, drainTimeout := false } }
      (u.nextStage.announceState now).arbitrate now
    else t.refuse)

def execServiceResume (t : TunId) (s : State) : Res := onTun t s (Tun.resumeRequest s.now)

/-- RETRY_CASK in PALE while no training is under way retrains every fitted stack (05 R150, R167). -/
def Tun.retryCask (t : Tun) : Tun :=
  t.request (fun t => if t.svc.state = .pale ∧ ¬ t.svc.caskTraining then t.beginTraining else t.refuse)

def execRetryCask (t : TunId) (s : State) : Res := onTun t s Tun.retryCask

/-- STAY_PALE stored; clearing it lets the next stage begin (05 R146). -/
def Tun.setStayPale (v : Bool) (t : Tun) : Tun :=
  if ¬ t.reachable then t else
  let u := { t with svc := { t.svc with stayPale := v } }
  if v then u else u.nextStage

def execStayPale (t : TunId) (v : Bool) (s : State) : Res := onTun t s (Tun.setStayPale v)

/-- SERVICE_CTRL: nothing without the key; STAY_PALE stored, and the highest request bit acted on (05 R165, R166). STAY_PALE
is stored, and may begin a stage, before the request bit acts (assumption 158, DESIGN CHOICE). -/
def Tun.writeServiceCtrl (now : Nat) (p : Path) (v : Word) (t : Tun) : Tun :=
  if bitsOf v 16 16 ≠ 0x5E7C#16 then t else
  let t := t.setStayPale (v.getLsbD 4)
  if v.getLsbD 0 then t.fenceRequest now (fenceCauseOf p)
  else if v.getLsbD 1 then t.drainRequest now
  else if v.getLsbD 2 then t.resumeRequest now
  else if v.getLsbD 3 then t.retryCask
  else t

/-- RESET_CTRL: nothing without the key; COLD over WARM (04 R127-R129). -/
def Tun.writeResetCtrl (now : Nat) (p : Path) (v : Word) (t : Tun) : Tun :=
  if bitsOf v 16 16 ≠ 0xA5C3#16 then t
  else if v.getLsbD 1 then t.coldRequest now (coldCause (.path p))
  else if v.getLsbD 0 then t.warmRequest now (warmCause (.path p))
  else t

/-- Crossbar, reorder buffer and engine outputs are empty (05 R168). -/
def Tun.drainDoneEvent (t : Tun) : Tun :=
  if t.svc.state = .draining ∧ t.isEmpty then { t with svc := { t.svc with drainDone := true } } else t

def execDrainDone (t : TunId) (s : State) : Res := onTun t s Tun.drainDoneEvent

/-- Not empty 10 ms after entry to DRAINING (05 R163). -/
def Tun.drainTimeoutEvent (t : Tun) : Tun :=
  if t.svc.state = .draining ∧ ¬ t.isEmpty then { t with svc := { t.svc with drainTimeout := true } } else t

def execDrainTimeout (t : TunId) (s : State) : Res := onTun t s Tun.drainTimeoutEvent

end Sys2Proof.Machine
end

