-- ==== Sys2Proof/Machine/Flags.lean ====
section
/-! DEFINITION. Register words computed from the state: identity, rack, service, clock, reset and conflict registers of a Tun
(01, 02, 04, 05, 08, 21, 22) and the front panel's LED codes (03 Table 03-12). -/

namespace Sys2Proof.Machine
open Sys2Proof

/-- TUN_IDENTITY (01 Table 01-4). -/
def Tun.identityWord (t : Tun) : Word :=
  0x04000000#32 ||| fieldAt t.stepping 20 ||| fieldAt t.asm.code 18 ||| fieldAt (BitVec.ofNat 2 t.col.num) 16 |||
    fieldAt t.rack.row 13 ||| fieldAt t.asm.caskMask 0

/-- RACK_CONFIG (02 Table 02-5). -/
def Tun.rackConfigWord (t : Tun) : Word :=
  bitAt t.rack.keeperOverride 15 ||| fieldAt t.rack.keeperRow 12 ||| fieldAt t.rack.keeperCol 10 |||
    bitAt t.rack.pairing 2 ||| fieldAt t.rack.plan 0

/-- ROW not below the tray count of the plan (02 R45). -/
def Tun.rowOutOfPlan (t : Tun) : Bool := decide (planTrays t.rack.plan ≤ t.rack.row.toNat)

/-- RACK_STATUS (02 Table 02-6). -/
def Tun.rackStatusWord (t : Tun) : Word :=
  fieldAt t.rack.foreignMarkers 16 ||| bitAt t.rack.planDefaulted 3 ||| bitAt t.rowOutOfPlan 2 ||| bitAt t.isKeeper 1

/-- SERVICE_STATE (05 Table 05-9). -/
def Tun.serviceWord (t : Tun) : Word :=
  let v := t.svc
  fieldAt v.earlyWrites 24 ||| fieldAt v.caskFail 16 ||| fieldAt v.stepRound 12 ||| bitAt v.brewUnaligned 11 |||
    bitAt v.drainDone 10 ||| bitAt v.drainTimeout 9 ||| bitAt v.caskTraining 8 ||| bitAt v.reqRefused 7 |||
    fieldAt v.fenceCause 5 ||| fieldAt v.resumeTo 3 ||| fieldAt v.state.code 0

/-- CASK_TRAIN_STATUS (05 R151, R152): untrained fitted stacks read 1. -/
def Tun.caskTrainWord (t : Tun) : Word :=
  (List.range t.asm.casks).foldl (fun w n => w ||| fieldAt (t.svc.caskCodes.getD n 1) (4 * n)) 0

def CoreRef.code : CoreRef → BitVec 2
  | .rack => 0
  | .holdover => 1
  | .localOsc => 2

/-- CLOCK_STATUS (04 Table 04-2). -/
def Tun.clockWord (t : Tun) : Word :=
  let c := t.clk
  fieldAt c.lossCount 24 ||| fieldAt c.caskLock 16 ||| bitAt c.refPresent 6 ||| bitAt c.hostOk 5 ||| bitAt c.mgmtLock 4 |||
    bitAt c.coreLock 3 ||| bitAt c.slewing 2 ||| fieldAt (if c.coreLock then c.coreRef.code else 0) 0

/-- RESET_STATUS (04 Table 04-9). -/
def Tun.resetStatusWord (t : Tun) : Word :=
  fieldAt t.svc.incarn 24 ||| fieldAt t.svc.warmCount 16 ||| fieldAt t.svc.lastCause 4 ||| bitAt (t.svc.hold == .warm) 0

/-- BOOT_STATUS (08 Table 08-5). -/
def Tun.bootWord (t : Tun) : Word := fieldAt t.svc.bootResult 8 ||| bitAt t.svc.bootBank 0

/-- CONFLICT_LAST (22 Table 22-4). -/
def Tun.conflictLastWord (t : Tun) : Word :=
  bitAt t.conflict.valid 31 ||| fieldAt t.conflict.paths 28 ||| fieldAt t.conflict.offset 2

/-- MALT_PROXY_CTRL (06 Table 06-9). -/
def Tun.proxyWord (t : Tun) : Word :=
  bitAt t.proxy.done 31 ||| bitAt t.proxy.busy 30 ||| fieldAt t.proxy.refused 8

end Sys2Proof.Machine
end

