-- ==== Sys2Proof/Machine/MaltRegs.lean ====
section
/-! DEFINITION. The Maltster's paged registers (06 R211, 07 R248, 08 R286): their reads, their writable bits and their
writes (06 R192). -/

namespace Sys2Proof.Machine
open Sys2Proof

/-- MALT_ID (06 Table 06-12). -/
def State.maltIdWord (s : State) : Word :=
  0x14000000#32 ||| fieldAt s.malt.stepping 20 ||| fieldAt s.malt.row 16 ||| bitAt s.tray.gensel 15

def State.maltStatusWord (s : State) : Word := fieldAt s.malt.restarts 16 ||| fieldAt s.malt.bank 0

/-- POWER_STATUS (06 Table 06-13); [3] and [2] are 1 while the contact is made (assumption 178, DESIGN CHOICE). -/
def State.powerStatusWord (s : State) : Word :=
  let t := s.tray
  bitAt t.partialSeat 6 ||| bitAt t.tripOver 5 ||| bitAt t.tripUnder 4 ||| bitAt t.prsntS 3 ||| bitAt t.prsntL 2 |||
    bitAt t.mainClosed 1 ||| bitAt t.pwrEn 0

/-- LOCATE_CTRL (07 Table 07-8). -/
def Malt.locateWord (m : Malt) : Word := bitAt m.locTray 22 ||| fieldAt m.locBays 16 ||| fieldAt m.locSeconds 0

/-- KEG_STATE (06 Table 06-15). -/
def Bay.word (b : Bay) : Word :=
  bitAt b.unlatchedRemoval 16 ||| fieldAt b.refusal 12 ||| bitAt b.powered 11 ||| bitAt b.accepted 10 ||| bitAt b.latched 9 |||
    bitAt b.present 8 ||| fieldAt b.kind 0

def BankState.code : BankState → BitVec 4
  | .empty => 0
  | .partial_ => 1
  | .valid => 2
  | .active => 3
  | .pending => 4
  | .invalid => 8

/-- VERSION of a Maltster bank; 0 unless VALID, ACTIVE or PENDING (08 Table 08-11). -/
def Bank.version (k : Bank) : Word :=
  match k.state with
  | .valid | .active | .pending => imageVersion k.bytes
  | _ => 0

/-- TUN_FLASHn (08 Table 08-11). -/
def State.flashWord (s : State) (t : TunId) : Word :=
  let f := s.flash t
  fieldAt f.recoveries 24 ||| bitAt (tunOwns s t) 16 ||| fieldAt f.b.state.code 8 ||| fieldAt f.a.state.code 4 |||
    bitAt (selectedBank f.hdr) 0

def RawState.count (s : State) (p : RawPath) : Byte := (s.raw p).overrunCount

/-- The six registers of a Tun's page (06 Table 06-14). -/
def State.tunPage (s : State) (t : TunId) : List Word :=
  let m := s.mtun t
  [fieldAt m.power 0, fieldAt m.rails 0, fieldAt m.pins 0, fieldAt m.temp 0, fieldAt m.incarnRec 0, fieldAt m.service 0]

/-- A Maltster register; `none` is a reserved page or offset (06 R211). -/
def State.maltReg (s : State) (page off : Nat) : Option Word :=
  let m := s.malt
  match page, off with
  | 0x00, 0x00 => some s.maltIdWord
  | 0x00, 0x04 => some m.fwVersion
  | 0x00, 0x08 => some s.maltStatusWord
  | 0x00, 0x0C => some (BitVec.ofNat 32 (msSince s m.bootTime / 1000))
  | 0x00, 0x10 => some (fieldAt m.alertStatus 0)
  | 0x00, 0x14 => some (fieldAt m.alertMask 0)
  | 0x01, 0x00 => some (bitAt m.buses.d1.modeStored 1 ||| bitAt m.buses.d0.modeStored 0)
  | 0x01, 0x04 => some (bitAt m.buses.d1.stuck 9 ||| bitAt m.buses.d0.stuck 8 ||| bitAt m.buses.d1.serving 1 ||| bitAt m.buses.d0.serving 0)
  | 0x01, 0x08 => some (fieldAt m.buses.d0.pecErrors 16 ||| fieldAt m.buses.d0.frameErrors 0)
  | 0x01, 0x0C => some (fieldAt m.buses.d1.pecErrors 16 ||| fieldAt m.buses.d1.frameErrors 0)
  | 0x01, 0x10 => some (fieldAt m.buses.d1.eid 8 ||| fieldAt m.buses.d0.eid 0)
  | 0x01, 0x14 => some (fieldAt (RawState.count s (.proxy .t1)) 24 ||| fieldAt (RawState.count s (.proxy .t0)) 16 |||
      fieldAt (RawState.count s (.sb .sb1)) 8 ||| fieldAt (RawState.count s (.sb .sb0)) 0)
  | 0x01, 0x18 => some (fieldAt (RawState.count s (.proxy .t3)) 8 ||| fieldAt (RawState.count s (.proxy .t2)) 0)
  | 0x01, 0x1C => some (fieldAt m.conflictLost 0)
  | 0x02, 0x00 => some s.powerStatusWord
  | 0x02, 0x04 => some (fieldAt s.tray.inputV 0)
  | 0x02, 0x08 => some (fieldAt s.tray.inputI 0)
  | 0x02, 0x0C => some (fieldAt s.tray.inputP 0)
  | 0x02, 0x10 => some 0
  | 0x08, 0x00 => some s.ledWord
  | 0x08, 0x04 => some s.bayLedWord
  | 0x08, 0x08 => some m.locateWord
  | 0x09, 0x00 => some (bitAt s.tray.leakSeen 1 ||| bitAt s.tray.leakLow 0)
  | 0x0A, 0x00 => some (BitVec.ofNat 32 m.log.length)
  | 0x0A, 0x04 => some (fieldAt m.logFirst 0)
  | 0x0B, 0x00 => some s.fw.stageWord
  | 0x0B, 0x04 => some (BitVec.ofNat 32 s.fw.progress)
  | 0x0B, 0x08 => some (BitVec.ofNat 32 s.fw.length)
  | 0x0B, 0x0C => some (fieldAt (BitVec.ofNat 4 (2 ^ (min s.fw.fuses.keyHashes.length 4) - 1)) 16 ||| fieldAt s.fw.fuses.floor 0)
  | 0x0B, 0x10 => some (fieldAt s.fw.maltGolden.state.code 12 ||| fieldAt s.fw.maltB.state.code 8 |||
      fieldAt s.fw.maltA.state.code 4 ||| bitAt (selectedBank s.fw.maltHdr) 0)
  | 0x0B, 0x14 => some s.fw.maltA.version
  | 0x0B, 0x18 => some s.fw.maltB.version
  | 0x0B, 0x1C => some (imageVersion s.fw.tunGolden)
  | p, o =>
    if p = 0x09 ∧ 4 ≤ o ∧ o ≤ 0x10 ∧ o % 4 = 0 then some (fieldAt (Quad.get m.boardTemp (TunId.fromNum (o / 4 - 1))) 0)
    else if 3 ≤ p ∧ p ≤ 6 then (if o % 4 = 0 then (s.tunPage (TunId.fromNum (p - 3)))[o / 4]? else none)
    else if p = 7 ∧ o % 4 = 0 ∧ o < 24 then some (s.bay (o / 4)).word
    else if p = 0x0B ∧ 0x20 ≤ o ∧ o < 0x30 ∧ o % 4 = 0 then some (s.flashWord (TunId.fromNum ((o - 0x20) / 4)))
    else if p = 0x0B ∧ 0x30 ≤ o ∧ o < 0x40 ∧ o % 4 = 0 then
      let f := s.flash (TunId.fromNum ((o - 0x30) / 4))
      some (imageVersion (f.bank (selectedBank f.hdr)).bytes)
    else none

/-- Bits of a register that a write can act on: its RW, WO and W1C fields (06 Tables 06-12 to 06-15). -/
def maltWritable (page off : Nat) : Word :=
  match page, off with
  | 0x00, 0x10 => 0xFF
  | 0x00, 0x14 => 0xFF
  | 0x01, 0x00 => 0x3
  | 0x02, 0x10 => 0x1
  | 0x08, 0x08 => 0x7FFFFF
  | 0x09, 0x00 => 0x2
  | p, o => if p = 7 ∧ o % 4 = 0 ∧ o < 24 then 0x10000 else 0

/-- REG_WRITE's effect: RW fields take (old AND NOT MASK) OR (VALUE AND MASK), W1C and WO bits act where both are 1
(06 R192). -/
def State.maltWrite (s : State) (page off : Nat) (value mask : Word) : State :=
  let act := value &&& mask
  let merge (old : Word) : Word := (old &&& ~~~mask) ||| act
  let m := s.malt
  match page, off with
  | 0x00, 0x10 =>
    let keep := m.alertStatus &&& ~~~(act.setWidth 8)
    { s with malt := { m with alertStatus := keep, alertAck := m.alertAck &&& keep, warnSeen := m.warnSeen && keep.getLsbD 2 } }
  | 0x00, 0x14 =>
    let mask := (merge (fieldAt m.alertMask 0)).setWidth 8
    let s' := { s with malt := { m with alertMask := mask } }
    if (m.alertStatus &&& m.alertMask &&& ~~~mask &&& ~~~m.alertAck) != 0 then (s'.ibiNow .sb0).ibiNow .sb1 else s'
  | 0x01, 0x00 =>
    let w := merge (bitAt m.buses.d1.modeStored 1 ||| bitAt m.buses.d0.modeStored 0)
    (s.modBus .sb0 fun b => { b with modeStored := w.getLsbD 0 }).modBus .sb1 fun b => { b with modeStored := w.getLsbD 1 }
  | 0x02, 0x10 =>
    if act.getLsbD 0 then (s.modTray fun y => { y with tripUnder := false, tripOver := false, partialSeat := false }) else s
  | 0x08, 0x08 =>
    let w := merge m.locateWord
    { s with malt := { m with locTray := w.getLsbD 22, locBays := bitsOf w 16 6, locSeconds := bitsOf w 0 16 } }
  | 0x09, 0x00 =>
    if act.getLsbD 1 ∧ ¬ s.tray.leakLow then (s.modTray fun y => { y with leakSeen := false }) else s
  | p, o =>
    if p = 7 ∧ act.getLsbD 16 then s.modBay (o / 4) fun b => { b with unlatchedRemoval := false } else s

end Sys2Proof.Machine
end

