-- ==== Sys2Proof/Machine/LinkPort.lean ====
section
/-! DEFINITION. Training, identity, port states, FENCE, link delay and nap of one port or fabric link (chapter 09), as events. -/

namespace Sys2Proof.Machine
open Sys2Proof

/-! ### Detection to LINKED (09 R307-R312, Table 09-6) -/

/-- The bay whose cartridge carries a port or link; a row mesh link is on the board (03 Table 03-10). -/
def bayOfPort (t : TunId) (id : Nat) : Option Nat :=
  if id < 230 then some t.num else if id = 259 then some 4 else if id = 260 then some 5 else none

/-- Lane records of a port's or link's lanes (03 R84). -/
def Tun.lanesOf (t : Tun) (id w : Nat) : List Nat :=
  if isRingId id then (List.range 8).map (8 * t.col.num + ·) else t.laneRecords id w

/-- The record of a lane; a cartridge with a bad LANE_CRC gives every lane PRESENT with preset 0 and no inversion (03 R88). That every lane
of the Tun is so marked, those without a record included (R89), is the model's choice (assumption 156, DESIGN CHOICE). -/
def Bay.lane (b : Bay) (i : Nat) : Option LaneRec :=
  if b.laneCrcBad then some { loss := 0, rxPreset := 0, txPreset := 0, polarity := false, present := true } else b.lanes[i]?

/-- Lanes present, and the cartridge accepted, latched and directed to train (03 R89, R91). -/
def State.lanesReady (s : State) (t : TunId) (id : Nat) : Bool :=
  match bayOfPort t id with
  | none => true
  | some n =>
    let b := s.bay n
    let u := s.tun t
    b.present && b.accepted && b.latched && b.ready &&
      (u.lanesOf id (u.planWidth id (u.port id))).all fun i => ((b.lane i).map (·.present)).getD false

/-- Service states in which ports train, once Brewmaster's firmware runs (09 Table 09-6, 05 R140). -/
def Tun.trains (t : Tun) : Bool :=
  t.svc.hold == .none_ && t.clk.coreLock && t.svc.fwRunning &&
    (t.svc.state == .cold || t.svc.state == .pale || t.svc.state == .full || t.svc.state == .draining)

/-- A Vorlauf link of a Tun whose row is out of the plan stays down (02 R45). -/
def Tun.heldDown (t : Tun) (id : Nat) : Bool := isRingId id && decide (t.trays ≤ t.row)

/-- Detection starts at Pale rate. -/
def Tun.portEnable (id : Nat) (t : Tun) : Tun :=
  let p := t.port id
  if ¬ t.hasPort id ∨ ¬ t.trains ∨ t.heldDown id ∨ p.disable ∨ p.link ≠ .disabled ∨ p.state ≠ .down then t
  else (t.modPort id fun p => { p with link := .detect, waiting := false, rateFull := false }).trainAnew id

def execPortEnable (t : TunId) (id : BitVec 9) (s : State) : Res :=
  onTun t s fun u => if s.lanesReady t id.toNat then u.portEnable id.toNat else u

/-- A lane with the taps of preset p, in units of 0.0125: the main tap is 1 less the magnitudes of the others (09 R310). -/
def LaneTx.preset (l : LaneTx) (p : Nat) : LaneTx :=
  { l with pre := -2 * ((p / 4 : Nat) : Int), post := -2 * ((p % 4 : Nat) : Int), main := 80 - 2 * ((p / 4 : Nat) : Int) - 2 * ((p % 4 : Nat) : Int) }

/-- Where a lane starts: TX_PRESET of its record, and 1 dB of peaking for each step of RX_PRESET; preset 0 without a record (09 R310). -/
def startLane (r : Option LaneRec) : LaneTx :=
  LaneTx.preset { peaking := (r.map (·.rxPreset.toNat)).getD 0 } ((r.map (·.txPreset.toNat)).getD 0)

/-- Each lane of a port or link as its equalisation starts. -/
def State.startLanes (s : State) (t : TunId) (id : Nat) : List LaneTx :=
  let u := s.tun t
  let w := (u.port id).widthNow
  match bayOfPort t id with
  | none => List.replicate w (startLane none)
  | some n => (u.lanesOf id w).map fun i => startLane ((s.bay n).lane i)

/-- REQUEST codes of 09 Table 09-5, by number. -/
def requestCode (n : Nat) : Byte := if n = 0 then 0 else if n ≤ 16 then BitVec.ofNat 8 (0x0F + n) else BitVec.ofNat 8 (0x20 + (n - 17))

/-- The Tun's own receiver asks the peer's transmitter of a lane for a change, and says whether the peer's last request was applied (09 R311);
what it asks for is a free value (assumption 153). -/
def Tun.sendRequest (id lane : Nat) (t : Tun) : Tun :=
  let applied := match (t.port id).lanes[lane]? with | some l => l.applied | none => false
  t.emit (.laneFlit id lane (lanePayload lane (requestCode (Config.equalRequest t.out.length).val) false applied (t.offersFull id (t.port id))))

/-- Codeword lock and equalisation flits on every lane; `peerFull` is the peer's RATE [0] (09 R309). Each receiver sends its first request. -/
def Tun.detectLock (id : Nat) (peerFull : Bool) (lanes : List LaneTx) (t : Tun) : Tun :=
  let p := t.port id
  if p.link ≠ .detect ∨ p.waiting ∨ ¬ t.trains then t
  else
    let t := t.modPort id fun p => { p with link := .equalize, rateFull := peerFull && t.offersFull id p, lanes := lanes }
    (List.range p.widthNow).foldl (fun t k => t.sendRequest id k) t

def execDetectLock (t : TunId) (id : BitVec 9) (peerFull : Bool) (s : State) : Res :=
  onTun t s (Tun.detectLock id.toNat peerFull (s.startLanes t id.toNat))

/-- 10 ms of detection without lock: detection starts again. -/
def Tun.detectTimeout (id : Nat) (t : Tun) : Tun :=
  let p := t.port id
  if p.link ≠ .detect ∨ p.waiting then t else (t.modPort id fun p => { p with lanes := [], rateFull := false }).trainAnew id

def execDetectTimeout (t : TunId) (id : BitVec 9) (s : State) : Res := onTun t s (Tun.detectTimeout id.toNat)

/-- REQUEST of an equalisation flit applied to a lane's transmitter; a step beyond the PMD's range is not applied (09 Table 09-5, R311), and
a step leaves the main tap as it is (assumption 179, DESIGN CHOICE). -/
def LaneTx.request (req : Byte) (l : LaneTx) : LaneTx :=
  let r := req.toNat
  let try_ (pre post : Int) : LaneTx := if Config.tapInRange pre post then { l with pre := pre, post := post, applied := true } else { l with applied := false }
  if r = 0 then { l with applied := true }
  else if 0x10 ≤ r ∧ r < 0x20 then { l.preset (r - 0x10) with applied := true }
  else if r = 0x20 then try_ (l.pre - 1) l.post
  else if r = 0x21 then try_ (l.pre + 1) l.post
  else if r = 0x22 then try_ l.pre (l.post - 1)
  else if r = 0x23 then try_ l.pre (l.post + 1)
  else { l with applied := false }

/-- An equalisation flit of the peer: its request is applied to the lane's transmitter, and the next flit of the lane says whether it was
(09 R311). -/
def Tun.equalizeReceive (id lane : Nat) (req : Byte) (t : Tun) : Tun :=
  if (t.port id).link ≠ .equalize ∨ (t.port id).widthNow ≤ lane then t
  else (t.modPort id fun p => { p with lanes := p.lanes.modify lane (LaneTx.request req) }).sendRequest id lane

def execTrainEqualizeReceive (t : TunId) (id : BitVec 9) (lane : BitVec 3) (req : Byte) (s : State) : Res :=
  onTun t s (Tun.equalizeReceive id.toNat lane.toNat req)

/-- Both ends report done on every lane (09 Table 09-6): the Tun's reports carry STATUS [1]. -/
def Tun.equalizeDone (id : Nat) (t : Tun) : Tun :=
  let p := t.port id
  if p.link ≠ .equalize then t
  else
    let t := (List.range p.widthNow).foldl (fun t k =>
      t.emit (.laneFlit id k (lanePayload k 0 true ((p.lanes[k]?.map (·.applied)).getD false) (t.offersFull id p)))) t
    t.modPort id fun p => { p with link := .deskew }

def execEqualizeDone (t : TunId) (id : BitVec 9) (s : State) : Res := onTun t s (Tun.equalizeDone id.toNat)

/-! ### Identity (09 R313-R317, Table 09-5) -/

/-- SLOT a Tun sends: the endpoint slot of the port, the group of a paired annex port (09 R313), else 0xFFFF. -/
def Tun.slotField (t : Tun) (id : Nat) : Nat :=
  if isEndpointId id then id else if (t.port id).pairing then id - 192 else 0xFFFF

/-- The payload of an identity flit. -/
def Tun.identityPayload (t : Tun) (id : Nat) : List Byte :=
  let p := t.port id
  let flags : Byte := (if t.offersFull id p then 0x80 else 0) ||| (if p.ident.isSome then 0x40 else 0) |||
    (if p.peerIncarn.isSome && !p.mustFresh then 0x20 else 0) ||| (widthCode p.widthNow).setWidth 8
  [0x02, 0, if p.genNow then 1 else 2, flags, BitVec.ofNat 8 t.row, BitVec.ofNat 8 t.col.num] ++ bytesLE 2 id ++
    bytesLE 2 (t.slotField id) ++ [t.svc.state.code.setWidth 8, p.incarn, p.peerIncarn.getD 0, 0] ++ bytesLE 2 p.expected.toNat ++
    bytesLE 8 (Config.tunDeviceId t.number).toNat

def Tun.sendIdentity (now id : Nat) (t : Tun) : Tun := t.putOrdered now id ftTrain (t.identityPayload id)

/-- Skew within limits and a striped identity received: the flit stream starts and a port that is DOWN identifies. -/
def Tun.deskewDone (now id : Nat) (t : Tun) : Tun :=
  if (t.port id).link ≠ .deskew then t
  else if (t.port id).state ≠ .down then t.modPort id fun p => { p with link := .linked }
  else (t.modPort id fun p => { p with link := .linked, state := .identify, ident := none }).sendIdentity now id

def execDeskewDone (t : TunId) (id : BitVec 9) (s : State) : Res := onTun t s (Tun.deskewDone s.now id.toNat)

/-- The attempt under way is one at Full rate: both ends agreed on it, or the Tun offers it and detection has not ended (05 R156, 09 R309). -/
def Tun.fullAttempt (t : Tun) (id : Nat) (p : Port) : Bool := p.rateFull || (p.link == .detect && t.offersFull id p)

/-- A training fails. A Full-rate attempt of a rate-step round is made three times before the fallback, which holds the port at Pale
rate; any other one waits for the cold-attempt interval (05 R157, 09 R307, R318). -/
def Tun.trainFail (now id : Nat) (cause : BitVec 4) (t : Tun) : Tun :=
  let p := t.port id
  if p.stepping ∧ t.fullAttempt id p then
    (t.portDown now id cause false).modPort id fun p => { p with stepFails := p.stepFails + 1, rateHeld := p.rateHeld || decide (p.stepFails = 2) }
  else (t.portDown now id cause true).modPort id fun p => { p with stepping := false, stepFails := 0 }

/-- Cause of an attempt that reaches its limit, by where it stood (09 Table 09-10). -/
def LinkState.failCause : LinkState → Option (BitVec 4)
  | .detect => some 2
  | .equalize => some 3
  | .deskew => some 4
  | _ => none

def Tun.attemptLimit (now id : Nat) (t : Tun) : Tun :=
  let p := t.port id
  match p.link.failCause with
  | some c => if p.waiting then t else t.trainFail now id c
  | none => t

def execAttemptLimit (t : TunId) (id : BitVec 9) (s : State) : Res := onTun t s (Tun.attemptLimit s.now id.toNat)

/-- The interval of 1 s is over: a new cold attempt. -/
def Tun.coldRetry (id : Nat) (t : Tun) : Tun :=
  let p := t.port id
  if p.link ≠ .detect ∨ ¬ p.waiting then t else (t.modPort id fun p => { p with waiting := false }).trainAnew id

def execColdAttemptRetry (t : TunId) (id : BitVec 9) (s : State) : Res := onTun t s (Tun.coldRetry id.toNat)

/-- An identity flit's fields (09 Table 09-5). -/
def identOf (b : List Byte) : Ident :=
  let flags := byteAt b 3
  { role := (byteAt b 1).extractLsb' 0 2, seen := flags.getLsbD 6, peerKnown := flags.getLsbD 5, row := byteAt b 4, col := byteAt b 5,
    portId := BitVec.ofNat 16 (leAt b 6 2), slot := BitVec.ofNat 16 (leAt b 8 2), ownInc := byteAt b 11, peerInc := byteAt b 12,
    nextRx := BitVec.ofNat 12 (leAt b 14 2), deviceId := BitVec.ofNat 64 (leAt b 16 8) }

/-- The peer's role and place fit the port (09 R313, 02 R43, R44); a group that serves as an annex pair takes no annex device (02 R35). -/
def Tun.identFits (t : Tun) (id : Nat) (role : Nat) (i : Ident) : Bool :=
  if isEndpointId id then role == 1
  else if isAnnexId id then
    if (t.port id).pairing then role == 1 && (i.slot == 0xFFFF || i.slot.toNat == id - 192) else role == 2
  else
    let n := t.trays
    let place (r c p : Nat) : Bool := i.row.toNat == r && i.col.toNat == c && i.portId.toNat == p
    role == 0 &&
      (if isMeshId id then place t.row ((t.col.num + (id - 256) + 1) % 4) (256 + 2 - (id - 256))
       else if id = 259 then place ((t.row + 1) % n) t.col.num 260
       else place ((t.row + n - 1) % n) t.col.num 259)

/-- First check of 09 R313 that an identity fails: its cause. -/
def Tun.identCause (t : Tun) (id : Nat) (b : List Byte) : Option (BitVec 4) :=
  let p := t.port id
  if byteAt b 2 ≠ (if p.genNow then 1 else 2) then some 6
  else if (byteAt b 3).extractLsb' 0 3 ≠ widthCode p.widthNow then some 7
  else if ¬ t.identFits id (byteAt b 1).toNat (identOf b) then some 0xD
  else none

/-- A peer identity in IDENTIFY (09 R313). The Tun answers with its own, SEEN set. -/
def Tun.identityReceive (now id : Nat) (b : List Byte) (t : Tun) : Tun :=
  if (t.port id).state ≠ .identify then t
  else match t.identCause id b with
    | some c => t.trainFail now id c
    | none => (t.modPort id fun p => { p with ident := some (identOf b) }).sendIdentity now id

def execTrainIdentityReceive (t : TunId) (id : BitVec 9) (payload : List Byte) (s : State) : Res :=
  onTun t s (Tun.identityReceive s.now id.toNat payload)

/-- The link may resume (09 R314, R316). -/
def Port.resumes (p : Port) (i : Ident) : Bool :=
  i.peerKnown && i.peerInc == p.incarn && p.peerIncarn == some i.ownInc && !p.mustFresh &&
    (i.nextRx == p.nextSeq || p.replay.any fun h => h.fseq == i.nextRx)

/-- What IDENTIFY leaves whether it resumes or starts fresh (09 R349). -/
def Port.identified (i : Ident) (p : Port) : Port :=
  { p with
    state := .active, ident := none, peerRole := i.role, peerRow := i.row.setWidth 3, peerCol := i.col.setWidth 2,
    peerPort := i.portId.setWidth 9, peerSlot := i.slot, peerDevice := i.deviceId, peerIncarn := some i.ownInc, nakOut := false,
    replayEvents := 0, replayEvents1s := 0, rateHeld := p.rateHeld && !p.rateFull, stepping := false, stepFails := 0, rxNapped := false,
    txNapped := false, delayValid := false, mustFresh := false, inserted := false }

/-- IDENTIFY completes (09 R314-R316): the link resumes, or starts fresh; a peer whose recorded incarnation changed has departed
without FENCE (10 R388). -/
def Tun.identifyComplete (now id : Nat) (t : Tun) : Tun :=
  let p := t.port id
  match p.state, p.ident with
  | .identify, some i =>
    if ¬ i.seen then t
    else if p.resumes i then
      let t := t.modPort id fun p => { (p.identified i) with replay := p.replay.dropWhile fun h => h.fseq != i.nextRx }
      (t.resend now id (t.port id).replay).pumpLink now id
    else
      let t := (t.discardLink id).modPort id fun p => { (p.identified i) with nextSeq := 0, expected := 0, ackValid := false }
      let t := match p.peerIncarn with
        | some old => if old = i.ownInc then t else t.departedOn now id (if isFabricId id then 3 else 6) old
        | none => t
      t.pumpLink now id
  | _, _ => t

def execIdentifyComplete (t : TunId) (id : BitVec 9) (s : State) : Res := onTun t s (Tun.identifyComplete s.now id.toNat)

/-- 2 ms of IDENTIFY without completion (09 R318). -/
def Tun.identifyTimeout (now id : Nat) (t : Tun) : Tun :=
  if (t.port id).state ≠ .identify then t else t.trainFail now id 5

def execIdentifyTimeout (t : TunId) (id : BitVec 9) (s : State) : Res := onTun t s (Tun.identifyTimeout s.now id.toNat)

/-! ### LINKED and after (09 R307, R318, R323-R326) -/

/-- A retrain notice, sent or received: the link returns to detection. A port whose peer fenced goes on as after its loss of signal; a FENCED
one stays FENCED and sends none (09 Tables 09-6, 09-8). -/
def Tun.retrainNotice (now id : Nat) (sent : Bool) (t : Tun) : Tun :=
  let p := t.port id
  if p.link ≠ .linked ∨ (sent ∧ p.state = .fenced) then t
  else if p.state = .peerFenced then t.portDown now id 0xA false
  else (if sent then t.putOrdered now id ftTrain [0x03] else t).portDown now id 0xE false

def execRetrainNotice (t : TunId) (id : BitVec 9) (sent : Bool) (s : State) : Res := onTun t s (Tun.retrainNotice s.now id.toNat sent)

/-- Loss of signal or of codeword lock for more than 1 µs on one port (09 R342). -/
def execLossOfSignal (t : TunId) (id : BitVec 9) (s : State) : Res := onTun t s (Tun.signalLost s.now id.toNat)

/-- The oldest held flit has waited 4 µs for its acknowledgement (09 R323, R325). -/
def Tun.replayTimeout (now id : Nat) (t : Tun) : Tun :=
  let p := t.port id
  match p.replay with
  | h :: _ => t.startReplay now id h.fseq p.holdFrom.isNone
  | [] => t

def execReplayTimeout (t : TunId) (id : BitVec 9) (s : State) : Res := onTun t s (Tun.replayTimeout s.now id.toNat)

/-- 50 ms down without resuming (09 R326). -/
def Tun.replayDiscard (id : Nat) (t : Tun) : Tun :=
  let p := t.port id
  if p.up ∨ p.state = .peerFenced ∨ p.replay.isEmpty ∧ p.txq.isEmpty ∧ ¬ p.assembling then t
  else (t.discardLink id).modPort id fun p => { p with retrains := satInc p.retrains }

def execReplayBufferDiscard (t : TunId) (id : BitVec 9) (s : State) : Res := onTun t s (Tun.replayDiscard id.toNat)

/-- A window of replay events ends: 100 ms, or 1 s (09 Table 09-8). -/
def Tun.replayWindow (id : Nat) (oneSecond : Bool) (t : Tun) : Tun :=
  t.modPort id fun p =>
    if oneSecond then { p with replayEvents1s := 0, state := if p.state = .degraded ∧ p.replayEvents1s ≤ 4 then .active else p.state }
    else if p.state = .active ∧ 64 < p.replayEvents then
      { p with replayEvents := 0, state := .degraded, degradations := satInc p.degradations }
    else { p with replayEvents := 0 }

def execReplayWindowEnd (t : TunId) (id : BitVec 9) (oneSecond : Bool) (s : State) : Res :=
  onTun t s (Tun.replayWindow id.toNat oneSecond)

/-! ### FENCE (09 R329-R333) -/

/-- FENCE from the recorded peer (09 R331). -/
def Tun.fenceReceive (now id : Nat) (scope : Byte) (leaving : Byte) (t : Tun) : Tun :=
  let p := t.port id
  if p.state ≠ .identify ∧ ¬ p.up then t
  else
    let t := (((t.discardLink id).modPort id fun p => { p with state := .peerFenced, stepping := false }).ringLinkDown now id)
    t.departedOn now id scope.toNat leaving

def execFenceReceive (t : TunId) (id : BitVec 9) (scope leaving : Byte) (s : State) : Res :=
  onTun t s (Tun.fenceReceive s.now id.toNat scope leaving)

/-- In FENCED each port repeats FENCE every 10 µs (09 R330). -/
def Tun.fenceRepeat (now id : Nat) (t : Tun) : Tun :=
  if (t.port id).state ≠ .fenced then t
  else t.putOrdered now id ftFence (fencePayload 4 (t.port id).incarn false)

def execFenceRepeat (t : TunId) (id : BitVec 9) (s : State) : Res := onTun t s (Tun.fenceRepeat s.now id.toNat)

/-- A Tun whose ports take PORT_CTRL writes (05 Table 05-11): a FENCED one too. -/
def Tun.portsAnswer (t : Tun) : Bool :=
  t.svc.hold == .none_ && (t.svc.state == .pale || t.svc.state == .full || t.svc.state == .draining || t.svc.state == .fenced)

/-- A port reset: FENCE, the port cleared and DOWN, its incarnation moved on (09 R329, R330, Table 09-8, 04 Table 04-6). -/
def Tun.portReset (now id : Nat) (t : Tun) : Tun :=
  if ¬ t.hasPort id ∨ ¬ t.portsAnswer then t
  else (((t.fencePort now 1 (!(t.port id).disable) id).discardLink id).modPort id fun p =>
    { (p.cleared (if p.disable then 1 else 0xB)) with incarn := p.incarn + 1 }).ringLinkDown now id

def execPortReset (t : TunId) (id : BitVec 9) (s : State) : Res := onTun t s (Tun.portReset s.now id.toNat)

/-- DISABLE set fences the port and holds its link DISABLED; cleared after being set it moves the incarnation on (09 R329, R346). -/
def Tun.portDisable (now id : Nat) (v : Bool) (t : Tun) : Tun :=
  let p := t.port id
  if ¬ t.hasPort id ∨ p.disable = v then t
  else if v then
    if p.link = .disabled ∧ p.state = .down then t.modPort id fun p => { p with disable := true, downCause := 1 }
    else (((t.fencePort now 1 false id).discardLink id).modPort id fun p => { (p.cleared 1) with disable := true }).ringLinkDown now id
  else t.modPort id fun p => { p with disable := false, incarn := p.incarn + 1 }

def execPortDisable (t : TunId) (id : BitVec 9) (v : Bool) (s : State) : Res :=
  onTun t s fun u => if u.portsAnswer then u.portDisable s.now id.toNat v else u

def Tun.portInject (id : Nat) (t : Tun) : Tun := if t.hasPort id then t.modPort id fun p => { p with injectCrc := true } else t

def execInjectCrc (t : TunId) (id : BitVec 9) (s : State) : Res :=
  onTun t s fun u => if u.portsAnswer then u.portInject id.toNat else u

/-- PORT_CTRL (09 Table 09-9): configuration fields, then DISABLE, reset and CRC injection (R347). -/
def Tun.writePortCtrl (now id : Nat) (v : Word) (t : Tun) : Tun :=
  if ¬ t.hasPort id then t
  else
    let t := t.modPort id fun p => { p with gen1 := v.getLsbD 29, napDisable := v.getLsbD 28, width := bitsOf v 26 2, paleOnly := v.getLsbD 25 }
    let t := if v.getLsbD 28 then t.wakeTx now id else t
    let t := t.portDisable now id (v.getLsbD 30)
    let t := if v.getLsbD 31 then t.portReset now id else t
    if v.getLsbD 24 then t.portInject id else t

def Port.ctrlWord (p : Port) : Word :=
  bitAt p.disable 30 ||| bitAt p.gen1 29 ||| bitAt p.napDisable 28 ||| fieldAt p.width 26 ||| bitAt p.paleOnly 25

/-! ### Link delay (09 R338-R340) -/

def probePayload (probe t1 : Nat) : List Byte := [BitVec.ofNat 8 probe, 0, 0, 0, 0, 0, 0, 0] ++ bytesLE 8 t1

/-- Eight probes 1 µs, 25,600 units, apart; none on a generation-1 port (21 R795). -/
def Tun.delayStart (now id : Nat) (t : Tun) : Tun :=
  let p := t.port id
  if ¬ p.up ∨ p.genNow then t
  else
    let ps := (List.range 8).map fun i => (i, now + 25600 * i)
    let t := t.modPort id fun p => { p with probes := ps, delays := [] }
    ps.foldl (fun t x => t.putOrdered now id ftProbe (probePayload x.1 x.2)) t

def execDelayMeasureStart (t : TunId) (id : BitVec 9) (s : State) : Res := onTun t s (Tun.delayStart s.now id.toNat)

/-- LINK_DELAY from eight round trips: their mean halved. -/
def delayField (sum : Int) : BitVec 20 :=
  if sum % 16 = 0 ∧ 0 ≤ sum ∧ sum / 16 < 2 ^ 20 then BitVec.ofInt 20 (sum / 16) else Config.delayPart sum

/-- Greatest less least of a list. -/
def spread (xs : List Int) : Int :=
  match xs with
  | [] => 0
  | x :: r => r.foldl (fun m y => if m < y then y else m) x - r.foldl (fun m y => if y < m then y else m) x

/-- An echo: the eighth one ends the measurement, which is discarded when one-way results spread by more than 0.5 ns, 12.8 units, so
round trips by more than 25 (09 R339). -/
def Tun.delayEcho (id probe t1 t2 t3 t4 : Nat) (t : Tun) : Tun :=
  let p := t.port id
  if ¬ (p.probes.contains (probe, t1)) then t
  else
    let d : Int := ((t4 : Int) - t1) - ((t3 : Int) - t2)
    let ds := p.delays ++ [d]
    let left := p.probes.filter (· != (probe, t1))
    if ds.length < 8 then t.modPort id fun p => { p with probes := left, delays := ds }
    else if 25 < spread ds then t.modPort id fun p => { p with probes := [], delays := [] }
    else t.modPort id fun p => { p with
      probes := [], delays := [], delayValid := true, delay := delayField (ds.foldl (· + ·) 0) }

def execDelayEchoReceive (t : TunId) (id : BitVec 9) (probe : Byte) (t1 t2 t3 t4 : Nat) (s : State) : Res :=
  onTun t s (Tun.delayEcho id.toNat probe.toNat t1 t2 t3 t4)

/-- A probe answered (09 R339, R340, 12 R455). -/
def Tun.probeReceive (now id : Nat) (probe : Byte) (t1 : Nat) (t : Tun) : Tun :=
  let p := t.port id
  if ¬ p.up ∨ p.genNow then t
  else t.putOrdered now id ftEcho ([probe, 0, 0, 0, 0, 0, 0, 0] ++ bytesLE 8 t1 ++ bytesLE 8 now ++ bytesLE 8 now)

def execDelayProbeReceive (t : TunId) (id : BitVec 9) (probe : Byte) (t1 : Nat) (s : State) : Res :=
  onTun t s (Tun.probeReceive s.now id.toNat probe t1)

/-- A probe had no echo for 4 µs: the measurement is discarded (09 R339). -/
def Tun.delayTimeout (id : Nat) (t : Tun) : Tun :=
  if (t.port id).probes.isEmpty then t else t.modPort id fun p => { p with probes := [], delays := [] }

def execDelayEchoTimeout (t : TunId) (id : BitVec 9) (s : State) : Res := onTun t s (Tun.delayTimeout id.toNat)

/-! ### Nap (09 R341-R345) -/


/-- The port may nap (09 R341, R344, 21 R795). -/
def Tun.mayNap (t : Tun) (id : Nat) : Bool :=
  let p := t.port id
  p.up && !p.txNapped && !p.napDisable && !p.genNow && p.txq.isEmpty && !(t.recipeRuns && (t.circuitNames id || t.markPorts.contains id))

def Tun.napEntry (now id : Nat) (t : Tun) : Tun :=
  if t.mayNap id then (t.putOrderedN now id ftNap [] 4).modPort id fun p => { p with txNapped := true } else t

def execNapEntry (t : TunId) (id : BitVec 9) (s : State) : Res := onTun t s (Tun.napEntry s.now id.toNat)

def Tun.napReceive (id : Nat) (t : Tun) : Tun :=
  let p := t.port id
  if p.up ∧ ¬ p.genNow then t.modPort id fun p => { p with rxNapped := true } else t

def execNapReceive (t : TunId) (id : BitVec 9) (s : State) : Res := onTun t s (Tun.napReceive id.toNat)

/-- The peer's transmitter drives again: a recalibration that waited for it is made (09 R342, 19 R754). -/
def Tun.rxWake (id : Nat) (t : Tun) : Tun :=
  if (t.port id).rxNapped then
    (t.modPort id fun p => { p with rxNapped := false }).modRel fun r => { r with recalPending := r.recalPending.filter (· != id) }
  else t


def execWake (t : TunId) (id : BitVec 9) (s : State) : Res := onTun t s fun u => (u.wakeTx s.now id.toNat).rxWake id.toNat

/-! ### Registers (09 Tables 09-10, 09-11) -/

def PortState.code : PortState → BitVec 3
  | .down => 0
  | .identify => 1
  | .active => 2
  | .degraded => 3
  | .fenced => 4
  | .peerFenced => 5

def LinkState.code : LinkState → BitVec 3
  | .disabled => 0
  | .detect => 1
  | .equalize => 2
  | .deskew => 3
  | .linked => 4

def Port.statusWord (p : Port) : Word :=
  fieldAt p.state.code 29 ||| fieldAt p.link.code 26 ||| fieldAt (if p.up then widthCode p.widthNow else 0) 23 ||| bitAt p.rateFull 22 |||
    bitAt p.rateHeld 21 ||| bitAt p.peerDrain 20 ||| fieldAt p.peerSvc 17 ||| bitAt p.txNapped 16 ||| bitAt p.rxNapped 15 |||
    fieldAt p.downCause 8

def Port.peerWord (p : Port) : Word :=
  fieldAt p.peerRole 30 ||| fieldAt p.peerRow 27 ||| fieldAt p.peerCol 25 ||| fieldAt p.peerPort 16 ||| fieldAt p.peerSlot 0

def Port.delayWord (p : Port) : Word := bitAt p.delayValid 31 ||| fieldAt p.delay 0
def Port.incarnWord (p : Port) : Word := fieldAt (p.peerIncarn.getD 0) 8 ||| fieldAt p.incarn 0
def Port.eventsWord (p : Port) : Word :=
  fieldAt p.rxCdcDrop 24 ||| fieldAt p.staleIncarn 16 ||| fieldAt p.retrains 8 ||| fieldAt p.degradations 0

end Sys2Proof.Machine
end

