-- ==== Sys2Proof/Machine/HostPort.lean ====
section
/-! DEFINITION. The host port as events (chapter 18): training and loss of its link, resets of its functions, the windows and
doorbell pages through which a host writes, and what its reads and interrupts do. -/

namespace Sys2Proof.Machine
open Sys2Proof

def Tun.modHost (f : HPort → HPort) (t : Tun) : Tun := { t with host := f t.host }

/-- The port offers 64 GT/s: from the Tun's entry to FULL on (18 R727). -/
def Tun.offers64 (t : Tun) : Bool := t.cellar.opened

/-- Speed codes of 18 Table 18-4 and widths of Table 18-1. -/
def speedOk (v : BitVec 4) : Bool := decide (1 ≤ v.toNat) && decide (v.toNat ≤ 6)
def widthOk (v : BitVec 6) : Bool := v == 1 || v == 2 || v == 4 || v == 8 || v == 16

/-- What a training ends with: Flit mode is used at 64 GT/s always (18 Table 18-1). The port takes configuration requests once the
Brewmaster firmware runs (18 R724, assumption 187, DEDUCED). -/
def Tun.hostTrained (cfg : HostCfg) (speed : BitVec 4) (width : BitVec 6) (flit : Bool) (t : Tun) : Tun :=
  let v : BitVec 4 := if speed = 6 ∧ ¬ t.offers64 then 5 else speed
  t.modHost fun h => { h with
    linkUp := true, speed := v, width := width, flitMode := flit || v == 6,
    busMaster := if t.svc.fwRunning then cfg.busMaster else h.busMaster, d3hot := if t.svc.fwRunning then cfg.d3hot else h.d3hot,
    msixEnable := if t.svc.fwRunning then cfg.msixEnable else h.msixEnable }

/-- The host link trains, its Tun's cold reset released and PERST deasserted; `cfg` is what the host's configuration writes leave
(18 R724, R732). -/
def execHostLinkTrain (t : TunId) (cfg : HostCfg) (speed : BitVec 4) (width : BitVec 6) (flit : Bool) (s : State) : Res :=
  onTun t s fun u =>
    if u.svc.state = .off ∨ u.svc.hold = .cold ∨ u.host.perst ∨ u.host.linkUp ∨ ¬ speedOk speed ∨ ¬ widthOk width then u
    else u.hostTrained cfg speed width flit

/-- A host-directed retrain (18 R727). -/
def execHostDirectedRetrain (t : TunId) (cfg : HostCfg) (speed : BitVec 4) (width : BitVec 6) (flit : Bool) (s : State) : Res :=
  onTun t s fun u => if u.host.linkUp ∧ speedOk speed ∧ widthOk width then u.hostTrained cfg speed width flit else u

/-- Configuration of every function at reset (18 R729, R731). -/
def HPort.configReset (h : HPort) : HPort :=
  { h with numVfs := 0, vfEnable := false, busMaster := 0, d3hot := 0, msixEnable := 0, masked := [], pendingBits := [] }

/-- HOSTn_PERST_N (18 R729). -/
def Tun.hostPerst (asserted : Bool) (t : Tun) : Tun :=
  if asserted then t.modHost fun h => { h.configReset with
    perst := true, linkUp := false, lost := true, speed := 0, width := 0, flitMode := false }
  else t.modHost fun h => { h with perst := false }

def execHostPerst (t : TunId) (asserted : Bool) (s : State) : Res := onTun t s (Tun.hostPerst asserted)

/-- A command waits for host memory. -/
def Cmd.awaitsHost (c : Cmd) : Bool := c.fetches.any fun f => f.host && f.data.isNone

/-- Every request outstanding on the port fails (18 R719, R732). -/
def Tun.failHostReads (now : Nat) (t : Tun) : Tun :=
  let t := if t.sched.loading.isSome then (t.modHost fun h => { h with readFail := satInc h.readFail }).recipeLoaded now none else t
  let t := match t.bm.streaming with
    | some (id, _) => if ((t.cmd id).map Cmd.awaitsHost).getD false then t.resideFail now else t
    | none => t
  (t.bm.cmds.filter Cmd.awaitsHost).foldl (fun t c => t.hostReadFail now c) t

/-- The host link is lost other than by PERST (18 R732). -/
def Tun.hostLinkLoss (now : Nat) (t : Tun) : Tun :=
  if ¬ t.host.linkUp then t
  else (t.modHost fun h => { h with linkUp := false, lost := true, speed := 0, width := 0, flitMode := false }).failHostReads now

def execHostLinkLoss (t : TunId) (s : State) : Res := onTun t s (Tun.hostLinkLoss s.now)

/-- Virtual function `n`, 1 to 16, exists (18 R712). -/
def Tun.vfExists (t : Tun) (n : Nat) : Bool := t.host.linkUp && t.host.vfEnable && decide (1 ≤ n) && decide (n ≤ 16)

/-- Function Level Reset of a VF (18 R730). -/
def Tun.vfFlr (now n : Nat) (t : Tun) : Tun :=
  if ¬ t.vfExists n then t else
  let off : BitVec 17 := ~~~(1#17 <<< n)
  let mine (k : Nat) : Bool := k / 1024 != n
  let t := t.modHost fun h => { h with
    busMaster := h.busMaster &&& off, d3hot := h.d3hot &&& off, msixEnable := h.msixEnable &&& off, masked := h.masked.filter mine,
    pendingBits := h.pendingBits.filter mine }
  match t.slotCtx (n - 1) with
  | some c => t.ctxReset now c
  | none => t

def execVfFlr (t : TunId) (vf : BitVec 5) (s : State) : Res := onTun t s (Tun.vfFlr s.now vf.toNat)

/-- Function Level Reset of the PF: a Tun warm reset with cause 6, and the configuration of every function (18 R731). -/
def Tun.pfFlr (now : Nat) (t : Tun) : Tun :=
  if ¬ t.host.linkUp then t else (t.warmRequest now 6).modHost HPort.configReset

def execPfFlr (t : TunId) (s : State) : Res := onTun t s (Tun.pfFlr s.now)

/-- A write of NumVFs and VF Enable (18 R712, R724). -/
def execSriovNumvfsWrite (t : TunId) (numVfs : Half) (enable : Bool) (s : State) : Res :=
  onTun t s fun u => if u.host.linkUp ∧ u.svc.fwRunning then u.modHost fun h => { h with numVfs := numVfs, vfEnable := enable && numVfs == 16 } else u

def Tun.vfRefuse (t : Tun) : Tun := t.modHost fun h => { h with vfRefused := satInc h.vfRefused }

/-- The Tun's windows take writes: from PALE on, outside a reset (18 R716, R725). -/
def Tun.windowsOpen (t : Tun) : Bool := t.svc.hold == .none_ && t.svc.state != .off && t.svc.state != .cold

/-- One register of a VF doorbell page (18 R717, Table 18-3). -/
def Tun.vfDoorbell (now n off : Nat) (v : Word) (t : Tun) : Tun :=
  if off % 8 ≠ 0 then t
  else
    let k := off / 8
    let i : Half := bitsOf v 0 16
    let owner := t.slotCtx (n - 1)
    if off < 0x2000 then
      if k = 0 then t
      else if (t.queue k).valid ∧ some (t.queue k).ctx.toNat = owner then (t.producerDoorbell k i).arbitrate now
      else t.vfRefuse
    else if off < 0x4000 then
      let r := k - 0x400
      if (t.ring r).valid ∧ some (t.ring r).ctx.toNat = owner then t.headDoorbell r i else t.vfRefuse
    else if 0x4000 ≤ off ∧ off < 0x4800 then
      let x := k - 0x800
      if (t.tstream x).isOpen ∧ some (t.tstream x).ctx = owner then t.streamHead x v else t.vfRefuse
    else t

/-- Accesses that R6 of chapter 00 allows at an offset. -/
def aligned (off bytes : Nat) : Bool := (bytes == 4 && off % 4 == 0) || (bytes == 8 && off % 8 == 0)

/-- A write to the doorbell page of a VF; another size or alignment is discarded (18 R715). -/
def execVfDoorbellWrite (t : TunId) (vf : BitVec 5) (off : Half) (bytes : Nat) (v : Dword) (s : State) : Res :=
  onTun t s fun u =>
    if u.vfExists vf.toNat ∧ u.windowsOpen ∧ aligned off.toNat bytes then u.vfDoorbell s.now vf.toNat off.toNat (v.setWidth 32) else u

/-- A write to the Wort window of a VF (18 R713, R716). -/
def Tun.vfWrite (n off : Nat) (bs : List Byte) (t : Tun) : Tun :=
  match t.slotCtx (n - 1) with
  | none => t.vfRefuse
  | some c => if (t.ctx c).inUsable off bs.length then t.shareStore c off bs false else t.vfRefuse

def execVfBar2Write (t : TunId) (vf : BitVec 5) (off : Nat) (bs : List Byte) (s : State) : Res :=
  onTun t s fun u =>
    if u.vfExists vf.toNat ∧ u.windowsOpen ∧ off + bs.length ≤ 2 ^ 29 ∧ bs.length ≤ 512 then u.vfWrite vf.toNat off bs else u

/-- A write to Wort by its own addresses: blocks 0 to 31 take nothing; a unit written whole loses its poison (18 R716, 19 R739). -/
def Tun.wortWindow (off : Nat) (bs : List Byte) (t : Tun) : Tun :=
  let low := 32 * blockSize
  let t := (List.range bs.length).foldl (fun t i => if off + i < low then t else t.wortSet (off + i) (byteAt bs i)) t
  let us := (List.range ((off + bs.length + 63) / 64 - off / 64)).map (off / 64 + ·)
  us.foldl (fun t u =>
    if decide (low ≤ 64 * u) && decide (off ≤ 64 * u) && decide (64 * u + 64 ≤ off + bs.length) then
      t.modBm fun m => { m with poison := m.poison.set false u false } else t) t

def execPfWortWindowWrite (t : TunId) (off : Nat) (bs : List Byte) (s : State) : Res :=
  onTun t s fun u =>
    if u.host.linkUp ∧ u.windowsOpen ∧ off + bs.length ≤ 2 ^ 29 ∧ bs.length ≤ 512 then u.wortWindow off bs else u

/-! Reads of the windows change nothing, so they have no row: these are the bytes they return. -/

/-- A read of the Wort window of a VF (18 R713, R716, R725). -/
def Tun.vfBar2Read (t : Tun) (n off len : Nat) : List Byte :=
  if ¬ t.windowsOpen then List.replicate len 0
  else match t.slotCtx (n - 1) with
    | none => List.replicate len 0xFF
    | some c => if (t.ctx c).inUsable off len then t.shareRead c off len else List.replicate len 0xFF

/-- A read of the PF's Wort window: blocks 0 to 31 read as 0 (18 R716, R725). -/
def Tun.pfBar2Read (t : Tun) (off len : Nat) : List Byte :=
  (List.range len).map fun i => if ¬ t.windowsOpen ∨ off + i < 32 * blockSize then 0 else t.wortByte (off + i)

/-- A host read of a command ends: its bytes, or a failure (18 R719). -/
def Tun.hostReadDone (now id i : Nat) (data : Option (List Byte)) (t : Tun) : Tun :=
  match t.cmd id with
  | none => t
  | some c =>
    match c.fetches[i]?, c.plan[i]? with
    | some f, some p =>
      if ¬ f.host ∨ f.data.isSome then t
      else match (if t.hostReads (t.cmdFn c) then data else none) with
        | none => if (t.bm.streaming.map (·.1)) = some id then t.resideFail now else t.hostReadFail now c
        | some bs =>
          if bs.length ≠ p.len then t
          else t.modCmd id fun c => { c with fetches := c.fetches.set i { f with data := some bs } }
    | _, _ => t

/-- A host read of the Tun ends. `tag` is that of the request: 0 for RECIPE_LOAD, whose bytes RECIPE_LOAD_DONE gives. -/
def execHostReadCompletion (t : TunId) (tag : Nat) (data : Option (List Byte)) (s : State) : Res :=
  onTun t s fun u =>
    if tag = 0 then
      (if u.sched.loading.isSome ∧ data.isNone then
        (u.modHost fun h => { h with readFail := satInc h.readFail }).recipeLoaded s.now none
       else u)
    else u.hostReadDone s.now (tag / 65536 - 1) (tag % 65536) data

/-- A write of a vector's mask bit; unmasking a pending vector sends one message (18 R723). -/
def Tun.msixMask (fn vector : Nat) (mask : Bool) (t : Tun) : Tun :=
  let k := fn * 1024 + vector
  if 16 < fn ∨ (if fn = 0 then 1024 else 64) ≤ vector ∨ ¬ t.host.linkUp ∨ (fn ≠ 0 ∧ ¬ t.host.vfEnable) then t
  else if mask then t.modHost fun h => { h with masked := if h.masked.contains k then h.masked else h.masked ++ [k] }
  else
    let due : Bool := t.host.pendingBits.contains k && t.host.msixEnable.getLsbD fn && !(t.host.d3hot.getLsbD fn) && !t.host.lost
    let t := t.modHost fun h => { h with
      masked := h.masked.filter (· != k), pendingBits := if due then h.pendingBits.filter (· != k) else h.pendingBits }
    if due then t.emit (.hostMsi fn vector) else t

def execMsixUnmask (t : TunId) (fn : BitVec 5) (vector : BitVec 10) (mask : Bool) (s : State) : Res :=
  onTun t s (Tun.msixMask fn.toNat vector.toNat mask)

/-! ### Registers (18 Tables 18-4 and 18-5) -/

def Tun.hostPortStatus (t : Tun) : Word :=
  let h := t.host
  bitAt h.lost 31 ||| bitAt h.linkUp 30 ||| bitAt h.flitMode 29 ||| bitAt (h.linkUp && !t.offers64) 28 ||| fieldAt h.speed 24 |||
    fieldAt h.width 16 ||| (if h.vfEnable then 16 else 0)

def HPort.counts (h : HPort) : Word := fieldAt h.discard 16 ||| fieldAt h.readFail 8 ||| fieldAt h.vfRefused 0

/-- State code of a context (14 Table 14-6 CTX_INFO STATE). -/
def CtxState.code : CtxState → BitVec 3
  | .undefined => 0
  | .defined => 1
  | .streaming => 2
  | .resident => 3
  | .faulted => 4

/-- VF_STATUS of slot `n`. -/
def Tun.vfStatus (t : Tun) (n : Nat) : Word :=
  let r := fieldAt (Tab.get 0 t.host.residence n) 0
  match t.slotCtx n with
  | some c => bitAt true 31 ||| fieldAt (t.ctx c).state.code 28 ||| fieldAt (BitVec.ofNat 8 c) 16 ||| r
  | none => r

/-- A read of the doorbell page of VF `n`: 0 but for VF_STATUS, and all ones for a size or alignment R6 of chapter 00 does not allow (18
R715, R717). -/
def Tun.vfPageRead (t : Tun) (n off bytes : Nat) : Dword :=
  if ¬ aligned off bytes then 0xFFFFFFFFFFFFFFFF
  else if off = 0x8000 then (t.vfStatus (n - 1)).setWidth 64
  else 0

end Sys2Proof.Machine
end

