-- ==== Sys2Proof/Machine/Reliab.lean ====
section
/-! DEFINITION. Detected errors by class, and background work (chapter 19): scrubbing, calibration, temperatures, self-refresh and
recalibration. -/

namespace Sys2Proof.Machine
open Sys2Proof

/-- Classes a source may have (19 Table 19-2). -/
def errClassOk (src cls : Nat) : Bool :=
  if src = 0 then false
  else if src ≤ 4 then cls == 0 || cls == 1
  else if src ≤ 6 then cls == 0 || cls == 2
  else if src = 7 then cls == 0 || cls == 4
  else if src = 8 then cls == 4
  else src == 9 && cls == 5

/-- The 64-byte unit an error was found in is poisoned already (19 R739). -/
def Tun.unitPoisoned (t : Tun) (src addr : Nat) : Bool :=
  if src ≤ 2 then Tab.get false t.cellar.poison (addr / 64) else Tab.get false t.bm.poison (addr / 64)

/-- Poisons the unit: Cask for sources 1 and 2, Wort for 3 and 4. -/
def Tun.poisonUnit (src addr : Nat) (t : Tun) : Tun :=
  if src ≤ 2 then t.modCellar fun c => { c with poison := c.poison.set false (addr / 64) true }
  else t.modBm fun m => { m with poison := m.poison.set false (addr / 64) true }

/-- A FATAL error within 1 s of the end of a fatal warm reset (19 R742). -/
def Tun.fatalAgain (now : Nat) (t : Tun) : Bool :=
  match t.svc.fatalEnd with | some e => decide (now < e + second) | none => false

/-- A corrected Cask unit is written back, one transaction of its stack (19 R738, R750, 20 Table 20-4). -/
def Tun.writeBack (src addr : Nat) (t : Tun) : Tun := if src ≤ 2 then t.bumpBy 7 3 (stackOf addr) 1 else t

/-- A detected error (19 R736-R743): logged, and acted on by its class. STACK errors are those of STACK_OFFLINE. A CONTAINED error of
a descriptor fetch ends that fetch; one of the Recipe store marks the Recipes not valid. -/
def Tun.errorDetect (now : Nat) (src cls : Nat) (at_ : ErrAt) (t : Tun) : Tun :=
  if ¬ errClassOk src cls ∨ ¬ t.reachable ∨ t.svc.hold ≠ .none_ then t
  else if cls = 1 ∧ t.unitPoisoned src at_.addr.toNat then t
  else
    let t := t.logError now (BitVec.ofNat 8 src) cls at_
    if cls = 0 then t.writeBack src at_.addr.toNat
    else if cls = 1 then t.poisonUnit src at_.addr.toNat
    else if cls = 2 then (if src = 5 then t.descriptorFetch at_.inst.toNat [] true else t.storeFails)
    else if cls = 4 then (if t.svc.state = .fenced then t else t.fenceRequest now 3)
    else if t.fatalAgain now then (if t.svc.state = .fenced then t else t.fenceRequest now 3)
    else t.warmRequest now 5

def execErrorDetect (t : TunId) (src : Byte) (cls : BitVec 3) (at_ : ErrAt) (s : State) : Res :=
  onTun t s (Tun.errorDetect s.now src.toNat cls.toNat at_)

/-! ### Sparge (19 R750, R751) -/

/-- What a scrub read of a unit found. -/
def scrubFinds (now src : Nat) (t : Tun) (f : Nat × Bool) : Tun :=
  let at_ : ErrAt := { addr := BitVec.ofNat 64 (64 * f.1) }
  if f.2 then t.errorDetect now src 0 at_ else t.errorDetect now src 1 at_

/-- 64-byte units of a 48 GiB stack, and of Wort. -/
def stackUnits : Nat := 48 * 2 ^ 30 / 64
def wortUnits : Nat := 2 ^ 29 / 64

/-- The LATE limit: twice SCRUB_HOURS. -/
def Rel.lateAfter (r : Rel) : Nat := 2 * r.scrubHours.toNat * 3600 * second

/-- A stack's scrub reads the next `n` units; `found` lists the units, counted in the stack, that had an error, true for a corrected
one (19 R750, R751). -/
def Tun.scrubStack (now n units : Nat) (found : List (Nat × Bool)) (t : Tun) : Tun :=
  let r := t.rel
  let bit : Byte := 1#8 <<< n
  if t.asm.casks ≤ n ∨ t.cellar.lostStacks.getLsbD n ∨ r.selfRefresh.getLsbD n ∨ r.scrubOff then t
  else
    let base := n * stackPages * pageBytes / 64
    let pos := Tab.get 0 r.scrubPos n
    let from_ := if pos = 0 then now else Tab.get 0 r.scrubFrom n
    let k := min units (stackUnits - pos)
    let due : Bool := decide (r.lateAfter < now - from_)
    let whole : Bool := decide (stackUnits ≤ pos + k)
    let t := t.modRel fun r => { r with
      scrubPos := r.scrubPos.set 0 n (if whole then 0 else pos + k), scrubFrom := r.scrubFrom.set 0 n from_,
      passes := if whole then satInc r.passes else r.passes,
      late := if due then r.late ||| bit else if whole then r.late &&& ~~~bit else r.late }
    let t := t.bumpBy 7 3 n ((k + 3) / 4)
    (found.filter fun f => decide (pos ≤ f.1) && decide (f.1 < pos + k)).foldl (fun t f => scrubFinds now 2 t (base + f.1, f.2)) t

/-- Wort's scrub reads the next units. -/
def Tun.scrubWort (now units : Nat) (found : List (Nat × Bool)) (t : Tun) : Tun :=
  let pos := Tab.get 0 t.rel.scrubPos 8
  let k := min units (wortUnits - pos)
  let t := t.modRel fun r => { r with scrubPos := r.scrubPos.set 0 8 (if wortUnits ≤ pos + k then 0 else pos + k) }
  (found.filter fun f => decide (pos ≤ f.1) && decide (f.1 < pos + k)).foldl (fun t f => scrubFinds now 4 t f) t

/-- Sparge and Cask calibration run: not in PALE, nor in a DRAINING entered from it (05 R141, Table 05-4). -/
def Tun.backgroundRuns (t : Tun) : Bool := t.serving && !t.inPale

/-- SPARGE_SCRUB of a stack, or of Wort. -/
def execSpargeScrub (t : TunId) (stack : Option (BitVec 3)) (units : Nat) (found : List (Nat × Bool)) (s : State) : Res :=
  onTun t s fun u =>
    if ¬ u.backgroundRuns then u
    else match stack with
      | some n => if u.cellar.opened then u.scrubStack s.now n.toNat units found else u
      | none => u.scrubWort s.now units found

/-! ### Calibration, temperature and self-refresh (19 R752, R753, 03 R101) -/

/-- The Angel's share is in progress (12 R442, 19 R749). -/
def Tun.inAngel (now : Nat) (t : Tun) : Bool := decide (9920 ≤ ((now : Int) - t.sched.boundary).toNat / 2560)

/-- A stack's calibration falls due, or its deferred one is done: it runs at any time with no Recipe, in the Angel's share with one,
and not in self-refresh. -/
def Tun.calibrate (now n : Nat) (t : Tun) : Tun :=
  let bit : Byte := 1#8 <<< n
  if t.asm.casks ≤ n ∨ t.cellar.lostStacks.getLsbD n then t
  else if t.rel.selfRefresh.getLsbD n ∨ (t.recipeRuns ∧ ¬ t.inAngel now) then t.modRel fun r => { r with calPending := r.calPending ||| bit }
  else t.modRel fun r => { r with calPending := r.calPending &&& ~~~bit }

def execCaskCalibration (t : TunId) (stack : BitVec 3) (s : State) : Res :=
  onTun t s fun u => if u.backgroundRuns && u.cellar.opened then u.calibrate s.now stack.toNat else u

/-- A stack's temperature, in 0.125 °C: above 105 °C it goes offline (19 R752, R756). -/
def Tun.caskTemp (now n : Nat) (v : Half) (t : Tun) : Tun :=
  if t.asm.casks ≤ n ∨ t.cellar.lostStacks.getLsbD n then t
  else
    let t := t.modRel fun r => { r with temps := r.temps.set 0 n v }
    if 840 < v.toInt then t.stackOffline now n 3 else t

def execCaskTemperatureRead (t : TunId) (stack : BitVec 3) (v : Half) (s : State) : Res :=
  onTun t s fun u => if u.svc.state = .off ∨ u.svc.hold ≠ .none_ then u else u.caskTemp s.now stack.toNat v

/-- A stack the running Recipe reserves (12 R476). -/
def Tun.stackReserved (t : Tun) (n : Nat) : Bool :=
  match t.sched.inForce with | some r => r.reserves.any fun w => (resMask w).getLsbD n | none => false

/-- 10 ms without a Cellar access: the stack enters self-refresh, unless the running Recipe reserves it (03 R101, 12 R476). -/
def Tun.selfRefresh (n : Nat) (t : Tun) : Tun :=
  if t.asm.casks ≤ n ∨ t.cellar.lostStacks.getLsbD n ∨ t.stackReserved n then t
  else t.modRel fun r => { r with selfRefresh := r.selfRefresh ||| (1#8 <<< n) }

def execCaskSelfRefreshEntry (t : TunId) (stack : BitVec 3) (s : State) : Res :=
  onTun t s fun u => if u.backgroundRuns && u.cellar.opened then u.selfRefresh stack.toNat else u

/-! ### SerDes recalibration (19 R754) -/

/-- A port's lanes recalibrate, or wait for the Angel's share where a running circuit names the port, or for their wake. -/
def Tun.serdesRecal (now id : Nat) (t : Tun) : Tun :=
  let p := t.port id
  if ¬ t.hasPort id ∨ p.link ≠ .linked then t
  else if p.rxNapped ∨ (t.circuitNames id ∧ ¬ t.inAngel now) then
    t.modRel fun r => { r with recalPending := if r.recalPending.contains id then r.recalPending else r.recalPending ++ [id] }
  else t.modRel fun r => { r with recalPending := r.recalPending.filter (· != id) }

def execSerdesRecal (t : TunId) (id : BitVec 9) (s : State) : Res :=
  onTun t s fun u => if u.svc.state = .off ∨ u.svc.hold ≠ .none_ then u else u.serdesRecal s.now id.toNat

/-! ### The die's temperature (20 R775, R785) -/

/-- The highest of the readings, signed. -/
def maxReading : List Half → Half
  | [] => 0
  | x :: xs => xs.foldl (fun m y => if m.toInt < y.toInt then y else m) x

/-- Each 1 ms the eight sensors are read; the Tun asserts WARN_N from 105 °C and THERMTRIP_N from 125 °C (03 R99, 20 R775). Below
its temperature each is deasserted, with no hysteresis (assumption 160, DESIGN CHOICE). -/
def Tun.junctionSample (now : Nat) (readings : List Half) (t : Tun) : Tun :=
  let v := maxReading readings
  let j := t.junction
  let hot : Bool := decide (1000 ≤ v.toInt)
  let t := { t with junction := {
    sampled := true, now := v, peak := if ¬ j.sampled ∨ j.peak.toInt < v.toInt then v else j.peak,
    warnPin := decide (840 ≤ v.toInt), tripPin := j.tripPin && hot } }
  if hot then t.assertTrip now else t

def execJunctionTempSample (t : TunId) (readings : List Half) (s : State) : Res :=
  onTun t s fun u => if u.svc.state = .off ∨ u.svc.hold = .cold ∨ readings.length ≠ 8 then u else u.junctionSample s.now readings

/-! ### Registers (19 Table 19-7) -/

def clampHours (v : Byte) : Byte := if v = 0 then 1 else if 168 < v.toNat then 168 else v

def Rel.ctrl (r : Rel) : Word := bitAt r.scrubOff 31 ||| fieldAt r.scrubHours 0
def Rel.status (r : Rel) : Word := fieldAt r.late 24 ||| fieldAt r.passes 0

def Tun.writeSparge (v : Word) (t : Tun) : Tun := t.modRel fun r => { r with scrubOff := v.getLsbD 31, scrubHours := clampHours (bitsOf v 0 8) }

end Sys2Proof.Machine
end

