-- ==== Sys2Proof/Machine/Telemetry.lean ====
section
/-! DEFINITION. Hydrometer (chapter 20): the gauges, reads of a value, snapshots, export rounds and their records. -/

namespace Sys2Proof.Machine
open Sys2Proof

def Tun.modHyd (f : Hyd → Hyd) (t : Tun) : Tun := { t with hyd := f t.hyd }

/-! ### Counters and gauges by name (20 R770-R774) -/

/-- The 34 engine units (12 Table 12-4), with the Tap unit. -/
def hydUnits : List Nat := mashUnits ++ cellarUnits ++ steepUnits ++ pourUnits ++ lauterUnits ++ gristUnits ++ [0x38]

/-- NOW of a gauge; `none` where the number names a counter. -/
def Tun.gaugeNow (t : Tun) (g c i : Nat) : Option Word :=
  let w (n : Nat) : Option Word := some (BitVec.ofNat 32 n)
  if g = 1 then
    (if c = 24 then w (if isFabricId i then 0 else (Tab.get [] t.plane.inj i).length)
     else if c = 25 then w (t.port i).replay.length
     else if c = 26 then w (if isRingId i ∨ isMeshId i then (Tab.get [] t.plane.landing i).length else 0)
     else none)
  else if g = 3 then
    (if c = 0 then w t.plane.engine.length
     else if c = 1 then w t.reorderDepth
     else if c = 2 then w (t.plane.north.straw.length + t.plane.north.stout.length)
     else if c = 3 then w (t.plane.south.straw.length + t.plane.south.stout.length)
     else if c = 4 then w t.bm.outstanding.length
     else none)
  else if g = 5 then
    (if c = 3 then w (t.queue i).held
     else if c = 4 then (let r := (t.queue i).cring.toNat; w ((t.ring r).unconsumed + t.reservations r))
     else none)
  else if g = 6 then (if c = 2 then w (match t.slotCtx i with | some x => (t.ctx x).blocks.length | none => 0) else none)
  else if g = 8 then (if c = 0 then some (t.junction.now.signExtend 32) else none)
  else none

/-- Indexes of a group's present items, ascending (20 Table 20-1). -/
def Tun.hydIndexes (t : Tun) (g : Nat) : List Nat :=
  if g = 1 then t.portIds
  else if g = 2 then t.portIds ++ [ownPort]
  else if g = 3 ∨ g = 8 then [0]
  else if g = 4 then hydUnits
  else if g = 5 then (t.bm.queues.entries.filter fun e => e.2.valid).map (·.1)
  else if g = 6 then List.range 16
  else if g = 7 then List.range t.asm.casks
  else []

/-- Numbers of a group's counters and gauges, ascending. -/
def hydNumbers (g : Nat) : List Nat :=
  if g = 1 then List.range 23 ++ [24, 25, 26]
  else if g = 2 then (List.range 18).map (· + 1)
  else if g = 3 ∨ g = 5 ∨ g = 7 then List.range 5
  else if g = 4 then List.range 4
  else if g = 6 then List.range 3
  else if g = 8 then [0]
  else []

/-- PEAK of a gauge: signed for JUNCTION_TEMP, and never below NOW. -/
def Tun.gaugePeak (t : Tun) (g c i : Nat) (now : Word) : Word :=
  if g = 8 then
    match t.hyd.tempPeak with
    | some p => if now.toInt < p.toInt then p.signExtend 32 else now
    | none => now
  else
    let p := Tab.get 0 t.hyd.peaks (hydKey g c i)
    if now.toNat < p.toNat then p else now

/-- The live value of a counter or gauge (20 R769, R770): 0 where nothing is present, and CASK 0 before FULL (05 Table 05-4). -/
def Tun.hydValue (t : Tun) (g c i : Nat) : Dword :=
  if ¬ (t.hydIndexes g).contains i ∨ ¬ (hydNumbers g).contains c then 0
  else match t.gaugeNow g c i with
    | some n => (t.gaugePeak g c i n ++ n : Dword)
    | none => if g = 7 ∧ t.svc.state = .pale then 0 else Tab.get 0 t.hyd.counters (hydKey g c i)

/-- Every counter and gauge present, in the order of a round: group, number, index (20 R779). -/
def Tun.hydNames (t : Tun) : List (Nat × Nat × Nat) :=
  ((List.range 8).map (· + 1)).flatMap fun g => (t.hydIndexes g).flatMap fun i => (hydNumbers g).map fun c => (g, c, i)

/-! ### Snapshots (20 R777) -/

/-- Copies every value into the snapshot bank and starts every PEAK again from NOW. -/
def Tun.snapshot (t : Tun) : Tun :=
  let names := t.hydNames
  let bank := names.foldl (fun (b : Tab Dword) n => b.set 0 (hydKey n.1 n.2.1 n.2.2) (t.hydValue n.1 n.2.1 n.2.2)) ⟨[]⟩
  let peaks := names.foldl (fun (b : Tab Word) n =>
    match t.gaugeNow n.1 n.2.1 n.2.2 with
    | some v => if n.1 = 8 then b else b.set 0 (hydKey n.1 n.2.1 n.2.2) v
    | none => b) ⟨[]⟩
  t.modHyd fun h => { h with snap := bank, peaks := peaks, tempPeak := if t.junction.sampled then some t.junction.now else none }

/-- SNAP: nothing while a round is being emitted (20 Table 20-7). -/
def Tun.snapWrite (t : Tun) : Tun := if t.hyd.left.isEmpty then t.snapshot else t

/-- SNAP written to HYD_CTRL. -/
def execSnap (t : TunId) (s : State) : Res := onTun t s (Tun.openWrite Tun.snapWrite)

/-- A value read with BANK (20 R776, R777). -/
def Tun.hydRead (t : Tun) : Dword :=
  let h := t.hyd
  let g := h.selGroup.toNat
  let c := h.selCounter.toNat
  let i := h.selIndex.toNat
  if h.bank then Tab.get 0 h.snap (hydKey g c i) else t.hydValue g c i

/-- A 32-bit read of HYD_VALUE_LO latches the matching high word for its path (20 R776). -/
def Tun.hydLatch (p : Path) (t : Tun) : Tun :=
  let hi : Word := t.hydRead.extractLsb' 32 32
  t.modHyd fun h => match p with
    | .pcie => { h with hiPcie := hi }
    | .inband => { h with hiInband := hi }
    | .sideband => { h with hiSideband := hi }

def execHydValueLoRead (t : TunId) (p : Path) (s : State) : Res :=
  onTun t s (Tun.openWrite (Tun.hydLatch p))

/-! ### Export (20 R778-R784) -/

/-- An export record, PHASE clear (20 Table 20-5). -/
def exportRecord (round : Half) (g c i : Nat) (gauge : Bool) (tun : Nat) (v : Dword) (time : Nat) (brew : BitVec 48) : List Byte :=
  halfBytes round ++ [BitVec.ofNat 8 g, BitVec.ofNat 8 c] ++ bytesLE 2 i ++ [if gauge then 1 else 0, BitVec.ofNat 8 tun] ++
    bytesLE 8 v.toNat ++ bytesLE 8 time ++ bytesLE 6 brew.toNat ++ [0, 0]

/-- A named value goes into a round: its group is exported, and a DROP counter is not 0 (20 R779). -/
def Tun.hydExports (t : Tun) (n : Nat × Nat × Nat) : Bool :=
  t.hyd.groupMask.getLsbD (n.1 - 1) && (n.1 != 2 || Tab.get 0 t.hyd.snap (hydKey n.1 n.2.1 n.2.2) != 0)

/-- The records of a round, from its snapshot (20 R779, R781). -/
def Tun.roundRecords (now : Nat) (t : Tun) : List (List Byte) :=
  let h := t.hyd
  let mk (g c i : Nat) (gauge : Bool) (v : Dword) := exportRecord h.round g c i gauge (t.number - 192) v now t.sched.brew
  let body := (t.hydNames.filter t.hydExports).map fun n =>
    mk n.1 n.2.1 n.2.2 (t.gaugeNow n.1 n.2.1 n.2.2).isSome (Tab.get 0 h.snap (hydKey n.1 n.2.1 n.2.2))
  [mk 0 0 0 false (BitVec.ofNat 64 now), mk 0 1 0 false (t.sched.brew.setWidth 64), mk 0 2 0 false (BitVec.ofNat 64 (body.length + 3))] ++ body

/-- One record on the in-band path (20 R782). -/
def Tun.exportInband (now : Nat) (r : List Byte) (t : Tun) : Tun :=
  let a := 0x0010 * 2 ^ 48 + leAt r 4 2 * 2 ^ 32 + leAt r 2 1 * 2 ^ 24 + leAt r 3 1 * 2 ^ 16 + leAt r 0 2
  t.originate now
    { type := tyMgmt, cls := clGrey, channel := 15, pkey := 0xFFFF, dst := t.hyd.dest.setWidth 12, addr := BitVec.ofNat 64 a, len := 8,
      tag := BitVec.ofNat 16 (leAt r 6 1), payload := (r.drop 8).take 8 }

def Hyd.ringDepth (h : Hyd) : Nat := 2 ^ h.ringLog2.toNat

/-- One record on the host ring (20 R783, R784). -/
def Tun.exportRing (r : List Byte) (t : Tun) : Tun :=
  let h := t.hyd
  if h.dropping ∨ (h.tail - h.head).toNat = h.ringDepth - 1 then
    t.modHyd fun h => { h with dropping := true, recordDrop := satInc h.recordDrop }
  else
    let i := h.tail.toNat
    let b := r.take 31 ++ [if i / h.ringDepth % 2 = 0 then 0x80 else 0]
    (t.modHyd fun h => { h with tail := h.tail + 1 }).hostWrite (some 0) (h.ringAddr.toNat + 32 * (i % h.ringDepth)) b false

/-- Emits up to 512 records of the round on each of its paths; after the last, the interrupt (20 R779, R783). A FENCED Tun carries no
traffic, so its in-band records go nowhere (05 R169). -/
def Tun.exportShare (now : Nat) (t : Tun) : Tun :=
  let h := t.hyd
  if h.left.isEmpty then t
  else
    let rs := h.left.take 512
    let t := t.modHyd fun h => { h with left := h.left.drop 512 }
    let t := if h.onInband ∧ t.serving then rs.foldl (fun t r => t.exportInband now r) t else t
    let t := if h.onRing then rs.foldl (fun t r => t.exportRing r) t else t
    if t.hyd.left.isEmpty ∧ h.onRing ∧ h.ringInt then t.msi (some 0) h.ringVector.toNat else t

/-- A round falls due in this Brew (20 R778). -/
def Tun.roundDue (t : Tun) : Bool :=
  let h := t.hyd
  t.sched.counting && (h.exportEn || h.ringEn) && t.sched.brew.toNat % max 1 h.interval.toNat == 0

/-- At slot 9,920 of a Brew in which a round falls due: a snapshot, and the round starts; or the round is skipped (20 R778, R780).
Which settings count the round, and what it emits in FENCED, is the model's reading (assumption 189, DEDUCED). -/
def Tun.exportRound (now : Nat) (t : Tun) : Tun :=
  if ¬ t.roundDue then t
  else if ¬ t.hyd.left.isEmpty then t.modHyd fun h => { h with roundSkipped := satInc h.roundSkipped }
  else
    let t := t.snapshot.modHyd fun h => { h with
      round := h.round + 1, onInband := h.exportEn && h.destValid, onRing := h.ringEn && h.ringValid, dropping := false }
    if ¬ t.hyd.onInband ∧ ¬ t.hyd.onRing then t
    else
      let rs := t.roundRecords now
      (t.modHyd fun h => { h with left := rs }).exportShare now

/-- A Tun whose Hydrometer counts, and whose Brews are counted: from PALE on, outside a reset (20 R778). -/
def Tun.counts (t : Tun) : Bool := t.svc.hold == .none_ && t.svc.state != .off && t.svc.state != .cold

def execExportRound (t : TunId) (s : State) : Res := onTun t s fun u => if u.counts then u.exportRound s.now else u

/-- The next Angel's share of a round (20 R779). -/
def execExportContinue (t : TunId) (s : State) : Res := onTun t s fun u => if u.counts then u.exportShare s.now else u

/-- A write to HYD_RING_HEAD (20 R783, 13 R521). -/
def Tun.hydHead (i : Half) (t : Tun) : Tun :=
  let h := t.hyd
  let n := (i - h.head).toNat
  let a := (h.tail - h.head).toNat
  if ¬ h.ringValid ∨ n = 0 then t
  else if n ≤ a then t.modHyd fun h => { h with head := i }
  else if n < 32768 then t.modHyd fun h => { h with head := h.tail }
  else t

def execHydRingHead (t : TunId) (index : Half) (s : State) : Res := onTun t s (Tun.openWrite (Tun.hydHead index))

/-! ### Configuration (20 R785, R786) -/

/-- The host ring registers are in range (20 Table 20-6). -/
def ringRange (addr : Dword) (log2 : BitVec 5) (vector : BitVec 11) : Bool :=
  decide (8 ≤ log2.toNat) && decide (log2.toNat ≤ 16) && decide (vector.toNat < 1024) && addr.toNat % (2 ^ log2.toNat * 32) == 0

def Tun.writeRingCfgHyd (v : Word) (t : Tun) : Tun :=
  let h := t.hyd
  let valid := v.getLsbD 31
  let int_ := v.getLsbD 30
  let l : BitVec 5 := bitsOf v 24 5
  let w : BitVec 11 := bitsOf v 0 11
  if h.ringValid then
    (if ¬ valid ∧ int_ = h.ringInt ∧ l = h.ringLog2 ∧ w = h.ringVector then t.modHyd fun h => { h with ringValid := false } else t)
  else if valid then
    (if ringRange h.ringAddr l w then
       t.modHyd fun h => { h with ringValid := true, ringInt := int_, ringLog2 := l, ringVector := w, tail := 0, head := 0 }
     else t)
  else t.modHyd fun h => { h with ringInt := int_, ringLog2 := l, ringVector := w }

/-- HYD_RING_CFG (0), HYD_RING_ADDR_LO (1), HYD_RING_ADDR_HI (2), HYD_EXPORT_DEST (3). -/
def Tun.writeHydConfig (reg : BitVec 2) (v : Word) (t : Tun) : Tun :=
  if reg = 0 then t.writeRingCfgHyd v
  else if reg = 3 then
    let d : BitVec 10 := bitsOf v 0 10
    if v.getLsbD 31 ∧ ¬ (d.toNat < 192 ∨ 256 ≤ d.toNat) then t
    else t.modHyd fun h => { h with destValid := v.getLsbD 31, dest := d }
  else if t.hyd.ringValid then t
  else t.modHyd fun h => { h with
    ringAddr := if reg = 1 then h.ringAddr.extractLsb' 32 32 ++ v else v ++ h.ringAddr.extractLsb' 0 32 }

def execHydConfigWrite (t : TunId) (reg : BitVec 2) (v : Word) (s : State) : Res :=
  onTun t s (Tun.openWrite (Tun.writeHydConfig reg v))

/-- HYD_CTRL: an interval of 0 is stored as 1 (20 Table 20-6). -/
def Tun.writeHydCtrl (v : Word) (t : Tun) : Tun :=
  let n : Half := bitsOf v 0 16
  let t := t.modHyd fun h => { h with exportEn := v.getLsbD 31, ringEn := v.getLsbD 30, interval := if n = 0 then 1 else n }
  if v.getLsbD 29 then t.snapWrite else t

def Tun.writeHydSel (v : Word) (t : Tun) : Tun :=
  t.modHyd fun h => { h with selGroup := bitsOf v 24 8, selCounter := bitsOf v 16 8, bank := v.getLsbD 15, selIndex := bitsOf v 0 10 }

def Hyd.ctrl (h : Hyd) : Word := bitAt h.exportEn 31 ||| bitAt h.ringEn 30 ||| fieldAt h.interval 0
def Hyd.sel (h : Hyd) : Word := fieldAt h.selGroup 24 ||| fieldAt h.selCounter 16 ||| bitAt h.bank 15 ||| fieldAt h.selIndex 0
def Hyd.status (h : Hyd) : Word :=
  fieldAt h.round 16 ||| fieldAt h.roundSkipped 8 ||| fieldAt h.recordDrop 1 ||| bitAt (!h.left.isEmpty) 0
def Hyd.ringCfg (h : Hyd) : Word := bitAt h.ringValid 31 ||| bitAt h.ringInt 30 ||| fieldAt h.ringLog2 24 ||| fieldAt h.ringVector 0
def Hyd.destReg (h : Hyd) : Word := bitAt h.destValid 31 ||| fieldAt h.dest 0

/-! ### Cycle counters (20 Tables 20-2 to 20-4) -/

/-- A unit has a command, timed step or binding; the Tap unit a step part-way. -/
def Tun.unitBusy (t : Tun) (u : Nat) : Bool :=
  if u = 0x38 then t.mash.taps.any fun e => !e.2.cur.isEmpty || !e.2.nxt.isEmpty else t.busyUnits.contains u

/-- HEAD_WAITING: a fetched command of the queue waits to start (13 Table 13-10). -/
def Tun.waitingQueues (t : Tun) : List Nat := ((t.bm.cmds.filter fun c => !c.running).map (·.queue)).eraseDups

/-- Peaks follow the gauges' values in the cycle. -/
def Tun.gaugeCycle (t : Tun) : Tun :=
  (t.hydNames.filterMap fun n => (t.gaugeNow n.1 n.2.1 n.2.2).map fun v => (n, v)).foldl (fun t x =>
    let v := t.gaugePeak x.1.1 x.1.2.1 x.1.2.2 x.2
    t.modHyd fun h =>
      if x.1.1 = 8 then { h with tempPeak := some (v.setWidth 16) } else { h with peaks := h.peaks.set 0 (hydKey x.1.1 x.1.2.1 x.1.2.2) v }) t

/-- Refresh of an online stack, once per 100 ns: a free number of transactions within the allowance of its temperature (19 Table 19-6, 20
Table 20-4, assumption 74). -/
def Tun.refreshCycle (now : Nat) (t : Tun) : Tun :=
  if now % 2560 ≠ 0 ∨ ¬ t.cellar.opened then t else
  ((List.range t.asm.casks).filter fun n => !(t.cellar.lostStacks.getLsbD n) && !(t.rel.selfRefresh.getLsbD n)).foldl (fun t n =>
    let most := if (Tab.get 0 t.rel.temps n).toInt ≤ 680 then 60 else 120
    t.bumpBy 7 3 n (min most (Config.refreshTxn now (8 * t.number + n)))) t

/-- One core cycle of the counters that count cycles. -/
def Tun.cycle (now : Nat) (t : Tun) : Tun :=
  let on (g c : Nat) (is : List Nat) (t : Tun) : Tun := is.foldl (fun t i => t.bump g c i) t
  let t1 := on 4 0 (hydUnits.filter t.unitBusy) t
  let t1 := on 5 2 t.waitingQueues t1
  let t1 := on 6 0 ((List.range 16).filter fun n => (t.slotCtx n).isSome) t1
  let t1 := on 6 1 ((List.range 16).filter fun n => match t.slotCtx n with | some c => (t.ctx c).state == .streaming | none => false) t1
  let t1 := on 7 4 ((List.range t.asm.casks).filter t.rel.selfRefresh.getLsbD) t1
  let t1 := on 1 14 ((t.bidders.flatMap fun b => t.targets b.2.pkt.dst.toNat).filter (· != engineOut)).eraseDups t1
  let t1 := on 1 15 (t.portIds.filter (t.circuitHolds now 1)) t1
  (t1.refreshCycle now).gaugeCycle

end Sys2Proof.Machine
end

