-- ==== Sys2Proof/Machine/RegMap.lean ====
section
/-! DEFINITION. The Tun management window (22 R805-R813): what each offset reads and what a write to it does, which windows answer in
which service state (04 R125, 05 R173), accesses of 32 and 64 bits (00 R5-R7), and the write-conflict registers. -/

namespace Sys2Proof.Machine
open Sys2Proof

/-! ### Tables of one window -/

def setLo (x : Dword) (v : Word) : Dword := x.extractLsb' 32 32 ++ v
def setHi (x : Dword) (v : Word) : Dword := v ++ x.extractLsb' 0 32
def loOf (x : Dword) : Word := x.extractLsb' 0 32
def hiOf (x : Dword) : Word := x.extractLsb' 32 32

/-- A value held within bounds (the manual's "stored as the nearest bound"). -/
def clampHalf (lo hi : Nat) (v : Half) : Half := if v.toNat < lo then BitVec.ofNat 16 lo else if hi < v.toNat then BitVec.ofNat 16 hi else v

def runAt (o : Nat) (l : List (Nat × (Tun → Tun))) (t : Tun) : Tun := (lookupD id o l) t

/-- Port or link ID and offset in its block (09, 22 Table 22-1). -/
def blockOf (off : Nat) : Option (Nat × Nat) :=
  if 0x010000 ≤ off ∧ off < 0x050000 then some ((off - 0x010000) / 0x400, off % 0x400)
  else if 0x060000 ≤ off ∧ off < 0x061400 then some (256 + (off - 0x060000) / 0x400, off % 0x400)
  else none

/-! ### Windows 0x00, 0x0C, 0x0E, 0x0F -/

/-- LINK_UP_MAPk (09 R350). -/
def Tun.linkUpMap (t : Tun) (k : Nat) : Word := (List.range 32).foldl (fun w i => w ||| bitAt (t.portUp (32 * k + i)) i) 0

/-- GEN_MODE (21 Table 21-2). -/
def Tun.genModeWord (t : Tun) : Word :=
  let n := (t.upPorts.filter fun id => !(isFabricId id) && (t.port id).genNow).length
  fieldAt (BitVec.ofNat 9 n) 16 ||| bitAt (!t.rack.gensel) 0

/-- Four bytes of the proxy buffer (06 R193). -/
def Tun.proxyBufWord (t : Tun) (o : Nat) : Word := BitVec.ofNat 32 (natLE ((List.range 4).map fun i => t.proxy.buf.get 0 (o + i)))

def Tun.readWin0 (p : Path) (o : Nat) (t : Tun) : Word :=
  if 0x200 ≤ o ∧ o ≤ 0x300 then
    (if p = .sideband then 0 else if o = 0x300 then t.proxyWord else t.proxyBufWord (o - 0x200))
  else if 0x100 ≤ o ∧ o < 0x124 then t.linkUpMap ((o - 0x100) / 4)
  else lookupD 0 o
    [(0x00, t.identityWord), (0x10, t.serviceWord), (0x14, bitAt t.svc.stayPale 4), (0x20, t.genModeWord), (0x30, t.conflict.count),
     (0x34, t.conflictLastWord), (0x40, t.rackConfigWord), (0x44, t.rackStatusWord)]

def Tun.readWinC (o : Nat) (t : Tun) : Word :=
  lookupD 0 o [(0x00, t.caskTrainWord), (0x04, t.rel.caskCause), (0x10, t.rel.ctrl), (0x14, t.rel.status)]

/-- ERR_STATUS to ERR_LOG255 (19 Table 19-4). -/
def Tun.readWinE (o : Nat) (t : Tun) : Word :=
  if 0x1000 ≤ o ∧ o < 0x3000 then BitVec.ofNat 32 (leAt (Tab.get [] t.err.log ((o - 0x1000) / 32)) (o % 32) 4)
  else lookupD 0 o
    [(0x00, t.err.status), (0x04, fieldAt t.err.mask 0), (0x08, fieldAt t.err.caskCorrected 16 ||| fieldAt t.err.wortCorrected 0),
     (0x0C, fieldAt t.err.next 0)]

def Tun.readWinF (o : Nat) (t : Tun) : Word :=
  lookupD 0 o
    [(0x00, t.clockWord), (0x14, t.resetStatusWord), (0x20, t.bootWord), (0x30, t.hostPortStatus), (0x34, t.host.counts)]

/-! ### Port and link blocks -/

def Tun.readBlock (id o : Nat) (t : Tun) : Word :=
  let p := t.port id
  if ¬ t.hasPort id then 0
  else if 0x100 ≤ o ∧ o < 0x120 then (if isFabricId id then 0 else Tab.get 0 t.plane.pkeyMap (id * 8 + (o - 0x100) / 4))
  else if o = 0x120 then (if isFabricId id then 0 else Tab.get 0 t.plane.pkeyCtrl id)
  else lookupD 0 o
    [(0x00, p.ctrlWord), (0x04, p.statusWord), (0x08, p.peerWord), (0x0C, p.delayWord), (0x10, loOf p.peerDevice),
     (0x14, hiOf p.peerDevice), (0x18, p.incarnWord), (0x1C, p.eventsWord)]

def Plane.modeWord (p : Plane) : Word :=
  bitAt p.ringDrain 31 ||| bitAt p.broken 30 ||| fieldAt p.breakRow 24 ||| bitAt p.modeStored 0

/-- Both ring holds and both ring landings are empty (11 Table 11-9 HOLDS_EMPTY). -/
def Plane.holdsEmpty (p : Plane) : Bool :=
  p.north.straw.isEmpty && p.north.stout.isEmpty && p.south.straw.isEmpty && p.south.stout.isEmpty &&
    (Tab.get [] p.landing 259).isEmpty && (Tab.get [] p.landing 260).isEmpty

def RingHold.depth (h : RingHold) : Byte := BitVec.ofNat 8 (h.straw.length + h.stout.length)

/-- VORLAUF_STATUS (11 Table 11-9). -/
def Tun.vorlaufWord (t : Tun) : Word :=
  let p := t.plane
  bitAt t.ringBroken 31 ||| bitAt p.holdsEmpty 30 ||| bitAt (p.modeStored != p.modeNow) 29 ||| bitAt p.modeMismatch 28 |||
    bitAt p.modeNow 27 ||| fieldAt p.north.depth 16 ||| fieldAt p.south.depth 8 ||| fieldAt p.ringEject 0

/-- Window 0x05 (11 R403, R411, R412, 10 R365-R368, R393, R394). -/
def Tun.readWin5 (o : Nat) (t : Tun) : Word :=
  let p := t.plane
  if 0x8000 ≤ o ∧ o < 0x8800 then
    let e := t.pkeyWord ((o - 0x8000) / 8)
    if o % 8 = 0 then loOf e else hiOf e
  else if 0x8800 ≤ o ∧ o < 0x8900 then
    Tab.get 0 p.rankDesc ((o - 0x8800) / 4)
  else if 0x8930 ≤ o ∧ o < 0x8950 then BitVec.ofNat 32 (leAt p.dropHdr (o - 0x8930) 4)
  else lookupD 0 o
    [(0x1000, bitAt p.collPrio 31 ||| fieldAt p.unreachHops 16 ||| fieldAt p.gildThreshold 8 ||| fieldAt p.injectAge 0),
     (0x1004, p.weights), (0x1010, fieldAt p.routeIndex 0), (0x1014, Tab.get 0 p.routes p.routeIndex.toNat),
     (0x1018, fieldAt p.routeStatus 0), (0x8900, p.rankIndex), (0x8904, fieldAt (Tab.get 0 p.ranks p.rankIndex.toNat) 0),
     (0x8910, fieldAt p.holeTimeout 16),
     (0x8914, fieldAt p.seqGap 16 ||| bitAt p.rankRefused 15 ||| bitAt p.pkeyRefused 14 ||| fieldAt (BitVec.ofNat 13 t.reorderDepth) 0),
     (0x8920, fieldAt p.dropCode 24 ||| fieldAt p.dropPort 15 ||| fieldAt p.dropCount 0)]

/-! ### The scheduled plane -/

def PlaneState.code : PlaneState → BitVec 3
  | .stopped => 0
  | .armed => 1
  | .running => 2
  | .stopping => 3

/-- Slot of the current Brew (12 R443). -/
def Tun.slotNow (t : Tun) (now : Nat) : Nat :=
  if t.sched.counting then ((now : Int) - t.sched.boundary).toNat / 2560 % 10000 else 0

def Sched.loadedValid (s : Sched) : Bool := s.loaded.isSome && !s.storeBad

def recipeIdOf (r : Option Recipe) : Dword := match r with | some r => r.id | none => 0

def Tun.readWin7 (now o : Nat) (t : Tun) : Word :=
  let s := t.sched
  let start : Dword := match s.startBrew with | some f => f.setWidth 64 | none => 0
  if 0x40 ≤ o ∧ o < 0x50 then
    match s.toArm with | some r => BitVec.ofNat 32 (leAt r.digest (o - 0x40) 4) | none => 0
  else lookupD 0 o
    [(0x04, fieldAt s.lastStatus 16 ||| fieldAt s.plane.code 13 ||| bitAt s.shadowValid 12 ||| bitAt s.loadedValid 11 |||
        bitAt s.aligned 10),
     (0x08, loOf (s.brewTarget.setWidth 64)), (0x0C, hiOf (s.brewTarget.setWidth 64)), (0x10, loOf s.recipeSrc), (0x14, hiOf s.recipeSrc),
     (0x1C, fieldAt s.loadStatus 16 ||| bitAt s.loading.isSome 15 ||| fieldAt s.loadReason 0), (0x20, loOf (s.brew.setWidth 64)),
     (0x24, hiOf (s.brew.setWidth 64) ||| fieldAt (BitVec.ofNat 14 (t.slotNow now)) 16),
     (0x30, loOf (recipeIdOf s.loaded)), (0x34, hiOf (recipeIdOf s.loaded)), (0x38, loOf (recipeIdOf s.shadow)),
     (0x3C, hiOf (recipeIdOf s.shadow)), (0x50, fieldAt s.armState 0), (0x54, loOf start), (0x58, hiOf start),
     (0x60, fieldAt s.hops 28 ||| bitAt s.markerOk 27 ||| fieldAt s.parent 16 ||| fieldAt s.phaseErr 0),
     (0x70, fieldAt s.slotForfeit 16 ||| fieldAt s.stepMissed 8 ||| fieldAt s.stepOverrun 0),
     (0x74, fieldAt s.forfeitCause 28 ||| fieldAt s.forfeitPort 16 ||| fieldAt s.forfeitSlot 0),
     (0x78, BitVec.ofNat 32 t.suspendedCount)]

/-! ### Brewmaster -/

def Tun.queueCfgWord (t : Tun) (q : Nat) : Word :=
  let k := t.queue q
  bitAt k.valid 31 ||| bitAt k.endpointSubmit 30 ||| fieldAt k.cring 20 ||| fieldAt (if q = 0 then 8 else k.log2) 16 ||| fieldAt k.ctx 8

def Tun.queueFlagsWord (t : Tun) (q : Nat) : Word :=
  let k := t.queue q
  bitAt k.overrun 31 ||| bitAt k.cfgRefused 30 ||| bitAt (t.waitingQueues.contains q) 29 |||
    fieldAt (BitVec.ofNat 7 (t.startedOf q)) 16 ||| fieldAt k.overrunCount 0

def Ring.cfgWord (r : Ring) : Word :=
  bitAt r.valid 31 ||| bitAt r.endpoint 30 ||| bitAt r.split 29 ||| bitAt r.intEn 28 ||| fieldAt r.log2 24 ||| fieldAt r.ctx 16 |||
    fieldAt r.vector 0

def Tun.ringFlagsWord (t : Tun) (r : Nat) : Word :=
  let g := t.ring r
  bitAt g.overrun 31 ||| bitAt g.cfgRefused 30 ||| bitAt (g.valid && t.ringFree r == 0) 29 ||| fieldAt (BitVec.ofNat 13 (t.reservations r)) 0

def Tun.ctxInfoWord (t : Tun) (c : Nat) : Word :=
  let x := t.ctx c
  fieldAt x.state.code 29 ||| bitAt x.pin 28 ||| bitAt (t.pushActive c) 27 ||| fieldAt x.priority 24 |||
    fieldAt (BitVec.ofNat 3 (t.eff c)) 21 ||| fieldAt (BitVec.ofNat 5 (x.slot.getD 31)) 16 ||| fieldAt x.gen 8 ||| fieldAt x.share 0

def Tun.semWord (t : Tun) (n : Nat) : Word :=
  let s := t.sem n
  fieldAt s.mode 30 ||| bitAt (!(t.semWaiters n).isEmpty) 29 ||| bitAt (t.leaseActive n) 28 ||| bitAt s.target.isSome 27 |||
    fieldAt (BitVec.ofNat 8 (s.target.getD 0)) 19 ||| (if s.mode = 2 then fieldAt s.count 0 else 0)

def Tun.readWin8 (o : Nat) (t : Tun) : Word :=
  let b := t.bm
  let q := b.queueSel.toNat
  let r := b.cringSel.toNat
  let k := t.queue q
  let g := t.ring r
  let c := b.ctxSel.toNat
  let x := t.ctx c
  lookupD 0 o
    [(0x000, fieldAt b.remoteTimeout 16),
     (0x004, fieldAt b.cmdRefused 24 ||| fieldAt b.dbRefused 16 ||| fieldAt b.dbStale 8 ||| fieldAt b.cplLost 0),
     (0x008, fieldAt (BitVec.ofNat 9 b.held.length) 16 ||| fieldAt (BitVec.ofNat 11 t.started) 0),
     (0x100, fieldAt b.queueSel 0), (0x104, t.queueCfgWord q), (0x108, fieldAt k.ring 0), (0x10C, fieldAt k.p 16 ||| fieldAt k.c 0),
     (0x110, t.queueFlagsWord q), (0x120, fieldAt b.cringSel 0), (0x124, g.cfgWord), (0x128, loOf g.addr), (0x12C, hiOf g.addr),
     (0x130, fieldAt g.channel 28 ||| fieldAt g.dest 16 ||| fieldAt g.function 8), (0x134, fieldAt g.tail 16 ||| fieldAt g.head 0),
     (0x138, t.ringFlagsWord r), (0x200, fieldAt b.ctxSel 0), (0x204, t.ctxInfoWord c), (0x208, fieldAt x.proof 16 ||| fieldAt x.pkey 0),
     (0x20C, bitAt b.streaming.isSome 31 ||| fieldAt (BitVec.ofNat 5 t.slotsUsed.length) 16 ||| fieldAt (BitVec.ofNat 8 t.freeBlocks.length) 0),
     (0x210, fieldAt b.evictions 24 ||| fieldAt b.leaseExpired 16 ||| fieldAt b.kills 0), (0x214, b.lateReply),
     (0x218, fieldAt b.semMisuse 16 ||| fieldAt b.nonres 0), (0x220, fieldAt b.semSel 0), (0x224, t.semWord b.semSel.toNat)]

/-! ### Collectives, Cellar and token engines -/

/-- Bits of the units of a list that are in use. -/
def Tun.busyBits (t : Tun) (us : List Nat) : Nat :=
  (us.mapIdx fun i u => if t.busyUnits.contains u then 2 ^ i else 0).foldl (· + ·) 0

def Tun.groupInfoWord (t : Tun) (n : Nat) : Word :=
  match t.group n with
  | none => 0
  | some g =>
    bitAt true 31 ||| bitAt (t.groupPushing n) 30 ||| fieldAt g.gen 22 ||| fieldAt (BitVec.ofNat 8 g.ctx) 14 |||
      fieldAt (BitVec.ofNat 3 (g.pipes - 1)) 11 ||| fieldAt (BitVec.ofNat 11 g.members.length) 0

def Tun.tapSlot (t : Tun) (n : Nat) : Option TapSlot := (t.mash.taps.find? fun e => e.1 == n).map (·.2)

def Tun.readWin9 (o : Nat) (t : Tun) : Word :=
  let m := t.mash
  let tap := t.tapSlot m.tapSel.toNat
  let info : Word := match tap with
    | some s => bitAt true 31 ||| fieldAt s.gen 23 ||| fieldAt (BitVec.ofNat 8 s.ctx) 15 ||| fieldAt (BitVec.ofNat 9 s.members.length) 0
    | none => 0
  let step : Word := match tap with
    | some s => fieldAt s.step 16 ||| fieldAt (BitVec.ofNat 9 s.cur.length) 0
    | none => 0
  lookupD 0 o
    [(0x000, fieldAt m.groupSel 0), (0x004, t.groupInfoWord m.groupSel.toNat),
     (0x008, match t.group m.groupSel.toNat with | some g => g.tunMask | none => 0),
     (0x010, fieldAt m.staleContrib 24 ||| fieldAt m.contribDiscard 16 ||| fieldAt m.signalDiscard 8),
     (0x014, fieldAt (BitVec.ofNat 8 (t.busyBits mashUnits)) 16 ||| fieldAt (BitVec.ofNat 9 m.groups.length) 0), (0x100, fieldAt m.tapSel 0),
     (0x104, info), (0x108, step),
     (0x110, fieldAt m.tapRefused 24 ||| fieldAt m.tapDup 16 ||| fieldAt m.tapEarly 8 ||| fieldAt m.tapDeflect 0)]

def Tun.readWinA (o : Nat) (t : Tun) : Word :=
  let c := t.cellar
  lookupD 0 o
    [(0x00, fieldAt c.lostStacks 24 ||| fieldAt (BitVec.ofNat 24 t.freePages) 0), (0x04, BitVec.ofNat 32 t.totalPages),
     (0x08, BitVec.ofNat 32 t.seqEntries),
     (0x0C, fieldAt c.fullCount 24 ||| fieldAt c.lostSeqs 16 ||| fieldAt c.promotions 8 ||| fieldAt c.orphans 0),
     (0x10, fieldAt c.quotaSel 0), (0x14, Tab.get 0 c.quotas c.quotaSel.toNat), (0x18, BitVec.ofNat 32 (t.pagesOf c.quotaSel.toNat)),
     (0x20, BitVec.ofNat 32 (t.busyBits steepUnits))]

def TStream.infoWord (x : TStream) : Word :=
  bitAt x.isOpen 31 ||| bitAt x.replace 30 ||| fieldAt (BitVec.ofNat 8 x.ctx) 22 ||| fieldAt x.log2 16 ||| bitAt x.overrun 15 |||
    fieldAt (BitVec.ofNat 2 x.held.length) 8

def TableSlot.infoWord (x : TableSlot) : Word :=
  bitAt (x.kind != 0) 31 ||| fieldAt (BitVec.ofNat 4 x.kind) 24 ||| fieldAt (BitVec.ofNat 23 (x.off / 64)) 0

def Tun.readWinB (o : Nat) (t : Tun) : Word :=
  let k := t.token
  let x := t.tstream k.streamSel.toNat
  lookupD 0 o
    [(0x00, fieldAt (BitVec.ofNat 9 (k.streams.entries.filter fun e => e.2.isOpen).length) 16 |||
        fieldAt (BitVec.ofNat 2 (t.busyBits pourUnits)) 8 ||| fieldAt (BitVec.ofNat 2 (t.busyBits lauterUnits)) 4 |||
        fieldAt (BitVec.ofNat 4 (t.busyBits gristUnits)) 0),
     (0x04, fieldAt k.streamDrop 24 ||| fieldAt k.forceConflicts 16 ||| fieldAt k.entriesSkipped 8 ||| fieldAt k.maskMisses 0),
     (0x10, fieldAt k.streamSel 0), (0x14, x.infoWord), (0x18, x.tail), (0x1C, x.head), (0x20, fieldAt k.tableSel 0),
     (0x24, (Tab.get {} k.slots ((k.tableSel.toNat % 256) * 16 + k.tableSel.toNat / 256)).infoWord)]

/-! ### Hydrometer -/

/-- High word the path's last 32-bit read of HYD_VALUE_LO latched (20 R776). -/
def Hyd.hiOn (h : Hyd) : Path → Word
  | .pcie => h.hiPcie
  | .inband => h.hiInband
  | .sideband => h.hiSideband

def Tun.readWinD (p : Path) (o : Nat) (t : Tun) : Word :=
  let h := t.hyd
  lookupD 0 o
    [(0x00, h.ctrl), (0x04, h.destReg), (0x08, fieldAt h.groupMask 1), (0x10, h.sel), (0x14, loOf t.hydRead), (0x18, h.hiOn p),
     (0x1C, h.status), (0x20, loOf h.ringAddr), (0x24, hiOf h.ringAddr), (0x28, h.ringCfg), (0x2C, fieldAt h.tail 16 ||| fieldAt h.head 0),
     (0x40, fieldAt t.junction.peak 16 ||| fieldAt t.junction.now 0)]

/-! ### Reads -/

/-- What offset `off` holds, whatever the state (22 Table 22-6); 0 where no register stands (R806). -/
def Tun.regWord (now : Nat) (p : Path) (off : Nat) (t : Tun) : Word :=
  match blockOf off with
  | some b => t.readBlock b.1 b.2
  | none =>
    let o := off % 65536
    match off / 65536 with
    | 0x0 => t.readWin0 p o
    | 0x5 => t.readWin5 o
    | 0x6 => if o = 0x2000 then t.plane.modeWord else if o = 0x2004 then t.vorlaufWord else 0
    | 0x7 => t.readWin7 now o
    | 0x8 => t.readWin8 o
    | 0x9 => t.readWin9 o
    | 0xA => t.readWinA o
    | 0xB => t.readWinB o
    | 0xC => t.readWinC o
    | 0xD => t.readWinD p o
    | 0xE => t.readWinE o
    | 0xF => t.readWinF o
    | _ => 0

/-- Windows of the first row of 05 Table 05-11. -/
def openWindow (off : Nat) : Bool := off / 65536 == 0 || (decide (0xC ≤ off / 65536) && decide (off / 65536 ≤ 0xF))

/-- Windows a warm reset does not hold (22 Table 22-1). -/
def unheldWindow (off : Nat) : Bool := off / 65536 == 0 || off / 65536 == 0xE || off / 65536 == 0xF

/-- Registers of held windows that read their values during and after a warm reset (22 Table 22-1, 05 R173). -/
def retainedReg (off : Nat) : Bool :=
  match blockOf off with
  | some b => b.2 == 0 || (decide (0x100 ≤ b.2) && decide (b.2 ≤ 0x120))
  | none => (off / 65536 == 5 && off != 0x058914) || off == 0x062000

/-- The Tun is in COLD since a warm reset: causes 3 to 6 of LAST_CAUSE (04 Table 04-9). -/
def Tun.warmCold (t : Tun) : Bool := decide (3 ≤ t.svc.lastCause.toNat)

/-- The register shows its value now (04 R125, 05 R173, 22 Table 22-1). -/
def Tun.shows (t : Tun) (off : Nat) : Bool :=
  if t.svc.hold = .warm then unheldWindow off || retainedReg off || off == 0x0C0000 || off == 0x0D0040
  else if t.svc.state = .cold then openWindow off || (t.warmCold && retainedReg off)
  else true

/-- A 32-bit read. -/
def Tun.readReg (now : Nat) (p : Path) (off : Nat) (t : Tun) : Word := if t.shows off then t.regWord now p off else 0

/-- Low-word offsets of the 64-bit registers of the second form of 00 R6. -/
def pairOffset (off : Nat) : Bool := off == 0x0D0014 || off == 0x070054

/-- An access the device performs (00 R6, R7). -/
def regAligned (off bytes : Nat) : Bool :=
  (bytes == 4 && off % 4 == 0) || (bytes == 8 && (off % 8 == 0 || pairOffset off))

/-- A 64-bit read of HYD_VALUE returns both words of one value (20 R776). -/
def Tun.read64 (now : Nat) (p : Path) (off : Nat) (t : Tun) : Dword :=
  if off = 0x0D0014 then (if t.shows off then t.hydRead else 0)
  else t.readReg now p (off + 4) ++ t.readReg now p off

/-- A read over a path: its bytes and the Tun after, a 32-bit read of HYD_VALUE_LO latching the high word (00 R7, 20 R776). -/
def Tun.readAccess (now : Nat) (p : Path) (off bytes : Nat) (t : Tun) : List Byte × Tun :=
  if ¬ regAligned off bytes then (List.replicate bytes 0xFF, t)
  else if bytes = 8 then (bytesLE 8 (t.read64 now p off).toNat, t)
  else (bytesLE 4 (t.readReg now p off).toNat, if off = 0x0D0014 ∧ t.shows off then t.hydLatch p else t)

/-! ### Writes -/

/-- A register write that stores fields of RACK_CONFIG (02 R52, R56, R58). Keeper fields take effect at once while the plane is STOPPED
and ALIGNED is clear. -/
def Tun.writeRackConfig (v : Word) (t : Tun) : Tun :=
  let t := { t with rack := { t.rack with
    keeperOverride := v.getLsbD 15, keeperRow := bitsOf v 12 3, keeperCol := bitsOf v 10 2, pairing := v.getLsbD 2 && t.rack.plan == 1 } }
  if t.sched.plane = .stopped ∧ ¬ t.sched.aligned then t.keeperTakes else t

/-- CONFLICT_CTRL CLEAR (22 R810). -/
def Tun.conflictClear (t : Tun) : Tun := { t with conflict := {} }

/-- MALT_PROXY_CTRL SEND and the buffer (06 R193, R194): a SEND taken raises BUSY, and the command that wrote it relays the frame. -/
def Tun.proxySendWrite (t : Tun) : Tun :=
  if t.proxy.busy then { t with proxy := { t.proxy with refused := satInc t.proxy.refused } }
  else { t with proxy := { t.proxy with done := false, busy := true } }

def Tun.proxyBufWrite (o : Nat) (v : Word) (t : Tun) : Tun :=
  if t.proxy.busy then t
  else { t with proxy := { t.proxy with
    buf := (List.range 4).foldl (fun b i => b.set 0 (o + i) (v.extractLsb' (8 * i) 8)) t.proxy.buf } }

def Tun.writeWin0 (now : Nat) (p : Path) (o : Nat) (v : Word) (t : Tun) : Tun :=
  if 0x200 ≤ o ∧ o < 0x300 then (if p = .sideband then t else t.proxyBufWrite (o - 0x200) v)
  else if o = 0x300 then (if p ≠ .sideband ∧ v.getLsbD 0 then t.proxySendWrite else t)
  else runAt o
    [(0x10, fun t => if v.getLsbD 7 then { t with svc := { t.svc with reqRefused := false } } else t), (0x14, Tun.writeServiceCtrl now p v),
     (0x38, fun t => if v.getLsbD 0 then t.conflictClear else t), (0x40, Tun.writeRackConfig v)] t

/-- PORT_PKEY_MAP and PORT_PKEY_CTRL (10 R375), PORT_CTRL (09 R346). -/
def Tun.writeBlock (now id o : Nat) (v : Word) (t : Tun) : Tun :=
  if ¬ t.hasPort id then t
  else if o = 0 then t.writePortCtrl now id v
  else if isFabricId id then t
  else if 0x100 ≤ o ∧ o < 0x120 then
    { t with plane := { t.plane with pkeyMap := t.plane.pkeyMap.set 0 (id * 8 + (o - 0x100) / 4) v } }
  else if o = 0x120 then { t with plane := { t.plane with pkeyCtrl := t.plane.pkeyCtrl.set 0 id (v &&& 0x800007FF) } }
  else t

/-- A PKEY_TABLE word (10 R365, R366). -/
def Tun.writePkeyLow (i : Nat) (v : Word) (t : Tun) : Tun :=
  let k : Half := bitsOf v 0 16
  let bad := v.getLsbD 31 && (k == 0 || k == 0xFFFF)
  let w := v &&& 0xBF80FFFF
  let w := if bad then w &&& 0x7FFFFFFF else w
  { t with plane := { t.plane with
    pkeys := t.plane.pkeys.set 0 i (setLo (t.pkeyWord i) w), pkeyRefused := t.plane.pkeyRefused || bad } }

def Tun.writePkeyHigh (i : Nat) (v : Word) (t : Tun) : Tun :=
  { t with plane := { t.plane with pkeys := t.plane.pkeys.set 0 i (setHi (t.pkeyWord i) (v &&& 0x3F)) } }

/-- RANK_DESC (10 R367). -/
def Tun.writeRankDesc (i : Nat) (v : Word) (t : Tun) : Tun :=
  let w := min 256 (max 1 (bitsOf v 16 9).toNat)
  let n := min 4096 (bitsOf v 0 13).toNat
  { t with plane := { t.plane with rankDesc := t.plane.rankDesc.set 0 i (BitVec.ofNat 32 (w * 65536 + n)) } }

/-- RANK_DATA (10 R368). -/
def Tun.writeRankData (v : Word) (t : Tun) : Tun :=
  let e := (bitsOf v 0 10).toNat
  if v.getLsbD 15 ∧ 192 ≤ e ∧ e ≤ 255 then { t with plane := { t.plane with rankRefused := true } }
  else { t with plane := { t.plane with
    ranks := t.plane.ranks.set 0 t.plane.rankIndex.toNat ((v &&& 0x83FF).setWidth 16) } }

/-- A routing entry may be made valid (11 R404). -/
def Tun.routeOk (t : Tun) (dest : Nat) (v : Word) : Bool :=
  let annex := v.getLsbD 30
  if dest < 192 then !annex && decide (dest < t.asm.endpointPorts t.rack.plan)
  else if dest < 256 then false
  else
    let port := (bitsOf v 16 9).toNat
    annex && decide ((bitsOf v 27 3).toNat < t.trays) && isAnnexId port && t.hasPort port

/-- ROUTE_DATA (11 R404). -/
def Tun.writeRouteData (v : Word) (t : Tun) : Tun :=
  let d := t.plane.routeIndex.toNat
  if v.getLsbD 31 ∧ ¬ t.routeOk d v then { t with plane := { t.plane with routeStatus := 0x00F1 } }
  else { t with plane := { t.plane with
    routes := t.plane.routes.set 0 d (v &&& 0xFFFF0000), routeStatus := if t.svc.state = .draining then 0 else 1 } }

/-- ARB_CTRL (11 Table 11-4). -/
def Plane.writeArb (v : Word) (p : Plane) : Plane :=
  let u : BitVec 6 := bitsOf v 16 6
  let g : BitVec 3 := bitsOf v 8 3
  let a : Byte := bitsOf v 0 8
  { p with
    collPrio := v.getLsbD 31, unreachHops := if u.toNat < 8 then 8 else u, gildThreshold := if g = 0 then 1 else g,
    injectAge := if a = 0 then 1 else a }

def Tun.modPlane (f : Plane → Plane) (t : Tun) : Tun := { t with plane := f t.plane }

def Tun.writeWin5 (o : Nat) (v : Word) (t : Tun) : Tun :=
  if 0x8000 ≤ o ∧ o < 0x8800 then
    (if o % 8 = 0 then t.writePkeyLow ((o - 0x8000) / 8) v else t.writePkeyHigh ((o - 0x8000) / 8) v)
  else if 0x8800 ≤ o ∧ o < 0x8900 then t.writeRankDesc ((o - 0x8800) / 4) v
  else runAt o
    [(0x1000, Tun.modPlane (Plane.writeArb v)), (0x1004, Tun.modPlane fun p => { p with weights := v &&& 0x3FFFFFFF }),
     (0x1010, Tun.modPlane fun p => { p with routeIndex := bitsOf v 0 10 }), (0x1014, Tun.writeRouteData v),
     (0x8900, Tun.modPlane fun p => { p with rankIndex := v &&& 0x3FFFF }), (0x8904, Tun.writeRankData v),
     (0x8910, Tun.modPlane fun p => { p with holeTimeout := clampHalf 10 10000 (bitsOf v 16 16) }),
     (0x8914, Tun.modPlane fun p => { p with
        rankRefused := p.rankRefused && !(v.getLsbD 15), pkeyRefused := p.pkeyRefused && !(v.getLsbD 14) })] t

/-- A stored ring MODE is applied once RING_DRAIN is set and the holds are empty (11 R431). -/
def Tun.vorlaufApply (t : Tun) : Tun :=
  if t.plane.ringDrain ∧ t.plane.holdsEmpty then t.modPlane fun p => { p with modeNow := p.modeStored } else t

/-- VORLAUF_MODE (11 Table 11-8); MODE stays 0 in a generation-1 rack (21 R802). -/
def Tun.writeVorlauf (v : Word) (t : Tun) : Tun :=
  (t.modPlane fun p => { p with
    ringDrain := v.getLsbD 31, broken := v.getLsbD 30, breakRow := bitsOf v 24 3, modeStored := v.getLsbD 0 && t.rack.gensel }).vorlaufApply

def Tun.writeWin6 (o : Nat) (v : Word) (t : Tun) : Tun :=
  runAt o
    [(0x2000, Tun.writeVorlauf v), (0x2004, Tun.modPlane fun p => { p with modeMismatch := p.modeMismatch && !(v.getLsbD 28) })] t

/-- BREW_CTRL (12 Table 12-9, 21 R802); FENCED takes no RECIPE_LOAD and no BREW_START (05 Table 05-11). -/
def Tun.writeBrewCtrl (now : Nat) (v : Word) (t : Tun) : Tun :=
  let op := (bitsOf v 0 4).toNat
  if ¬ t.rack.gensel then
    (if op = 1 then t.modSched fun s => { s with loadStatus := 0x00F0 } else t.modSched fun s => { s with lastStatus := 0x00F0 })
  else if t.svc.state = .fenced ∧ (op = 1 ∨ op = 3) then t
  else match op with
    | 1 => t.recipeLoad now .reg t.sched.recipeSrc
    | 2 => t.brewStop now .reg t.sched.brewTarget
    | 3 => t.brewStart now .reg t.sched.brewTarget
    | 4 => t.shadowDiscard now .reg
    | _ => t.modSched fun s => { s with lastStatus := 0x00F1 }

def Tun.writeWin7 (now o : Nat) (v : Word) (t : Tun) : Tun :=
  runAt o
    [(0x00, Tun.writeBrewCtrl now v),
     (0x08, Tun.modSched fun s => { s with brewTarget := (setLo (s.brewTarget.setWidth 64) v).setWidth 48 }),
     (0x0C, Tun.modSched fun s => { s with brewTarget := (setHi (s.brewTarget.setWidth 64) v).setWidth 48 }),
     (0x10, Tun.modSched fun s => { s with recipeSrc := setLo s.recipeSrc v }),
     (0x14, Tun.modSched fun s => { s with recipeSrc := setHi s.recipeSrc v })] t

def Tun.writeWin8 (now o : Nat) (v : Word) (t : Tun) : Tun :=
  let w1c (b : Bool) (n : Nat) : Bool := b && !(v.getLsbD n)
  if 0x8000 ≤ o ∧ o < 0xA000 then
    (if o % 8 = 0 then (t.producerDoorbell ((o - 0x8000) / 8) (bitsOf v 0 16)).arbitrate now else t)
  else if 0xA000 ≤ o ∧ o < 0xC000 then (if o % 8 = 0 then t.headDoorbell ((o - 0xA000) / 8) (bitsOf v 0 16) else t)
  else runAt o
    [(0x000, Tun.modBm fun b => { b with remoteTimeout := clampHalf 10 10000 (bitsOf v 16 16) }),
     (0x100, Tun.modBm fun b => { b with queueSel := bitsOf v 0 10 }), (0x104, Tun.setUp (Tun.writeQueueCfg v)), (0x108, Tun.setUp (Tun.writeQueueRing v)),
     (0x110, fun t => t.modQueue t.bm.queueSel.toNat fun k => { k with overrun := w1c k.overrun 31, cfgRefused := w1c k.cfgRefused 30 }),
     (0x120, Tun.modBm fun b => { b with cringSel := bitsOf v 0 10 }), (0x124, Tun.setUp (Tun.writeRingCfg v)),
     (0x128, Tun.setUp (Tun.writeRingOther 1 v)), (0x12C, Tun.setUp (Tun.writeRingOther 2 v)), (0x130, Tun.setUp (Tun.writeRingOther 3 v)),
     (0x138, fun t => t.modRing t.bm.cringSel.toNat fun k => { k with overrun := w1c k.overrun 31, cfgRefused := w1c k.cfgRefused 30 }),
     (0x200, Tun.modBm fun b => { b with ctxSel := bitsOf v 0 8 }), (0x220, Tun.modBm fun b => { b with semSel := bitsOf v 0 12 })] t

def Tun.writeWin9 (o : Nat) (v : Word) (t : Tun) : Tun :=
  runAt o
    [(0x000, Tun.modMash fun m => { m with groupSel := bitsOf v 0 12 }), (0x100, Tun.modMash fun m => { m with tapSel := bitsOf v 0 8 })] t

def Tun.writeWinA (o : Nat) (v : Word) (t : Tun) : Tun :=
  runAt o
    [(0x10, Tun.modCellar fun c => { c with quotaSel := bitsOf v 0 8 }),
     (0x14, Tun.modCellar fun c => { c with quotas := c.quotas.set 0 c.quotaSel.toNat (v &&& 0xFFFFFF) })] t

def Tun.writeWinB (o : Nat) (v : Word) (t : Tun) : Tun :=
  if 0x8000 ≤ o ∧ o < 0x8800 then (if o % 8 = 0 then t.streamHead ((o - 0x8000) / 8) v else t)
  else runAt o
    [(0x10, Tun.modToken fun k => { k with streamSel := bitsOf v 0 8 }),
     (0x14, fun t => t.modStream t.token.streamSel.toNat fun x => { x with overrun := x.overrun && !(v.getLsbD 15) }),
     (0x20, Tun.modToken fun k => { k with tableSel := bitsOf v 0 12 })] t

def Tun.writeWinC (o : Nat) (v : Word) (t : Tun) : Tun := if o = 0x10 then t.writeSparge v else t

def Tun.writeWinD (o : Nat) (v : Word) (t : Tun) : Tun :=
  runAt o
    [(0x00, Tun.writeHydCtrl v), (0x04, Tun.writeHydConfig 3 v), (0x08, Tun.modHyd fun h => { h with groupMask := bitsOf v 1 8 }),
     (0x10, Tun.writeHydSel v), (0x20, Tun.writeHydConfig 1 v), (0x24, Tun.writeHydConfig 2 v), (0x28, Tun.writeHydConfig 0 v),
     (0x30, Tun.hydHead (bitsOf v 0 16))] t

def Tun.writeWinE (o : Nat) (v : Word) (t : Tun) : Tun :=
  runAt o
    [(0x00, Tun.modErr fun e => { e with classes := e.classes &&& ~~~(bitsOf v 0 6) }), (0x04, Tun.modErr fun e => { e with mask := bitsOf v 0 4 })] t

def Tun.writeWinF (now : Nat) (p : Path) (o : Nat) (v : Word) (t : Tun) : Tun :=
  runAt o
    [(0x10, Tun.writeResetCtrl now p v), (0x30, fun t => if v.getLsbD 31 then t.modHost fun h => { h with lost := false } else t)] t

/-- What a write of one word does where its window takes writes (22 Table 22-6); nothing where no register stands (R806). -/
def Tun.writeWord (now : Nat) (p : Path) (off : Nat) (v : Word) (t : Tun) : Tun :=
  match blockOf off with
  | some b => t.writeBlock now b.1 b.2 v
  | none =>
    let o := off % 65536
    match off / 65536 with
    | 0x0 => t.writeWin0 now p o v
    | 0x5 => t.writeWin5 o v
    | 0x6 => t.writeWin6 o v
    | 0x7 => t.writeWin7 now o v
    | 0x8 => t.writeWin8 now o v
    | 0x9 => t.writeWin9 o v
    | 0xA => t.writeWinA o v
    | 0xB => t.writeWinB o v
    | 0xC => t.writeWinC o v
    | 0xD => t.writeWinD o v
    | 0xE => t.writeWinE o v
    | 0xF => t.writeWinF now p o v
    | _ => t

/-- A write whose window takes it: a held window discards it, and in COLD the windows other than those of 05 Table 05-11 discard and
count it (04 R125, 05 R173). -/
def Tun.gateWrite (off : Nat) (f : Tun → Tun) (t : Tun) : Tun :=
  if t.svc.hold = .warm then (if unheldWindow off then f t else t)
  else if t.svc.state = .cold ∧ ¬ openWindow off then { t with svc := { t.svc with earlyWrites := satInc t.svc.earlyWrites } }
  else f t

/-- One write over a path (00 R5-R7). -/
def Tun.writeAccess (now : Nat) (w : RegWrite) (t : Tun) : Tun :=
  if ¬ regAligned w.off w.bytes then t
  else t.gateWrite w.off fun t =>
    let t := t.writeWord now w.path w.off (loOf w.value)
    if w.bytes = 8 then t.writeWord now w.path (w.off + 4) (hiOf w.value) else t

/-- The path answers (22 Table 22-2): over PCIe, in COLD after a cold reset, once the firmware answers the configuration requests that
place the BARs (18 R724). -/
def Tun.pathAnswers (t : Tun) (p : Path) : Bool :=
  t.reachable &&
    (match p with
     | .pcie => t.host.linkUp && (t.svc.state != .cold || t.svc.fwRunning || t.warmCold)
     | .inband => t.serving
     | .sideband => true)

/-- A write that reaches the arbiter: not misaligned, and not a side-band write to the proxy registers (22 R811). -/
def arbitrated (w : RegWrite) : Bool :=
  regAligned w.off w.bytes && !(w.path == .sideband && decide (0x200 ≤ w.off) && decide (w.off ≤ 0x300))

/-- Register words a write covers. -/
def writeWords (w : RegWrite) : List Nat := if w.bytes = 8 then [w.off, w.off + 4] else [w.off]

def pathBit : Path → BitVec 3
  | .pcie => 1
  | .inband => 2
  | .sideband => 4

/-- Paths that write a word in one cycle. -/
def pathsAt (ws : List RegWrite) (o : Nat) : BitVec 3 :=
  (ws.filter fun w => (writeWords w).contains o).foldl (fun m w => m ||| pathBit w.path) 0

def severalPaths (m : BitVec 3) : Bool := !(m == 0 || m == 1 || m == 2 || m == 4)

/-- The word a conflict at word `o` is recorded at: the low word of a 64-bit write that covers it (22 R811). -/
def recordedAt (ws : List RegWrite) (o : Nat) : Nat :=
  match ws.find? fun w => w.bytes == 8 && (writeWords w).contains o with
  | some w => w.off
  | none => o

/-- CONFLICT_COUNT and CONFLICT_LAST for one management cycle's writes (04 R135, 22 R811); PATHS names the paths of every conflict recorded
at the word shown (assumption 78). -/
def Tun.countConflict (ws : List RegWrite) (t : Tun) : Tun :=
  let ws := ws.filter arbitrated
  let hit := (ws.flatMap writeWords).filter fun o => severalPaths (pathsAt ws o)
  match hit with
  | [] => t
  | o :: r =>
    let low := (r.map (recordedAt ws)).foldl min (recordedAt ws o)
    let paths := (hit.filter fun o => recordedAt ws o == low).foldl (fun m o => m ||| pathsAt ws o) 0
    { t with conflict := {
        count := satInc t.conflict.count, valid := true, paths := paths, offset := BitVec.ofNat 22 (low / 4) } }

/-- The writes that reach a Tun in one management cycle: PCIe, then in-band, then side-band, each whole; a CLEAR precedes the count of
its own cycle (04 R132-R135, 22 R812). -/
def Tun.cycleWrites (now : Nat) (ws : List RegWrite) (t : Tun) : Tun :=
  let ws := (ws.filter fun w => decide (w.off < 0x1000000) && t.pathAnswers w.path)
  let inOrder := [Path.pcie, .inband, .sideband].flatMap fun p => ws.filter (·.path == p)
  let t := inOrder.foldl (fun t w => t.writeAccess now w) t
  if t.svc.hold = .cold then t else t.countConflict ws

/-- One 32-bit write over the side-band port. -/
def Tun.writeReg (now : Nat) (p : Path) (off : Nat) (v : Word) (t : Tun) : Tun :=
  t.cycleWrites now [{ path := p, off := off, bytes := 4, value := v.setWidth 64 }]

/-- `n` 32-bit words from `off` over the side-band port, and the Tun after (06 R191). -/
def Tun.sidebandRead (now off : Nat) : Nat → Tun → List Byte × Tun
  | 0, t => ([], t)
  | n + 1, t =>
    let a := t.readAccess now .sideband off 4
    let b := Tun.sidebandRead now (off + 4) n a.2
    (a.1 ++ b.1, b.2)

end Sys2Proof.Machine
end

