-- ==== Sys2Proof/Machine/Sched.lean ====
section
/-! DEFINITION. The scheduled plane as events (chapter 12): Brew boundaries and markers, circuits out of engines, timed steps and
bindings, Recipe loads and the plane's start and stop. -/

namespace Sys2Proof.Machine
open Sys2Proof

/-! ### Brews and markers (12 R444-R453) -/

/-- Releases what is due at this boundary, or what is past it (12 R485). -/
def Tun.planeDue (now : Nat) (t : Tun) : Tun :=
  let s := t.sched
  match s.releaseDue with
  | some st => t.releaseStopped now st
  | none =>
    match s.plane, s.stopBrew with
    | .stopping, some b =>
      if b.toNat ≤ s.brew.toNat then
        ((t.modSched fun s => { s with plane := if s.startBrew.isSome then .armed else .stopped }).releaseWork now).arbitrate now
      else t
    | _, _ => t

/-- Brew F of an armed start has begun (12 R485). -/
def Tun.armedDue (now : Nat) (t : Tun) : Tun :=
  if t.sched.plane = .armed ∧ t.sched.startBrew = some t.sched.brew then t.armedBegin now else t

/-- The share that ends gave a marker or not; 1,000 Brews without one lose alignment, and one Brew
without a marker ends the run of good ones (12 R448, R451, R453). -/
def Tun.shareEnds (t : Tun) : Tun :=
  let s := t.sched
  let missed := if s.taken then 0 else s.missedRun + 1
  let t := t.modSched fun s => { s with
    markerOk := s.taken, taken := false, best := none, missedRun := missed, goodRun := if s.taken then s.goodRun else 0 }
  if ¬ t.isKeeper ∧ s.aligned ∧ 1000 ≤ missed then t.alignLost else t

/-- A Brew boundary: the counter moves on, slot 0 begins, and the plane changes as Table 12-8 says (12 R444, R485). -/
def Tun.brewBoundary (now : Nat) (t : Tun) : Tun :=
  if ¬ t.sched.counting then t
  else ((t.shareEnds.modSched fun s => { s with brew := s.brew + 1, boundary := now }).planeDue now).armedDue now

def execBrewBoundary (t : TunId) (s : State) : Res := onTun t s (Tun.brewBoundary s.now)

/-- The brew-keeper's marker of slot 9,920 (12 R446). -/
def Tun.keeperMark (now : Nat) (t : Tun) : Tun :=
  if t.serving ∧ t.isKeeper ∧ t.refOk ∧ t.sched.counting then
    t.sendMarks now t.sched.brew (BitVec.ofNat 8 t.row) (BitVec.ofNat 8 t.col.num) 0
  else t

def execKeeperMarkSend (t : TunId) (s : State) : Res := onTun t s (Tun.keeperMark s.now)

/-- The marker of a BREW_MARK payload (09 Table 09-5). -/
def markOf (now id : Nat) (b : List Byte) : Marker :=
  { brew := BitVec.ofNat 48 (leAt b 0 6), keeperRow := byteAt b 6, keeperCol := byteAt b 7, hops := byteAt b 10,
    offset := BitVec.ofNat 32 (leAt b 12 4), port := id, rx := now }

/-- The marker names the Tun of the designation in force, which a row out of the plan leaves the rack without, and came over the fabric
(02 R59, R61, 12 R446, R447). -/
def Tun.markNative (t : Tun) (m : Marker) : Bool :=
  isFabricId m.port && decide (t.rack.forceRow.toNat < t.trays) &&
    m.keeperRow.toNat == t.rack.forceRow.toNat && m.keeperCol.toNat == t.rack.forceCol.toNat

/-- A brew marker received: foreign ones are counted, the others compared until one is taken (02 R59, 12 R448, R830). -/
def Tun.markReceive (now id : Nat) (payload : List Byte) (t : Tun) : Tun :=
  let m := markOf now id payload
  if ¬ t.serving ∨ ¬ t.portUp id ∨ (t.port id).genNow ∨ ¬ t.sched.counting then t
  else if ¬ t.markNative m then { t with rack := { t.rack with foreignMarkers := satInc t.rack.foreignMarkers } }
  else if t.isKeeper ∨ t.sched.taken then t
  else t.modSched fun s => { s with best := some (match s.best with | some b => betterMark b m | none => m) }

def execBrewMarkReceive (t : TunId) (id : BitVec 9) (payload : List Byte) (s : State) : Res :=
  onTun t s (Tun.markReceive s.now id.toNat payload)

/-- 200 ns after the first accepted marker: the best one is taken, and the Tun's own marker follows (12 R448, R449). -/
def Tun.markTake (now : Nat) (t : Tun) : Tun :=
  match t.sched.best with
  | none => t
  | some m => if t.isKeeper ∨ ¬ t.serving then t else (t.takeMark m).sendMarks now m.brew m.keeperRow m.keeperCol (m.hops + 1)

def execBrewMarkTake (t : TunId) (s : State) : Res := onTun t s (Tun.markTake s.now)

/-- One of the cases of R453 has come about. -/
def Tun.alignLossEvent (t : Tun) : Tun := if t.sched.aligned ∧ ¬ t.isKeeper then t.alignLost else t

def execAlignLoss (t : TunId) (s : State) : Res := onTun t s Tun.alignLossEvent

/-! ### Circuits out of engines (12 R462) -/

/-- Bytes of payload that one packet of a circuit slot carries on a port (12 Table 12-1). -/
def Tun.slotBytes (t : Tun) (id : Nat) : Nat := if t.widthOf id = 1 then 2048 else 4096

/-- Sends the oldest output that waits for a circuit of this unit and port and fits its slot, up to `n` of them (12 R445, R462). -/
def Tun.circuitSend (now : Nat) (w : Dword) : Nat → Tun → Tun
  | 0, t => t
  | n + 1, t =>
    match t.sched.outputs.find? fun o => o.unit == cirIn w && o.port == cirOut w && o.pkt.dst.toNat == cirPeer w &&
        decide (o.pkt.payload.length ≤ t.slotBytes (cirOut w)) with
    | none => t
    | some o =>
      let t := t.modSched fun s => { s with outputs := s.outputs.erase o }
      let p : Packet := { o.pkt with circuit := true, slot := BitVec.ofNat 14 (cirSlot w) }
      Tun.circuitSend now w n (t.sendPort now (cirOut w) p.sealed)

/-- The slot of engine-to-port circuit number `i` of the Recipe in force (12 R462, R463). -/
def Tun.engineSlot (now i : Nat) (t : Tun) : Tun :=
  match t.sched.inForce.bind fun r => r.circuits[i]? with
  | none => t
  | some w => if cirKind w = 2 ∧ ¬ t.suspended w then t.circuitSend now w (cirPackets w) else t

def execEngineCircuitSend (t : TunId) (n : Nat) (s : State) : Res := onTun t s (Tun.engineSlot s.now n)

/-! ### Timed steps and bindings (12 R470-R473, 13 R531-R533, 15 R610) -/

def Tun.stepMiss (t : Tun) : Tun := t.modSched fun s => { s with stepMissed := satInc s.stepMissed }

/-- Checks 2, 3 and 6, the ones a timed start keeps (13 R531), and WAIT_EN (13 R532). -/
def Tun.timedChecks (t : Tun) (c : Cmd) : Chk :=
  match c.abort with
  | some st => .error (st, 0)
  | none =>
    if ¬ t.opKnown c.op then .error (0x00F0, 0)
    else if ¬ opAllowed c.queue c.op then .error (0x0011, 0)
    else if c.waitSem.isSome then .error (0x00F1, 0)
    else t.check6 c

/-- A command starts on given units outside arbitration. It reserves its records where its ring has room for them (13 R519, R533). It
keeps what it needs at check 9 for a re-run after a kill (14 R559). -/
def Tun.startTimed (c : Cmd) (us : List Nat) (p : Pre) (t : Tun) : Tun :=
  let n := t.bm.starts
  let t := (t.modBm fun b => { b with starts := b.starts + 1 }).modCtx c.ctx fun x => { x with lastStart := n + 1 }
  let t := us.foldl (fun t u => t.modBm fun b => { b with lastCtx := b.lastCtx.set 0 u (c.ctx + 1) }) t
  let need := if extOp c.op then 2 else 1
  let room := t.ringFree (t.queue c.queue).cring.toNat
  t.modCmd c.id fun c => { c with
    phase := .started, timed := true, units := us, startedAt := n, bound := p.bound, wants := p.wants, streamNeeds := p.streams,
    lstate := p.lstate, binds := t.bindsOf c.ctx, reserved := if need ≤ room then need else 0 }

/-- The next descriptor of a queue: the command fetched already that waits, or the one fetched now (12 R470, 13 R531, Table 13-11). -/
def Tun.nextOf (t : Tun) (q : Nat) : Option (Cmd × Tun) :=
  match t.bm.cmds.find? fun c => c.queue == q && !c.running with
  | some c => some (c, t)
  | none => if (t.queue q).held = 0 then none else some (t.fetchNext q [] false)

/-- The slot of step number `i` of the Recipe in force (12 R470). A Tun that starts no command misses it (05 R168). -/
def Tun.timedStep (now i : Nat) (t : Tun) : Tun :=
  match t.sched.inForce.bind fun r => r.steps[i]? with
  | none => t
  | some w =>
    let u := stepUnit w
    let q := stepQueue w
    if ¬ t.startsCommands ∨ (t.ctx (stepCtx w)).state ≠ .resident ∨ ¬ (t.queue q).valid ∨
        t.sched.runSteps.any (fun r => r.unit == u) ∨ 256 ≤ t.bm.held.length then t.stepMiss
    else match t.nextOf q with
    | none => t.stepMiss
    | some r =>
      let c : Cmd := { r.1 with timed := true }
      let t := r.2.modCmd c.id fun k => { k with timed := true }
      match t.timedChecks c with
      | .error e => t.failWith now c e.1 (BitVec.ofNat 64 e.2)
      | .ok p => (t.startTimed c [u] p).modSched fun s => { s with runSteps := s.runSteps ++ [{ unit := u, cmd := c.id }] }

def execTimedStepStart (t : TunId) (n : Nat) (s : State) : Res := onTun t s (Tun.timedStep s.now n)

/-- Engine outputs of a command that no circuit has taken leave unscheduled, each counted as forfeited (12 R462). -/
def Tun.lateOutputs (now id : Nat) (t : Tun) : Tun :=
  let mine := t.sched.outputs.filter (·.cmd == id)
  let t := t.modSched fun s => { s with outputs := s.outputs.filter (·.cmd != id) }
  mine.foldl (fun t o => (t.countForfeit 7 o.port o.slot).queueOut now [o.pkt]) t

/-- The budget of a timed step's command has passed (12 R462, R472). -/
def Tun.budgetEnd (now id : Nat) (t : Tun) : Tun :=
  if t.sched.runSteps.any fun r => r.cmd == id && !r.overrun then
    let t := t.modSched fun s => { s with
      stepOverrun := satInc s.stepOverrun,
      runSteps := s.runSteps.map fun r => if r.cmd = id then { r with overrun := true } else r }
    (t.modCmd id fun c => { c with overrun := true }).lateOutputs now id
  else t.lateOutputs now id

def execStepBudgetEnd (t : TunId) (id : Nat) (s : State) : Res := onTun t s (Tun.budgetEnd s.now id)

/-- The next descriptor of a communication queue: one fetched already that waits, or the one fetched now if it is a
PUSH_COLLECTIVE (15 R610). -/
def Tun.nextPush (t : Tun) (q : Nat) : Option (Cmd × Tun) :=
  match t.bm.cmds.find? fun c => c.queue == q && !c.running with
  | some c => if c.op = 0x48 then some (c, t) else none
  | none =>
    if ¬ (t.queue q).valid ∨ (t.queue q).held = 0 then none
    else
      let r := t.fetchNext q [] false
      if r.1.op = 0x48 ∨ r.1.abort.isSome then some r else none

/-- Pipes of a mask, ascending. -/
def pipeList (m : Byte) : List Nat := (List.range 8).filter m.getLsbD

/-- The first slot of binding number `i` of the Recipe in force (15 R610). -/
def Tun.bindingStart (now i : Nat) (t : Tun) : Tun :=
  match t.sched.inForce.bind fun r => r.bindings[i]? with
  | none => t
  | some w =>
    if ¬ t.startsCommands then t.stepMiss else
    match (t.group (bindGroup w)).bind fun g => t.nextPush g.queue with
    | none => t.stepMiss
    | some (c, t) =>
      if ¬ (t.ctx (bindCtx w)).pin then (t.stepMiss).failCmd now c 0x0204
      else
        let t := t.modCmd c.id fun k => { k with timed := true }
        match t.timedChecks { c with timed := true } with
        | .error e => t.failWith now c e.1 (BitVec.ofNat 64 e.2)
        | .ok p => (t.startTimed c (pipeList (bindPipes w)) p).modSched fun s => { s with runBinds := s.runBinds ++ [(c.id, bindPipes w)] }

def execBindingStart (t : TunId) (n : Nat) (s : State) : Res := onTun t s (Tun.bindingStart s.now n)

/-! ### Loading, starting, stopping (12 R479-R492) -/

/-- A scheduled-plane operation, by BREW_CTRL or as the admin command `id`, which asks once (12 R485, 13 Table 13-8). -/
def planeOp (t : TunId) (id : Option Nat) (op : Nat) (reg : Tun → Tun) (f : Cmd → Tun → Tun) (s : State) : Res :=
  onTun t s fun u => match id with
    | none => u.windowWrite reg
    | some id => match u.startedCmd id [op] with
      | some c => if u.sched.loading = some (.cmd id) ∨ (u.sched.startBrew.isSome ∧ u.sched.starter = .cmd id) then u else f c u
      | none => u

def execRecipeLoad (t : TunId) (id : Option Nat) (s : State) : Res :=
  planeOp t id 0x20 (Tun.writeBrewCtrl s.now 1) (fun c u => u.recipeLoad s.now (.cmd c.id) (BitVec.ofNat 64 (leAt c.desc 16 8))) s

/-- The image of the load under way has been read, or its read failed. -/
def execRecipeLoadDone (t : TunId) (image : Option (List Byte)) (s : State) : Res := onTun t s (Tun.recipeLoaded s.now image)

def execBrewStart (t : TunId) (id : Option Nat) (s : State) : Res :=
  planeOp t id 0x22 (Tun.writeBrewCtrl s.now 3) (fun c u => u.brewStart s.now (.cmd c.id) (BitVec.ofNat 48 (leAt c.desc 16 6))) s

def execBrewStop (t : TunId) (id : Option Nat) (s : State) : Res :=
  planeOp t id 0x21 (Tun.writeBrewCtrl s.now 2) (fun c u => u.brewStop s.now (.cmd c.id) (BitVec.ofNat 48 (leAt c.desc 16 6))) s

def execShadowDiscard (t : TunId) (id : Option Nat) (s : State) : Res :=
  planeOp t id 0x23 (Tun.writeBrewCtrl s.now 4) (fun c u => u.shadowDiscard s.now (.cmd c.id)) s

/-! ### Arming (12 R489) -/

/-- Fabric links that are up: the peers an armed Tun reads. -/
def Tun.armPeers (t : Tun) : List Nat := t.upPorts.filter isFabricId

/-- Reads of the peers' registers as MGMT packets (10 R362). -/
def Tun.armReads (now : Nat) (offs : List Nat) (t : Tun) : Tun :=
  (t.armPeers.filterMap t.subjectOf).foldl (fun t d => offs.foldl (fun t o =>
    t.originate now { type := tyMgmt, cls := clGrey, channel := 15, pkey := 0xFFFF, dst := BitVec.ofNat 12 d,
                      addr := BitVec.ofNat 64 (2 ^ 48 + o), tag := Config.mgmtTag o }) t) t

/-- START_DIGEST of the Tun. -/
def Tun.startDigest (t : Tun) : List Byte := match t.sched.toArm with | some r => r.digest | none => List.replicate 16 0

/-- The answer of a peer agrees. -/
def Tun.armAgrees (t : Tun) (f : BitVec 48) (a : ArmAnswer) : Bool := a.digest == t.startDigest && a.brew == f && a.state == 1

/-- ARM_STATE moves to 2 when a mismatch is found. -/
def Tun.armMismatch (bad : Bool) (t : Tun) : Tun := if bad then t.modSched fun s => { s with armState := 2 } else t

/-- Brew F − 16: the peers' digests, start Brews and states are compared; a peer that gave no answer has none in the list. -/
def Tun.armCheck (now : Nat) (as : List ArmAnswer) (t : Tun) : Tun :=
  match t.sched.startBrew with
  | none => t
  | some f =>
    let bad := t.armPeers.any fun id => match as.find? fun a => a.port == id with | some a => !(t.armAgrees f a) | none => true
    (t.armReads now [0x070040, 0x070044, 0x070048, 0x07004C, 0x070050, 0x070054, 0x070058]).armMismatch bad

def execArmCheck (t : TunId) (answers : List ArmAnswer) (s : State) : Res := onTun t s (Tun.armCheck s.now answers)

/-- Brews F − 15 to F − 1: a peer that shows a mismatch passes it on. -/
def Tun.armRecheck (now : Nat) (as : List ArmAnswer) (t : Tun) : Tun :=
  if t.sched.startBrew.isSome then
    (t.armReads now [0x070050]).armMismatch (t.armPeers.any fun id => as.any fun a => a.port == id && a.state == 2)
  else t

def execArmRecheck (t : TunId) (answers : List ArmAnswer) (s : State) : Res := onTun t s (Tun.armRecheck s.now answers)

def execArmedBrewBegin (t : TunId) (s : State) : Res := onTun t s (Tun.armedDue s.now)

/-- A release that is due takes place: the stop Brew, or the boundary after a cause of R485. -/
def execPlaneRelease (t : TunId) (s : State) : Res := onTun t s (Tun.planeDue s.now)

end Sys2Proof.Machine
end

