-- ==== Sys2Proof/Machine/Sideband.lean ====
section
/-! DEFINITION. The Maltster side-band protocol (chapter 06): request checks, the serialisation window, the opcodes, raw
paths, alerts, I3C, MCTP, PLDM and the in-band proxy. -/

namespace Sys2Proof.Machine
open Sys2Proof

/-! ### Checks before a command is accepted (06 R187, Table 06-7) -/

def isTunObj (o : Byte) : Bool := decide (0x10 ≤ o.toNat) && decide (o.toNat ≤ 0x13)
def isBayObj (o : Byte) : Bool := decide (0x20 ≤ o.toNat) && decide (o.toNat ≤ 0x25)
def objTun (o : Byte) : TunId := TunId.fromNum (o.toNat - 0x10)
def objBay (o : Byte) : Nat := o.toNat - 0x20

/-- OBJECT allowed for an opcode; `none` is an opcode not in Table 06-7 or 08 Table 08-6. -/
def objectOk (op o : Byte) : Option Bool :=
  match op.toNat with
  | 0x01 | 0x31 => some (o == 0x00)
  | 0x02 | 0x03 | 0x04 | 0x05 | 0x06 | 0x50 | 0x51 | 0x52 | 0x53 | 0x54 => some (o == 0x30)
  | 0x10 | 0x11 | 0x12 | 0x13 | 0x14 | 0x15 | 0x16 | 0x17 => some (isTunObj o)
  | 0x20 | 0x21 => some (isBayObj o)
  | 0x40 => some (o == 0x00 || isBayObj o)
  | _ => none

/-- Windowed opcodes (06 Table 06-7, 08 Table 08-6). -/
def windowed (op : Byte) : Bool :=
  match op.toNat with
  | 0x03 | 0x05 | 0x06 | 0x10 | 0x11 | 0x12 | 0x13 | 0x14 | 0x40 | 0x50 | 0x52 | 0x53 => true
  | _ => false

/-- Payload fields present and in range (06 R187 check 3). Two refusals are the model's choice: a REG_WRITE whose MASK names no writable bit
(assumption 175, DESIGN CHOICE), and a TUN_REG_READ that runs past 0x100_0000 from an OFFSET below it (assumption 176, DESIGN CHOICE). -/
def State.payloadOk (s : State) (q : Req) : Bool :=
  let p := q.payload
  let b (i : Nat) : Nat := (byteAt p i).toNat
  let len (n : Nat) : Bool := decide (n ≤ p.length)
  match q.op.toNat with
  | 0x02 => len 3 && b 1 % 4 == 0 && decide (1 ≤ b 2) && decide (b 2 ≤ 16) &&
      (List.range (b 2)).all fun i => (s.maltReg (b 0) (b 1 + 4 * i)).isSome
  | 0x03 => len 10 && (s.maltReg (b 0) (b 1)).isSome &&
      (BitVec.ofNat 32 (leAt p 6 4) &&& maltWritable (b 0) (b 1)) != 0
  | 0x04 => len 3 && decide (1 ≤ b 2) && decide (b 2 ≤ 7) &&
      decide ((BitVec.ofNat 16 (leAt p 0 2) - s.malt.logFirst).toNat < s.malt.log.length)
  | 0x06 => len 2 && leAt p 0 2 == 0x3A17
  | 0x12 => len 2 && decide (100 ≤ leAt p 0 2) && decide (leAt p 0 2 ≤ 10000)
  | 0x13 => len 1 && (b 0 == 1 || b 0 == 2)
  | 0x15 => len 4 && leAt p 0 3 % 4 == 0 && decide (1 ≤ b 3) && decide (b 3 ≤ 16) &&
      decide (leAt p 0 3 + 4 * b 3 ≤ 0x1000000)
  | 0x16 => len 7
  | 0x21 => len 3 && decide (leAt p 0 2 < 0x1000) && decide (1 ≤ b 2) && decide (b 2 ≤ 128)
  | 0x31 => len 1 && (b 0 == 0 || b 0 == 1)
  | 0x40 => len 3 && (b 0 == 0 || b 0 == 1)
  | 0x50 => len 5 && (b 0 == 1 || b 0 == 2) && decide (0x200 ≤ leAt p 1 4) && decide (leAt p 1 4 ≤ maxImage (b 0))
  | 0x51 => len 5 && decide (p.length ≤ 240)
  | 0x52 => len 1
  | _ => true

/-- The status a well-framed request is refused with, in the order of 06 R187; `none` when it is accepted. -/
def State.requestRefusal (s : State) (q : Req) : Option Half :=
  match objectOk q.op q.obj with
  | none => some stUnsupported
  | some ok => if ok && s.payloadOk q then none else some stBadParam

/-! ### What the opcodes do -/

/-- TUN_POWER_ON (06 Table 06-8): a status at once, or `none` when the reply follows the sequence. -/
def State.opPowerOn (s : State) (t : TunId) : Option Half × State :=
  match powerRefusal s t with
  | some st => (some st, s.refusePower t st)
  | none =>
    if running s t || (s.mtun t).seq != .idle || (s.mtun t).onAfterReflash then (some stNotice, s) else (none, s.acceptOn t)

/-- TUN_POWER_OFF: a Tun on or rising goes down and replies on reaching OFF; a power-on that still waits in OFF is cancelled at once
(06 Table 06-8, R209, assumption 171, DEDUCED). -/
def State.opPowerOff (s : State) (t : TunId) : Option Half × State :=
  let m := s.mtun t
  let waits := m.onAfterReflash || m.seq == .cycleWait
  let s' := s.modMTun t fun m => { m with cycleAfter := none, onAfterReflash := false }
  if running s t || m.seq != .idle && m.seq != .cycleWait then
    (none, match m.seq with | .down _ => s' | _ => s'.powerDown t 1 true)
  else if waits then (some stOk, (s'.modMTun t fun m => { m with seq := .idle }).setPower t 0)
  else (some stNotice, s)

/-- TUN_POWER_CYCLE: down first unless the Tun is OFF, then OFF_MS of wait (06 Table 06-7, 07 power commands). -/
def State.opPowerCycle (s : State) (t : TunId) (offMs : Nat) : Option Half × State :=
  match powerRefusal s t with
  | some st => (some st, s.refusePower t st)
  | none =>
    let m := s.mtun t
    let s := s.modMTun t fun m => { m with cycleAfter := some offMs, onAfterReflash := false }
    if running s t || m.seq != .idle && m.seq != .cycleWait then
      (none, match m.seq with | .down _ => s | _ => s.powerDown t 1 true)
    else (none, s.modMTun t fun m => { m with seq := .cycleWait })

/-- A write to a Tun's register over its side-band port; a Tun that does not answer takes none (06 R191). `silent` is the reply then:
OK to TUN_RESET and TUN_FENCE, TUN_NO_ANSWER to TUN_REG_WRITE, whose write never takes effect then (06 Table 06-8, assumption 164,
DESIGN CHOICE). -/
def State.opTunWrite (s : State) (t : TunId) (off : Nat) (v : Word) (silent : Half) : Option Half × State :=
  if tunOff s t then (some stTunOff, s)
  else if (s.tun t).reachable then (some stOk, s.modTun t (Tun.writeReg s.now .sideband off v))
  else (some silent, s)

/-- LOCATE (07 R250). -/
def State.opLocate (s : State) (obj : Byte) (on : Bool) (secs : Half) : State :=
  let m := s.malt
  let bit : BitVec 6 := 1#6 <<< objBay obj
  if on then
    let m := if obj = 0 then { m with locTray := true } else { m with locBays := m.locBays ||| bit }
    { s with malt := { m with locSeconds := secs } }
  else if obj = 0 then { s with malt := { m with locTray := false } }
  else { s with malt := { m with locBays := m.locBays &&& ~~~bit } }

/-- The records LOG_READ returns: at most COUNT from FIRST, stopping at the newest (07 R256). -/
def State.logSlice (s : State) (first : Half) (count : Nat) : List Byte :=
  ((s.malt.log.drop (first - s.malt.logFirst).toNat).take count).flatMap LogRec.bytes

/-- One accepted request executes: status and payload, or no reply yet; and the state after. KEG_EEPROM_READ of a bay without a read image,
or past the bytes held, gives 0xFF (assumption 177, DESIGN CHOICE). -/
def State.runOp (s : State) (src : Src) (q : Req) : Option (Half × List Byte) × State :=
  let p := q.payload
  let b (i : Nat) : Nat := (byteAt p i).toNat
  let t := objTun q.obj
  let plain (r : Option Half × State) : Option (Half × List Byte) × State := (r.1.map fun st => (st, []), r.2)
  let now (st : Half) (d : List Byte) (s : State) : Option (Half × List Byte) × State := (some (st, d), s)
  match q.op.toNat with
  | 0x01 => now stOk (bytesLE 4 s.maltIdWord.toNat ++ bytesLE 4 s.malt.fwVersion.toNat ++ bytesLE 4 s.maltStatusWord.toNat ++
      bytesLE 4 s.powerStatusWord.toNat) s
  | 0x02 => now stOk ((List.range (b 2)).flatMap fun i => bytesLE 4 ((s.maltReg (b 0) (b 1 + 4 * i)).getD 0).toNat) s
  | 0x03 => now stOk [] (s.maltWrite (b 0) (b 1) (BitVec.ofNat 32 (leAt p 2 4)) (BitVec.ofNat 32 (leAt p 6 4)))
  | 0x04 => now stOk (s.logSlice (BitVec.ofNat 16 (leAt p 0 2)) (b 2)) s
  | 0x05 => now stOk [] (s.modMalt fun y => { y with log := [] })
  | 0x06 => now stOk [] s
  | 0x10 => plain (s.opPowerOn t)
  | 0x11 => plain (s.opPowerOff t)
  | 0x12 => plain (s.opPowerCycle t (leAt p 0 2))
  | 0x13 => plain (s.opTunWrite t 0x0F0010 (if b 0 = 1 then 0xA5C30001 else 0xA5C30002) stOk)
  | 0x14 => plain (s.opTunWrite t 0x000014 (0x5E7C0001 ||| bitAt (s.tun t).svc.stayPale 4) stOk)
  | 0x15 =>
    if tunOff s t then now stTunOff [] s
    else if (s.tun t).reachable = false then now stNoAnswer [] s
    else
      let r := (s.tun t).sidebandRead s.now (leAt p 0 3) (b 3)
      now stOk r.1 (s.setTun t r.2)
  | 0x16 => plain (s.opTunWrite t (leAt p 0 3) (BitVec.ofNat 32 (leAt p 3 4)) stNoAnswer)
  | 0x17 => now stOk ((s.tunPage t).flatMap fun w => bytesLE 4 w.toNat) s
  | 0x20 => now stOk (bytesLE 4 (s.bay (objBay q.obj)).word.toNat) s
  | 0x21 =>
    let rom := (s.bay (objBay q.obj)).rom
    now stOk ((List.range (b 2)).map fun i => byteAt rom (leAt p 0 2 + i) 0xFF) s
  | 0x31 =>
    let d := bytesLE 4 s.malt.alertStatus.toNat
    now stOk d (if b 0 = 1 then s.ackAlert else s)
  | 0x40 => now stOk [] (s.opLocate q.obj (b 0 == 1) (BitVec.ofNat 16 (leAt p 1 2)))
  | 0x50 =>
    let r := s.stageBegin (ownerOf src) (b 0) (leAt p 1 4)
    if r.1 = 0 then (none, { r.2 with fw := { r.2.fw with replyDue := true } }) else now r.1 [] r.2
  | 0x51 => let r := s.stageData (ownerOf src) (leAt p 0 4) (p.drop 4); now r.1 [] r.2
  | 0x52 =>
    let r := s.stageCommit (ownerOf src) (b 0)
    if r.1 = 0 then (none, { r.2 with fw := { r.2.fw with replyDue := true } }) else now r.1 [] r.2
  | 0x53 => let r := s.stageAbort (ownerOf src); now r.1 [] r.2
  | 0x54 => now stOk s.fw.statusBytes s
  | _ => now stUnsupported [] s

/-- The windowed object of a request (06 R206). -/
def winObj (q : Req) : WinObj := if q.op = 3 then .reg (byteAt q.payload 0) (byteAt q.payload 1) else .object q.obj

/-- A non-windowed request executes as it arrives. -/
def State.runNow (s : State) (src : Src) (q : Req) : State :=
  match s.runOp src q with
  | (some (st, d), s) => s.reply src q st d
  | (none, s) => s

/-- The winner of a window executes for every source that sent it (06 R207, R208). MALT_RESTART replies before the restart, which follows
the reading of its reply on a raw path, or at once where every reply went over MCTP (06 Table 06-7, assumption 163, DESIGN CHOICE). -/
def State.runWinner (s : State) (q : Req) (srcs : List Held) : State :=
  let src := match srcs with | h :: _ => h.src | [] => .raw (.sb .sb0)
  let o := winObj q
  match s.runOp src q with
  | (some (st, d), s) =>
    let s := srcs.foldl (fun s h => s.reply h.src h.req st d) s
    if q.op ≠ 6 then s
    else if srcs.any fun h => match h.src with | .raw _ => true | .mctp _ _ => false then
      s.modMalt fun y => { y with restartDue := true }
    else s.restartMalt
  | (none, s) => (s.modMalt fun y => { y with executing := s.malt.executing ++ [{ obj := o, req := q, srcs := srcs }] })

/-! ### The serialisation window -/

/-- Order of 06 R205: by 100 µs tick, then SB0, SB1 and the proxies. -/
def srcOrder : Src → Nat
  | .raw p => p.num
  | .mctp b _ => b.num

def Held.before (a b : Held) : Bool :=
  let ta := a.time / (unitsPerMs / 10)
  let tb := b.time / (unitsPerMs / 10)
  decide (ta < tb) || (ta == tb && decide (srcOrder a.src ≤ srcOrder b.src))

/-- The last of a list in that order. -/
def lastHeld : List Held → Option Held
  | [] => none
  | h :: hs =>
    match lastHeld hs with
    | none => some h
    | some k => if h.before k then some k else some h

/-- The winner: the last TUN_POWER_OFF if there is one, else the last command (06 R207). -/
def windowWinner (hs : List Held) : Option Held :=
  match lastHeld (hs.filter fun h => h.req.op == 0x11) with
  | some h => some h
  | none => lastHeld hs

/-- Same opcode, object and payload (06 R208). -/
def sameCommand (a b : Req) : Bool := a.op == b.op && a.obj == b.obj && a.payload == b.payload

/-- A windowed command opens or joins its object's window (06 R206). -/
def State.holdCommand (s : State) (src : Src) (q : Req) : State :=
  let o := winObj q
  let h : Held := { src := src, req := q, time := s.now }
  let ws := s.malt.windows
  let ws := if ws.any (fun w => w.obj == o) then
      ws.map fun w => if w.obj = o then { w with held := w.held ++ [h] } else w
    else ws ++ [{ obj := o, held := [h] }]
  (s.modMalt fun y => { y with windows := ws })

/-- A power-on or power-cycle in progress that a TUN_POWER_OFF in the window aborts (06 R209). -/
def abortable (m : Malt) (w : Window) : Bool :=
  m.executing.any (fun e => e.obj == w.obj && (e.req.op == 0x10 || e.req.op == 0x12)) && w.held.any (fun h => h.req.op == 0x11)

/-- The close of an object's window (06 R207-R209). While a winner still executes on the object the window waits, except for
the abort of a power-on. -/
def State.closeWindow (s : State) (o : WinObj) : State :=
  match s.malt.windows.find? (fun w => w.obj == o) with
  | none => s
  | some w =>
    let running := s.malt.executing.any (fun e => e.obj == o)
    if running && !(abortable s.malt w) then s else
    match windowWinner w.held with
    | none => s
    | some win =>
      let s := if running then s.finishObj o stConflictLost [] else s
      let s := (s.modMalt fun y => { y with windows := s.malt.windows.filter fun w => !(w.obj == o) })
      let (same, lost) := w.held.partition fun h => sameCommand h.req win.req
      let s := lost.foldl (fun s h => (s.modMalt fun y => { y with conflictLost := satInc s.malt.conflictLost }).reply
        h.src h.req stConflictLost []) s
      s.runWinner win.req (win :: same.filter (fun h => !(h == win)))

def execWindowClose (o : WinObj) (s : State) : Res := if s.malt.alive then .next (s.closeWindow o) else .next s

/-! ### Acceptance -/

/-- A well-framed request is refused, held in its window or executed (06 R187, R189). -/
def State.acceptReq (s : State) (src : Src) (q : Req) : State :=
  match s.requestRefusal q with
  | some st => s.reply src q st []
  | none => if windowed q.op then s.holdCommand src q else s.runNow src q

/-- A frame arrives whole on a raw path: an overrun, a frame error, or a request (06 R180, R184, R187). -/
def State.rawArrive (s : State) (p : RawPath) (frame : List Byte) : State :=
  let w := s.raw p
  if w.busy then s.modRaw p fun w => { w with overrun := true, overrunCount := satInc w.overrunCount }
  else
    let s := s.modRaw p fun w => { w with accepted := true, busy := true, reply := none, wasRead := false, overrun := false }
    match parseReq frame with
    | some q => s.acceptReq (.raw p) q
    | none =>
      let s := match p with
        | .sb b => s.modBus b fun w => { w with frameErrors := satInc w.frameErrors }
        | .proxy _ => s
      s.reply (.raw p) (rawReq frame) stFrameError []

/-- A raw path reaches the Maltster: its bus is served, and the 7-bit address sent is 0x38 + ROW in SMBus mode, the dynamic address in
I3C mode (06 R176, R178, 07 R242). A proxy path has no address. -/
def State.serves (s : State) (p : RawPath) (addr : BitVec 7) : Bool :=
  match p with
  | .sb b => s.busServes b && (if (s.bus b).modeNow then (s.bus b).dynAddr == some addr else addr == 0x38 + s.malt.row.setWidth 7)
  | .proxy _ => s.malt.alive

/-- `pecOk` is the packet error check where one is present, on an SMBus write (06 R179). -/
def execRawFrameReceive (p : RawPort) (frame : List Byte) (pecOk : Option Bool) (s : State) : Res :=
  if s.serves p.path p.addr then
    match p.path, pecOk with
    | .sb b, some false =>
      if (s.bus b).modeNow then .next (s.rawArrive p.path frame)
      else .next (s.modBus b fun w => { w with pecErrors := satInc w.pecErrors })
    | _, _ => .next (s.rawArrive p.path frame)
  else .next s

/-- Flag byte of a reply read from a raw path (06 Table 06-5). -/
def State.replyFlags (s : State) (w : RawState) : Byte :=
  (if w.wasRead then 0x80 else 0) ||| (if s.malt.alertPending then 0x40 else 0) ||| (if w.overrun then 0x20 else 0)

/-- What a read of a raw path's reply buffer returns: NONE, BUSY or the reply frame (06 R181-R183). -/
def State.replyRead (s : State) (p : RawPath) : List Byte :=
  let w := s.raw p
  if w.accepted = false then [0xB1] else
  match w.reply with
  | none => [0xB0]
  | some r => replyBytes r (s.replyFlags w)

/-- One bit, and one byte, into the SMBus packet error code, polynomial x^8 + x^2 + x + 1 (assumption 167, PRESUMED: SMBus 3.2). -/
def pecBit (c : Byte) : Byte := if c.msb then (c <<< 1) ^^^ 0x07#8 else c <<< 1

def pecByte (c b : Byte) : Byte :=
  let c := c ^^^ b
  pecBit (pecBit (pecBit (pecBit (pecBit (pecBit (pecBit (pecBit c)))))))

def pec (bs : List Byte) : Byte := bs.foldl pecByte 0

/-- What a read of command code 0xC1 carries back: on SMBus the block count, the bytes and PEC over the whole transaction (06 R177, R181). -/
def State.readFrame (s : State) (p : RawPath) (addr : BitVec 7) (bs : List Byte) : List Byte :=
  match p with
  | .sb b =>
    if (s.bus b).modeNow then bs
    else
      let a : Byte := addr.setWidth 8 <<< 1
      let body := BitVec.ofNat 8 bs.length :: bs
      body ++ [pec ([a, 0xC1, a ||| 1] ++ body)]
  | .proxy _ => bs

/-- The reply of an accepted MALT_RESTART has been read: the restart follows (06 Table 06-7, assumption 163). -/
def State.restartAfter (s : State) (r : Option Reply) : State :=
  match r with
  | some r => if s.malt.restartDue && r.op == 0x06 && r.status == stOk then s.restartMalt else s
  | none => s

def execRawReplyRead (p : RawPort) (s : State) : Res :=
  if s.serves p.path p.addr then
    let w := s.raw p.path
    let r := if w.accepted then w.reply else none
    let s' := (s.modRaw p.path fun w => if r.isSome then { w with wasRead := true } else w).emitMalt
      (.bytes p.path (s.readFrame p.path p.addr (s.replyRead p.path)))
    .next (s'.restartAfter r)
  else .next s

/-! ### Alerts, I3C, MCTP and PLDM -/

/-- In SMBus mode a read of the alert response address is answered while an alert is pending, with PEC, and acknowledges it
(06 R177, R204). -/
def execAlertResponseRead (b : Bus) (s : State) : Res :=
  if s.malt.alive && (s.bus b).serving && !(s.bus b).modeNow && s.malt.alertPending then
    let a : Byte := 0x38 + s.malt.row.setWidth 8
    .next (s.ackAlert.emitMalt (.arp b a (pec [0x19, a])))
  else .next s

/-- The I3C common command codes (06 Table 06-2); write and read lengths are 256. An address is assigned to a target that has none, by
SETDASA to the static address of 06 R176; a directed read needs the assigned address. GETSTATUS is 1 while an alert is pending
(assumption 172, DESIGN CHOICE). -/
def execI3cCcc (b : Bus) (c : Ccc) (s : State) : Res :=
  let w := s.bus b
  let assign (a : BitVec 7) : State := (s.modBus b fun w => { w with dynAddr := some a }).ibiNow b
  let read (bs : List Byte) : Res := if w.dynAddr.isSome then .next (s.emitMalt (.ccc b bs)) else .next s
  if s.malt.alive && w.serving && w.modeNow then
    match c with
    | .enec => .next (if w.ibiEnabled then s else (s.modBus b fun w => { w with ibiEnabled := true }).ibiNow b)
    | .disec => .next (s.modBus b fun w => { w with ibiEnabled := false })
    | .rstdaa => .next (s.modBus b fun w => { w with dynAddr := none })
    | .entdaa a => .next (if w.dynAddr.isNone then assign a else s)
    | .setdasa st a => .next (if w.dynAddr.isNone && st == 0x38 + s.malt.row.setWidth 7 then assign a else s)
    | .getpid => read Config.i3cPid
    | .getbcr => read [Config.i3cBcr]
    | .getdcr => read [Config.i3cDcr]
    | .getstatus => read [if s.malt.alertPending then 1 else 0, 0]
    | .getmwl => read [1, 0]
    | .getmrl => read [1, 0]
  else .next s

/-- MCTP control commands 0x01 to 0x06 (06 Table 06-10); any other is answered 0x05. With no EID assigned only a message to the null EID is
answered, afterwards one to the null EID or to the assigned one (06 R198, assumption 173, PRESUMED: DSP0236, as are the forms of the
answers). Set Endpoint ID takes the operations set and force alone. -/
def execMctpControl (d : McDest) (cmd : Byte) (data : List Byte) (s : State) : Res :=
  let b := d.bus
  let eid := (s.bus b).eid
  if s.busServes b && (d.eid == 0 || d.eid == eid) then
    let ans (s : State) (cc : Byte) (d : List Byte) : Res := .next (s.emitMalt (.mctpCtrl b cmd cc d))
    match cmd.toNat with
    | 0x01 =>
      let e := byteAt data 1
      if (byteAt data 0).toNat ≤ 1 ∧ e ≠ 0 ∧ e ≠ 0xFF then ans (s.modBus b fun w => { w with eid := e }) 0 [0, e, 0]
      else ans s 0x02 []
    | 0x02 => ans s 0 [eid, 0, 0]
    | 0x03 => ans s 0 Config.endpointUuid
    | 0x04 => ans s 0 Config.mctpVersion
    | 0x05 => ans s 0 [3, 0x00, 0x01, 0x7F]
    | 0x06 => ans s 0 ([0xFF, 0x01] ++ (bytesLE 4 Config.ianaNumber.toNat).reverse ++ halfBytes Config.vendorSet)
    | _ => ans s 0x05 []
  else .next s

/-- A native frame over MCTP, in a message of at most 1,024 bytes with Tilernov's number; a ninth request in progress is answered BUSY
(06 R197-R200). Another vendor's message is none of the Maltster's. -/
def execMctpVendorMessage (b : Bus) (tag : BitVec 3) (body : VendorBody) (s : State) : Res :=
  let frame := body.frame
  if s.busServes b && (s.bus b).eid != 0 && body.iana == Config.ianaNumber && decide (5 + frame.length ≤ 1024) then
    let src : Src := .mctp b tag
    if 8 ≤ s.malt.mctpBusy.length then
      let q := rawReq frame
      .next (s.emitMctp b tag (replyBytes { seq := q.seq, op := q.op, status := stBusy, payload := [] }
        (if s.malt.alertPending then 0x40 else 0)))
    else
      let s := (s.modMalt fun y => { y with mctpBusy := s.malt.mctpBusy ++ [src] })
      match parseReq frame with
      | some q => .next (s.acceptReq src q)
      | none =>
        let s := s.modBus b fun w => { w with frameErrors := satInc w.frameErrors }
        .next (s.reply src (rawReq frame) stFrameError [])
  else .next s

/-- The sensors of the PDR repository (06 Table 06-11): temperatures in 0.125 °C, voltage in 10 mV. -/
def sensorPdrs : List Config.SensorPdr :=
  let per (base : Nat) (f : TunId → Config.SensorPdr → Config.SensorPdr) : List Config.SensorPdr :=
    allTuns.map fun t => f t { id := base + t.num, numeric := true, entity := BitVec.ofNat 8 (tunObj t) }
  per 0x01 (fun _ p => { p with upperWarning := some (105 * 8), upperCritical := some (125 * 8) }) ++
  per 0x11 (fun _ p => p) ++
  [{ id := 0x20, numeric := true, entity := 0x00, lowerCritical := some 4400, upperCritical := some 5800 },
   { id := 0x21, numeric := true, entity := 0x00 }, { id := 0x22, numeric := true, entity := 0x00 }] ++
  per 0x31 (fun _ p => { p with numeric := false, stateSet := 0x8001 }) ++
  [{ id := 0x40, numeric := false, entity := 0x00, stateSet := 0x8002 }] ++
  (List.range 6).map fun n => { id := 0x51 + n, numeric := false, entity := BitVec.ofNat 8 (bayObj n), stateSet := 0x8003 }

def sensorPdr (id : Nat) : Option Config.SensorPdr := sensorPdrs.find? (fun p => p.id == id)

/-- A numeric sensor's reading; `none` is "unavailable", as every reading of a Tun in OFF is (06 R202). -/
def State.reading (s : State) (id : Nat) : Option Int :=
  let num (t : TunId) (v : Int) : Option Int := if tunOff s t then none else some v
  if 0x01 ≤ id ∧ id ≤ 0x04 then let t := TunId.fromNum (id - 1); num t (s.mtun t).temp.toInt
  else if 0x11 ≤ id ∧ id ≤ 0x14 then let t := TunId.fromNum (id - 0x11); num t (s.mtun t).packagePower.toNat
  else if id = 0x20 then some s.tray.inputV.toNat
  else if id = 0x21 then some s.tray.inputI.toNat
  else if id = 0x22 then some s.tray.inputP.toNat
  else none

/-- The state of a state sensor (06 Table 06-11). -/
def State.stateOf (s : State) (id : Nat) : Nat :=
  if 0x31 ≤ id ∧ id ≤ 0x34 then (s.mtun (TunId.fromNum (id - 0x31))).service.toNat + 1
  else if id = 0x40 then if s.tray.leakLow then 2 else 1
  else
    let b := s.bay (id - 0x51)
    if !b.present then 1 else if b.refusal ≠ 0 ∨ b.readFail then 3 else if b.latched then 2 else 4

/-- Where a reading stands against its sensor's thresholds: 1 normal, 6 lower critical, 8 upper warning, 9 upper critical
(DSP0248 presentState, assumption 167, PRESUMED). -/
def thresholdState (p : Config.SensorPdr) (v : Int) : Nat :=
  let above (x : Option Int) : Bool := match x with | some y => decide (y ≤ v) | none => false
  if above p.upperCritical then 9 else if above p.upperWarning then 8
  else match p.lowerCritical with | some y => if v ≤ y then 6 else 1 | none => 1

/-- The state a sensor shows; 0 is unknown, for a reading that is unavailable. -/
def State.sensorState (s : State) (p : Config.SensorPdr) : Nat :=
  if p.numeric then (match s.reading p.id with | some v => thresholdState p v | none => 0) else s.stateOf p.id

/-- Operational state, event enable, present, previous and event state of a sensor (DSP0248, assumption 167, PRESUMED). -/
def State.sensorStates (s : State) (p : Config.SensorPdr) : List Byte :=
  let now := s.sensorState p
  [if p.numeric && (s.reading p.id).isNone then 2 else 0, if s.malt.eventReceiver.isSome then 2 else 1, BitVec.ofNat 8 now,
   BitVec.ofNat 8 (Tab.get now s.malt.sensorSeen p.id), BitVec.ofNat 8 now]

/-- 32 bytes with a bit set for each command code (DSP0240 GetPLDMCommands). -/
def commandBits (codes : List Nat) : List Byte :=
  (List.range 32).map fun i => codes.foldl (fun (b : Byte) c => if c / 8 = i then b ||| (1#8 <<< (c % 8)) else b) 0

/-- The commands the Maltster answers of a PLDM type (06 R201, 08 Table 08-7). -/
def pldmCommands (type : Nat) : Option (List Nat) :=
  match type with
  | 0 => some [0x01, 0x02, 0x03, 0x04, 0x05]
  | 2 => some [0x04, 0x11, 0x21, 0x50, 0x51]
  | 5 => some [0x01, 0x02, 0x10, 0x13, 0x14, 0x1A, 0x1B, 0x1C, 0x1D]
  | _ => none

/-- SetEventReceiver: with asynchronous events enabled the states now shown are those events are counted from (06 R203). -/
def State.setReceiver (s : State) (b : Bus) (enable eid : Byte) : State :=
  s.modMalt fun y => { y with
    eventReceiver := if enable = 1 then some (b, eid) else none,
    sensorSeen := sensorPdrs.foldl (fun (m : Tab Nat) p => m.set 0 p.id (s.sensorState p)) ⟨[]⟩ }

/-- GetPDR: record handles count from 1, 0 asks for the first (DSP0248, assumption 167, PRESUMED). -/
def pdrAnswer (handle : Nat) : Byte × List Byte :=
  let i := if handle = 0 then 0 else handle - 1
  match sensorPdrs[i]? with
  | none => (0x82, [])
  | some p =>
    let bs := Config.pdrBytes p
    (0, bytesLE 4 (if i + 1 < sensorPdrs.length then i + 2 else 0) ++ bytesLE 4 0 ++ [0x05] ++ bytesLE 2 bs.length ++ bs)

/-- The repository's state, times, record count, size and largest record (DSP0248, assumption 167, PRESUMED). -/
def pdrInfo : List Byte :=
  let sizes := sensorPdrs.map fun p => (Config.pdrBytes p).length
  [0] ++ List.replicate 26 0 ++ bytesLE 4 sensorPdrs.length ++ bytesLE 4 sizes.sum ++ bytesLE 4 (sizes.foldl max 0) ++ [0]

/-- PLDM base and platform-monitoring requests (06 R201, R202); any other command of types 0 and 2 is answered 0x05. -/
def State.pldmRequest (s : State) (b : Bus) (type cmd : Byte) (data : List Byte) : State × Byte × List Byte :=
  match type.toNat, cmd.toNat with
  | 0, 0x01 => (s.modMalt fun y => { y with tid := byteAt data 0 }, 0, [])
  | 0, 0x02 => (s, 0, [s.malt.tid])
  | 0, 0x03 => (s, 0, Config.pldmVersion (leAt data 5 1))
  | 0, 0x04 => (s, 0, [0x25, 0, 0, 0, 0, 0, 0, 0])
  | 0, 0x05 => match pldmCommands (leAt data 0 1) with
    | some cs => (s, 0, commandBits cs)
    | none => (s, 0x83, [])
  | 2, 0x04 => (s.setReceiver b (byteAt data 0) (byteAt data 2), 0, [])
  | 2, 0x11 => match (sensorPdr (leAt data 0 2)).filter (·.numeric) with
    | some p => (s, 0, [5] ++ s.sensorStates p ++ bytesLE 4 (BitVec.ofInt 32 ((s.reading p.id).getD 0)).toNat)
    | none => (s, 0x80, [])
  | 2, 0x21 => match (sensorPdr (leAt data 0 2)).filter (!·.numeric) with
    | some p => (s, 0, [1] ++ (s.sensorStates p).eraseIdx 1)
    | none => (s, 0x80, [])
  | 2, 0x50 => (s, 0, pdrInfo)
  | 2, 0x51 => let r := pdrAnswer (leAt data 0 4); (s, r.1, r.2)
  | _, _ => (s, 0x05, [])

/-- A PLDM message of type 0 or 2: a request is answered; a PlatformEventMessage response acknowledges the event of the sensor it names
(06 R203, assumption 30). -/
def execPldmCommand (b : Bus) (type : PldmType) (cmd : Byte) (data : List Byte) (s : State) : Res :=
  if type.request then s.pldmAsk b type.type cmd fun s => s.pldmRequest b type.type cmd data
  else if s.busServes b && type.type == 2 && cmd == 0x0A then
    .next (s.modMalt fun y => { y with events := s.malt.events.filter fun e => e.sensor != leAt data 0 2 })
  else .next s

/-- The event of a sensor whose state changed, or whose reading crossed a threshold, goes to the event receiver (06 R203). -/
def execPlatformEventSend (sensor : Nat) (s : State) : Res :=
  match sensorPdr sensor with
  | none => .next s
  | some p =>
    let now := s.sensorState p
    if s.malt.alive && s.malt.eventReceiver.isSome && now != 0 && now != Tab.get 0 s.malt.sensorSeen sensor then
      let v := if p.numeric then (s.reading sensor).map (fun i => (BitVec.ofInt 32 i).toNat) else none
      let e : PendEvent := { sensor := sensor, state := now, reading := v, tries := 0 }
      .next ((s.modMalt fun y => { y with
        events := y.events ++ [e], sensorSeen := y.sensorSeen.set 0 sensor now }).emitMalt (.pldmEvent sensor now v))
    else .next s

/-- Retried three times at 1 s intervals, then dropped (06 R203). -/
def execPlatformEventRetry (sensor : Nat) (s : State) : Res :=
  match s.malt.events.find? (fun e => e.sensor == sensor) with
  | none => .next s
  | some e =>
    if s.malt.alive = false then .next s
    else if e.tries < 3 then
      let evs := s.malt.events.map fun x => if x = e then { x with tries := x.tries + 1 } else x
      .next ((s.modMalt fun y => { y with events := evs }).emitMalt (.pldmEvent sensor e.state e.reading))
    else
      let evs := s.malt.events.erase e
      .next (s.modMalt fun y => { y with events := evs })

/-- A stored SB_MODE takes effect on a bus (06 R175). -/
def execSbModeApply (b : Bus) (s : State) : Res :=
  if s.malt.alive then .next (s.modBus b fun w => { w with modeNow := w.modeStored, dynAddr := none, ibiEnabled := false })
  else .next s

/-! ### Opcodes as commands: an accepted request of source `src` executes; a windowed one has won its window -/

def State.runOpcode (s : State) (src : Src) (seq op obj : Byte) (payload : List Byte) : Res :=
  let q : Req := { seq := seq, op := op, obj := obj, payload := payload }
  if s.malt.alive then
    match s.requestRefusal q with
    | some st => .next (s.reply src q st [])
    | none =>
      if windowed op then .next (s.runWinner q [{ src := src, req := q, time := s.now }]) else .next (s.runNow src q)
  else .next s

def tunByte (t : TunId) : Byte := BitVec.ofNat 8 (tunObj t)
def bayByte (n : Nat) : Byte := BitVec.ofNat 8 (0x20 + n)

def execGetInfo (src : Src) (seq : Byte) (s : State) : Res := s.runOpcode src seq 0x01 0x00 []
def execRegRead (src : Src) (seq page off count : Byte) (s : State) : Res := s.runOpcode src seq 0x02 0x30 [page, off, count]
def execRegWrite (src : Src) (seq page off : Byte) (value mask : Word) (s : State) : Res :=
  s.runOpcode src seq 0x03 0x30 ([page, off] ++ bytesLE 4 value.toNat ++ bytesLE 4 mask.toNat)
def execLogRead (src : Src) (seq : Byte) (first : Half) (count : Byte) (s : State) : Res :=
  s.runOpcode src seq 0x04 0x30 (halfBytes first ++ [count])
def execLogClear (src : Src) (seq : Byte) (s : State) : Res := s.runOpcode src seq 0x05 0x30 []
def execMaltRestart (src : Src) (seq : Byte) (key : Half) (s : State) : Res := s.runOpcode src seq 0x06 0x30 (halfBytes key)
def execTunPowerOn (src : Src) (seq : Byte) (t : TunId) (s : State) : Res := s.runOpcode src seq 0x10 (tunByte t) []
def execTunPowerOff (src : Src) (seq : Byte) (t : TunId) (s : State) : Res := s.runOpcode src seq 0x11 (tunByte t) []
def execTunPowerCycle (src : Src) (seq : Byte) (t : TunId) (offMs : Half) (s : State) : Res :=
  s.runOpcode src seq 0x12 (tunByte t) (halfBytes offMs)

/-- OFF_MS after the Tun reached OFF the power-on part begins, or is refused under 07 R221 (06 R190). -/
def execPowerCycleWaitEnd (t : TunId) (s : State) : Res :=
  if s.malt.alive ∧ (s.mtun t).seq = .cycleWait then
    let s := s.modMTun t fun m => { m with cycleAfter := none, seq := .idle }
    match powerRefusal s t with
    | some st => .next ((s.refusePower t st).finishOn t st)
    | none => .next (s.acceptOn t)
  else .next s

def execTunReset (src : Src) (seq : Byte) (t : TunId) (kind : Byte) (s : State) : Res :=
  s.runOpcode src seq 0x13 (tunByte t) [kind]
def execTunFence (src : Src) (seq : Byte) (t : TunId) (s : State) : Res := s.runOpcode src seq 0x14 (tunByte t) []
def execTunRegRead (src : Src) (seq : Byte) (t : TunId) (off : Nat) (count : Byte) (s : State) : Res :=
  s.runOpcode src seq 0x15 (tunByte t) (bytesLE 3 off ++ [count])
def execTunRegWrite (src : Src) (seq : Byte) (t : TunId) (off : Nat) (value : Word) (s : State) : Res :=
  s.runOpcode src seq 0x16 (tunByte t) (bytesLE 3 off ++ bytesLE 4 value.toNat)
def execTunStatus (src : Src) (seq : Byte) (t : TunId) (s : State) : Res := s.runOpcode src seq 0x17 (tunByte t) []
def execKegStatus (src : Src) (seq : Byte) (n : Nat) (s : State) : Res := s.runOpcode src seq 0x20 (bayByte n) []
def execKegEepromRead (src : Src) (seq : Byte) (n : Nat) (addr : Half) (count : Byte) (s : State) : Res :=
  s.runOpcode src seq 0x21 (bayByte n) (halfBytes addr ++ [count])
def execAlertRead (src : Src) (seq ack : Byte) (s : State) : Res := s.runOpcode src seq 0x31 0x00 [ack]
def execLocate (src : Src) (seq obj on : Byte) (secs : Half) (s : State) : Res :=
  s.runOpcode src seq 0x40 obj ([on] ++ halfBytes secs)
def execStageBegin (src : Src) (seq kind : Byte) (len : Word) (s : State) : Res :=
  s.runOpcode src seq 0x50 0x30 ([kind] ++ bytesLE 4 len.toNat)
def execStageData (src : Src) (seq : Byte) (off : Word) (data : List Byte) (s : State) : Res :=
  s.runOpcode src seq 0x51 0x30 (bytesLE 4 off.toNat ++ data)
def execStageCommit (src : Src) (seq kind : Byte) (s : State) : Res := s.runOpcode src seq 0x52 0x30 [kind]
def execStageAbort (src : Src) (seq : Byte) (s : State) : Res := s.runOpcode src seq 0x53 0x30 []
def execStageStatus (src : Src) (seq : Byte) (s : State) : Res := s.runOpcode src seq 0x54 0x30 []

/-! ### The in-band proxy -/

/-- SEND: ignored and counted while BUSY; else the frame goes to the Maltster (06 R193, R194). -/
def State.proxySend (s : State) (t : TunId) : State :=
  let u := s.tun t
  if u.proxy.busy then s.modTun t fun u => { u with proxy := { u.proxy with refused := satInc u.proxy.refused } }
  else
    let s := s.modTun t fun u => { u with proxy := { u.proxy with done := false, busy := true } }
    if s.malt.alive then s.rawArrive (.proxy t) u.proxyFrame else s

def execProxySend (t : TunId) (s : State) : Res :=
  if (s.tun t).reachable then .next (s.proxySend t) else .next s

/-- The Tun's read of the reply buffer returns a whole frame (06 R195). -/
def execProxyReplyCollect (t : TunId) (s : State) : Res :=
  let w := s.raw (.proxy t)
  if (s.tun t).proxy.busy ∧ s.malt.alive then
    match w.reply with
    | none => .next s
    | some r =>
      let bs := replyBytes r (s.replyFlags w)
      .next (((s.modTun t (Tun.proxyAnswer bs)).modRaw (.proxy t) fun w => { w with wasRead := true }).restartAfter (some r))
  else .next s

/-- 200 ms after relaying without a frame (06 R195). -/
def execProxyTimeout (t : TunId) (s : State) : Res := onTun t s Tun.proxyFail

/-- Standby power lost: thermal latches clear, every output, LED and the Maltster are lost, the Tuns and cartridges have no power,
staging is interrupted (07 R225, 08 R285). The 30 s of a thermal trip do not outlast it (07 R221, assumption 174, DESIGN CHOICE). -/
def execStandbyPowerLoss (s : State) : Res :=
  let s := s.cutPower.openMain
  let s := s.modMalt fun y => { y with
    alive := false, imageFailed := false, heldAlert := false, heldLed := 0, heldBayLed := 0,
    mtun := Quad.map (fun m => { m with
      power := 0, enables := 0, seq := .idle, coldRstHeld := true, thermLatch := false, tripTime := none, planSel := 0, releasedAt := none,
      regs := List.replicate 7 {} }) y.mtun }
  let s := { s with
    tray := { s.tray with pwrEn := false, tripped := false, removing := false },
    bays := s.bays.map fun (b : Bay) => { b with powered := false, ready := false } }
  .next s.restartMalt

end Sys2Proof.Machine
end

