-- ==== Sys2Proof/Machine/Deliver.lean ====
section
/-! DEFINITION. Packets that reach the Tun (chapters 10, 11, 14): the consumers of each type, the context check and the stream stage
before them, ingress, the award of outputs, and the rows that write the packet plane's registers. -/

namespace Sys2Proof.Machine
open Sys2Proof

/-! ### Register writes and the proxy (04 R132, 06 R193) -/

/-- A SEND written by a command, seen by BUSY rising from `was`, takes its frame to the Maltster (06 R193, R194). -/
def State.relayProxy (s : State) (t : TunId) (was : Bool) : State :=
  if !was && (s.tun t).proxy.busy && s.malt.alive then s.rawArrive (.proxy t) (s.tun t).proxyFrame else s

/-- A command of one Tun that may write its registers. -/
def onTunP (t : TunId) (s : State) (f : Tun → Tun) : Res := .next ((s.modTun t f).relayProxy t (s.tun t).proxy.busy)

/-- Writes to registers that have no row of their own, all of one management cycle. -/
def execRegisterWrite (t : TunId) (ws : List RegWrite) (s : State) : Res := onTunP t s (Tun.cycleWrites s.now ws)

/-- A write to one register of a row of its own, at offset `off`: no Tun that is off or in a cold hold takes it. -/
def Tun.rowWrite (off : Nat) (f : Tun → Tun) (t : Tun) : Tun :=
  if t.svc.state = .off ∨ t.svc.hold = .cold then t else t.gateWrite off f

def execRackConfigWrite (t : TunId) (v : Word) (s : State) : Res := onTun t s (Tun.rowWrite 0x40 (Tun.writeRackConfig v))

def execConflictClear (t : TunId) (s : State) : Res := onTun t s (Tun.rowWrite 0x38 Tun.conflictClear)

def execPkeyTableWrite (t : TunId) (n : Byte) (v : Dword) (s : State) : Res :=
  onTun t s (Tun.rowWrite (0x058000 + 8 * n.toNat) fun u => (u.writePkeyLow n.toNat (loOf v)).writePkeyHigh n.toNat (hiOf v))

def execRankDataWrite (t : TunId) (v : Word) (s : State) : Res := onTun t s (Tun.rowWrite 0x058904 (Tun.writeRankData v))

def execRankDescWrite (t : TunId) (n : BitVec 6) (v : Word) (s : State) : Res :=
  onTun t s (Tun.rowWrite (0x058800 + 4 * n.toNat) (Tun.writeRankDesc n.toNat v))

def execRouteDataWrite (t : TunId) (v : Word) (s : State) : Res := onTun t s (Tun.rowWrite 0x051014 (Tun.writeRouteData v))

/-- The holds of the ring are empty: a stored MODE applies (11 R431). -/
def execVorlaufModeApply (t : TunId) (s : State) : Res :=
  onTun t s fun u => if u.svc.hold = .none_ ∧ u.svc.state ≠ .off then u.vorlaufApply else u

/-! ### Register access in-band (10 R362) -/

/-- Places a reply on its target output at once (04 R130, R134: the acknowledgement precedes the write's effect). -/
def Tun.placeNow (now : Nat) (q : Packet) (t : Tun) : Tun :=
  match t.targets q.dst.toNat with
  | [] => t.drop 0x0A ownPort q
  | o :: _ => if o = engineOut then t else t.placeLink now o true { pkt := q, input := 300, since := now }

def mgmtReply (p : Packet) (status : Half) (data : List Byte) : Packet :=
  { type := tyMgmt, cls := clGrey, channel := 15, pkey := 0xFFFF, dst := p.srcEp.setWidth 12, tag := p.tag,
    addr := BitVec.ofNat 64 ((0x8000 + (mgmtOp p).toNat) * 2 ^ 48 + status.toNat), len := BitVec.ofNat 13 data.length, payload := data }

/-- LEN a MGMT_OP's request carries; `none` for a reserved MGMT_OP (10 R362). -/
def mgmtLen (op : Nat) : Option Nat := if op = 1 ∨ op = 2 then some 0 else if op = 3 then some 4 else if op = 4 then some 8 else none

/-- Registers whose write can take the Tun out of service: their reply leaves first. -/
def acksFirst (off : Nat) : Bool := off == 0x0F0010 || off == 0x14

/-- A MGMT packet at the Tun: a request is answered, a reply or TELEMETRY consumed (10 R362, R378). -/
def Tun.takeMgmt (now : Nat) (p : Packet) (t : Tun) : Tun :=
  let op := (mgmtOp p).toNat
  let off := (p.addr.extractLsb' 0 48).toNat
  let answer (st : Half) (d : List Byte) (t : Tun) : Tun := t.originate now (mgmtReply p st d)
  if 0x8000 ≤ op ∨ op = 0x0010 then t
  else if p.poison then answer 0x0504 [] t
  else if mgmtLen op ≠ some p.len.toNat ∨ 0x1000000 ≤ off then answer 0x00F1 [] t
  else if op = 1 ∨ op = 2 then
    let r := t.readAccess now .inband off (if op = 1 then 4 else 8)
    answer 0 r.1 r.2
  else
    let w : RegWrite := { path := .inband, off := off, bytes := p.len.toNat, value := BitVec.ofNat 64 (natLE p.payload) }
    if acksFirst off then
      let r := t.formOwn now (mgmtReply p 0 [])
      (r.1.foldl (fun t q => t.placeNow now q) r.2).cycleWrites now [w]
    else answer 0 [] (t.cycleWrites now [w])

/-! ### A context's share from outside (14 R544, 10 R359, R360, R378) -/

/-- Status of an access to a context's share. -/
def Tun.shareStatus (t : Tun) (c off len : Nat) : Half :=
  match (t.ctx c).state with
  | .resident => if (t.ctx c).inUsable off len then 0 else 0x0012
  | .faulted => 0x0202
  | _ => 0x0201

/-- A WRITE at the Tun. -/
def Tun.takeWrite (p : Packet) (t : Tun) : Tun :=
  let c := p.ctx.toNat
  if t.shareStatus c p.addr.toNat p.payload.length = 0 then t.shareStore c p.addr.toNat p.payload p.poison
  else t.modBm fun b => { b with nonres := satInc b.nonres }

/-- A mask chunk read by a Tun of the stripe (17 R690); the chunk not held is outside what the context reaches. -/
def Tun.maskChunk (now : Nat) (p : Packet) (t : Tun) : Half × List PByte × Tun :=
  let chunk := (p.addr.extractLsb' 60 3).toNat
  let unit := (p.addr.extractLsb' 32 20).toNat
  match t.cseq p.pkey (p.addr.extractLsb' 0 32).toNat with
  | none => (0x0012, [], t)
  | some q =>
    if q.lost then (0x0303, [], t)
    else match q.page false 0 unit with
      | none => (0x0012, [], t)
      | some r =>
        let a := caskAddr r.stack r.loc + 4096 * chunk
        (0, t.caskReadP a 4096, t.caskTxn now false a 4096)

def fromTun (p : Packet) : Bool := decide (192 ≤ p.srcEp.toNat) && decide (p.srcEp.toNat < 224)

/-- A READ_REQ at the Tun: one READ_RESP, poisoned where its memory is. -/
def Tun.serveRead (now : Nat) (p : Packet) (t : Tun) : Tun :=
  let r : Half × List PByte × Tun :=
    if p.addr.getLsbD 63 ∧ fromTun p then t.maskChunk now p
    else
      let st := t.shareStatus p.ctx.toNat p.addr.toNat p.len.toNat
      (st, if st = 0 then t.shareReadP p.ctx.toNat p.addr.toNat p.len.toNat else [], t)
  let q := r.2.2.response p r.1 (pbytes r.2.1)
  r.2.2.queueOut now [{ q with poison := anyPoison r.2.1 : Packet }.sealed]

/-- The new value of an atomic operation on `n` bytes (10 Table 10-4); `none` for a reserved OP. -/
def atomicNew (op n : Nat) (old a b : Dword) : Option Dword :=
  let sx (x : Dword) : Int := if n = 4 then (x.setWidth 32).toInt else x.toInt
  match op with
  | 1 => some (old + a)
  | 2 => some (old &&& a)
  | 3 => some (old ||| a)
  | 4 => some (old ^^^ a)
  | 5 => some (if sx old < sx a then a else old)
  | 6 => some (if sx a < sx old then a else old)
  | 7 => some (if old.toNat < a.toNat then a else old)
  | 8 => some (if a.toNat < old.toNat then a else old)
  | 9 => some a
  | 10 => some (if old = a then b else old)
  | _ => none

/-- An ATOMIC_REQ at the Tun: performed at once, answered with the old value (10 R359, R360, R378). -/
def Tun.takeAtomic (now : Nat) (p : Packet) (t : Tun) : Tun :=
  let n := (byteAt p.payload 1).toNat
  let at_ (o : Nat) : Dword := BitVec.ofNat 64 (leAt p.payload o n)
  let c := p.ctx.toNat
  let off := p.addr.toNat
  let old : Dword := BitVec.ofNat 64 (natLE (t.shareRead c off n))
  let answer (st : Half) (d : List Byte) (t : Tun) : Tun := t.queueOut now [t.response p st d]
  if (n ≠ 4 ∧ n ≠ 8) ∨ off % n ≠ 0 then answer 0x00F1 [] t
  else match atomicNew (byteAt p.payload 0).toNat n old (at_ 8) (at_ 16) with
    | none => answer 0x00F1 [] t
    | some v =>
      let st := t.shareStatus c off n
      if st ≠ 0 then answer st [] t
      else if p.poison ∨ t.sharePoison c off n then answer 0x0504 [] t
      else answer 0 (bytesLE 8 old.toNat) (t.shareStore c off (bytesLE n v.toNat) false)

/-! ### Responses (14 R562, R563, 13 R529) -/

/-- Place of the read in a command's plan that an entry serves. -/
def Cmd.readOf (c : Cmd) (entry : Nat) : Option Nat :=
  (List.range c.fetches.length).find? fun i =>
    match c.fetches[i]? with
    | some f => f.entry == entry && !f.host && f.data.isNone
    | none => false

/-- The data of a read arrives: its entry is free again. -/
def Tun.readFilled (now entry i : Nat) (c : Cmd) (p : Packet) (t : Tun) : Tun :=
  let t := t.modBm fun b => { b with outstanding := b.outstanding.filter (·.entry != entry) }
  let t := t.modCmd c.id fun c => { c with
    fetches := c.fetches.modify i fun f => { f with data := some p.payload, poison := p.poison } }
  t.issueReads now c.id

/-- A response at the Tun, matched to its entry or dropped. -/
def Tun.takeResponse (now port : Nat) (p : Packet) (t : Tun) : Tun :=
  let e := (p.tag.extractLsb' 0 12).toNat
  match t.bm.outstanding.find? fun o => o.entry == e && o.ctx == p.ctx.toNat && o.gen == p.tag.extractLsb' 12 4 with
  | none => (t.drop 0x10 port p).modBm fun b => { b with lateReply := satInc b.lateReply }
  | some o =>
    match o.cmd.bind t.cmd with
    | none => t.modBm fun b => { b with outstanding := b.outstanding.filter (·.entry != e) }
    | some c =>
      let st : Half := p.addr.setWidth 16
      if st ≠ 0 ∧ st ≠ 1 then (if c.maskRead e then t.maskFail c.id e 0x0303 else t.runFail now c st)
      else match c.readOf e with
        | none => t
        | some i => if (c.plan[i]?).map (·.len) = some p.payload.length then t.readFilled now e i c p else t

/-! ### Delivery -/

/-- CTX names a defined context whose key is PKEY; MGMT and FENCE_NOTICE are exempt (10 R373). -/
def Tun.ctxOk (t : Tun) (p : Packet) : Bool :=
  p.type == tyMgmt || p.type == tyFenceNotice ||
    ((t.ctx p.ctx.toNat).state != .undefined && (t.ctx p.ctx.toNat).pkey == p.pkey)

/-- A delivered packet's port code: its port, plus 1,024 where this Tun forfeited it and 1,024 × (2 + unit) where a circuit brought it
into an engine unit. -/
def codeForfeit (code : Nat) : Bool := code / 1024 == 1
def codePipe (code : Nat) : Option Nat := if 2 ≤ code / 1024 ∧ code / 1024 < 10 then some (code / 1024 - 2) else none

/-- The consumer of a packet addressed to the Tun (10 Table 10-3). Types with no consumer on a Tun have no effect. -/
def Tun.consume (now code : Nat) (p : Packet) (t : Tun) : Tun :=
  if p.type = tyMgmt then t.takeMgmt now p
  else if p.type = tyFenceNotice then t.takeNotice now p
  else if p.type = tyWrite then t.takeWrite p
  else if p.type = tyReadReq then t.serveRead now p
  else if p.type = tyAtomicReq then t.takeAtomic now p
  else if p.type = tyReadResp ∨ p.type = tyAtomicResp then t.takeResponse now code p
  else if p.type = tyCmd then t.takeCmd now p
  else if p.type = tyDoorbell then t.takeDoorbell now p
  else if p.type = tyContrib then t.takeContrib now p (codeForfeit code) (codePipe code)
  else if p.type = tyTap then t.modMash fun m => { m with tapQueue := m.tapQueue ++ [p] }
  else t

def Tun.consumeAll (now : Nat) (ps : List (Nat × Packet)) (t : Tun) : Tun := ps.foldl (fun t x => t.consume now x.1 x.2) t

/-- A packet taken by the engine input: the context check, the stream stage, and what that delivers (10 R373, R383). -/
def Tun.deliver (now code : Nat) (p : Packet) (t : Tun) : Tun :=
  if ¬ t.ctxOk p then t.dropAnswered now 0x0F code p
  else
    let r := t.streamAccept now code p
    r.1.consumeAll now r.2

/-- Packets reach the engines of the Tun. -/
def Tun.receives (t : Tun) : Bool :=
  t.svc.hold == .none_ && (t.svc.state == .pale || t.svc.state == .full || t.svc.state == .draining)

/-- The packet is addressed to this Tun. -/
def Tun.addressed (t : Tun) (p : Packet) : Bool := !p.dstKind && p.dst.toNat == t.number

def execPacketDeliverStream (t : TunId) (port : BitVec 9) (p : Packet) (s : State) : Res :=
  onTunP t s fun u =>
    if u.receives ∧ u.addressed p ∧ u.engineTakes p then u.deliver s.now port.toNat p else u

/-- HOLE_TIMEOUT has passed for the stream of a source and channel (10 R384). -/
def execHoleTimeout (t : TunId) (srcEp : BitVec 10) (ch : BitVec 4) (s : State) : Res :=
  onTunP t s fun u =>
    let r := u.holeSkip (srcEp.toNat * 16 + ch.toNat)
    r.1.consumeAll s.now r.2

/-- The row of one packet type: a packet of that type at its consumer. -/
def packetRow (t : TunId) (port : BitVec 9) (types : List (BitVec 6)) (p : Packet) (s : State) : Res :=
  onTunP t s fun u =>
    if u.receives ∧ types.contains p.type ∧ u.addressed p ∧ u.ctxOk p then u.consume s.now port.toNat p else u

def execFenceNoticeReceive (t : TunId) (port : BitVec 9) (p : Packet) (s : State) : Res := packetRow t port [tyFenceNotice] p s
def execMgmtRequest (t : TunId) (port : BitVec 9) (p : Packet) (s : State) : Res := packetRow t port [tyMgmt] p s
def execReadReqServe (t : TunId) (port : BitVec 9) (p : Packet) (s : State) : Res := packetRow t port [tyReadReq] p s
def execAtomicExecute (t : TunId) (port : BitVec 9) (p : Packet) (s : State) : Res := packetRow t port [tyAtomicReq] p s
def execShareWrite (t : TunId) (port : BitVec 9) (p : Packet) (s : State) : Res := packetRow t port [tyWrite] p s
def execResponseReceive (t : TunId) (port : BitVec 9) (p : Packet) (s : State) : Res := packetRow t port [tyReadResp, tyAtomicResp] p s
def execCmdPacket (t : TunId) (port : BitVec 9) (p : Packet) (s : State) : Res := packetRow t port [tyCmd] p s
def execDoorbellPacket (t : TunId) (port : BitVec 9) (p : Packet) (s : State) : Res := packetRow t port [tyDoorbell] p s

/-- A CONTRIB of one kind: KIND 0 data of a pull-mode instance, KIND 1 a ready signal (15 R600). A push tile is a KIND 0 CONTRIB of an
instance whose PUSH_COLLECTIVE runs; `pipe` is that of its circuit, if one brought it. -/
def contribRow (t : TunId) (kind : Nat) (forfeit : Bool) (pipe : Option Nat) (p : Packet) (s : State) : Res :=
  onTun t s fun u =>
    if u.receives ∧ p.type = tyContrib ∧ (p.addr.extractLsb' 42 2).toNat = kind ∧ u.addressed p ∧ u.ctxOk p then
      u.takeContrib s.now p forfeit pipe
    else u

def execContribDataReceive (t : TunId) (forfeit : Bool) (p : Packet) (s : State) : Res := contribRow t 0 forfeit none p s
def execContribSignalReceive (t : TunId) (forfeit : Bool) (p : Packet) (s : State) : Res := contribRow t 1 forfeit none p s
def execPushTileReceive (t : TunId) (pipe : Option (BitVec 3)) (forfeit : Bool) (p : Packet) (s : State) : Res :=
  contribRow t 0 forfeit (pipe.map (·.toNat)) p s

/-! ### Ingress (10 R371, R390, 11 R399) -/

/-- A whole packet has arrived on port or link `id`, its first flit at `first`: checked, then held. -/
def Tun.ingress (now id : Nat) (vc : Bool) (first : Nat) (p : Packet) (t : Tun) : Tun :=
  let t := t.bump 1 3 id
  match t.checkIngress first id p with
  | .lost code q => t.dropAnswered now code id q
  | .ok q => t.holdPacket now id vc q


def execPacketIngress (t : TunId) (port : BitVec 9) (vc : Bool) (p : Packet) (s : State) : Res :=
  onTun t s fun u =>
    let id := port.toNat
    if u.portUp id ∧ (u.holdRoom id false ∨ ¬ p.headerOk) ∧ (isFabricId id ∨ ¬ p.isCircuit) then u.ingress s.now id vc s.now p else u

/-- A circuit packet has arrived whole, its first flit at `from_`: matched to its circuit, or forfeited (12 R456-R460, 10 R387). One the Tap
receive queue has no room for is held like a forfeited one and bids for the engine input again (04 R116, 15 R624). -/
def Tun.circuitArrive (now from_ id : Nat) (p : Packet) (first last : Int) (t : Tun) : Tun :=
  let t := t.bump 1 3 id
  match t.checkIngress from_ id p with
  | .lost code q => t.dropAnswered now code id q
  | .ok q =>
    match t.circuitMatch id q first last with
    | .error cause => (t.countForfeit cause id q.slot.toNat).holdForfeit now id (forfeited q)
    | .ok w =>
      if cirKind w = 0 then t.sendPort now (cirOut w) q
      else if t.tapFull q then
        (t.holdForfeit now id { q with circuit := false, slot := 0 : Packet }.sealed).modMash fun m => { m with tapDeflect := satInc m.tapDeflect }
      else if t.reorderDepth < 4096 then t.deliver now (id + 1024 * (2 + cirOut w)) q
      else
        let t := t.holdForfeit now id (forfeited q)
        { t with plane := { t.plane with reorderRefuse := satInc t.plane.reorderRefuse } }

/-- A first flit refused for want of room: a NAK with HOLD (11 R399, 09 R325). -/
def Tun.refuseFirst (now id : Nat) (circuit : Bool) (t : Tun) : Tun :=
  ((t.bump 1 22 id).modPort id fun p => { p with refused := some circuit }).wantNak now id

/-- `first` and `last` are the arrival of the first and last bit from the slot's start, in timestamp units. -/
def execCircuitPacketArrive (t : TunId) (port : BitVec 9) (p : Packet) (first last : Int) (s : State) : Res :=
  onTunP t s fun u =>
    let id := port.toNat
    if ¬ u.portUp id ∨ isFabricId id ∨ ¬ p.circuit then u
    else if u.forfeitRoom id ∨ ¬ p.headerOk then u.circuitArrive s.now (s.now - (last - first).toNat) id p first last
    else u.refuseFirst s.now id true

/-! ### Holds (11 R400, R416, R439) -/

def Tun.holdOf (t : Tun) (h : HoldRef) : List Waiting :=
  match h with
  | .inj id => Tab.get [] t.plane.inj id
  | .forfeit id => Tab.get [] t.plane.forfeit id
  | .engine => t.plane.engine
  | .landing id => Tab.get [] t.plane.landing id

/-- A packet of a hold other than a landing has waited INJECT_AGE (11 R400). -/
def Tun.gildWaiting (h : HoldRef) (i : Nat) (t : Tun) : Tun :=
  match h, (t.holdOf h)[i]? with
  | .landing _, _ => t
  | _, none => t
  | h, some w =>
    if w.pkt.gild then t
    else
      let t := t.putBack h w { w with pkt := { w.pkt with gild := true : Packet }.sealed }
      match h with
      | .inj id => t.bump 1 6 id
      | _ => t

def execInjectAgeGild (t : TunId) (h : HoldRef) (n : Nat) (s : State) : Res := onTun t s (Tun.gildWaiting h n)

/-- A packet has been 64 cycles in its row landing (11 R416). -/
def Tun.releaseLanding (id i : Nat) (t : Tun) : Tun :=
  match (t.holdOf (.landing id))[i]? with
  | some w => if isMeshId id then t.putBack (.landing id) w { w with released := true } else t
  | none => t

def execRowLandingRelease (t : TunId) (link : BitVec 9) (n : Nat) (s : State) : Res := onTun t s (Tun.releaseLanding link.toNat n)

/-- One copy of the oldest multicast of an injection hold (11 R437, R439). -/
def Tun.copyMulticast (now id : Nat) (t : Tun) : Tun :=
  match (t.holdOf (.inj id)).find? fun w => w.copies.isSome with
  | none => t
  | some w =>
    match w.copies with
    | some (m :: ms) =>
      if 32 ≤ t.plane.engine.length then t
      else
        let e : Waiting := { pkt := mcastCopy w.pkt m, input := 300, since := now }
        let t := { t with plane := { t.plane with engine := t.plane.engine ++ [e] } }
        let t := t.peak 3 0 0 t.plane.engine.length
        if ms.isEmpty then t.takeFrom (.inj id) w now else t.putBack (.inj id) w { w with copies := some ms }
    | _ => t.takeFrom (.inj id) w now

def execMulticastCopy (t : TunId) (port : BitVec 9) (s : State) : Res := onTun t s (Tun.copyMulticast s.now port.toNat)

/-! ### Output arbitration (11 R408-R422) -/

/-- Port code of a packet taken from a hold into the engines. -/
def holdCode (h : HoldRef) (w : Waiting) : Nat :=
  match h with
  | .forfeit id => id + 1024
  | .engine => ownPort
  | _ => w.input

/-- Packets the engine input refuses this cycle, each counted (10 R387, 15 R624). -/
def Tun.countRefusals (free : List Nat) (t : Tun) : Tun :=
  if ¬ free.contains engineOut then t else
  (t.bidders.filter fun b => (t.targets b.2.pkt.dst.toNat).contains engineOut).foldl (fun t b =>
    if ¬ t.reorderAccepts b.2.pkt then { t with plane := { t.plane with reorderRefuse := satInc t.plane.reorderRefuse } }
    else if t.tapFull b.2.pkt then t.modMash fun m => { m with tapDeflect := satInc m.tapDeflect }
    else t) t

/-- Arbitration state of the awarded outputs after the cycle: as the award over every bid an output had leaves it, where that award is
the one made (11 R408-R410). -/
def Tun.keepAwards (now : Nat) (outs : List Nat) (bs0 bs : List Bid) (t : Tun) : Tun :=
  outs.foldl (fun t o =>
    match bs.find? (Bid.heads o) with
    | none => t
    | some w =>
      let r := t.award now o (bidsFor o bs0 bs)
      let a := if r.1.map (·.ix) = some w.ix then r.2 else (t.award now o [w]).2
      { t with plane := { t.plane with arb := t.plane.arb.set {} o a } }) t

/-- What becomes of one packet's bids: placed on the output it won, or left where it waits. -/
def Tun.placeBid (now : Nat) (t : Tun) (b : Bid) : Tun :=
  match b.opts with
  | [] => t
  | (o, tgt) :: _ =>
    let t := t.takeFrom b.hold b.w now
    if o = engineOut then t.deliver now (holdCode b.hold b.w) b.w.pkt else t.placeLink now o tgt b.w

/-- One cycle of arbitration over the outputs that are free. -/
def Tun.awardCycle (now : Nat) (free : List Nat) (t : Tun) : Tun :=
  let t := (t.dropUnroutable now).countRefusals free
  let bs := t.cycleBids now free
  let t := t.keepAwards now free (t.firstBids now free) bs
  let t := (bs.filter (·.opts.isEmpty)).foldl (fun t b => t.ejectRing b.hold b.w) t
  bs.foldl (Tun.placeBid now) t

/-- `free` lists the outputs whose last packet has left. -/
def execOutputAward (t : TunId) (free : List Nat) (s : State) : Res :=
  onTunP t s fun u => if u.receives then u.awardCycle s.now free.eraseDups else u

/-! ### Received flits (09 R319-R332, 11 R399) -/

/-- Counts of the receiver's error correction and clock crossing (20 Table 20-2, 04 Table 04-4). -/
def Tun.rxCounts (id : Nat) (r : RxEvents) (t : Tun) : Tun :=
  let t := (((t.bumpBy 1 10 id r.codewords).bumpBy 1 11 id r.corrected).bumpBy 1 12 id r.uncorrectable).bumpBy 1 13 id r.symbols
  t.modPort id fun p => { p with rxCdcDrop := satAdd p.rxCdcDrop r.refused }

/-- Arrival of a bit at `at_` from the start of the nearest occurrence of a slot. -/
def Tun.fromSlot (t : Tun) (slot at_ : Nat) : Int :=
  let d : Int := (at_ : Int) - (t.sched.boundary + (slotUnits * slot : Nat))
  if (brewUnits : Int) < 2 * d then d - brewUnits else if 2 * d < -(brewUnits : Int) then d + brewUnits else d

/-- A packet's last flit has been accepted. -/
def Tun.packetIn (now id : Nat) (vc : Bool) (first : Nat) (p : Packet) (t : Tun) : Tun :=
  if p.isCircuit ∧ ¬ isFabricId id then
    let x := t.port id
    t.circuitArrive now first id p (t.fromSlot p.slot.toNat first) (t.fromSlot p.slot.toNat (now + x.flitUnits 1))
  else t.ingress now id vc first p

/-- Assembles the packet of accepted flits; a SCARLET packet of one flit may come between two flits of another (09 R300, R301). -/
def Tun.assemble (now id : Nat) (vc : Bool) (f : Flit) (t : Tun) : Tun :=
  let p := t.port id
  if f.ftype = ftOnly then
    (if f.cls = clScarlet then t else t.modPort id fun p => { p with assembling := false, partial_ := [] }).packetIn now id vc now
      (Packet.ofFlits [f.payload])
  else if f.ftype = ftFirst then t.modPort id fun p => { p with firstAt := now, assembling := true, partial_ := [f.payload] }
  else if ¬ p.assembling then t
  else if f.ftype = ftMid then t.modPort id fun p => { p with partial_ := p.partial_ ++ [f.payload] }
  else (t.modPort id fun p => { p with assembling := false, partial_ := [] }).packetIn now id vc p.firstAt (Packet.ofFlits (p.partial_ ++ [f.payload]))

/-- The hold of the port has no room for the packet this flit begins (11 R399). -/
def Tun.refusesFirst (t : Tun) (id : Nat) (f : Flit) : Bool :=
  (f.ftype == ftOnly || f.ftype == ftFirst) && !(t.holdRoom id (Packet.ofFlits [f.payload]).isCircuit)

/-- A sequenced flit (09 R319): accepted in order, refused, or out of order. An acceptance is acknowledged with an IDLE flit. -/
def Tun.sequencedFlit (now id : Nat) (f : Flit) (t : Tun) : Tun :=
  let p := t.port id
  if f.fseq ≠ p.expected then t.wantNak now id
  else if t.refusesFirst id f then t.refuseFirst now id (Packet.ofFlits [f.payload]).isCircuit
  else
    let t := t.modPort id fun p => { p with expected := p.expected + 1, nakOut := false, ackValid := true, refused := none }
    let odd : Bool := isRingId id && f.ringVc && !t.plane.modeNow
    let t := if odd then t.modPlane fun p => { p with modeMismatch := true } else t
    (t.putOrdered now id ftIdle []).assemble now id (f.ringVc && isRingId id && !odd) f

/-- An ordered set of a port that is up (09 Tables 09-4, 09-5). -/
def Tun.orderedSet (now id : Nat) (f : Flit) (t : Tun) : Tun :=
  let b := f.payload
  let probe := (byteAt b 0).toNat
  if f.ftype = ftTrain then (if byteAt b 0 = 0x03 then t.retrainNotice now id false else t)
  else if f.ftype = ftFence then t.fenceReceive now id (byteAt b 0) (byteAt b 1)
  else if f.ftype = ftMark then t.markReceive now id b
  else if f.ftype = ftProbe then t.probeReceive now id (byteAt b 0) (leAt b 8 8)
  else if f.ftype = ftEcho then t.delayEcho id probe (leAt b 8 8) (leAt b 16 8) (leAt b 24 8) now
  else if f.ftype = ftNap then t.napReceive id
  else t

/-- A flit of an old incarnation (09 R332): counted, its header captured where it has one. -/
def Tun.staleFlit (id : Nat) (f : Flit) (t : Tun) : Tun :=
  let p : Packet := if f.ftype = ftOnly ∨ f.ftype = ftFirst then Packet.ofFlits [f.payload] else {}
  (t.modPort id fun p => { p with staleIncarn := satInc p.staleIncarn }).drop 0x02 id p

/-- The acknowledgement part of a flit (09 R319, R325); a FENCE's NAK is left. -/
def Tun.flitAcks (now id : Nat) (f : Flit) (t : Tun) : Tun :=
  let t := if f.ackValid then t.modPort id (Port.acked f.ackseq) else t
  if f.nak ∧ f.ftype ≠ ftFence then
    let t := if f.hold then t.modPort id fun p => { p with holdFrom := some (f.ackseq + 1) } else t
    (t.startReplay now id (f.ackseq + 1) (!f.hold)).pumpLink now id
  else t.pumpLink now id

/-- A flit with a good CRC on a port that is up. -/
def Tun.upFlit (now id : Nat) (f : Flit) (t : Tun) : Tun :=
  let t := t.flitAcks now id f
  if ¬ (t.port id).up then t
  else if sequencedFt f.ftype then t.sequencedFlit now id f
  else
    let t := if f.fseq ≠ (t.port id).expected ∧ f.ftype ≠ ftFence then t.wantNak now id else t
    t.orderedSet now id f

/-- Fields a generation-1 header has not are 0 (21 Table 21-3). -/
def Flit.gen1 (f : Flit) : Flit := { f with ringVc := false, svc := 0, drain := false, hold := false }

/-- DRAIN and SVC of the peer's last flit; a generation-1 flit has neither (09 R348, 21 Table 21-3). -/
def Tun.peerShows (id : Nat) (f : Flit) (t : Tun) : Tun :=
  if (t.port id).genNow then t else t.modPort id fun p => { p with peerDrain := f.drain, peerSvc := f.svc }

/-- A flit taken apart, by the state of its port (09 R313, R319, R331, R332, Tables 09-6, 09-8). Every flit of another incarnation than the
one recorded is stale, but for the identity that IDENTIFY asks for. -/
def Tun.goodFlit (now id : Nat) (f : Flit) (t : Tun) : Tun :=
  let p := t.port id
  let subtype := byteAt f.payload 0
  if p.state = .down then t
  else if p.state = .identify ∧ f.ftype = ftTrain ∧ subtype = 0x02 then (t.peerShows id f).identityReceive now id f.payload
  else if p.peerIncarn ≠ some f.incarn then t.staleFlit id f
  else
    let t := t.peerShows id f
    match p.state with
    | .identify =>
      if f.ftype = ftTrain then (if subtype = 0x03 then t.retrainNotice now id false else t)
      else if f.ftype = ftFence then t.fenceReceive now id subtype (byteAt f.payload 1)
      else t
    | .active => t.upFlit now id f
    | .degraded => t.upFlit now id f
    | .peerFenced => if f.ftype = ftTrain then t.retrainNotice now id false else t
    | .fenced => if f.ftype = ftTrain ∧ subtype = 0x03 then t.retrainNotice now id false else t
    | .down => t

/-- A flit that cannot be used: counted, and a NAK asked for where the port is up (09 R319). -/
def Tun.badFlit (now id : Nat) (t : Tun) : Tun :=
  let t := t.bump 1 9 id
  if (t.port id).up then t.wantNak now id else t

/-- A flit received on port or link `id`: 256 bytes, or a bad block (09 R292, R297-R299, R319). -/
def Tun.flitReceive (now id : Nat) (bytes : List Byte) (badBlock : Bool) (rx : RxEvents) (t : Tun) : Tun :=
  let t := t.rxCounts id rx
  if (t.port id).link ≠ .linked then t
  else
    let t := t.rxWake id
    let gen1 := (t.port id).genNow
    match (if badBlock then none else Flit.ofBytes bytes) with
    | none => t.badFlit now id
    | some f =>
      if reservedFt gen1 f.ftype then t.badFlit now id
      else (t.bump 1 1 id).goodFlit now id (if gen1 then f.gen1 else f)

def execFlitReceive (t : TunId) (id : BitVec 9) (bytes : List Byte) (badBlock : Bool) (rx : RxEvents) (s : State) : Res :=
  onTunP t s fun u => if u.hasPort id.toNat ∧ u.svc.hold = .none_ ∧ u.svc.state ≠ .off then u.flitReceive s.now id.toNat bytes badBlock rx else u

end Sys2Proof.Machine
end

