-- ==== Sys2Proof/Machine/Dispatch.lean ====
section
/-! DEFINITION. One arm per command of the opcode table. -/

namespace Sys2Proof.Machine
open Sys2Proof

def exec (i : Instr) (s : State) : Host.Outcome State Fault Refusal :=
  match i with
  | .registerWrite t ws => Sys2Proof.Machine.execRegisterWrite t ws s
  | .rackConfigWrite t v => Sys2Proof.Machine.execRackConfigWrite t v s
  | .conflictClear t => Sys2Proof.Machine.execConflictClear t s
  | .pwrEnChange level => Sys2Proof.Machine.execPwrEnChange level s
  | .mainPathClose => Sys2Proof.Machine.execMainPathClose s
  | .mainPathTrip high mv => Sys2Proof.Machine.execMainPathTrip high mv s
  | .mainPathReclose => Sys2Proof.Machine.execMainPathReclose s
  | .partialSeating => Sys2Proof.Machine.execPartialSeating s
  | .prsntSNBreak => Sys2Proof.Machine.execPrsntSNBreak s
  | .tunSequenceStart t => Sys2Proof.Machine.execTunSequenceStart t s
  | .railPowerGood t k => Sys2Proof.Machine.execRailPowerGood t k s
  | .railTimeout t k status => Sys2Proof.Machine.execRailTimeout t k status s
  | .tunColdResetRelease t => Sys2Proof.Machine.execTunColdResetRelease t s
  | .powerDownRailStep t => Sys2Proof.Machine.execPowerDownRailStep t s
  | .railFault t k status => Sys2Proof.Machine.execRailFault t k status s
  | .pmbusPoll t power statuses input => Sys2Proof.Machine.execPmbusPoll t power statuses input s
  | .thermtripLatch t => Sys2Proof.Machine.execThermtripLatch t s
  | .thermalTripReport t => Sys2Proof.Machine.execThermalTripReport t s
  | .errNEdge t falling => Sys2Proof.Machine.execErrNEdge t falling s
  | .errNRearm t => Sys2Proof.Machine.execErrNRearm t s
  | .errStormWindow t => Sys2Proof.Machine.execErrStormWindow t s
  | .warnNChange t asserted => Sys2Proof.Machine.execWarnNChange t asserted s
  | .pinFaultSet t => Sys2Proof.Machine.execPinFaultSet t s
  | .pinFaultClear t => Sys2Proof.Machine.execPinFaultClear t s
  | .heartbeatWindow t edges => Sys2Proof.Machine.execHeartbeatWindow t edges s
  | .leakAsserted => Sys2Proof.Machine.execLeakAsserted s
  | .leakDeasserted => Sys2Proof.Machine.execLeakDeasserted s
  | .kegPresenceAsserted n rom => Sys2Proof.Machine.execKegPresenceAsserted n rom s
  | .kegEepromRetry n rom => Sys2Proof.Machine.execKegEepromRetry n rom s
  | .kegLatched n => Sys2Proof.Machine.execKegLatched n s
  | .kegPowerReady n => Sys2Proof.Machine.execKegPowerReady n s
  | .kegUnlatched n => Sys2Proof.Machine.execKegUnlatched n s
  | .kegPresenceDeasserted n => Sys2Proof.Machine.execKegPresenceDeasserted n s
  | .kegOvercurrent n => Sys2Proof.Machine.execKegOvercurrent n s
  | .sdaStuck b at35ms => Sys2Proof.Machine.execSdaStuck b at35ms s
  | .busRecoveryPulse b => Sys2Proof.Machine.execBusRecoveryPulse b s
  | .busServedAgain b => Sys2Proof.Machine.execBusServedAgain b s
  | .smbusTimeout b stillLow35 => Sys2Proof.Machine.execSmbusTimeout b stillLow35 s
  | .alertNHeld => Sys2Proof.Machine.execAlertNHeld s
  | .tunPoll t answers took => Sys2Proof.Machine.execTunPoll t answers took s
  | .maltsterWatchdogExpiry => Sys2Proof.Machine.execMaltsterWatchdogExpiry s
  | .maltsterRestart => Sys2Proof.Machine.execMaltsterRestart s
  | .maltsterReevaluate f => Sys2Proof.Machine.execMaltsterReevaluate f s
  | .locateSecondTick => Sys2Proof.Machine.execLocateSecondTick s
  | .locateButtonPress => Sys2Proof.Machine.execLocateButtonPress s
  | .refclkMissing t => Sys2Proof.Machine.execRefclkMissing t s
  | .holdoverExpiry t => Sys2Proof.Machine.execHoldoverExpiry t s
  | .slewComplete t => Sys2Proof.Machine.execSlewComplete t s
  | .refclkPresent t => Sys2Proof.Machine.execRefclkPresent t s
  | .corePllLock t locks => Sys2Proof.Machine.execCorePllLock t locks s
  | .caskPllLoss t stack => Sys2Proof.Machine.execCaskPllLoss t stack s
  | .tunColdReset t src => Sys2Proof.Machine.execTunColdReset t src s
  | .tunWarmReset t src => Sys2Proof.Machine.execTunWarmReset t src s
  | .warmResetRelease t => Sys2Proof.Machine.execWarmResetRelease t s
  | .paleWindowClose t => Sys2Proof.Machine.execPaleWindowClose t s
  | .caskTrainingDone t codes => Sys2Proof.Machine.execCaskTrainingDone t codes s
  | .rateStepRound t => Sys2Proof.Machine.execRateStepRound t s
  | .alignmentTimeout t => Sys2Proof.Machine.execAlignmentTimeout t s
  | .enterFull t => Sys2Proof.Machine.execEnterFull t s
  | .serviceFence t p => Sys2Proof.Machine.execServiceFence t p s
  | .serviceDrain t => Sys2Proof.Machine.execServiceDrain t s
  | .serviceResume t => Sys2Proof.Machine.execServiceResume t s
  | .retryCask t => Sys2Proof.Machine.execRetryCask t s
  | .stayPale t v => Sys2Proof.Machine.execStayPale t v s
  | .drainDone t => Sys2Proof.Machine.execDrainDone t s
  | .drainTimeout t => Sys2Proof.Machine.execDrainTimeout t s
  | .rawFrameReceive p frame pecOk => Sys2Proof.Machine.execRawFrameReceive p frame pecOk s
  | .rawReplyRead p => Sys2Proof.Machine.execRawReplyRead p s
  | .alertResponseRead b => Sys2Proof.Machine.execAlertResponseRead b s
  | .i3cCcc b c => Sys2Proof.Machine.execI3cCcc b c s
  | .mctpControl b cmd data => Sys2Proof.Machine.execMctpControl b cmd data s
  | .mctpVendorMessage b tag body => Sys2Proof.Machine.execMctpVendorMessage b tag body s
  | .pldmCommand b type cmd data => Sys2Proof.Machine.execPldmCommand b type cmd data s
  | .platformEventSend sensor => Sys2Proof.Machine.execPlatformEventSend sensor s
  | .platformEventRetry sensor => Sys2Proof.Machine.execPlatformEventRetry sensor s
  | .sbModeApply b => Sys2Proof.Machine.execSbModeApply b s
  | .windowClose o => Sys2Proof.Machine.execWindowClose o s
  | .getInfo src seq => Sys2Proof.Machine.execGetInfo src seq s
  | .regRead src seq page off count => Sys2Proof.Machine.execRegRead src seq page off count s
  | .regWrite src seq page off value mask => Sys2Proof.Machine.execRegWrite src seq page off value mask s
  | .logRead src seq first count => Sys2Proof.Machine.execLogRead src seq first count s
  | .logClear src seq => Sys2Proof.Machine.execLogClear src seq s
  | .maltRestart src seq key => Sys2Proof.Machine.execMaltRestart src seq key s
  | .tunPowerOn src seq t => Sys2Proof.Machine.execTunPowerOn src seq t s
  | .tunPowerOff src seq t => Sys2Proof.Machine.execTunPowerOff src seq t s
  | .tunPowerCycle src seq t offMs => Sys2Proof.Machine.execTunPowerCycle src seq t offMs s
  | .powerCycleWaitEnd t => Sys2Proof.Machine.execPowerCycleWaitEnd t s
  | .tunReset src seq t kind => Sys2Proof.Machine.execTunReset src seq t kind s
  | .tunFence src seq t => Sys2Proof.Machine.execTunFence src seq t s
  | .tunRegRead src seq t off count => Sys2Proof.Machine.execTunRegRead src seq t off count s
  | .tunRegWrite src seq t off value => Sys2Proof.Machine.execTunRegWrite src seq t off value s
  | .tunStatus src seq t => Sys2Proof.Machine.execTunStatus src seq t s
  | .kegStatus src seq n => Sys2Proof.Machine.execKegStatus src seq n s
  | .kegEepromRead src seq n addr count => Sys2Proof.Machine.execKegEepromRead src seq n addr count s
  | .alertRead src seq ack => Sys2Proof.Machine.execAlertRead src seq ack s
  | .locate src seq obj on secs => Sys2Proof.Machine.execLocate src seq obj on secs s
  | .proxySend t => Sys2Proof.Machine.execProxySend t s
  | .proxyReplyCollect t => Sys2Proof.Machine.execProxyReplyCollect t s
  | .proxyTimeout t => Sys2Proof.Machine.execProxyTimeout t s
  | .maltsterBootVerify => Sys2Proof.Machine.execMaltsterBootVerify s
  | .tunHeaderCheck t => Sys2Proof.Machine.execTunHeaderCheck t s
  | .tunBootLoad t flashOk => Sys2Proof.Machine.execTunBootLoad t flashOk s
  | .bootResultPoll t => Sys2Proof.Machine.execBootResultPoll t s
  | .goldenReflashDone t => Sys2Proof.Machine.execGoldenReflashDone t s
  | .stageBegin src seq kind len => Sys2Proof.Machine.execStageBegin src seq kind len s
  | .stageData src seq off data => Sys2Proof.Machine.execStageData src seq off data s
  | .stageCommit src seq kind => Sys2Proof.Machine.execStageCommit src seq kind s
  | .stageAbort src seq => Sys2Proof.Machine.execStageAbort src seq s
  | .stageStatus src seq => Sys2Proof.Machine.execStageStatus src seq s
  | .stageEraseDone => Sys2Proof.Machine.execStageEraseDone s
  | .stageVerifyDone => Sys2Proof.Machine.execStageVerifyDone s
  | .stageCopyDone writeOk => Sys2Proof.Machine.execStageCopyDone writeOk s
  | .stageRestartRecovery => Sys2Proof.Machine.execStageRestartRecovery s
  | .activation => Sys2Proof.Machine.execActivation s
  | .queryDeviceIdentifiers b => Sys2Proof.Machine.execQueryDeviceIdentifiers b s
  | .getFirmwareParameters b => Sys2Proof.Machine.execGetFirmwareParameters b s
  | .requestUpdate b maxTransfer => Sys2Proof.Machine.execRequestUpdate b maxTransfer s
  | .passComponentTable b => Sys2Proof.Machine.execPassComponentTable b s
  | .updateComponent b comp size => Sys2Proof.Machine.execUpdateComponent b comp size s
  | .firmwareDataReceive data => Sys2Proof.Machine.execFirmwareDataReceive data s
  | .firmwareDataRetry => Sys2Proof.Machine.execFirmwareDataRetry s
  | .activateFirmware b selfContained => Sys2Proof.Machine.execActivateFirmware b selfContained s
  | .getStatus b => Sys2Proof.Machine.execGetStatus b s
  | .cancelUpdateComponent b => Sys2Proof.Machine.execCancelUpdateComponent b s
  | .cancelUpdate b => Sys2Proof.Machine.execCancelUpdate b s
  | .portEnable t id => Sys2Proof.Machine.execPortEnable t id s
  | .detectLock t id peerFull => Sys2Proof.Machine.execDetectLock t id peerFull s
  | .detectTimeout t id => Sys2Proof.Machine.execDetectTimeout t id s
  | .trainEqualizeReceive t id lane req => Sys2Proof.Machine.execTrainEqualizeReceive t id lane req s
  | .equalizeDone t id => Sys2Proof.Machine.execEqualizeDone t id s
  | .deskewDone t id => Sys2Proof.Machine.execDeskewDone t id s
  | .attemptLimit t id => Sys2Proof.Machine.execAttemptLimit t id s
  | .coldAttemptRetry t id => Sys2Proof.Machine.execColdAttemptRetry t id s
  | .trainIdentityReceive t id payload => Sys2Proof.Machine.execTrainIdentityReceive t id payload s
  | .identifyComplete t id => Sys2Proof.Machine.execIdentifyComplete t id s
  | .identifyTimeout t id => Sys2Proof.Machine.execIdentifyTimeout t id s
  | .retrainNotice t id sent => Sys2Proof.Machine.execRetrainNotice t id sent s
  | .lossOfSignal t id => Sys2Proof.Machine.execLossOfSignal t id s
  | .flitReceive t id bytes badBlock rx => Sys2Proof.Machine.execFlitReceive t id bytes badBlock rx s
  | .replayTimeout t id => Sys2Proof.Machine.execReplayTimeout t id s
  | .replayBufferDiscard t id => Sys2Proof.Machine.execReplayBufferDiscard t id s
  | .replayWindowEnd t id oneSecond => Sys2Proof.Machine.execReplayWindowEnd t id oneSecond s
  | .fenceReceive t id scope leaving => Sys2Proof.Machine.execFenceReceive t id scope leaving s
  | .fenceRepeat t id => Sys2Proof.Machine.execFenceRepeat t id s
  | .portReset t id => Sys2Proof.Machine.execPortReset t id s
  | .portDisable t id v => Sys2Proof.Machine.execPortDisable t id v s
  | .injectCrc t id => Sys2Proof.Machine.execInjectCrc t id s
  | .delayMeasureStart t id => Sys2Proof.Machine.execDelayMeasureStart t id s
  | .delayEchoReceive t id probe t1 t2 t3 t4 => Sys2Proof.Machine.execDelayEchoReceive t id probe t1 t2 t3 t4 s
  | .delayProbeReceive t id probe t1 => Sys2Proof.Machine.execDelayProbeReceive t id probe t1 s
  | .napEntry t id => Sys2Proof.Machine.execNapEntry t id s
  | .napReceive t id => Sys2Proof.Machine.execNapReceive t id s
  | .wake t id => Sys2Proof.Machine.execWake t id s
  | .packetIngress t port vc p => Sys2Proof.Machine.execPacketIngress t port vc p s
  | .multicastCopy t port => Sys2Proof.Machine.execMulticastCopy t port s
  | .outputAward t free => Sys2Proof.Machine.execOutputAward t free s
  | .packetDeliverStream t port p => Sys2Proof.Machine.execPacketDeliverStream t port p s
  | .holeTimeout t srcEp ch => Sys2Proof.Machine.execHoleTimeout t srcEp ch s
  | .injectAgeGild t h n => Sys2Proof.Machine.execInjectAgeGild t h n s
  | .rowLandingRelease t link n => Sys2Proof.Machine.execRowLandingRelease t link n s
  | .peerDeparture t id scope incarn => Sys2Proof.Machine.execPeerDeparture t id scope incarn s
  | .fenceNoticeReceive t port p => Sys2Proof.Machine.execFenceNoticeReceive t port p s
  | .mgmtRequest t port p => Sys2Proof.Machine.execMgmtRequest t port p s
  | .readReqServe t port p => Sys2Proof.Machine.execReadReqServe t port p s
  | .atomicExecute t port p => Sys2Proof.Machine.execAtomicExecute t port p s
  | .shareWrite t port p => Sys2Proof.Machine.execShareWrite t port p s
  | .responseReceive t port p => Sys2Proof.Machine.execResponseReceive t port p s
  | .pkeyTableWrite t n v => Sys2Proof.Machine.execPkeyTableWrite t n v s
  | .rankDataWrite t v => Sys2Proof.Machine.execRankDataWrite t v s
  | .rankDescWrite t n v => Sys2Proof.Machine.execRankDescWrite t n v s
  | .routeDataWrite t v => Sys2Proof.Machine.execRouteDataWrite t v s
  | .vorlaufModeApply t => Sys2Proof.Machine.execVorlaufModeApply t s
  | .brewBoundary t => Sys2Proof.Machine.execBrewBoundary t s
  | .keeperMarkSend t => Sys2Proof.Machine.execKeeperMarkSend t s
  | .brewMarkReceive t id payload => Sys2Proof.Machine.execBrewMarkReceive t id payload s
  | .brewMarkTake t => Sys2Proof.Machine.execBrewMarkTake t s
  | .alignLoss t => Sys2Proof.Machine.execAlignLoss t s
  | .circuitPacketArrive t port p first last => Sys2Proof.Machine.execCircuitPacketArrive t port p first last s
  | .timedStepStart t n => Sys2Proof.Machine.execTimedStepStart t n s
  | .stepBudgetEnd t id => Sys2Proof.Machine.execStepBudgetEnd t id s
  | .engineCircuitSend t n => Sys2Proof.Machine.execEngineCircuitSend t n s
  | .bindingStart t n => Sys2Proof.Machine.execBindingStart t n s
  | .recipeLoad t id => Sys2Proof.Machine.execRecipeLoad t id s
  | .recipeLoadDone t image => Sys2Proof.Machine.execRecipeLoadDone t image s
  | .brewStart t id => Sys2Proof.Machine.execBrewStart t id s
  | .brewStop t id => Sys2Proof.Machine.execBrewStop t id s
  | .shadowDiscard t id => Sys2Proof.Machine.execShadowDiscard t id s
  | .armCheck t answers => Sys2Proof.Machine.execArmCheck t answers s
  | .armRecheck t answers => Sys2Proof.Machine.execArmRecheck t answers s
  | .armedBrewBegin t => Sys2Proof.Machine.execArmedBrewBegin t s
  | .planeRelease t => Sys2Proof.Machine.execPlaneRelease t s
  | .queueDoorbell t q index => Sys2Proof.Machine.execQueueDoorbell t q index s
  | .cringHead t r index => Sys2Proof.Machine.execCringHead t r index s
  | .cmdPacket t port p => Sys2Proof.Machine.execCmdPacket t port p s
  | .doorbellPacket t port p => Sys2Proof.Machine.execDoorbellPacket t port p s
  | .descriptorFetch t q admin => Sys2Proof.Machine.execDescriptorFetch t q admin s
  | .commandStart t q => Sys2Proof.Machine.execCommandStart t q s
  | .racking t id => Sys2Proof.Machine.execRacking t id s
  | .remoteTimeout t entry => Sys2Proof.Machine.execRemoteTimeout t entry s
  | .heldRecordWrite t => Sys2Proof.Machine.execHeldRecordWrite t s
  | .queueCfgWrite t ring v => Sys2Proof.Machine.execQueueCfgWrite t ring v s
  | .cringCfgWrite t reg v => Sys2Proof.Machine.execCringCfgWrite t reg v s
  | .nop t id => Sys2Proof.Machine.execNop t id s
  | .writeImm t id => Sys2Proof.Machine.execWriteImm t id s
  | .copy t id => Sys2Proof.Machine.execCopy t id s
  | .timestamp t id => Sys2Proof.Machine.execTimestamp t id s
  | .ctxDefine t id => Sys2Proof.Machine.execCtxDefine t id s
  | .ctxUndefine t id => Sys2Proof.Machine.execCtxUndefine t id s
  | .ctxReside t id => Sys2Proof.Machine.execCtxReside t id s
  | .resideTurn t => Sys2Proof.Machine.execResideTurn t s
  | .resideStreamDone t => Sys2Proof.Machine.execResideStreamDone t s
  | .resideReadFail t => Sys2Proof.Machine.execResideReadFail t s
  | .ctxEvict t id => Sys2Proof.Machine.execCtxEvict t id s
  | .ctxSetPriority t id => Sys2Proof.Machine.execCtxSetPriority t id s
  | .ctxKill t id => Sys2Proof.Machine.execCtxKill t id s
  | .semInit t id => Sys2Proof.Machine.execSemInit t id s
  | .leaseExpiry t sem => Sys2Proof.Machine.execLeaseExpiry t sem s
  | .groupForm t id => Sys2Proof.Machine.execGroupForm t id s
  | .groupReform t id => Sys2Proof.Machine.execGroupReform t id s
  | .groupDisband t id => Sys2Proof.Machine.execGroupDisband t id s
  | .allReduce t id => Sys2Proof.Machine.execAllReduce t id s
  | .reduceScatter t id => Sys2Proof.Machine.execReduceScatter t id s
  | .allGather t id => Sys2Proof.Machine.execAllGather t id s
  | .broadcast t id => Sys2Proof.Machine.execBroadcast t id s
  | .allToAll t id => Sys2Proof.Machine.execAllToAll t id s
  | .pushCollective t id => Sys2Proof.Machine.execPushCollective t id s
  | .contribDataReceive t forfeit p => Sys2Proof.Machine.execContribDataReceive t forfeit p s
  | .contribSignalReceive t forfeit p => Sys2Proof.Machine.execContribSignalReceive t forfeit p s
  | .chunkReady t id => Sys2Proof.Machine.execChunkReady t id s
  | .chunkRacking t id => Sys2Proof.Machine.execChunkRacking t id s
  | .pushTileReceive t pipe forfeit p => Sys2Proof.Machine.execPushTileReceive t pipe forfeit p s
  | .pushSpanEnd t id => Sys2Proof.Machine.execPushSpanEnd t id s
  | .tapGroupSet t id => Sys2Proof.Machine.execTapGroupSet t id s
  | .tapContribution t => Sys2Proof.Machine.execTapContribution t s
  | .seqOpen t id => Sys2Proof.Machine.execSeqOpen t id s
  | .seqClose t id => Sys2Proof.Machine.execSeqClose t id s
  | .seqLock t id => Sys2Proof.Machine.execSeqLock t id s
  | .seqUnlock t id => Sys2Proof.Machine.execSeqUnlock t id s
  | .kvAppend t id => Sys2Proof.Machine.execKvAppend t id s
  | .kvFetch t id => Sys2Proof.Machine.execKvFetch t id s
  | .batchStep t id => Sys2Proof.Machine.execBatchStep t id s
  | .pageRelease t => Sys2Proof.Machine.execPageRelease t s
  | .steepDecode t id => Sys2Proof.Machine.execSteepDecode t id s
  | .stackOffline t stack cause => Sys2Proof.Machine.execStackOffline t stack cause s
  | .tableLoad t id => Sys2Proof.Machine.execTableLoad t id s
  | .gristEncode t id => Sys2Proof.Machine.execGristEncode t id s
  | .gristDecode t id => Sys2Proof.Machine.execGristDecode t id s
  | .streamOpen t id => Sys2Proof.Machine.execStreamOpen t id s
  | .streamClose t id => Sys2Proof.Machine.execStreamClose t id s
  | .streamHead t stream index => Sys2Proof.Machine.execStreamHead t stream index s
  | .lauterState t id => Sys2Proof.Machine.execLauterState t id s
  | .pourParams t id => Sys2Proof.Machine.execPourParams t id s
  | .sampleStep t id => Sys2Proof.Machine.execSampleStep t id s
  | .hostLinkTrain t cfg speed width flit => Sys2Proof.Machine.execHostLinkTrain t cfg speed width flit s
  | .hostPerst t asserted => Sys2Proof.Machine.execHostPerst t asserted s
  | .hostLinkLoss t => Sys2Proof.Machine.execHostLinkLoss t s
  | .hostDirectedRetrain t cfg speed width flit => Sys2Proof.Machine.execHostDirectedRetrain t cfg speed width flit s
  | .vfFlr t vf => Sys2Proof.Machine.execVfFlr t vf s
  | .pfFlr t => Sys2Proof.Machine.execPfFlr t s
  | .sriovNumvfsWrite t numVfs enable => Sys2Proof.Machine.execSriovNumvfsWrite t numVfs enable s
  | .vfDoorbellWrite t vf off bytes v => Sys2Proof.Machine.execVfDoorbellWrite t vf off bytes v s
  | .vfBar2Write t vf off bs => Sys2Proof.Machine.execVfBar2Write t vf off bs s
  | .hostReadCompletion t tag data => Sys2Proof.Machine.execHostReadCompletion t tag data s
  | .msixUnmask t fn vector mask => Sys2Proof.Machine.execMsixUnmask t fn vector mask s
  | .errorDetect t src cls at_ => Sys2Proof.Machine.execErrorDetect t src cls at_ s
  | .spargeScrub t stack units found => Sys2Proof.Machine.execSpargeScrub t stack units found s
  | .caskCalibration t stack => Sys2Proof.Machine.execCaskCalibration t stack s
  | .caskTemperatureRead t stack v => Sys2Proof.Machine.execCaskTemperatureRead t stack v s
  | .caskSelfRefreshEntry t stack => Sys2Proof.Machine.execCaskSelfRefreshEntry t stack s
  | .serdesRecal t id => Sys2Proof.Machine.execSerdesRecal t id s
  | .junctionTempSample t readings => Sys2Proof.Machine.execJunctionTempSample t readings s
  | .exportRound t => Sys2Proof.Machine.execExportRound t s
  | .exportContinue t => Sys2Proof.Machine.execExportContinue t s
  | .snap t => Sys2Proof.Machine.execSnap t s
  | .hydRingHead t index => Sys2Proof.Machine.execHydRingHead t index s
  | .hydValueLoRead t p => Sys2Proof.Machine.execHydValueLoRead t p s
  | .hydConfigWrite t reg v => Sys2Proof.Machine.execHydConfigWrite t reg v s
  | .coldResetHoldEnd t => Sys2Proof.Machine.execColdResetHoldEnd t s
  | .alertNReleased => Sys2Proof.Machine.execAlertNReleased s
  | .delayEchoTimeout t id => Sys2Proof.Machine.execDelayEchoTimeout t id s
  | .pfWortWindowWrite t off bs => Sys2Proof.Machine.execPfWortWindowWrite t off bs s
  | .standbyPowerLoss => Sys2Proof.Machine.execStandbyPowerLoss s
  | .releasedEntryReuse t entry => Sys2Proof.Machine.execReleasedEntryReuse t entry s

end Sys2Proof.Machine
end

