-- ==== Sys2Proof/Machine/Operands.lean ====
section
/-! DEFINITION. The time that passes when no command waits. -/

namespace Sys2Proof.Machine
open Sys2Proof

/-- One timestamp unit passes for a Tun: awake transmitters with nothing to send send IDLE (09 R304); a core cycle is 16 units, and at its
end the counters that count cycles move (20 R771, R774, assumption 1, DESIGN CHOICE). -/
def Tun.idle (now : Nat) (t : Tun) : Tun :=
  let t := t.idleFlits now
  if now % 16 = 0 ∧ t.counts then t.cycle now else t

/-- One timestamp unit passes. -/
def idle (s : State) : State :=
  let n := s.now + 1
  { s with now := n }.modAllTuns (Tun.idle n)

end Sys2Proof.Machine
end

