-- ==== Sys2Proof/Machine/Step.lean ====
section
/-! DEFINITION. One step of the tray: the command at the front of the queue runs; on an empty queue the block idles and one
timestamp unit passes (assumption 1, DESIGN CHOICE). -/

namespace Sys2Proof.Machine
open Sys2Proof

/-- The front command's effect on the state with the queue's rest; with no command waiting the block idles. -/
def step (s : State) : Host.Outcome State Fault Refusal :=
  match s.pending with
  | [] => .next (idle s)
  | c :: rest => exec c { s with pending := rest }

/-- The command a table word spells put at the front of the queue; the table gives its rows no bits, so no word spells one. -/
def State.withFetchWord (s : State) (nbits w : Nat) : State :=
  match decodeTableWord nbits w with
  | some c => { s with pending := c :: s.pending }
  | none => s

end Sys2Proof.Machine
end

