-- ==== Sys2Proof/Safety.lean ====
section
/-! DEFINITION. What the statements say of a command: the state it answers, a record it logs, the part of the state it can reach,
and the invariant every step keeps. -/

namespace Sys2Proof.Machine
open Sys2Proof

/-- Command `c` in state `s` answers a next state of which `P` holds. -/
def Answers (c : Instr) (s : State) (P : State → Prop) : Prop := ∃ t, exec c s = .next t ∧ P t

/-- The step of `s` answers a next state. -/
def safe (s : State) : Prop := ∃ t, step s = .next t

/-- The event log of `t` holds the record of an event (07 Table 07-9), numbered next in `s`. -/
def Logged (s t : State) (event : Half) (severity source : Byte) (data : List Byte) : Prop :=
  ∃ r ∈ t.malt.log, r.number = s.malt.logNext ∧ r.event = event ∧ r.severity = severity ∧ r.source = source ∧ r.data = logData data

/-- The alert bit `n` of ALERT_STATUS is set (06 R204). -/
def Alerted (t : State) (n : Nat) : Prop := t.malt.alertStatus &&& (1#8 <<< n) = 1#8 <<< n

/-- Reply `r` has been delivered to source `src`: it stands in the raw path's reply buffer, whose command is done, or it has left as an
MCTP message (06 R182, R199). -/
def Replied (t : State) (src : Src) (r : Reply) : Prop :=
  match src with
  | .raw p => (t.raw p).busy = false ∧ (t.raw p).reply = some r
  | .mctp b tag => ∃ flags, .mctp b tag Config.ianaNumber (replyBytes r flags) (mctpPackets (replyBytes r flags)) ∈ t.malt.out

/-- From `u` to `v` the Tun has sent, among others, a flit of type `ft` with the payload `pl` on port or link `id` (09 R297). -/
def SentFlit (u v : Tun) (id : Nat) (ft : BitVec 4) (pl : List Byte) : Prop :=
  ∃ new f inverted, v.out = u.out ++ new ∧ TunEmit.flit id f inverted ∈ new ∧ f.ftype = ft ∧ f.payload = pl

/-- `t` differs from `s` in Tun `x` only. -/
def OnlyTun (x : TunId) (s t : State) : Prop := t = s.setTun x (t.tun x)

/-- The Tuns, the bays, the tray's own state, the queue and the time of `t` are those of `s`: a command the Maltster keeps to itself. -/
def OnlyMalt (s t : State) : Prop :=
  t.now = s.now ∧ t.tuns = s.tuns ∧ t.tray = s.tray ∧ t.bays = s.bays ∧ t.fresh = s.fresh ∧ t.pending = s.pending

/-- `c` is the only command Brewmaster of `u` holds, and it is started or staged. It signals no semaphore and holds none, is neither QUIET nor
timed, asks for no interrupt and carries nothing that changes the status it completes with; the physical function writes its completion
ring, in host memory that it reaches (13 R514, 18 R718). -/
def Alone (u : Tun) (c : Cmd) : Prop :=
  u.bm.cmds = [c] ∧ c.running = true ∧ c.signalSem = none ∧ c.semHeld = false ∧ c.quiet = false ∧ c.interrupt = false ∧ c.timed = false ∧
    c.forfeit = false ∧ c.overrun = false ∧ c.poisoned = false ∧ c.notice = false ∧
    (let k := u.ring (u.queue c.queue).cring.toNat
     k.endpoint = false ∧ k.split = false ∧ k.function = 0) ∧ u.hostReach 0 = true ∧ u.host.lost = false

/-- From `u` to `v` the command `c` has ended with the completion record of a status and two results, the only output of the Tun
(13 R514 to R518, Table 13-6). -/
def Recorded (u v : Tun) (c : Cmd) (status : Half) (r0 : Dword) (r1 : BitVec 48) : Prop :=
  v.cmd c.id = none ∧
    (let q := u.queue c.queue
     let k := u.ring q.cring.toNat
     v.out = u.out ++ [.hostWrite 0 (k.addr.toNat + 32 * (k.tail.toNat % k.depth))
       (withPhase (recordBytes (descTag c.desc) status q.c c.queue c.op r0 r1 false) (k.phase k.tail.toNat)) false])

/-- Command `c` stands staged in `v` with a status, two results and the outputs its Racking will publish (14 R561). -/
def Staged (v : Tun) (c : Cmd) (status : Half) (r0 : Dword) (r1 : BitVec 48) (es : List Effect) : Prop :=
  v.cmd c.id = some { c with phase := .staged, status := status, result0 := r0, result1 := r1, effects := es }

/-- Command `k` answers a state in which the collective command `c` has taken its instance, with nothing left of what arrived early
(15 R588). -/
def TakesInstance (s : State) (x : TunId) (c : Cmd) (k : Instr) : Prop :=
  Answers k s fun t => (∃ g, (t.tun x).group c.groupNo = some g ∧ (g.place c.instanceNo).cmd = some c.id ∧
    (g.place c.instanceNo).early = []) ∧ OnlyTun x s t

/-- Command `k` answers a state in which `c` stands staged with status 0 and the batch entries `es` (16 R643). -/
def StagesBatch (s : State) (x : TunId) (c : Cmd) (es : List BEntry) (k : Instr) : Prop :=
  Answers k s fun t => (∃ e, (t.tun x).cmd c.id = some e ∧ e.phase = .staged ∧ e.status = 0 ∧ e.batch = es ∧ e.effects = []) ∧
    OnlyTun x s t

/-- From `u` to `v` packets `ps` have joined, in order and last, those that wait for the engine hold or in it (11 R439). -/
def Queued (u v : Tun) (ps : List Packet) : Prop :=
  v.plane.engine.map (·.pkt) ++ v.plane.engineWait = u.plane.engine.map (·.pkt) ++ u.plane.engineWait ++ ps

/-- A packet of a type that reaches its consumer on the Tun: the Tun receives, the packet is addressed to it and its context is defined
under its key (10 R373). -/
def Reaches (u : Tun) (ty : BitVec 6) (p : Packet) : Prop :=
  u.receives = true ∧ p.type = ty ∧ u.addressed p = true ∧ u.ctxOk p = true

/-- The response `p` answers the entry `o`: entry number, context and generation agree (14 R563). -/
def Answered (p : Packet) (o : OutReq) : Prop :=
  o.entry = (p.tag.extractLsb' 0 12).toNat ∧ o.ctx = p.ctx.toNat ∧ o.gen = p.tag.extractLsb' 12 4

/-- The Tun takes writes to its register windows: no reset holds it and it is neither OFF nor COLD (05 Table 05-11). -/
def WindowOpen (u : Tun) : Prop := u.svc.hold = .none_ ∧ u.svc.state ≠ .off ∧ u.svc.state ≠ .cold

/-- Table 13-3: what a producer doorbell with index `i` on queue `q` makes of the queue's P, its overrun flag and count, and DOORBELL_STALE. -/
def ProducerOutcome (u v : Tun) (q : Nat) (i : Half) : Prop :=
  let k := u.queue q
  let n := (i - k.p).toNat
  let f := queueFree q k
  (n = 0 → v.queue q = k ∧ v.bm.dbStale = u.bm.dbStale) ∧
  (1 ≤ n ∧ n ≤ f → v.queue q = { k with p := i } ∧ v.bm.dbStale = u.bm.dbStale) ∧
  (f + 1 ≤ n ∧ n ≤ 32767 → v.queue q = { k with p := k.p + BitVec.ofNat 16 f, overrun := true, overrunCount := satInc k.overrunCount } ∧
    v.bm.dbStale = u.bm.dbStale) ∧
  (32768 ≤ n → v.queue q = k ∧ v.bm.dbStale = satInc u.bm.dbStale)

/-- 13 R521: what a head doorbell with index `i` on ring `r` makes of the ring's H, its overrun flag and DOORBELL_STALE. -/
def HeadOutcome (u v : Tun) (r : Nat) (i : Half) : Prop :=
  let k := u.ring r
  let n := (i - k.head).toNat
  let a := (k.tail - k.head).toNat
  (1 ≤ n ∧ n ≤ a → v.ring r = { k with head := i } ∧ v.bm.dbStale = u.bm.dbStale) ∧
  (a + 1 ≤ n ∧ n ≤ 32767 → v.ring r = { k with head := k.tail, overrun := true } ∧ v.bm.dbStale = u.bm.dbStale) ∧
  (a + 1 ≤ n ∧ 32768 ≤ n → v.ring r = k ∧ v.bm.dbStale = satInc u.bm.dbStale) ∧
  (n = 0 → v.ring r = k ∧ v.bm.dbStale = u.bm.dbStale)

/-- The Tun that a command with a meaning inside one Tun acts on: a command of a Tun that reaches neither the Maltster, the bays nor
the input path. `none` for every other command. -/
def tunOf : Instr → Option TunId
  | .rackConfigWrite t .. | .conflictClear t | .refclkMissing t | .holdoverExpiry t | .slewComplete t | .refclkPresent t
  | .corePllLock t .. | .caskPllLoss t .. | .tunColdReset t .. | .tunWarmReset t .. | .paleWindowClose t | .caskTrainingDone t ..
  | .rateStepRound t | .alignmentTimeout t | .enterFull t | .serviceFence t .. | .serviceDrain t | .serviceResume t | .retryCask t
  | .stayPale t .. | .drainDone t | .drainTimeout t | .proxyTimeout t | .portEnable t .. | .detectLock t .. | .detectTimeout t ..
  | .trainEqualizeReceive t .. | .equalizeDone t .. | .deskewDone t .. | .attemptLimit t .. | .coldAttemptRetry t ..
  | .trainIdentityReceive t .. | .identifyComplete t .. | .identifyTimeout t .. | .retrainNotice t .. | .lossOfSignal t ..
  | .replayTimeout t .. | .replayBufferDiscard t .. | .replayWindowEnd t .. | .fenceReceive t .. | .fenceRepeat t ..
  | .portReset t .. | .portDisable t .. | .injectCrc t .. | .delayMeasureStart t .. | .delayEchoReceive t ..
  | .delayProbeReceive t .. | .napEntry t .. | .napReceive t .. | .wake t .. | .packetIngress t .. | .multicastCopy t ..
  | .injectAgeGild t .. | .rowLandingRelease t .. | .peerDeparture t .. | .pkeyTableWrite t .. | .rankDataWrite t ..
  | .rankDescWrite t .. | .routeDataWrite t .. | .vorlaufModeApply t | .brewBoundary t | .keeperMarkSend t | .brewMarkReceive t ..
  | .brewMarkTake t | .alignLoss t | .timedStepStart t .. | .stepBudgetEnd t .. | .engineCircuitSend t .. | .bindingStart t ..
  | .recipeLoad t .. | .recipeLoadDone t .. | .brewStart t .. | .brewStop t .. | .shadowDiscard t .. | .armCheck t ..
  | .armRecheck t .. | .armedBrewBegin t | .planeRelease t | .queueDoorbell t .. | .cringHead t .. | .descriptorFetch t ..
  | .commandStart t .. | .racking t .. | .remoteTimeout t .. | .heldRecordWrite t | .queueCfgWrite t .. | .cringCfgWrite t ..
  | .nop t .. | .writeImm t .. | .copy t .. | .timestamp t .. | .ctxDefine t .. | .ctxUndefine t .. | .ctxReside t ..
  | .resideTurn t | .resideStreamDone t | .resideReadFail t | .ctxEvict t .. | .ctxSetPriority t .. | .ctxKill t .. | .semInit t ..
  | .leaseExpiry t .. | .groupForm t .. | .groupReform t .. | .groupDisband t .. | .allReduce t .. | .reduceScatter t ..
  | .allGather t .. | .broadcast t .. | .allToAll t .. | .pushCollective t .. | .contribDataReceive t ..
  | .contribSignalReceive t .. | .chunkReady t .. | .chunkRacking t .. | .pushTileReceive t .. | .pushSpanEnd t ..
  | .tapGroupSet t .. | .tapContribution t | .seqOpen t .. | .seqClose t .. | .seqLock t .. | .seqUnlock t .. | .kvAppend t ..
  | .kvFetch t .. | .batchStep t .. | .pageRelease t | .steepDecode t .. | .stackOffline t .. | .tableLoad t .. | .gristEncode t ..
  | .gristDecode t .. | .streamOpen t .. | .streamClose t .. | .streamHead t .. | .lauterState t .. | .pourParams t ..
  | .sampleStep t .. | .hostLinkTrain t .. | .hostPerst t .. | .hostLinkLoss t | .hostDirectedRetrain t .. | .vfFlr t .. | .pfFlr t
  | .sriovNumvfsWrite t .. | .vfDoorbellWrite t .. | .vfBar2Write t .. | .hostReadCompletion t .. | .msixUnmask t ..
  | .errorDetect t .. | .spargeScrub t .. | .caskCalibration t .. | .caskTemperatureRead t .. | .caskSelfRefreshEntry t ..
  | .serdesRecal t .. | .junctionTempSample t .. | .exportRound t | .exportContinue t | .snap t | .hydRingHead t ..
  | .hydValueLoRead t .. | .hydConfigWrite t .. | .delayEchoTimeout t .. | .pfWortWindowWrite t .. | .releasedEntryReuse t .. => some t
  | _ => none

/-- The work of a started command of Tun `x`: every row that an engine of 13 Table 13-8 does. -/
def engineWork (x : TunId) : Instr → Bool
  | .nop t _ | .writeImm t _ | .copy t _ | .timestamp t _ | .ctxDefine t _ | .ctxUndefine t _ | .ctxReside t _ | .ctxEvict t _
  | .ctxSetPriority t _ | .ctxKill t _ | .semInit t _ | .groupForm t _ | .groupReform t _ | .groupDisband t _ | .allReduce t _
  | .reduceScatter t _ | .allGather t _ | .broadcast t _ | .allToAll t _ | .chunkReady t _ | .chunkRacking t _
  | .pushCollective t _ | .pushSpanEnd t _ | .tapGroupSet t _ | .seqOpen t _ | .seqClose t _ | .seqLock t _ | .seqUnlock t _
  | .kvAppend t _ | .kvFetch t _ | .batchStep t _ | .steepDecode t _ | .tableLoad t _ | .gristEncode t _ | .gristDecode t _
  | .streamOpen t _ | .streamClose t _ | .lauterState t _ | .pourParams t _ | .sampleStep t _ => t == x
  | _ => false

/-- Commands of the Maltster's watch and of its side-band transports that act on its own records alone. -/
def watches : Instr → Bool
  | .errNEdge .. | .errNRearm .. | .errStormWindow .. | .warnNChange .. | .pinFaultSet .. | .pinFaultClear .. | .heartbeatWindow ..
  | .sdaStuck .. | .busRecoveryPulse .. | .busServedAgain .. | .smbusTimeout .. | .alertNHeld | .alertNReleased | .locateSecondTick
  | .locateButtonPress | .alertResponseRead .. | .i3cCcc .. | .mctpControl .. | .pldmCommand ..
  | .platformEventSend .. | .platformEventRetry .. | .sbModeApply .. => true
  | _ => false

/-- The bytes and the poison of Wort and Cask are those of `u` in `v`. -/
def SameMemory (u v : Tun) : Prop :=
  v.bm.wort = u.bm.wort ∧ v.bm.poison = u.bm.poison ∧ v.cellar.cask = u.cellar.cask ∧ v.cellar.poison = u.cellar.poison

/-- The parts of a Tun that a command can reach: its service state, its clocks, its rack settings, the register conflict record, the proxy,
the ports and links, the packet plane, Hydrometer, the scheduled plane, Brewmaster with Wort, the collective engines, the Cellar with Cask,
the token engines, the host port, the error records, the background work, the junction reading and what the Tun has sent. -/
inductive Part where
  | svc | clk | rack | conflict | proxy | ports | plane | hyd | sched | bm | mash | cellar | token | host | err | rel | junction | out
deriving DecidableEq, Repr

/-- The part of `v` is that of `u`. -/
def Part.same (u v : Tun) : Part → Prop
  | .svc => v.svc = u.svc
  | .clk => v.clk = u.clk
  | .rack => v.rack = u.rack
  | .conflict => v.conflict = u.conflict
  | .proxy => v.proxy = u.proxy
  | .ports => v.ports = u.ports
  | .plane => v.plane = u.plane
  | .hyd => v.hyd = u.hyd
  | .sched => v.sched = u.sched
  | .bm => v.bm = u.bm
  | .mash => v.mash = u.mash
  | .cellar => v.cellar = u.cellar
  | .token => v.token = u.token
  | .host => v.host = u.host
  | .err => v.err = u.err
  | .rel => v.rel = u.rel
  | .junction => v.junction = u.junction
  | .out => v.out = u.out

/-- The parts of its Tun that a command inside one Tun may change (`tunOf`); every other part stays as it was. -/
def footprint : Instr → List Part
  | .rackConfigWrite ..
    => [.svc, .rack, .sched]
  | .conflictClear ..
    => [.svc, .conflict]
  | .refclkMissing ..
    => [.svc, .clk, .plane, .hyd, .sched, .bm, .mash, .host, .out]
  | .holdoverExpiry ..
    => [.clk]
  | .slewComplete .. | .refclkPresent .. | .corePllLock ..
    => [.svc, .clk, .sched]
  | .caskPllLoss ..
    => [.clk, .plane, .hyd, .sched, .bm, .mash, .cellar, .host, .err, .rel, .out]
  | .tunColdReset ..
    => [.svc, .clk, .rack, .conflict, .proxy, .ports, .plane, .hyd, .sched, .bm, .mash, .cellar, .token, .host, .err, .rel, .junction, .out]
  | .tunWarmReset ..
    => [.svc, .proxy, .ports, .plane, .hyd, .sched, .bm, .mash, .cellar, .token, .rel, .out]
  | .paleWindowClose ..
    => [.svc, .ports, .hyd, .out]
  | .caskTrainingDone ..
    => [.svc, .clk, .rel]
  | .rateStepRound ..
    => [.svc, .ports, .plane, .hyd, .out]
  | .alignmentTimeout .. | .retryCask .. | .stayPale .. | .drainDone .. | .drainTimeout ..
    => [.svc]
  | .enterFull ..
    => [.svc, .ports, .hyd, .cellar, .rel, .out]
  | .serviceFence ..
    => [.svc, .ports, .plane, .hyd, .sched, .bm, .mash, .host, .out]
  | .serviceDrain .. | .brewMarkTake ..
    => [.svc, .ports, .hyd, .sched, .out]
  | .serviceResume ..
    => [.svc, .ports, .plane, .hyd, .sched, .bm, .host, .out]
  | .proxyTimeout ..
    => [.proxy]
  | .portEnable .. | .detectLock .. | .detectTimeout .. | .trainEqualizeReceive .. | .equalizeDone .. | .coldAttemptRetry ..
    => [.ports, .out]
  | .replayWindowEnd .. | .injectCrc .. | .delayEchoReceive .. | .napReceive .. | .delayEchoTimeout ..
    => [.ports]
  | .deskewDone .. | .fenceRepeat .. | .delayMeasureStart .. | .delayProbeReceive .. | .napEntry .. | .keeperMarkSend ..
    => [.ports, .hyd, .out]
  | .attemptLimit .. | .identifyTimeout .. | .lossOfSignal ..
    => [.ports, .plane, .out]
  | .trainIdentityReceive .. | .retrainNotice .. | .replayTimeout ..
    => [.ports, .plane, .hyd, .out]
  | .identifyComplete .. | .fenceReceive ..
    => [.ports, .plane, .hyd, .sched, .bm, .mash, .cellar, .host, .out]
  | .replayBufferDiscard ..
    => [.ports, .plane, .hyd, .bm]
  | .portReset .. | .portDisable ..
    => [.ports, .plane, .hyd, .bm, .out]
  | .wake ..
    => [.ports, .hyd, .rel, .out]
  | .packetIngress ..
    => [.plane, .hyd, .bm]
  | .multicastCopy .. | .injectAgeGild ..
    => [.plane, .hyd]
  | .rowLandingRelease .. | .vorlaufModeApply ..
    => [.plane]
  | .peerDeparture .. | .ctxKill .. | .leaseExpiry .. | .seqOpen .. | .seqClose .. | .kvAppend .. | .batchStep .. | .vfFlr ..
    => [.plane, .hyd, .sched, .bm, .mash, .cellar, .host, .out]
  | .pkeyTableWrite .. | .rankDataWrite .. | .rankDescWrite .. | .routeDataWrite ..
    => [.svc, .plane]
  | .brewBoundary .. | .armedBrewBegin ..
    => [.ports, .plane, .hyd, .sched, .bm, .mash, .host, .out]
  | .timedStepStart .. | .bindingStart .. | .recipeLoadDone .. | .planeRelease ..
  | .commandStart .. | .remoteTimeout .. | .ctxReside .. | .resideTurn .. | .resideStreamDone .. | .resideReadFail .. | .ctxEvict ..
  | .ctxSetPriority .. | .semInit .. | .groupForm .. | .groupReform .. | .groupDisband .. | .allReduce .. | .reduceScatter ..
  | .allGather .. | .broadcast .. | .allToAll .. | .chunkReady .. | .pushSpanEnd .. | .tapGroupSet .. | .seqLock .. | .seqUnlock ..
  | .tableLoad .. | .gristEncode .. | .gristDecode .. | .streamOpen .. | .lauterState .. | .hostLinkLoss .. | .hostReadCompletion ..
    => [.plane, .hyd, .sched, .bm, .mash, .host, .out]
  | .brewMarkReceive ..
    => [.rack, .sched]
  | .alignLoss ..
    => [.sched]
  | .stepBudgetEnd .. | .armCheck .. | .armRecheck ..
    => [.plane, .hyd, .sched, .bm]
  | .engineCircuitSend ..
    => [.ports, .plane, .hyd, .sched, .bm, .out]
  | .recipeLoad .. | .brewStart .. | .brewStop .. | .shadowDiscard ..
    => [.svc, .rack, .plane, .hyd, .sched, .bm, .mash, .host, .out]
  | .queueDoorbell ..
    => [.svc, .plane, .hyd, .sched, .bm, .host, .out]
  | .cringHead .. | .queueCfgWrite .. | .cringCfgWrite ..
    => [.svc, .bm]
  | .descriptorFetch ..
    => [.hyd, .bm]
  | .racking ..
    => [.plane, .hyd, .sched, .bm, .mash, .cellar, .token, .host, .rel, .out]
  | .heldRecordWrite .. | .exportRound .. | .exportContinue ..
    => [.plane, .hyd, .bm, .host, .out]
  | .nop .. | .writeImm .. | .timestamp .. | .streamClose .. | .pourParams .. | .pfWortWindowWrite .. | .releasedEntryReuse ..
    => [.bm]
  | .copy .. | .kvFetch .. | .steepDecode ..
    => [.plane, .hyd, .sched, .bm, .mash, .host, .rel, .out]
  | .ctxDefine ..
    => [.plane, .hyd, .sched, .bm, .mash, .token, .host, .out]
  | .ctxUndefine ..
    => [.plane, .hyd, .sched, .bm, .mash, .cellar, .token, .host, .out]
  | .pushCollective .. | .contribDataReceive .. | .contribSignalReceive .. | .chunkRacking .. | .pushTileReceive ..
    => [.plane, .hyd, .sched, .bm, .mash, .cellar, .host, .rel, .out]
  | .tapContribution ..
    => [.plane, .hyd, .bm, .mash]
  | .pageRelease ..
    => [.cellar]
  | .stackOffline .. | .caskTemperatureRead ..
    => [.plane, .hyd, .sched, .bm, .mash, .cellar, .host, .err, .rel, .out]
  | .streamHead ..
    => [.svc, .token]
  | .sampleStep ..
    => [.plane, .hyd, .sched, .bm, .mash, .token, .host, .rel, .out]
  | .hostLinkTrain .. | .hostPerst .. | .hostDirectedRetrain .. | .sriovNumvfsWrite ..
    => [.host]
  | .pfFlr ..
    => [.svc, .proxy, .ports, .plane, .hyd, .sched, .bm, .mash, .cellar, .token, .host, .rel, .out]
  | .vfDoorbellWrite ..
    => [.plane, .hyd, .sched, .bm, .token, .host, .out]
  | .vfBar2Write ..
    => [.bm, .host]
  | .msixUnmask ..
    => [.host, .out]
  | .errorDetect .. | .spargeScrub ..
    => [.svc, .proxy, .ports, .plane, .hyd, .sched, .bm, .mash, .cellar, .token, .host, .err, .rel, .out]
  | .caskCalibration .. | .caskSelfRefreshEntry .. | .serdesRecal ..
    => [.rel]
  | .junctionTempSample ..
    => [.ports, .hyd, .junction, .out]
  | .snap .. | .hydRingHead .. | .hydValueLoRead .. | .hydConfigWrite ..
    => [.hyd]
  | _ => []

/-- Commands that may write a byte or a poison mark of Wort or Cask: those that store, move or clear data, and those through which a
register write, a packet or a reset can do so. -/
def writesMemory : Instr → Bool
  | .registerWrite .. | .pwrEnChange .. | .mainPathTrip .. | .prsntSNBreak | .railTimeout .. | .powerDownRailStep .. | .railFault ..
  | .pmbusPoll .. | .thermtripLatch .. | .leakAsserted | .maltsterWatchdogExpiry | .maltsterRestart | .maltsterReevaluate .. | .activation
  | .rawReplyRead .. | .proxyReplyCollect .. | .tunColdReset .. | .tunWarmReset .. | .rawFrameReceive ..
  | .mctpVendorMessage .. | .windowClose .. | .getInfo .. | .regRead .. | .regWrite .. | .logRead .. | .logClear .. | .maltRestart ..
  | .tunPowerOn .. | .tunPowerOff .. | .tunPowerCycle .. | .tunReset .. | .tunFence .. | .tunRegRead .. | .tunRegWrite .. | .tunStatus ..
  | .kegStatus .. | .kegEepromRead .. | .alertRead .. | .locate .. | .proxySend .. | .bootResultPoll .. | .stageBegin .. | .stageData ..
  | .stageCommit .. | .stageAbort .. | .stageStatus .. | .flitReceive .. | .outputAward .. | .packetDeliverStream .. | .holeTimeout ..
  | .fenceNoticeReceive .. | .mgmtRequest .. | .readReqServe .. | .atomicExecute .. | .shareWrite .. | .responseReceive ..
  | .circuitPacketArrive .. | .cmdPacket .. | .doorbellPacket .. | .racking .. | .resideTurn .. | .resideStreamDone .. | .allReduce ..
  | .reduceScatter .. | .allGather .. | .broadcast .. | .allToAll .. | .pushCollective .. | .contribDataReceive ..
  | .contribSignalReceive .. | .chunkRacking .. | .pushTileReceive .. | .sampleStep .. | .pfFlr .. | .vfBar2Write .. | .errorDetect ..
  | .spargeScrub .. | .pfWortWindowWrite .. | .standbyPowerLoss => true
  | _ => false

/-- What every step keeps: the tray has its six bays (03 R81), the event log holds at most 1,024 records (07 R255), and the four Tuns are
of one assembly, each in its own column (01 R15). -/
def TrayInv (s : State) : Prop :=
  s.bays.length = 6 ∧ s.malt.log.length ≤ 1024 ∧ ∀ x, (s.tun x).asm = (s.tun .t0).asm ∧ (s.tun x).col = x

/-- What every step keeps: Wort, Cask, their poison marks, the contexts and the streams of every Tun are tables in canonical form. -/
def MemInv (s : State) : Prop := ∀ x : TunId,
  let u := s.tun x
  u.bm.wort.wf 0 = true ∧ u.bm.poison.wf false = true ∧ u.cellar.cask.wf 0 = true ∧ u.cellar.poison.wf false = true ∧
    u.bm.ctxs.wf {} = true ∧ u.token.streams.wf {} = true

end Sys2Proof.Machine
end

