-- ==== Sys2Proof/Certificates/Slice0/Obligations.lean ====
section
/-! DEFINITION. The statements for the provers. A statement of a command's effect names the states and operands on which it runs and says
that `exec` answers a next state and what that state holds; `Answers`, `OnlyTun`, `OnlyMalt`, `Recorded`, `Staged`, `Logged` and the
others they are written in are in Safety. -/

open Sys2Proof Sys2Proof.Machine

/-- With a command at the front of the queue, the step is that command's effect on the state with the queue's rest. -/
def Obligations.StepRunsTheFront : Prop :=
  ∀ (s : State) (c : Instr) (rest : List Instr), s.pending = c :: rest → step s = exec c { s with pending := rest }

/-- On an empty queue the step lets one timestamp unit pass (the model's choice, log entry 1): the clock moves on by one and the queue stays
empty. Of a Tun only its ports, what they send and Hydrometer's counters and peaks can change, and a Tun with no linked port is as it was
unless a core cycle ends. -/
def Obligations.IdleStepOnlyCounts : Prop :=
  ∀ s : State, s.pending = [] → ∃ t, step s = .next t ∧ t.now = s.now + 1 ∧ t.pending = [] ∧ t.malt = s.malt ∧ t.tray = s.tray ∧
    t.bays = s.bays ∧ t.fw = s.fw ∧ t.fresh = s.fresh ∧
    (∀ x, t.tun x = { s.tun x with hyd := (t.tun x).hyd, ports := (t.tun x).ports, out := (t.tun x).out }) ∧
    ∀ x, (s.now + 1) % 16 ≠ 0 → (∀ id, ((s.tun x).port id).link ≠ .linked) → t.tun x = s.tun x

/-- At State.reset the tray has its six bays, the event log holds at most 1,024 records, the four Tuns are of one assembly, and every table
has its canonical form. -/
def Obligations.ResetMeetsInvariant : Prop := TrayInv State.reset ∧ MemInv State.reset

/-- From every state with six bays, at most 1,024 log records and four Tuns of one assembly, every command and the idle step lead to such a
state. -/
def Obligations.StepKeepsInvariant : Prop := ∀ s t : State, TrayInv s → step s = .next t → TrayInv t

/-- From every state in which these tables are strictly rising lists without an entry equal to what an unlisted key reads as, every command and
the idle step lead to such a state: equal contents stay equal data. -/
def Obligations.StepKeepsMemoryForm : Prop := ∀ s t : State, MemInv s → step s = .next t → MemInv t

/-- Whatever the command, its effect leaves the queue of waiting commands and the clock as they were. -/
def Obligations.CommandsKeepQueueAndClock : Prop :=
  ∀ (c : Instr) (s t : State), exec c s = .next t → t.pending = s.pending ∧ t.now = s.now

/-- Every command in every state answers a next state, so every step does: nothing faults and nothing is refused. -/
def Obligations.NothingStops : Prop := (∀ (c : Instr) (s : State), ∃ t, exec c s = .next t) ∧ ∀ s, safe s

/-- A command that belongs to one Tun (tunOf names it) leaves the other three Tuns, the Maltster, the bays, the tray, the firmware stage,
the queue and the clock as they were. -/
def Obligations.TunCommandsStayInTheirTun : Prop :=
  ∀ (c : Instr) (x : TunId) (s : State), tunOf c = some x → ∃ t, exec c s = .next t ∧ OnlyTun x s t

/-- The commands of the Maltster's watched pins, bus recovery, locate, alerts, I3C, MCTP control and PLDM monitoring change no Tun, no
bay, and no input-path state. -/
def Obligations.WatchCommandsChangeNoTun : Prop :=
  ∀ (c : Instr) (s : State), watches c = true →
    ∃ t, exec c s = .next t ∧ t.tuns = s.tuns ∧ t.bays = s.bays ∧ t.tray = s.tray ∧ t.fresh = s.fresh

/-- Every command outside `writesMemory`, whatever it does to the rest of the machine, leaves every byte and every poison mark of Wort and Cask
of every Tun as it was: in particular a command that stages its outputs writes nothing before its Racking. -/
def Obligations.MemoryFrame : Prop :=
  ∀ (c : Instr) (s : State), writesMemory c = false → ∃ t, exec c s = .next t ∧ ∀ x, SameMemory (s.tun x) (t.tun x)

/-- Every command inside one Tun leaves each of these parts of its Tun as it was unless `footprint` names the part. -/
def Obligations.FrameOfService : Prop :=
  ∀ (c : Instr) (x : TunId) (s : State) (p : Part), tunOf c = some x → p ∈ [Part.svc, Part.clk, Part.rack, Part.conflict, Part.proxy, Part.junction] → p ∉ footprint c →
    ∃ t, exec c s = .next t ∧ p.same (s.tun x) (t.tun x)

/-- Every command inside one Tun leaves each of these parts of its Tun as it was unless `footprint` names the part. -/
def Obligations.FrameOfFabric : Prop :=
  ∀ (c : Instr) (x : TunId) (s : State) (p : Part), tunOf c = some x → p ∈ [Part.ports, Part.plane, Part.out] → p ∉ footprint c →
    ∃ t, exec c s = .next t ∧ p.same (s.tun x) (t.tun x)

/-- Every command inside one Tun leaves each of these parts of its Tun as it was unless `footprint` names the part. -/
def Obligations.FrameOfEngines : Prop :=
  ∀ (c : Instr) (x : TunId) (s : State) (p : Part), tunOf c = some x → p ∈ [Part.sched, Part.mash, Part.cellar, Part.token] → p ∉ footprint c →
    ∃ t, exec c s = .next t ∧ p.same (s.tun x) (t.tun x)

/-- Every command inside one Tun leaves each of these parts of its Tun as it was unless `footprint` names the part. -/
def Obligations.FrameOfBrewmaster : Prop :=
  ∀ (c : Instr) (x : TunId) (s : State) (p : Part), tunOf c = some x → p ∈ [Part.hyd, Part.bm, Part.host, Part.err, Part.rel] → p ∉ footprint c →
    ∃ t, exec c s = .next t ∧ p.same (s.tun x) (t.tun x)

/-- A write through a VF's or the PF's Wort window keeps Wort's canonical form, changes no byte outside the bytes it covers at the addresses
the share's map gives, and leaves Cask, contexts, queues, rings, commands and counters as they were. A WRITE packet, an ATOMIC_REQ and the Racking of a WRITE_IMM change no
byte of Wort outside the bytes they address, and nothing of the Cellar. -/
def Obligations.StoresStayInTheirBytes : Prop :=
  ∀ (s : State) (x : TunId) (off : Nat) (bs : List Byte),
    let u := s.tun x
    let keeps (t : State) : Prop := ((u.bm.wort.wf 0 = true → (t.tun x).bm.wort.wf 0 = true) ∧ OnlyTun x s t ∧
      t.tun x = { u with bm := { u.bm with wort := (t.tun x).bm.wort, poison := (t.tun x).bm.poison }, host := (t.tun x).host })
    (Answers (.pfWortWindowWrite x off bs) s fun t => keeps t ∧ (t.tun x).host = u.host ∧
      (u.bm.wort.wf 0 = true → ∀ a, (∀ i, i < bs.length → a ≠ off + i) → (t.tun x).wortByte a = u.wortByte a)) ∧
    (∀ vf : BitVec 5, Answers (.vfBar2Write x vf off bs) s fun t => keeps t ∧
      (u.bm.wort.wf 0 = true → ∀ c, u.slotCtx (vf.toNat - 1) = some c → ∀ a, (∀ i, i < bs.length → a ≠ (u.ctx c).wortAddr (off + i)) →
        (t.tun x).wortByte a = u.wortByte a) ∧
      (u.slotCtx (vf.toNat - 1) = none → (t.tun x).bm = u.bm)) ∧
    (∀ port (p : Packet), Reaches u 0x01 p → Answers (.shareWrite x port p) s fun t => (t.tun x).cellar = u.cellar ∧
      ∀ a, (∀ i, i < p.payload.length → a ≠ (u.ctx p.ctx.toNat).wortAddr (p.addr.toNat + i)) → (t.tun x).wortByte a = u.wortByte a) ∧
    (∀ port (p : Packet), Reaches u 0x04 p → Answers (.atomicExecute x port p) s fun t => (t.tun x).cellar = u.cellar ∧
      ∀ a, (∀ i, i < 8 → a ≠ (u.ctx p.ctx.toNat).wortAddr (p.addr.toNat + i)) → (t.tun x).wortByte a = u.wortByte a) ∧
    (∀ (c : Cmd) (cx o : Nat) (data : List Byte) (poison : Bool), u.cmd c.id = some c → c.phase = .staged → u.serving = true → c.op = 0x01 →
      c.effects = [.wort cx o data poison] → Answers (.racking x c.id) s fun t => (t.tun x).cellar = u.cellar ∧
      ∀ a, (∀ i, i < data.length → a ≠ (u.ctx cx).wortAddr (o + i)) → (t.tun x).wortByte a = u.wortByte a)

/-- PWR_EN, MAIN_PATH_CLOSE, MAIN_PATH_TRIP, MAIN_PATH_RECLOSE, PARTIAL_SEATING and PRSNT_S_N_BREAK complete with their own effect: the
level of PWR_EN is taken and, deasserted with every Tun already off, opens the main path at once; the path closes while the image is
verified, PRSNT_S_N holds and PWR_EN is asserted, and every Tun's sequence is then due; a trip opens it and leaves every Tun off; it closes
again after good input; partial seating and a PRSNT_S_N break are recorded, and the break holds the cold reset of every Tun with power that
is not already going down, with cause 3. -/
def Obligations.MainPathCommandsComplete : Prop :=
  ∀ s : State, s.malt.alive = true →
    (s.tray.pwrEn = false → Answers (.pwrEnChange true) s fun t =>
      t.tray = { s.tray with pwrPin := true, pwrEn := true } ∧ t.tuns = s.tuns ∧ t.bays = s.bays ∧ Logged s t 0x0010 0 0 [1]) ∧
    (s.tray.pwrEn = true → (∀ x, running s x = false ∧ (s.mtun x).seq = .idle) → Answers (.pwrEnChange false) s fun t =>
      t.tray.pwrPin = false ∧ t.tray.pwrEn = false ∧ t.tray.mainClosed = false ∧ t.tuns = s.tuns ∧ Logged s t 0x0010 0 0 [0]) ∧
    (mayClose s = true → s.tray.tripped = false → Answers .mainPathClose s fun t =>
      t.tray.mainClosed = true ∧ t.tray.prsntS = true ∧ (∀ x, (t.mtun x).startDue = true) ∧ t.tuns = s.tuns ∧ t.fw = s.fw) ∧
    (∀ high mv, s.tray.mainClosed = true → Answers (.mainPathTrip high mv) s fun t =>
      t.tray.mainClosed = false ∧ t.tray.tripped = true ∧ t.tray.inputV = mv ∧ (∀ x, (t.tun x).svc.state = .off) ∧
      t.pending = s.pending) ∧
    (s.tray.tripped = true → s.tray.prsntS = true → mayClose s = true → Answers .mainPathReclose s fun t =>
      t.tray.mainClosed = true ∧ t.tray.tripped = false ∧ (∀ x, (t.mtun x).startDue = true) ∧ t.tuns = s.tuns ∧ t.fw = s.fw) ∧
    (s.tray.mainClosed = false → Answers .partialSeating s fun t =>
      t.tray = { s.tray with prsntL := true, prsntS := false, partialSeat := true } ∧ t.tuns = s.tuns ∧ t.bays = s.bays ∧
      Logged s t 0x0012 3 0 []) ∧
    (s.tray.mainClosed = true → Answers .prsntSNBreak s fun t =>
      t.tray.prsntS = false ∧ t.tray.removing = true ∧
      ∀ x, running s x = true → (∀ k, (s.mtun x).seq ≠ .down k) → (t.mtun x).coldRstHeld = true ∧ (t.mtun x).offCause = 3 ∧
        (t.mtun x).seq = .down (railsOn (s.mtun x).enables))

/-- TUN_SEQUENCE_START, RAIL_POWER_GOOD, RAIL_TIMEOUT, TUN_COLD_RESET_RELEASE, POWER_DOWN_RAIL_STEP, RAIL_FAULT and PMBUS_POLL complete:
the sequence starts with rail 1 enabled and the plan code driven; each power-good enables the next rail and the seventh leaves the cold
reset to be released; the release puts the Tun in COLD with the recorded incarnation plus 1; a timeout or a fault powers the Tun down,
sets TUN_POWER to 4 and logs the rail and its status; a power-down step drops the highest enabled rail and the last reports the Tun OFF;
a poll records the power, the regulators' readings and the input. -/
def Obligations.RailCommandsComplete : Prop :=
  ∀ (s : State) (x : TunId), s.malt.alive = true →
    ((s.mtun x).startDue = true → running s x = false → (s.mtun x).seq = .idle → powerRefusal s x = none → (s.mtun x).headerBad = false →
      Answers (.tunSequenceStart x) s fun t => (t.mtun x).power = 1 ∧ (t.mtun x).seq = .up 1 ∧ (t.mtun x).enables = 1 ∧
        (t.mtun x).rails = 0 ∧ (t.mtun x).coldRstHeld = true ∧ (t.mtun x).planSel = planCode s x ∧ (t.mtun x).startDue = false ∧
        (t.mtun x).regs = List.zipWith Regulator.setUp railNominal (s.mtun x).regs ∧ OnlyMalt s t) ∧
    (∀ k, (s.mtun x).seq = .up k → (s.mtun x).thermLatch = false → k < 7 → Answers (.railPowerGood x k) s fun t =>
      t.mtun x = { s.mtun x with seq := .up (k + 1), rails := (s.mtun x).rails ||| (1#7 <<< (k - 1)),
                                  enables := (s.mtun x).enables ||| (1#7 <<< k) } ∧ OnlyMalt s t) ∧
    ((s.mtun x).seq = .up 7 → (s.mtun x).thermLatch = false → Answers (.railPowerGood x 7) s fun t =>
      t.mtun x = { s.mtun x with seq := .release, rails := (s.mtun x).rails ||| (1#7 <<< 6) } ∧ OnlyMalt s t) ∧
    (∀ k st, (s.mtun x).seq = .up k → Answers (.railTimeout x k st) s fun t =>
      (t.mtun x).power = 4 ∧ (t.mtun x).seq = .down (railsOn (s.mtun x).enables) ∧ (t.mtun x).coldRstHeld = true ∧
      Logged s t 0x0022 3 (BitVec.ofNat 8 (tunObj x)) ([BitVec.ofNat 8 (k - 1)] ++ halfBytes st ++ [0])) ∧
    ((s.mtun x).seq = .release → (s.mtun x).power = 1 → Answers (.tunColdResetRelease x) s fun t =>
      (t.tun x).svc.state = .cold ∧ (t.tun x).svc.incarn = (s.mtun x).incarnRec + 1 ∧ (t.tun x).rack.row = s.tray.trayId ∧
      (t.mtun x).power = 2 ∧ (t.mtun x).seq = .idle ∧ (t.mtun x).coldRstHeld = false ∧ (t.mtun x).releasedAt = some s.now ∧
      Logged s t 0x0020 0 (BitVec.ofNat 8 (tunObj x)) [(s.mtun x).incarnRec + 1]) ∧
    (∀ k, (s.mtun x).seq = .down (k + 1) → Answers (.powerDownRailStep x) s fun t =>
      t.mtun x = { s.mtun x with seq := .down k, enables := (s.mtun x).enables &&& ~~~(1#7 <<< k),
                                  rails := (s.mtun x).rails &&& ~~~(1#7 <<< k) } ∧ OnlyMalt s t) ∧
    ((s.mtun x).seq = .down 0 → Answers (.powerDownRailStep x) s fun t =>
      (t.tun x).svc.state = .off ∧ Logged s t 0x0021 0 (BitVec.ofNat 8 (tunObj x)) [(s.mtun x).offCause]) ∧
    (∀ k st, (s.mtun x).power = 2 → (s.mtun x).enables ≠ 0 → Answers (.railFault x k st) s fun t =>
      (t.mtun x).power = 4 ∧ (t.mtun x).seq = .down (railsOn (s.mtun x).enables) ∧
      Logged s t 0x0022 3 (BitVec.ofNat 8 (tunObj x)) ([BitVec.ofNat 8 (k - 1)] ++ halfBytes st ++ [1])) ∧
    (∀ p reads v i w, (∀ e ∈ reads, e.status = 0) → Answers (.pmbusPoll x p reads (some (v, i, w))) s fun t =>
      t.mtun x = { s.mtun x with
        packagePower := p,
        regs := reads.foldl (fun rs e => rs.set (e.rail - 1) ((rs.getD (e.rail - 1) {}).take e)) (s.mtun x).regs } ∧
      t.tray = { s.tray with inputV := v, inputI := i, inputP := w } ∧ t.tuns = s.tuns ∧ t.bays = s.bays)

/-- THERMTRIP_LATCH, THERMAL_TRIP_REPORT, ERR_N_EDGE, ERR_N_REARM, ERR_STORM_WINDOW, WARN_N_CHANGE, PIN_FAULT_SET, PIN_FAULT_CLEAR and
HEARTBEAT_WINDOW complete with their own effect on the Maltster's record of the Tun, the log and the alerts. -/
def Obligations.PinCommandsComplete : Prop :=
  ∀ (s : State) (x : TunId),
    ((s.mtun x).rails.getLsbD 6 = true → Answers (.thermtripLatch x) s fun t =>
      (t.mtun x).thermLatch = true ∧ (t.mtun x).enables = 0 ∧ (t.mtun x).coldRstHeld = true ∧ (t.tun x).svc.state = .off ∧
      ∀ y, y ≠ x → t.tun y = s.tun y ∧ t.mtun y = s.mtun y) ∧
    (s.malt.alive = true → (s.mtun x).thermLatch = true → (s.mtun x).offCause ≠ 7 → (s.mtun x).power ≠ 4 →
      Answers (.thermalTripReport x) s fun t => (t.mtun x).power = 0 ∧ (t.mtun x).offCause = 7 ∧ t.tuns = s.tuns ∧
        (∀ y, y ≠ x → (t.mtun y).power = (s.mtun y).power) ∧
        Logged s t 0x0036 4 (BitVec.ofNat 8 (tunObj x)) ([0, 0, 0, 0] ++ halfBytes (s.mtun x).temp)) ∧
    (watched s x 50 = true → (s.mtun x).errArmed = true → Answers (.errNEdge x true) s fun t =>
      (t.mtun x).errLatched = true ∧ (t.mtun x).errArmed = false ∧ (t.mtun x).errEdges = satInc (s.mtun x).errEdges ∧
      OnlyMalt s t ∧ ∀ y, y ≠ x → t.mtun y = s.mtun y) ∧
    (watched s x 50 = true → Answers (.errNEdge x false) s fun t =>
      t.mtun x = { s.mtun x with errEdges := satInc (s.mtun x).errEdges, errWindow := (s.mtun x).errWindow + 1 } ∧ OnlyMalt s t ∧
      t.malt.log = s.malt.log) ∧
    (watched s x 50 = true → (s.mtun x).errArmed = false → Answers (.errNRearm x) s fun t =>
      t.mtun x = { s.mtun x with errLatched := false, errArmed := true } ∧ OnlyMalt s t ∧
      Logged s t 0x0031 0 (BitVec.ofNat 8 (tunObj x)) ([0] ++ halfBytes (s.mtun x).errEdges)) ∧
    (watched s x 50 = true → 100 < (s.mtun x).errWindow → (s.mtun x).errWindow ≤ 65535 → Answers (.errStormWindow x) s fun t =>
      t.mtun x = { s.mtun x with errWindow := 0, errStorm := true } ∧ OnlyMalt s t ∧
      Logged s t 0x0032 3 (BitVec.ofNat 8 (tunObj x)) ([0] ++ halfBytes (BitVec.ofNat 16 (s.mtun x).errWindow))) ∧
    (watched s x 50 = true → (s.mtun x).errWindow ≤ 100 → Answers (.errStormWindow x) s fun t =>
      t.mtun x = { s.mtun x with errWindow := 0, errStorm := false } ∧ OnlyMalt s t) ∧
    (watched s x 50 = true → (s.mtun x).warn = false → Answers (.warnNChange x true) s fun t =>
      t.mtun x = { s.mtun x with warn := true } ∧ OnlyMalt s t ∧
      Logged s t 0x0034 2 (BitVec.ofNat 8 (tunObj x)) ([0, 0, 0, 0] ++ halfBytes (s.mtun x).temp)) ∧
    (watched s x 50 = true → (s.mtun x).warn = true → Answers (.warnNChange x false) s fun t =>
      t.mtun x = { s.mtun x with warn := false } ∧ OnlyMalt s t ∧
      Logged s t 0x0035 1 (BitVec.ofNat 8 (tunObj x)) ([0, 0, 0, 0] ++ halfBytes (s.mtun x).temp)) ∧
    (s.malt.alive = true → tunOff s x = true → (s.mtun x).seq = .idle → (s.mtun x).pinFault = false →
      Answers (.pinFaultSet x) s fun t => t.mtun x = { s.mtun x with pinFault := true } ∧ OnlyMalt s t ∧
        Logged s t 0x0037 3 (BitVec.ofNat 8 (tunObj x)) [(t.mtun x).pins]) ∧
    (s.malt.alive = true → tunOff s x = true → (s.mtun x).pinFault = true →
      Answers (.pinFaultClear x) s fun t => t.mtun x = { s.mtun x with pinFault := false } ∧ OnlyMalt s t ∧
        Logged s t 0x0038 1 (BitVec.ofNat 8 (tunObj x)) [(t.mtun x).pins]) ∧
    (∀ n, watched s x 500 = true → (s.mtun x).hbLost = false → (s.mtun x).hbBad = 4 → n < 5 →
      Answers (.heartbeatWindow x n) s fun t => (t.mtun x).hbLost = true ∧ OnlyMalt s t ∧
        Logged s t 0x0039 3 (BitVec.ofNat 8 (tunObj x)) [0, BitVec.ofNat 8 n])

/-- LEAK_ASSERTED, LEAK_DEASSERTED, SDA_STUCK, BUS_RECOVERY_PULSE, BUS_SERVED_AGAIN, SMBUS_TIMEOUT, ALERT_N_HELD, ALERT_N_RELEASED and
TUN_POLL complete with their own effect: the leak bits and the power-down with cause 4, the stuck and serving bits of a bus, the ALERT_N
record, and the Maltster's copies of a polled Tun. -/
def Obligations.WatchCommandsComplete : Prop :=
  ∀ s : State, s.malt.alive = true →
    (Answers .leakAsserted s fun t => t.tray.leakSeen = true ∧ t.tray.leakLow = true ∧
      ∀ x, running s x = true → (∀ k, (s.mtun x).seq ≠ .down k) → (t.mtun x).coldRstHeld = true ∧ (t.mtun x).offCause = 4 ∧
        (t.mtun x).seq = .down (railsOn (s.mtun x).enables)) ∧
    (s.tray.leakLow = true → Answers .leakDeasserted s fun t => t.tray = { s.tray with leakLow := false } ∧ t.tuns = s.tuns ∧
      Logged s t 0x0041 1 0 []) ∧
    (∀ b, (s.bus b).stuck = false → Answers (.sdaStuck b true) s fun t =>
      t.bus b = { s.bus b with stuck := true, serving := false, recovering := true } ∧ OnlyMalt s t ∧
      Logged s t 0x0060 2 0x30 [BitVec.ofNat 8 b.num]) ∧
    (∀ b, Answers (.sdaStuck b false) s fun t => t.bus b = { s.bus b with recovering := true } ∧ OnlyMalt s t ∧
      t.malt.out = s.malt.out ++ [.recoveryPulses b]) ∧
    (∀ b, (s.bus b).recovering = true → exec (.busRecoveryPulse b) s = .next (s.emitMalt (.recoveryPulses b))) ∧
    (∀ b, (s.bus b).stuck = true → Answers (.busServedAgain b) s fun t =>
      t.bus b = { s.bus b with stuck := false, serving := true, recovering := false } ∧ OnlyMalt s t ∧
      Logged s t 0x0061 1 0x30 [BitVec.ofNat 8 b.num]) ∧
    (∀ b, (s.bus b).stuck = false → Answers (.smbusTimeout b true) s fun t =>
      (t.bus b).stuck = true ∧ (t.bus b).serving = false ∧ OnlyMalt s t) ∧
    (∀ b, exec (.smbusTimeout b false) s = .next s) ∧
    (s.malt.alertHeld = false → s.alertDriven = false → Answers .alertNHeld s fun t =>
      t.malt.alertHeld = true ∧ OnlyMalt s t ∧ Logged s t 0x0062 2 0x30 []) ∧
    (s.malt.alertHeld = true → Answers .alertNReleased s fun t =>
      t.malt.alertHeld = false ∧ OnlyMalt s t ∧ Logged s t 0x0063 1 0x30 []) ∧
    (∀ x took, (s.tun x).reachable = true → took ≤ 25600000 → Answers (.tunPoll x true took) s fun t =>
      t.mtun x = { s.mtun x with service := (s.tun x).svc.state.code, temp := (s.tun x).junction.now, incarnRec := (s.tun x).svc.incarn,
                                  noAnswer := 0, portUps := (s.tun x).upPorts } ∧ OnlyMalt s t) ∧
    (∀ x answers took, tunOff s x = false → (s.mtun x).noAnswer = 2 → (answers = true → 25600000 < took) →
      Answers (.tunPoll x answers took) s fun t =>
      t.mtun x = { s.mtun x with noAnswer := 3 } ∧ OnlyMalt s t ∧ Logged s t 0x003C 2 (BitVec.ofNat 8 (tunObj x)) [])

/-- KEG_PRESENCE_ASSERTED, KEG_EEPROM_RETRY, KEG_LATCHED, KEG_POWER_READY, KEG_UNLATCHED, KEG_PRESENCE_DEASSERTED and KEG_OVERCURRENT
complete: a good EEPROM image is accepted with its kind, plan code and length class and a bad one refused with its reason; the third
unanswered retry is a read failure; a latched accepted active cartridge is powered and, 20 ms later, ready to train, and a passive one is
ready at once; an opened lever and a removal leave the bay down, the removal under a closed lever with its record; an overcurrent unpowers
it. The other bays keep their state. -/
def Obligations.KegCommandsComplete : Prop :=
  ∀ (s : State) (n : Nat), s.malt.alive = true → s.bays.length = 6 → n < 6 →
    (∀ rom, (s.bay n).present = false → refusalOf n rom = 0 → Answers (.kegPresenceAsserted n (some rom)) s fun t =>
      (t.bay n).present = true ∧ (t.bay n).accepted = true ∧ (t.bay n).refusal = 0 ∧ (t.bay n).kind = byteAt rom 1 ∧
      (t.bay n).planCode = byteAt rom 2 ∧ (t.bay n).lengthClass = byteAt rom 3 ∧ (t.bay n).laneCrcBad = !laneCrcOk rom ∧
      t.tray = s.tray ∧ ((s.bay n).latched = false → t.tuns = s.tuns) ∧ ∀ m, m ≠ n → t.bay m = s.bay m) ∧
    (∀ rom, (s.bay n).present = false → refusalOf n rom ≠ 0 → Answers (.kegPresenceAsserted n (some rom)) s fun t =>
      (t.bay n).present = true ∧ (t.bay n).accepted = false ∧ (t.bay n).refusal = refusalOf n rom ∧ (t.bay n).powered = false ∧
      t.tray = s.tray ∧ (∀ m, m ≠ n → t.bay m = s.bay m) ∧ Alerted t 6) ∧
    ((s.bay n).present = true → (s.bay n).rom = [] → (s.bay n).readFail = false → (s.bay n).retries = 2 →
      Answers (.kegEepromRetry n none) s fun t => (t.bay n).readFail = true ∧ (t.bay n).accepted = false ∧ (t.bay n).kind = 0 ∧
        (t.bay n).powered = false ∧ t.tray = s.tray ∧ Logged s t 0x0052 2 (BitVec.ofNat 8 (bayObj n)) []) ∧
    ((s.bay n).present = true → (s.bay n).latched = false → (s.bay n).accepted = true → (s.bay n).ready = false → n < 4 →
      Answers (.kegLatched n) s fun t => t.bay n = { s.bay n with latched := true, overcurrent := false, ready := true } ∧
        (∀ m, m ≠ n → t.bay m = s.bay m) ∧ t.malt = s.malt ∧ t.tray = s.tray) ∧
    ((s.bay n).present = true → (s.bay n).latched = false → (s.bay n).accepted = true → (s.bay n).ready = false → 4 ≤ n →
      s.tray.mainClosed = true → s.tray.leakSeen = false → Answers (.kegLatched n) s fun t =>
        t = s.modBay n fun b => { b with latched := true, overcurrent := false, powered := true }) ∧
    (4 ≤ n → (s.bay n).powered = true → (s.bay n).latched = true → (s.bay n).accepted = true → (s.bay n).ready = false →
      Answers (.kegPowerReady n) s fun t => t.bay n = { s.bay n with ready := true } ∧ (∀ m, m ≠ n → t.bay m = s.bay m) ∧
        t.malt = s.malt ∧ t.tray = s.tray) ∧
    ((s.bay n).latched = true → Answers (.kegUnlatched n) s fun t =>
      t.bay n = { s.bay n with latched := false, ready := false, powered := false } ∧ (∀ m, m ≠ n → t.bay m = s.bay m) ∧
      t.malt = s.malt ∧ t.tray = s.tray) ∧
    ((s.bay n).present = true → (s.bay n).latched = true → Answers (.kegPresenceDeasserted n) s fun t =>
      t.bay n = { latched := true, overcurrent := (s.bay n).overcurrent, unlatchedRemoval := true } ∧ t.tray = s.tray ∧
      (∀ m, m ≠ n → t.bay m = s.bay m) ∧ Logged s t 0x0054 2 (BitVec.ofNat 8 (bayObj n)) []) ∧
    (4 ≤ n → (s.bay n).powered = true → Answers (.kegOvercurrent n) s fun t =>
      t.bay n = { s.bay n with powered := false, ready := false, overcurrent := true } ∧ t.tuns = s.tuns ∧ t.tray = s.tray ∧
      Logged s t 0x0055 3 (BitVec.ofNat 8 (bayObj n)) [])

/-- MALTSTER_RESTART, MALTSTER_WATCHDOG_EXPIRY, MALTSTER_REEVALUATE, LOCATE_SECOND_TICK, LOCATE_BUTTON_PRESS and STANDBY_POWER_LOSS
complete: a restart keeps the log, the hold-state outputs and, but for a removal under way, the Tuns' service states, and counts itself; the
image is then verified again. Re-evaluation of a quiet tray whose PWR_EN has not moved makes the Maltster answer and serves both buses again;
SECONDS counts down and clears every target at 0; a press turns locate on; the loss of standby power clears the thermal latches and leaves
every Tun off. -/
def Obligations.MaltsterCommandsComplete : Prop :=
  ∀ s : State,
    (Answers .maltsterRestart s fun t => t.malt.alive = false ∧ t.malt.imageOk = false ∧ t.malt.restarts = satInc s.malt.restarts ∧
      t.malt.executing = [] ∧ t.malt.windows = [] ∧ t.tray.pwrEn = s.tray.pwrEn ∧
      (s.fw.logFlash.ramOnly = false → t.malt.log = s.malt.log) ∧
      (∀ x, (t.mtun x).enables = (s.mtun x).enables ∧ (t.mtun x).coldRstHeld = (s.mtun x).coldRstHeld) ∧
      if s.tray.removing = true ∧ s.tray.mainClosed = true then t.tray.mainClosed = false ∧ ∀ x, (t.tun x).svc.state = .off
      else t.tray.mainClosed = s.tray.mainClosed ∧ ∀ x, (t.tun x).svc = (s.tun x).svc) ∧
    (s.malt.alive = true → Answers .maltsterWatchdogExpiry s fun t => t.malt.alive = false ∧ t.malt.imageOk = false ∧
      t.malt.restarts = satInc s.malt.restarts ∧ t.tray.pwrEn = s.tray.pwrEn ∧
      (∀ x, (t.mtun x).enables = (s.mtun x).enables ∧ (t.mtun x).coldRstHeld = (s.mtun x).coldRstHeld) ∧ Logged s t 0x0002 2 0x30 []) ∧
    (∀ e, s.malt.reeval = true → s.malt.imageOk = true → s.tray.pwrPin = s.tray.pwrEn → (s.tray.pwrEn = true ∨ s.tray.mainClosed = false) →
      (∀ x, (s.mtun x).thermLatch = false ∧ (s.mtun x).enables = 0 ∧ (s.mtun x).power = 0) →
      Answers (.maltsterReevaluate { leakLow := false, errLow := e, bays := [] }) s fun t =>
        t.malt.alive = true ∧ t.malt.reeval = false ∧ (t.bus .sb0).serving = true ∧ (t.bus .sb1).serving = true ∧
        t.tuns = s.tuns ∧ t.tray = s.tray ∧ t.bays = s.bays ∧ Logged s t 0x0001 0 0x30 [s.malt.bank.setWidth 8]) ∧
    (s.malt.alive = true → s.malt.locSeconds = 1 → exec .locateSecondTick s =
      .next (s.modMalt fun m => { m with locSeconds := 0, locBays := 0, locTray := false })) ∧
    (s.malt.alive = true → 1 < s.malt.locSeconds → exec .locateSecondTick s =
      .next (s.modMalt fun m => { m with locSeconds := m.locSeconds - 1 })) ∧
    (s.malt.alive = true → s.malt.btnTime = none → s.malt.locating = false → Answers .locateButtonPress s fun t =>
      t.malt.locTray = true ∧ t.malt.locSeconds = 0 ∧ OnlyMalt s t ∧ Logged s t 0x0070 0 0 [1]) ∧
    (s.malt.alive = true → s.malt.btnTime = none → s.malt.locating = true → Answers .locateButtonPress s fun t =>
      t.malt.locating = false ∧ OnlyMalt s t ∧ Logged s t 0x0070 0 0 [0]) ∧
    (Answers .standbyPowerLoss s fun t => t.malt.alive = false ∧ t.tray.mainClosed = false ∧ t.tray.pwrEn = false ∧
      ∀ x, (t.tun x).svc.state = .off ∧ (t.mtun x).thermLatch = false ∧ (t.mtun x).enables = 0)

/-- REFCLK_MISSING, HOLDOVER_EXPIRY, SLEW_COMPLETE, REFCLK_PRESENT, CORE_PLL_LOCK, TUN_COLD_RESET, TUN_WARM_RESET, WARM_RESET_RELEASE and
COLD_RESET_HOLD_END complete on one Tun: the loss counts and starts holdover, which ends in a slew to LOCAL_OSC; a return is declared
and slews back; lock picks the first reference; a cold reset's hold takes over a warm one; the release of a warm hold and of a cold hold
each advance the incarnation by 1 and record the cause. -/
def Obligations.ClockAndResetCommandsComplete : Prop :=
  ∀ (s : State) (x : TunId),
    ((s.tun x).clk.refPresent = true → (s.tun x).clk.coreRef = .rack → Answers (.refclkMissing x) s fun t =>
      (t.tun x).clk.refPresent = false ∧ (t.tun x).clk.coreRef = .holdover ∧
      (t.tun x).clk.lossCount = satInc (s.tun x).clk.lossCount ∧ OnlyTun x s t) ∧
    ((s.tun x).clk.coreRef = .holdover → (s.tun x).clk.slewing = false → exec (.holdoverExpiry x) s = .next (s.modTun x fun u =>
      { u with clk := { u.clk with coreRef := .localOsc, slewing := true, slewTo := .localOsc } })) ∧
    ((s.tun x).clk.slewing = true → (s.tun x).clk.returnPending = false → Answers (.slewComplete x) s fun t =>
      (t.tun x).clk.slewing = false ∧ (t.tun x).clk.coreRef = (s.tun x).clk.slewTo ∧ OnlyTun x s t) ∧
    ((s.tun x).clk.coreLock = true → (s.tun x).clk.refPresent = false → (s.tun x).clk.slewing = false →
      Answers (.refclkPresent x) s fun t => (t.tun x).clk.refPresent = true ∧ (t.tun x).clk.slewing = true ∧
        (t.tun x).clk.slewTo = .rack ∧ OnlyTun x s t) ∧
    (∀ good host casks, (s.tun x).svc.state = .cold → (s.tun x).svc.hold = .none_ → (s.tun x).clk.coreLock = false →
      Answers (.corePllLock x ⟨good, host, casks⟩) s fun t => (t.tun x).clk.coreLock = true ∧ (t.tun x).clk.refPresent = good ∧
        (t.tun x).clk.coreRef = (if good then .rack else .localOsc) ∧ (t.tun x).svc.mgmtUp = true ∧
        (t.tun x).clk.hostOk = host ∧ (t.tun x).clk.caskLock = (s.tun x).asm.caskMask &&& casks ∧
        (t.tun x).clk.lossCount = (s.tun x).clk.lossCount ∧ OnlyTun x s t) ∧
    (∀ src, (s.tun x).svc.state ≠ .off → (s.tun x).svc.hold ≠ .cold → (s.tun x).svc.mgmtUp = true →
      Answers (.tunColdReset x src) s fun t => (t.tun x).svc.hold = .cold ∧ (t.tun x).svc.state = .cold ∧
        (t.tun x).svc.pendCause = coldCause src ∧ (t.tun x).cellar = {} ∧ (t.tun x).bm = {} ∧ OnlyTun x s t) ∧
    (∀ src, (s.tun x).svc.state ≠ .off → (s.tun x).svc.hold = .none_ → (s.tun x).svc.mgmtUp = true →
      Answers (.tunWarmReset x src) s fun t => (t.tun x).svc.hold = .warm ∧ (t.tun x).svc.pendCause = warmCause src ∧
        (t.tun x).bm = {} ∧ (t.tun x).sched = {} ∧ (t.tun x).clk = (s.tun x).clk ∧ OnlyTun x s t) ∧
    ((s.tun x).svc.hold = .warm → Answers (.warmResetRelease x) s fun t =>
      (t.tun x).svc.hold = .none_ ∧ (t.tun x).svc.incarn = (s.tun x).svc.incarn + 1 ∧
      (t.tun x).svc.warmCount = satInc (s.tun x).svc.warmCount ∧ (t.tun x).svc.lastCause = (s.tun x).svc.pendCause) ∧
    ((s.tun x).svc.hold = .cold → (s.tun x).svc.coldPowered = true → (s.mtun x).seq = .idle → Answers (.coldResetHoldEnd x) s fun t =>
      (t.tun x).svc.hold = .none_ ∧ (t.tun x).svc.state = .cold ∧ (t.tun x).svc.incarn = (s.tun x).svc.incarn + 1 ∧
      (t.tun x).svc.lastCause = (s.tun x).svc.pendCause ∧ (t.tun x).svc.warmCount = 0)

/-- PALE_WINDOW_CLOSE, CASK_TRAINING_DONE, RATE_STEP_ROUND, ALIGNMENT_TIMEOUT, ENTER_FULL, SERVICE_FENCE, SERVICE_DRAIN, SERVICE_RESUME,
RETRY_CASK, STAY_PALE, DRAIN_DONE and DRAIN_TIMEOUT complete on one Tun, from the states Table 05-8 names, and change no other Tun and
nothing of the tray. -/
def Obligations.ServiceCommandsComplete : Prop :=
  ∀ (s : State) (x : TunId), (s.tun x).svc.hold = .none_ → (s.tun x).svc.mgmtUp = true →
    ((s.tun x).svc.state = .cold → (s.tun x).svc.fwRunning = true → Answers (.paleWindowClose x) s fun t =>
      (t.tun x).svc.state = .pale ∧ OnlyTun x s t) ∧
    (∀ codes, (s.tun x).svc.caskTraining = true → codes.length = (s.tun x).asm.casks → codes.all trainCode = true → failMask codes ≠ 0 →
      Answers (.caskTrainingDone x codes) s fun t => (t.tun x).svc.caskTraining = false ∧ (t.tun x).svc.caskCodes = codes ∧
        (t.tun x).svc.caskFail = failMask codes ∧ (t.tun x).svc.state = (s.tun x).svc.state ∧
        (t.tun x).clk.caskLock = lockMask codes ∧ (t.tun x).rel.selfRefresh = (s.tun x).asm.caskMask ∧ OnlyTun x s t) ∧
    ((s.tun x).svc.state = .pale → (s.tun x).casksPassed = true → (s.tun x).svc.caskTraining = false → (s.tun x).roundSettled = true →
      (s.tun x).svc.stepRound.toNat < 0xD → ((s.tun x).svc.stepRound ≠ 0 ∨ (s.tun x).svc.stayPale = false) →
      Answers (.rateStepRound x) s fun t =>
        (t.tun x).svc.stepRound = (s.tun x).svc.stepRound + 1 ∧ (t.tun x).svc.state = .pale ∧ OnlyTun x s t) ∧
    ((s.tun x).svc.aligning = true → Answers (.alignmentTimeout x) s fun t =>
      (t.tun x).svc = { (s.tun x).svc with aligning := false, brewUnaligned := true } ∧ OnlyTun x s t) ∧
    ((s.tun x).fullReady = true → Answers (.enterFull x) s fun t => (t.tun x).svc.state = .full ∧ (t.tun x).cellar.opened = true ∧
      (t.tun x).rel.selfRefresh = 0 ∧ OnlyTun x s t) ∧
    (∀ p, (s.tun x).svc.state = .cold ∨ (s.tun x).svc.state = .pale ∨ (s.tun x).svc.state = .full ∨ (s.tun x).svc.state = .draining →
      Answers (.serviceFence x p) s fun t => (t.tun x).svc.state = .fenced ∧ (t.tun x).svc.fenceCause = fenceCauseOf p ∧ OnlyTun x s t) ∧
    ((s.tun x).svc.state = .full → Answers (.serviceDrain x) s fun t => (t.tun x).svc.state = .draining ∧ (t.tun x).svc.resumeTo = 3 ∧
      (t.tun x).svc.drainDone = false ∧ OnlyTun x s t) ∧
    ((s.tun x).svc.state = .pale → Answers (.serviceDrain x) s fun t => (t.tun x).svc.state = .draining ∧ (t.tun x).svc.resumeTo = 2 ∧
      OnlyTun x s t) ∧
    ((s.tun x).svc.state = .draining → (s.tun x).svc.resumeTo = 3 → Answers (.serviceResume x) s fun t =>
      (t.tun x).svc.state = .full ∧ (t.tun x).svc.resumeTo = 0 ∧ OnlyTun x s t) ∧
    ((s.tun x).svc.state = .pale → (s.tun x).svc.caskTraining = false → exec (.retryCask x) s = .next (s.modTun x fun u =>
      { u with svc := { u.svc with caskTraining := true, caskFail := 0, caskCodes := List.replicate u.asm.casks 2 } })) ∧
    ((s.tun x).svc.state ≠ .off → exec (.stayPale x true) s = .next (s.modTun x fun u => { u with svc := { u.svc with stayPale := true } })) ∧
    ((s.tun x).svc.state = .draining → (s.tun x).isEmpty = true → exec (.drainDone x) s =
      .next (s.modTun x fun u => { u with svc := { u.svc with drainDone := true } })) ∧
    ((s.tun x).svc.state = .draining → (s.tun x).isEmpty = false → exec (.drainTimeout x) s =
      .next (s.modTun x fun u => { u with svc := { u.svc with drainTimeout := true } }))

/-- RAW_FRAME_RECEIVE, RAW_REPLY_READ, WINDOW_CLOSE, ALERT_RESPONSE_READ, I3C_CCC, MCTP_CONTROL, MCTP_VENDOR_MESSAGE, PLDM_COMMAND,
PLATFORM_EVENT_SEND, PLATFORM_EVENT_RETRY and SB_MODE_APPLY complete: a badly framed request is answered FRAME_ERROR and an unknown
opcode UNSUPPORTED, a windowed one is held in its object's window, a reply read returns what the buffer holds and, where it answers
MALT_RESTART, restarts the Maltster (log entry 163), an elapsed window runs its command, an alert response acknowledges, and I3C, MCTP and
PLDM commands set and answer what the spec names. The codes and answer forms of MCTP control and PLDM, the PEC of the alert response and
the states of sensors are the model's (log entries 32, 167, 172, 173). -/
def Obligations.TransportCommandsComplete : Prop :=
  ∀ (s : State), s.malt.alive = true →
    (∀ p a frame, s.serves p a = true → (s.raw p).busy = false → parseReq frame = none → Answers (.rawFrameReceive ⟨p, a⟩ frame none) s fun t =>
      Replied t (.raw p) ⟨(rawReq frame).seq, (rawReq frame).op, 0x0803, []⟩ ∧ t.tuns = s.tuns ∧ t.malt.log = s.malt.log) ∧
    (∀ p a frame q, s.serves p a = true → (s.raw p).busy = false → parseReq frame = some q → objectOk q.op q.obj = none →
      Answers (.rawFrameReceive ⟨p, a⟩ frame none) s fun t =>
        Replied t (.raw p) ⟨q.seq, q.op, 0x00F0, []⟩ ∧ t.tuns = s.tuns ∧ t.malt.log = s.malt.log) ∧
    (∀ p a frame q, s.serves p a = true → (s.raw p).busy = false → parseReq frame = some q → q.op = 0x05 → q.obj = 0x30 →
      s.malt.windows = [] → Answers (.rawFrameReceive ⟨p, a⟩ frame none) s fun t =>
        t.malt.windows = [⟨.object 0x30, [⟨.raw p, q, s.now⟩]⟩] ∧ (t.raw p).busy = true ∧ (t.raw p).reply = none ∧ t.malt.log = s.malt.log) ∧
    (∀ p a, s.serves p a = true → s.malt.restartDue = false → Answers (.rawReplyRead ⟨p, a⟩) s fun t =>
      t.malt.out = s.malt.out ++ [.bytes p (s.readFrame p a (s.replyRead p))] ∧
      (∀ r, (s.raw p).reply = some r → (t.raw p).reply = some r) ∧ OnlyMalt s t) ∧
    (∀ p a r, s.serves p a = true → (s.raw p).accepted = true → s.malt.restartDue = true → (s.raw p).reply = some r → r.op = 0x06 → r.status = 0 →
      Answers (.rawReplyRead ⟨p, a⟩) s fun t => t.malt.out = s.malt.out ++ [.bytes p (s.readFrame p a (s.replyRead p))] ∧
        t.malt.alive = false ∧ t.malt.restarts = satInc s.malt.restarts) ∧
    (∀ o h, s.malt.windows = [⟨o, [h]⟩] → s.malt.executing = [] → h.req.op = 0x05 → Answers (.windowClose o) s fun t =>
      t.malt.log = [] ∧ t.malt.logNext = s.malt.logNext ∧ t.malt.windows = [] ∧ Replied t h.src ⟨h.req.seq, h.req.op, 0, []⟩ ∧ OnlyMalt s t) ∧
    (∀ b, (s.bus b).serving = true → (s.bus b).modeNow = false → s.malt.alertPending = true → Answers (.alertResponseRead b) s fun t =>
      t.malt.alertPending = false ∧ t.malt.alertStatus = s.malt.alertStatus ∧
      t.malt.out = s.malt.out ++ [.arp b (0x38 + s.malt.row.setWidth 8) (pec [0x19, 0x38 + s.malt.row.setWidth 8])] ∧ OnlyMalt s t) ∧
    (∀ b, (s.bus b).serving = true → (s.bus b).modeNow = true →
      (∀ a, (s.bus b).dynAddr = none → Answers (.i3cCcc b (.entdaa a)) s fun t => (t.bus b).dynAddr = some a ∧ OnlyMalt s t) ∧
      Answers (.i3cCcc b .rstdaa) s (fun t => (t.bus b).dynAddr = none ∧ OnlyMalt s t) ∧
      Answers (.i3cCcc b .enec) s (fun t => (t.bus b).ibiEnabled = true ∧ OnlyMalt s t) ∧
      Answers (.i3cCcc b .disec) s (fun t => (t.bus b).ibiEnabled = false ∧ OnlyMalt s t) ∧
      ((s.bus b).dynAddr ≠ none → exec (.i3cCcc b .getstatus) s =
        .next (s.emitMalt (.ccc b [if s.malt.alertPending then 1 else 0, 0])))) ∧
    (∀ b dst data, s.busServes b = true → (dst = 0 ∨ dst = (s.bus b).eid) →
      ((byteAt data 0).toNat ≤ 1 → byteAt data 1 ≠ 0 → byteAt data 1 ≠ 0xFF → Answers (.mctpControl ⟨b, dst⟩ 1 data) s fun t =>
        (t.bus b).eid = byteAt data 1 ∧ t.malt.out = s.malt.out ++ [.mctpCtrl b 1 0 [0, byteAt data 1, 0]] ∧ OnlyMalt s t ∧
        ∀ c, c ≠ b → t.bus c = s.bus c) ∧
      exec (.mctpControl ⟨b, dst⟩ 2 data) s = .next (s.emitMalt (.mctpCtrl b 2 0 [(s.bus b).eid, 0, 0]))) ∧
    (∀ b tag frame q, s.busServes b = true → (s.bus b).eid ≠ 0 → 5 + frame.length ≤ 1024 → s.malt.mctpBusy.length < 8 →
      parseReq frame = some q → objectOk q.op q.obj = none → Answers (.mctpVendorMessage b tag ⟨Config.ianaNumber, frame⟩) s fun t =>
        Replied t (.mctp b tag) ⟨q.seq, q.op, 0x00F0, []⟩ ∧ OnlyMalt s t) ∧
    (∀ b data, s.busServes b = true → (s.bus b).eid ≠ 0 → s.malt.mctpBusy.length < 8 →
      Answers (.pldmCommand b ⟨true, 0⟩ 1 data) s (fun t => t.malt.tid = byteAt data 0 ∧ OnlyMalt s t) ∧
      exec (.pldmCommand b ⟨true, 0⟩ 2 data) s = .next (s.emitMalt (.pldm b 0 2 0 [s.malt.tid])) ∧
      Answers (.pldmCommand b ⟨true, 2⟩ 4 data) s (fun t =>
        t.malt.eventReceiver = (if byteAt data 0 = 1 then some (b, byteAt data 2) else none) ∧ OnlyMalt s t)) ∧
    (∀ n p, sensorPdr n = some p → s.malt.eventReceiver.isSome = true → s.sensorState p ≠ 0 →
      s.sensorState p ≠ Tab.get 0 s.malt.sensorSeen n → Answers (.platformEventSend n) s fun t =>
        let v := if p.numeric then (s.reading n).map (fun i => (BitVec.ofInt 32 i).toNat) else none
        t.malt.events = s.malt.events ++ [⟨n, s.sensorState p, v, 0⟩] ∧
        t.malt.sensorSeen = s.malt.sensorSeen.set 0 n (s.sensorState p) ∧
        t.malt.out = s.malt.out ++ [.pldmEvent n (s.sensorState p) v] ∧ OnlyMalt s t) ∧
    (∀ e, s.malt.events = [e] → e.tries < 3 → Answers (.platformEventRetry e.sensor) s fun t =>
      t.malt.events = [{ e with tries := e.tries + 1 }] ∧ t.malt.out = s.malt.out ++ [.pldmEvent e.sensor e.state e.reading] ∧
      OnlyMalt s t) ∧
    (∀ e, s.malt.events = [e] → e.tries = 3 → Answers (.platformEventRetry e.sensor) s fun t =>
      t.malt.events = [] ∧ t.malt.out = s.malt.out ∧ OnlyMalt s t) ∧
    (∀ b, Answers (.sbModeApply b) s fun t => (t.bus b).modeNow = (s.bus b).modeStored ∧ (t.bus b).dynAddr = none ∧
      (t.bus b).ibiEnabled = false ∧ OnlyMalt s t)

/-- GET_INFO, REG_READ, LOG_READ, TUN_STATUS, KEG_STATUS, KEG_EEPROM_READ, ALERT_READ, STAGE_STATUS and TUN_REG_READ of a well-formed
request complete: the source gets status OK (TUN_OFF for a Tun that is off, TUN_NO_ANSWER for one whose port is silent) with the bytes the
opcode names; ALERT_READ with ACK acknowledges; nothing outside the Maltster changes. -/
def Obligations.ReadOpcodesAnswer : Prop :=
  ∀ (s : State) (src : Src) (q : Byte), s.malt.alive = true →
    (Answers (.getInfo src q) s fun t => Replied t src ⟨q, 0x01, 0, bytesLE 4 s.maltIdWord.toNat ++ bytesLE 4 s.malt.fwVersion.toNat ++
      bytesLE 4 s.maltStatusWord.toNat ++ bytesLE 4 s.powerStatusWord.toNat⟩ ∧ OnlyMalt s t ∧ t.malt.log = s.malt.log) ∧
    (∀ page off count : Byte, off.toNat % 4 = 0 → 1 ≤ count.toNat → count.toNat ≤ 16 →
      (∀ k, k < count.toNat → (s.maltReg page.toNat (off.toNat + 4 * k)).isSome = true) → Answers (.regRead src q page off count) s fun t =>
        Replied t src ⟨q, 0x02, 0, (List.range count.toNat).flatMap fun k =>
          bytesLE 4 ((s.maltReg page.toNat (off.toNat + 4 * k)).getD 0).toNat⟩ ∧ OnlyMalt s t ∧ t.malt.log = s.malt.log) ∧
    (∀ (first : Half) (count : Byte), 1 ≤ count.toNat → count.toNat ≤ 7 → (first - s.malt.logFirst).toNat < s.malt.log.length →
      Answers (.logRead src q first count) s fun t => Replied t src ⟨q, 0x04, 0, s.logSlice first count.toNat⟩ ∧ OnlyMalt s t ∧
        t.malt.log = s.malt.log) ∧
    (∀ x, Answers (.tunStatus src q x) s fun t =>
      Replied t src ⟨q, 0x17, 0, (s.tunPage x).flatMap fun w => bytesLE 4 w.toNat⟩ ∧ OnlyMalt s t) ∧
    (∀ n, n < 6 → Answers (.kegStatus src q n) s fun t =>
      Replied t src ⟨q, 0x20, 0, bytesLE 4 (s.bay n).word.toNat⟩ ∧ OnlyMalt s t) ∧
    (∀ n (addr : Half) (count : Byte), n < 6 → addr.toNat < 0x1000 → 1 ≤ count.toNat → count.toNat ≤ 128 →
      Answers (.kegEepromRead src q n addr count) s fun t =>
        Replied t src ⟨q, 0x21, 0, (List.range count.toNat).map fun k => byteAt (s.bay n).rom (addr.toNat + k) 0xFF⟩ ∧ OnlyMalt s t) ∧
    (Answers (.alertRead src q 0) s fun t => Replied t src ⟨q, 0x31, 0, bytesLE 4 s.malt.alertStatus.toNat⟩ ∧ OnlyMalt s t ∧
      t.malt.alertAck = s.malt.alertAck) ∧
    (Answers (.alertRead src q 1) s fun t => Replied t src ⟨q, 0x31, 0, bytesLE 4 s.malt.alertStatus.toNat⟩ ∧ OnlyMalt s t ∧
      t.malt.alertAck = s.malt.alertStatus) ∧
    (Answers (.stageStatus src q) s fun t => Replied t src ⟨q, 0x54, 0, s.fw.statusBytes⟩ ∧ OnlyMalt s t ∧ t.fw = s.fw) ∧
    (∀ x off (count : Byte), off % 4 = 0 → 1 ≤ count.toNat → count.toNat ≤ 16 → off + 4 * count.toNat ≤ 0x1000000 →
      (s.tun x).reachable = true → Answers (.tunRegRead src q x off count) s fun t =>
        Replied t src ⟨q, 0x15, 0, ((s.tun x).sidebandRead s.now off count.toNat).1⟩ ∧ t.tray = s.tray ∧ t.bays = s.bays ∧
        ∀ y, y ≠ x → t.tun y = s.tun y) ∧
    (∀ x off (count : Byte), off % 4 = 0 → 1 ≤ count.toNat → count.toNat ≤ 16 → off + 4 * count.toNat ≤ 0x1000000 → tunOff s x = true →
      Answers (.tunRegRead src q x off count) s fun t => Replied t src ⟨q, 0x15, 0x0804, []⟩ ∧ OnlyMalt s t) ∧
    (∀ x off (count : Byte), off % 4 = 0 → 1 ≤ count.toNat → count.toNat ≤ 16 → off + 4 * count.toNat ≤ 0x1000000 → tunOff s x = false →
      (s.tun x).reachable = false → Answers (.tunRegRead src q x off count) s fun t => Replied t src ⟨q, 0x15, 0x0807, []⟩ ∧ OnlyMalt s t)

/-- REG_WRITE, LOG_CLEAR, MALT_RESTART, TUN_POWER_ON, TUN_POWER_OFF, TUN_POWER_CYCLE, POWER_CYCLE_WAIT_END, TUN_RESET, TUN_FENCE,
TUN_REG_WRITE and LOCATE complete: a masked register write merges; the log empties and keeps its numbers; a restart asked for over MCTP
follows its reply at once, one asked for on a raw path waits for the reply to be read (log entry 163); the power opcodes start the sequence
they name, whose end will reply; TUN_RESET and TUN_FENCE write the Tun's own register; a write to a Tun that is off is answered TUN_OFF and
one to a silent Tun TUN_NO_ANSWER. -/
def Obligations.WriteOpcodesAct : Prop :=
  ∀ (s : State) (src : Src) (q : Byte), s.malt.alive = true →
    (∀ value mask : Word, mask &&& 0xFF ≠ 0 → Answers (.regWrite src q 0x00 0x14 value mask) s fun t =>
      Replied t src ⟨q, 0x03, 0, []⟩ ∧ OnlyMalt s t ∧
      t.malt.alertMask = (s.malt.alertMask &&& ~~~(mask.setWidth 8)) ||| (value &&& mask).setWidth 8) ∧
    (Answers (.logClear src q) s fun t => Replied t src ⟨q, 0x05, 0, []⟩ ∧ OnlyMalt s t ∧ t.malt.log = [] ∧
      t.malt.logNext = s.malt.logNext) ∧
    (∀ p, Answers (.maltRestart (.raw p) q 0x3A17) s fun t => Replied t (.raw p) ⟨q, 0x06, 0, []⟩ ∧ t.malt.restartDue = true ∧
      t.malt.restarts = s.malt.restarts ∧ OnlyMalt s t) ∧
    (∀ b tag, Answers (.maltRestart (.mctp b tag) q 0x3A17) s fun t => Replied t (.mctp b tag) ⟨q, 0x06, 0, []⟩ ∧ t.malt.alive = false ∧
      t.malt.restarts = satInc s.malt.restarts) ∧
    (∀ key, key ≠ 0x3A17 → Answers (.maltRestart src q key) s fun t => Replied t src ⟨q, 0x06, 0x00F1, []⟩ ∧ OnlyMalt s t ∧
      t.malt.restarts = s.malt.restarts) ∧
    (∀ x, running s x = false → (s.mtun x).seq = .idle → (s.mtun x).onAfterReflash = false → powerRefusal s x = none →
      (s.mtun x).headerBad = false → Answers (.tunPowerOn src q x) s fun t => (t.mtun x).seq = .up 1 ∧ (t.mtun x).enables = 1 ∧ (t.mtun x).power = 1 ∧ OnlyMalt s t ∧
        t.malt.executing = s.malt.executing ++ [⟨.object (tunByte x), ⟨q, 0x10, tunByte x, []⟩, [⟨src, ⟨q, 0x10, tunByte x, []⟩, s.now⟩]⟩]) ∧
    (∀ x, running s x = true → (∀ k, (s.mtun x).seq ≠ .down k) → (s.mtun x).power ≠ 4 → Answers (.tunPowerOff src q x) s fun t =>
      (t.mtun x).seq = .down (railsOn (s.mtun x).enables) ∧ (t.mtun x).coldRstHeld = true ∧ (t.mtun x).offCause = 1 ∧ (t.mtun x).power = 3 ∧
      t.tray = s.tray ∧ t.bays = s.bays ∧ ∀ y, y ≠ x → t.tun y = s.tun y ∧ t.mtun y = s.mtun y) ∧
    (∀ x, running s x = false → (s.mtun x).seq = .idle → (s.mtun x).onAfterReflash = false →
      Answers (.tunPowerOff src q x) s fun t => Replied t src ⟨q, 0x11, 1, []⟩ ∧ OnlyMalt s t) ∧
    (∀ x (ms : Half), 100 ≤ ms.toNat → ms.toNat ≤ 10000 → powerRefusal s x = none → running s x = true →
      (∀ k, (s.mtun x).seq ≠ .down k) → (s.mtun x).power ≠ 4 → Answers (.tunPowerCycle src q x ms) s fun t => (t.mtun x).seq = .down (railsOn (s.mtun x).enables) ∧
        (t.mtun x).cycleAfter = some ms.toNat ∧ (t.mtun x).power = 3 ∧ ∀ y, y ≠ x → t.tun y = s.tun y ∧ t.mtun y = s.mtun y) ∧
    (∀ x, (s.mtun x).seq = .cycleWait → powerRefusal s x = none → (s.mtun x).headerBad = false → Answers (.powerCycleWaitEnd x) s fun t =>
      (t.mtun x).seq = .up 1 ∧ (t.mtun x).enables = 1 ∧ (t.mtun x).power = 1 ∧ (t.mtun x).cycleAfter = none ∧ OnlyMalt s t) ∧
    (∀ x, (s.tun x).reachable = true → (s.tun x).svc.hold = .none_ →
      Answers (.tunReset src q x 1) s (fun t => Replied t src ⟨q, 0x13, 0, []⟩ ∧ (t.tun x).svc.hold = .warm ∧
        ∀ y, y ≠ x → t.tun y = s.tun y) ∧
      Answers (.tunReset src q x 2) s (fun t => Replied t src ⟨q, 0x13, 0, []⟩ ∧ (t.tun x).svc.hold = .cold ∧
        ∀ y, y ≠ x → t.tun y = s.tun y) ∧
      Answers (.tunFence src q x) s (fun t => Replied t src ⟨q, 0x14, 0, []⟩ ∧ (t.tun x).svc.state = .fenced ∧
        ∀ y, y ≠ x → t.tun y = s.tun y)) ∧
    (∀ x off v, off < 0x1000000 → (s.tun x).reachable = true → Answers (.tunRegWrite src q x off v) s fun t =>
      Replied t src ⟨q, 0x16, 0, []⟩ ∧ t.tun x = (s.tun x).writeReg s.now .sideband off v ∧ ∀ y, y ≠ x → t.tun y = s.tun y) ∧
    (∀ x off v, tunOff s x = true → Answers (.tunRegWrite src q x off v) s fun t =>
      Replied t src ⟨q, 0x16, 0x0804, []⟩ ∧ t.tuns = s.tuns) ∧
    (∀ x off v, tunOff s x = false → (s.tun x).reachable = false → Answers (.tunRegWrite src q x off v) s fun t =>
      Replied t src ⟨q, 0x16, 0x0807, []⟩ ∧ t.tuns = s.tuns) ∧
    (∀ secs, Answers (.locate src q 0x00 1 secs) s fun t => Replied t src ⟨q, 0x40, 0, []⟩ ∧ OnlyMalt s t ∧ t.malt.locTray = true ∧
      t.malt.locBays = s.malt.locBays ∧ t.malt.locSeconds = secs) ∧
    (∀ secs n, n < 6 → Answers (.locate src q (bayByte n) 1 secs) s fun t => Replied t src ⟨q, 0x40, 0, []⟩ ∧ OnlyMalt s t ∧
      t.malt.locBays = s.malt.locBays ||| (1#6 <<< n) ∧ t.malt.locTray = s.malt.locTray ∧ t.malt.locSeconds = secs)

/-- MALTSTER_BOOT_VERIFY, TUN_HEADER_CHECK, TUN_BOOT_LOAD, BOOT_RESULT_POLL, GOLDEN_REFLASH_DONE, STAGE_ERASE_DONE, STAGE_VERIFY_DONE,
STAGE_COPY_DONE, STAGE_RESTART_RECOVERY and ACTIVATION complete: the first bank that verifies boots, in the order selected, other,
golden; a Tun reports the check its image fails and runs its firmware when none does; a pass answers the power command and a failure
starts the one re-flash; a verified set is armed, an interrupted stage failed, and an armed Tun set's banks become active. The outcome
of verification is the model's open value (log entry 15). -/
def Obligations.FirmwareCommandsComplete : Prop :=
  ∀ s : State,
    (s.malt.alive = false → s.malt.imageOk = false → s.fw.maltSfdp = true → Answers .maltsterBootVerify s fun t =>
      let sel := selectedBank s.fw.maltHdr
      let a := s.maltFails (s.fw.maltBank sel).bytes
      let b := s.maltFails (s.fw.maltBank (!sel)).bytes
      (a = none → t.malt.imageOk = true ∧ t.malt.bank = (if sel then 1 else 0) ∧ t.malt.row = s.tray.trayId ∧ t.malt.reeval = true ∧
        t.fw = s.fw ∧ OnlyMalt s t) ∧
      (a ≠ none → b = none → t.malt.imageOk = true ∧ t.malt.bank = (if sel then 0 else 1) ∧ (t.fw.maltBank sel).state = .invalid ∧
        (t.fw.maltBank (!sel)).state = .active ∧ OnlyMalt s t) ∧
      (a ≠ none → b ≠ none → s.maltFails s.fw.maltGolden.bytes = none → t.malt.imageOk = true ∧ t.malt.bank = 2 ∧
        (t.fw.maltBank sel).state = .invalid ∧ (t.fw.maltBank (!sel)).state = .invalid ∧ OnlyMalt s t) ∧
      (a ≠ none → b ≠ none → s.maltFails s.fw.maltGolden.bytes ≠ none → t.malt.imageOk = false ∧ t.malt.imageFailed = true ∧ OnlyMalt s t)) ∧
    (s.malt.alive = false → s.malt.imageOk = false → s.fw.maltSfdp = false → Answers .maltsterBootVerify s fun t =>
      t.malt.imageOk = false ∧ t.malt.imageFailed = true ∧ t.fw = s.fw ∧ OnlyMalt s t) ∧
    (∀ x, s.malt.alive = true → (s.mtun x).reflashing = false → (s.flash x).sfdp = true → Answers (.tunHeaderCheck x) s fun t =>
      let c := s.tunFails x true ((s.flash x).bank (selectedBank (s.flash x).hdr)).bytes
      (c = none → t = s) ∧ (∀ n, c = some n → (t.mtun x).headerBad = true ∧ (t.mtun x).reflashing = true ∧
        (t.mtun x).failStatus = checkStatus n ∧ OnlyMalt s t)) ∧
    (∀ x, s.malt.alive = true → (s.mtun x).reflashing = false → (s.flash x).sfdp = false → Answers (.tunHeaderCheck x) s fun t =>
      (t.mtun x).headerBad = true ∧ (t.mtun x).reflashing = true ∧ (t.mtun x).failStatus = 0x080E ∧ OnlyMalt s t) ∧
    (∀ x, (s.tun x).svc.state = .cold → (s.tun x).svc.hold = .none_ → (s.tun x).svc.bootResult = 0 →
      ((s.flash x).sfdp = true → Answers (.tunBootLoad x true) s fun t =>
        let c := s.bootFails x ((s.flash x).bank (selectedBank (s.flash x).hdr)).bytes
        (t.tun x).svc.bootResult = bootCode c ∧ (t.tun x).svc.fwRunning = c.isNone ∧
        (t.tun x).svc.bootBank = selectedBank (s.flash x).hdr ∧ tunOwns t x = false) ∧
      (∀ ok, (ok && (s.flash x).sfdp) = false → Answers (.tunBootLoad x ok) s fun t =>
        (t.tun x).svc.bootResult = 6 ∧ (t.tun x).svc.fwRunning = false)) ∧
    (∀ x, s.malt.alive = true → (s.mtun x).power = 2 → (s.tun x).reachable = true →
      (∀ q h, (s.tun x).svc.bootResult = 1 → s.malt.executing = [⟨.object (tunByte x), q, [h]⟩] → q.op ≠ 0x11 →
        Answers (.bootResultPoll x) s fun t =>
        Replied t h.src ⟨h.req.seq, h.req.op, 0, []⟩ ∧ t.malt.executing = [] ∧ OnlyMalt s t) ∧
      (2 ≤ (s.tun x).svc.bootResult.toNat → (s.mtun x).reflashed = false → Answers (.bootResultPoll x) s fun t =>
        (t.mtun x).headerBad = true ∧ (t.mtun x).reflashing = true ∧ (t.mtun x).onAfterReflash = true ∧
        (t.mtun x).failStatus = bootStatus (s.tun x).svc.bootResult ∧
        (t.mtun x).seq = .down (railsOn (s.mtun x).enables))) ∧
    (∀ x, s.malt.alive = true → (s.mtun x).reflashing = true → tunOwns s x = false → (s.mtun x).onAfterReflash = false →
      Answers (.goldenReflashDone x) s fun t =>
      (t.flash x).bank (selectedBank (s.flash x).hdr) = ⟨.active, s.fw.tunGolden⟩ ∧
      (t.flash x).recoveries = satInc (s.flash x).recoveries ∧ (t.mtun x).headerBad = false ∧ (t.mtun x).reflashed = true ∧
      (t.mtun x).reflashing = false ∧ OnlyMalt s t ∧ Logged s t 0x0080 3 (BitVec.ofNat 8 (tunObj x))
        ([if selectedBank (s.flash x).hdr then 1 else 0] ++ halfBytes (s.mtun x).failStatus)) ∧
    (s.malt.alive = true → s.fw.stage = .erasing → Answers .stageEraseDone s fun t => t.fw.stage = .receiving ∧ OnlyMalt s t) ∧
    (s.malt.alive = true → s.fw.stage = .verifying → s.fw.kind = 1 → Answers .stageVerifyDone s fun t =>
      let c := s.maltFails (s.fw.maltBank s.stageBank).bytes
      (c = none → t.fw.stage = .armed ∧ t.fw.armedMalt = true ∧ (t.fw.maltBank s.stageBank).state = .pending ∧ OnlyMalt s t) ∧
      (∀ n, c = some n → t.fw.stage = .failed ∧ t.fw.lastError = checkStatus n ∧ (t.fw.maltBank s.stageBank).state = .invalid ∧
        t.fw.armedMalt = s.fw.armedMalt ∧ OnlyMalt s t)) ∧
    (s.malt.alive = true → s.fw.stage = .verifying → s.fw.kind = 2 → Answers .stageVerifyDone s fun t =>
      let c := s.bundleFails s.fw.staging.bytes
      (c = none → t.fw.stage = .copying ∧ t.fw.staging = ⟨.valid, s.fw.staging.bytes⟩ ∧ OnlyMalt s t) ∧
      (∀ n, c = some n → t.fw.stage = .failed ∧ t.fw.lastError = checkStatus n ∧ t.fw.staging = ⟨.invalid, s.fw.staging.bytes⟩ ∧
        t.fw.flash = s.fw.flash ∧ OnlyMalt s t)) ∧
    (∀ ok, s.malt.alive = true → s.fw.stage = .copying → (∀ x, tunOwns s x = false) → Answers (.stageCopyDone ok) s fun t =>
      let c := s.bundleFails s.fw.staging.bytes
      let other (x : TunId) := (t.flash x).bank (!(selectedBank (s.flash x).hdr))
      (∀ n, c = some n → t.fw.stage = .failed ∧ t.fw.lastError = checkStatus n ∧ t.fw.armedTun = s.fw.armedTun ∧
        ∀ x, (other x).state = .invalid) ∧
      (c = none → (ok = false ∨ ∃ x, (s.flash x).sfdp = false) → t.fw.stage = .failed ∧ t.fw.lastError = 0x080E ∧ t.fw.armedTun = s.fw.armedTun ∧
        ∀ x, (other x).state = .invalid) ∧
      (c = none → ok = true → (∀ x, (s.flash x).sfdp = true) → t.fw.stage = .armed ∧ t.fw.armedTun = true ∧ ∀ x, other x = ⟨.pending, s.fw.staging.bytes⟩) ∧
      OnlyMalt s t) ∧
    (s.malt.alive = true → s.fw.recover = true → s.fw.stage = .receiving → Answers .stageRestartRecovery s fun t =>
      t.fw.stage = .failed ∧ t.fw.lastError = 0x080F ∧ t.fw.recover = false ∧ t.fw.owner = .none_ ∧ OnlyMalt s t) ∧
    (s.malt.alive = true → s.tray.mainClosed = false → allOff s = true → s.fw.journal = false → s.fw.stage = .armed →
      s.fw.armedTun = true → s.fw.armedMalt = false → (∀ x, (s.flash x).hdr.d0.seq + 1 < 2 ^ 32 ∧ (s.flash x).hdr.d1.seq + 1 < 2 ^ 32) →
      Answers .activation s fun t =>
        t.fw.stage = .idle ∧ t.fw.armedTun = false ∧ t.fw.journal = false ∧ OnlyMalt s t ∧ Logged s t 0x0083 1 0x30 [2] ∧
        ∀ x, ((s.flash x).bank (!(selectedBank (s.flash x).hdr))).state = .pending →
          ((t.flash x).bank (!(selectedBank (s.flash x).hdr))).state = .active ∧
          selectedBank (t.flash x).hdr = !(selectedBank (s.flash x).hdr))

/-- STAGE_BEGIN, STAGE_DATA, STAGE_COMMIT, STAGE_ABORT, QUERY_DEVICE_IDENTIFIERS, GET_FIRMWARE_PARAMETERS, REQUEST_UPDATE,
PASS_COMPONENT_TABLE, UPDATE_COMPONENT, FIRMWARE_DATA_RECEIVE, FIRMWARE_DATA_RETRY, ACTIVATE_FIRMWARE, GET_STATUS,
CANCEL_UPDATE_COMPONENT and CANCEL_UPDATE complete: a begun stage is erasing for its owner, the next bytes in order are programmed,
a complete image is verified, an abort returns the stage to IDLE, and the PLDM commands answer and drive the same stage. PLDM codes and the
device descriptor are the model's (log entries 32, 167). -/
def Obligations.StagingCommandsComplete : Prop :=
  ∀ (s : State) (src : Src) (q : Byte) (b : Bus), s.malt.alive = true →
    (∀ (kind : Byte) (len : Word), kind = 1 ∨ kind = 2 → 0x200 ≤ len.toNat → len.toNat ≤ maxImage kind.toNat → s.fw.stage = .idle →
      Answers (.stageBegin src q kind len) s fun t => t.fw.stage = .erasing ∧ t.fw.owner = ownerOf src ∧ t.fw.kind = kind.toNat ∧
        t.fw.length = len.toNat ∧ t.fw.progress = 0 ∧ t.fw.replyDue = true ∧ OnlyMalt s t) ∧
    (∀ (off : Word) data, 0 < data.length → data.length ≤ 236 → s.fw.stage = .receiving → s.fw.owner = ownerOf src → s.fw.kind = 2 →
      off.toNat = s.fw.progress →
      off.toNat + data.length ≤ s.fw.length → Answers (.stageData src q off data) s fun t =>
        Replied t src ⟨q, 0x51, 0, []⟩ ∧ t.fw.staging.bytes = s.fw.staging.bytes ++ data ∧
        t.fw.progress = s.fw.progress + data.length ∧ t.fw.stage = .receiving ∧ OnlyMalt s t) ∧
    (∀ (off : Word) data, 0 < data.length → data.length ≤ 236 → s.fw.stage = .idle → Answers (.stageData src q off data) s fun t =>
      Replied t src ⟨q, 0x51, 0x080D, []⟩ ∧ t.fw = s.fw ∧ OnlyMalt s t) ∧
    (∀ kind : Byte, s.fw.stage = .receiving → s.fw.owner = ownerOf src → s.fw.kind = kind.toNat → s.fw.progress = s.fw.length →
      Answers (.stageCommit src q kind) s fun t => t.fw = { s.fw with stage := .verifying, replyDue := true } ∧ OnlyMalt s t) ∧
    (s.fw.stage = .armed → s.fw.replyDue = false → Answers (.stageAbort src q) s fun t => Replied t src ⟨q, 0x53, 0, []⟩ ∧
      t.fw.stage = .idle ∧ t.fw.armedMalt = false ∧ t.fw.armedTun = false ∧ OnlyMalt s t ∧
      ∀ x k, ((s.flash x).bank k).state = .pending → ((t.flash x).bank k).state = .valid) ∧
    (s.busServes b = true → (s.bus b).eid ≠ 0 → s.malt.mctpBusy.length < 8 →
      exec (.queryDeviceIdentifiers b) s = .next (s.emitMalt (.pldm b 5 0x01 0
        (bytesLE 4 8 ++ [1, 1, 0, 4, 0] ++ bytesLE 4 Config.ianaNumber.toNat))) ∧
      exec (.getFirmwareParameters b) s = .next ((s.emitMalt (.fwParameters b s.fwComponents)).emitMalt (.pldm b 5 0x02 0 [])) ∧
      (∀ n, s.fw.updateMode = false → s.fw.stage = .idle → exec (.requestUpdate b n) s =
        .next ((s.modFw fun y => { y with updateMode := true, maxTransfer := n }).emitMalt (.pldm b 5 0x10 0 []))) ∧
      (∀ n, s.fw.updateMode = true → exec (.requestUpdate b n) s = .next (s.emitMalt (.pldm b 5 0x10 0x81 []))) ∧
      (s.fw.updateMode = true → exec (.passComponentTable b) s = .next (s.emitMalt (.pldm b 5 0x13 0 []))) ∧
      (∀ comp size, comp = 1 ∨ comp = 2 → 0x200 ≤ size → size ≤ maxImage comp → s.fw.updateMode = true → s.fw.stage = .idle →
        Answers (.updateComponent b comp size) s fun t => t.fw.stage = .erasing ∧ t.fw.owner = .pldm ∧ t.fw.kind = comp ∧
          t.fw.length = size ∧ t.fw.progress = 0 ∧ .pldm b 5 0x14 0 [] ∈ t.malt.out ∧ OnlyMalt s t) ∧
      exec (.activateFirmware b false) s = .next ((s.modFw fun y => { y with updateMode := false }).emitMalt (.pldm b 5 0x1A 0 [])) ∧
      exec (.activateFirmware b true) s = .next (s.emitMalt (.pldm b 5 0x1A 0x02 [])) ∧
      exec (.getStatus b) s = .next (s.emitMalt (.pldm b 5 0x1B 0 [s.fw.stage.code.setWidth 8])) ∧
      (s.fw.owner = .pldm → exec (.cancelUpdateComponent b) s =
        .next ((s.modFw fun y => { y with request := none }).emitMalt (.pldm b 5 0x1C 0 []))) ∧
      (s.fw.owner = .pldm → s.fw.stage = .receiving → s.fw.replyDue = false → Answers (.cancelUpdate b) s fun t => t.fw.stage = .idle ∧
        t.fw.owner = .none_ ∧ t.fw.armedMalt = false ∧ t.fw.armedTun = false ∧ t.fw.updateMode = false ∧ OnlyMalt s t)) ∧
    (∀ off n data, s.fw.request = some (off, n) → s.fw.stage = .receiving → s.fw.owner = .pldm → data.length = n → s.fw.kind = 2 →
      s.fw.progress + n = s.fw.length → Answers (.firmwareDataReceive data) s fun t =>
        t.fw.stage = .verifying ∧ t.fw.request = none ∧ t.fw.staging.bytes = s.fw.staging.bytes ++ data ∧
        t.malt.out = s.malt.out ++ [.fwComplete 0x16 0] ∧ OnlyMalt s t) ∧
    (∀ off n, s.fw.request = some (off, n) → s.fw.requestTries < 3 → exec .firmwareDataRetry s =
      .next ((s.modFw fun y => { y with requestTries := y.requestTries + 1 }).emitMalt (.fwData off n))) ∧
    (∀ off n, s.fw.request = some (off, n) → s.fw.requestTries = 3 → exec .firmwareDataRetry s =
      .next (s.modFw fun y => { y with request := none, updateMode := false, stage := .failed }))

/-- PORT_ENABLE, DETECT_LOCK, DETECT_TIMEOUT, TRAIN_EQUALIZE_RECEIVE, EQUALIZE_DONE, DESKEW_DONE, ATTEMPT_LIMIT, COLD_ATTEMPT_RETRY,
TRAIN_IDENTITY_RECEIVE, IDENTIFY_COMPLETE, IDENTIFY_TIMEOUT, RETRAIN_NOTICE and LOSS_OF_SIGNAL complete on one port or link of one Tun:
each moves the link or the port to the state its table names, a failed attempt records its cause and waits, and no other Tun and nothing
of the tray changes. -/
def Obligations.LinkTrainingCommandsComplete : Prop :=
  ∀ (s : State) (x : TunId) (id : BitVec 9),
    let u := s.tun x
    let p := u.port id.toNat
    (s.lanesReady x id.toNat = true → u.hasPort id.toNat = true → u.trains = true → u.heldDown id.toNat = false → p.disable = false →
      p.link = .disabled → p.state = .down → Answers (.portEnable x id) s fun t => ((t.tun x).port id.toNat).link = .detect ∧
        ((t.tun x).port id.toNat).genNow = u.portGen1 id.toNat p ∧ ((t.tun x).port id.toNat).widthNow = u.planWidth id.toNat p ∧
        OnlyTun x s t) ∧
    (∀ full, p.link = .detect → p.waiting = false → u.trains = true → Answers (.detectLock x id full) s fun t =>
      (t.tun x).port id.toNat = { p with link := .equalize, rateFull := full && u.offersFull id.toNat p, lanes := s.startLanes x id.toNat } ∧
      OnlyTun x s t) ∧
    (p.link = .detect → p.waiting = false → Answers (.detectTimeout x id) s fun t => ((t.tun x).port id.toNat).link = .detect ∧
      ((t.tun x).port id.toNat).lanes = [] ∧ ((t.tun x).port id.toNat).rateFull = false ∧ OnlyTun x s t) ∧
    (∀ lane req, p.link = .equalize → lane.toNat < p.widthNow → Answers (.trainEqualizeReceive x id lane req) s fun t =>
      (t.tun x).port id.toNat = { p with lanes := p.lanes.modify lane.toNat (LaneTx.request req) } ∧ OnlyTun x s t) ∧
    (p.link = .equalize → Answers (.equalizeDone x id) s fun t => (t.tun x).port id.toNat = { p with link := .deskew } ∧ OnlyTun x s t) ∧
    (p.link = .deskew → p.state = .down → Answers (.deskewDone x id) s fun t => ((t.tun x).port id.toNat).link = .linked ∧
      ((t.tun x).port id.toNat).state = .identify ∧
      (∃ pl, SentFlit u (t.tun x) id.toNat ftTrain pl ∧ byteAt pl 0 = 0x02) ∧ OnlyTun x s t) ∧
    (p.link = .equalize → p.waiting = false → p.stepping = false → p.state ≠ .fenced → Answers (.attemptLimit x id) s fun t =>
      ((t.tun x).port id.toNat).link = .detect ∧ ((t.tun x).port id.toNat).state = .down ∧ ((t.tun x).port id.toNat).waiting = true ∧
      ((t.tun x).port id.toNat).downCause = 3 ∧ OnlyTun x s t) ∧
    (p.link = .detect → p.waiting = true → Answers (.coldAttemptRetry x id) s fun t => ((t.tun x).port id.toNat).waiting = false ∧
      ((t.tun x).port id.toNat).link = .detect ∧ OnlyTun x s t) ∧
    (∀ pl, p.state = .identify → u.identCause id.toNat pl = none → Answers (.trainIdentityReceive x id pl) s fun t =>
      ((t.tun x).port id.toNat).ident = some (identOf pl) ∧ ((t.tun x).port id.toNat).state = .identify ∧ OnlyTun x s t) ∧
    (∀ pl c, p.state = .identify → p.stepping = false → u.identCause id.toNat pl = some c → Answers (.trainIdentityReceive x id pl) s fun t =>
      ((t.tun x).port id.toNat).state = .down ∧ ((t.tun x).port id.toNat).downCause = c ∧ ((t.tun x).port id.toNat).waiting = true ∧
      OnlyTun x s t) ∧
    (∀ i, p.state = .identify → p.ident = some i → i.seen = true → p.resumes i = true → p.replay = [] → p.txq = [] →
      Answers (.identifyComplete x id) s fun t => ((t.tun x).port id.toNat).state = .active ∧
        ((t.tun x).port id.toNat).peerIncarn = some i.ownInc ∧ ((t.tun x).port id.toNat).peerRole = i.role ∧ OnlyTun x s t) ∧
    (p.state = .identify → p.stepping = false → Answers (.identifyTimeout x id) s fun t => ((t.tun x).port id.toNat).state = .down ∧
      ((t.tun x).port id.toNat).link = .detect ∧ ((t.tun x).port id.toNat).downCause = 5 ∧ OnlyTun x s t) ∧
    (∀ sent, p.link = .linked → p.up = true → Answers (.retrainNotice x id sent) s fun t => ((t.tun x).port id.toNat).state = .down ∧
      ((t.tun x).port id.toNat).link = .detect ∧ ((t.tun x).port id.toNat).downCause = 0xE ∧
      ((t.tun x).port id.toNat).replay = p.replay ∧ OnlyTun x s t) ∧
    (p.link = .linked → p.rxNapped = false → p.up = true → Answers (.lossOfSignal x id) s fun t =>
      ((t.tun x).port id.toNat).state = .down ∧ ((t.tun x).port id.toNat).link = .detect ∧
      ((t.tun x).port id.toNat).downCause = 9 ∧ ((t.tun x).port id.toNat).replay = p.replay ∧ OnlyTun x s t)

/-- REPLAY_TIMEOUT, REPLAY_BUFFER_DISCARD, REPLAY_WINDOW_END, FENCE_RECEIVE, FENCE_REPEAT, PORT_RESET, PORT_DISABLE, INJECT_CRC,
DELAY_MEASURE_START, DELAY_ECHO_RECEIVE, DELAY_ECHO_TIMEOUT, DELAY_PROBE_RECEIVE, NAP_ENTRY, NAP_RECEIVE and WAKE complete on one port of
one Tun: a replay sends the oldest held flit again and is counted, a discard empties the buffer, the windows of replay events degrade and
restore the port, FENCE leaves the port PEER_FENCED, a reset and a disable clear the port and move its incarnation on, and probes, echoes
and naps are sent and taken. -/
def Obligations.LinkControlCommandsComplete : Prop :=
  ∀ (s : State) (x : TunId) (id : BitVec 9),
    let u := s.tun x
    let p := u.port id.toNat
    (∀ h, p.replay = [h] → p.up = true → p.link = .linked → p.replayRun = none → p.holdFrom = none → Answers (.replayTimeout x id) s fun t =>
      SentFlit u (t.tun x) id.toNat h.ftype h.payload ∧ ((t.tun x).port id.toNat).replayRun = some (h.fseq, 1) ∧
      ((t.tun x).port id.toNat).replay = [h] ∧ ((t.tun x).port id.toNat).replayEvents = p.replayEvents + 1 ∧ OnlyTun x s t) ∧
    (p.state = .down → p.link = .detect → p.replay ≠ [] → Answers (.replayBufferDiscard x id) s fun t => ((t.tun x).port id.toNat).replay = [] ∧
      ((t.tun x).port id.toNat).txq = [] ∧ ((t.tun x).port id.toNat).retrains = satInc p.retrains ∧ OnlyTun x s t) ∧
    (p.state = .degraded → p.replayEvents1s ≤ 4 → Answers (.replayWindowEnd x id true) s fun t =>
      (t.tun x).port id.toNat = { p with state := .active, replayEvents1s := 0 } ∧ OnlyTun x s t) ∧
    (p.state = .active → 64 < p.replayEvents → Answers (.replayWindowEnd x id false) s fun t =>
      (t.tun x).port id.toNat = { p with state := .degraded, replayEvents := 0, degradations := satInc p.degradations } ∧ OnlyTun x s t) ∧
    (∀ leaving, p.up = true → Answers (.fenceReceive x id 1 leaving) s fun t => ((t.tun x).port id.toNat).state = .peerFenced ∧
      ((t.tun x).port id.toNat).replay = [] ∧ ((t.tun x).port id.toNat).txq = [] ∧ OnlyTun x s t) ∧
    (p.state = .fenced → p.link = .linked → Answers (.fenceRepeat x id) s fun t =>
      SentFlit u (t.tun x) id.toNat ftFence (fencePayload 4 p.incarn false) ∧ ((t.tun x).port id.toNat).state = .fenced ∧ OnlyTun x s t) ∧
    (u.hasPort id.toNat = true → u.portsAnswer = true → Answers (.portReset x id) s fun t => ((t.tun x).port id.toNat).state = .down ∧
      ((t.tun x).port id.toNat).link = .disabled ∧ ((t.tun x).port id.toNat).incarn = p.incarn + 1 ∧
      ((t.tun x).port id.toNat).replay = [] ∧ ((t.tun x).port id.toNat).downCause = (if p.disable then 1 else 0xB) ∧ OnlyTun x s t) ∧
    (u.hasPort id.toNat = true → u.portsAnswer = true → p.disable = false → Answers (.portDisable x id true) s fun t =>
      ((t.tun x).port id.toNat).disable = true ∧ ((t.tun x).port id.toNat).state = .down ∧
      ((t.tun x).port id.toNat).link = .disabled ∧ ((t.tun x).port id.toNat).downCause = 1 ∧
      ((t.tun x).port id.toNat).incarn = p.incarn ∧ OnlyTun x s t) ∧
    (u.hasPort id.toNat = true → u.portsAnswer = true → p.disable = true → Answers (.portDisable x id false) s fun t =>
      (t.tun x).port id.toNat = { p with disable := false, incarn := p.incarn + 1 } ∧ OnlyTun x s t) ∧
    (u.hasPort id.toNat = true → u.portsAnswer = true → Answers (.injectCrc x id) s fun t =>
      (t.tun x).port id.toNat = { p with injectCrc := true } ∧ OnlyTun x s t) ∧
    (p.up = true → p.link = .linked → p.genNow = false → Answers (.delayMeasureStart x id) s fun t =>
      ((t.tun x).port id.toNat).probes = (List.range 8).map (fun k => (k, s.now + 25600 * k)) ∧
      ((t.tun x).port id.toNat).delays = [] ∧ SentFlit u (t.tun x) id.toNat ftProbe (probePayload 0 s.now) ∧ OnlyTun x s t) ∧
    (∀ (k : Byte) t1 t2 t3 t4, p.probes.contains (k.toNat, t1) = true → p.delays = [] →
      Answers (.delayEchoReceive x id k t1 t2 t3 t4) s fun t =>
        ((t.tun x).port id.toNat).delays = [((t4 : Int) - t1) - ((t3 : Int) - t2)] ∧
        ((t.tun x).port id.toNat).probes = p.probes.filter (· != (k.toNat, t1)) ∧ OnlyTun x s t) ∧
    (p.probes ≠ [] → Answers (.delayEchoTimeout x id) s fun t =>
      (t.tun x).port id.toNat = { p with probes := [], delays := [] } ∧ OnlyTun x s t) ∧
    (∀ k t1, p.up = true → p.link = .linked → p.genNow = false → Answers (.delayProbeReceive x id k t1) s fun t =>
      SentFlit u (t.tun x) id.toNat ftEcho ([k, 0, 0, 0, 0, 0, 0, 0] ++ bytesLE 8 t1 ++ bytesLE 8 s.now ++ bytesLE 8 s.now) ∧
      OnlyTun x s t) ∧
    (u.mayNap id.toNat = true → p.link = .linked → Answers (.napEntry x id) s fun t => ((t.tun x).port id.toNat).txNapped = true ∧
      SentFlit u (t.tun x) id.toNat ftNap [] ∧ OnlyTun x s t) ∧
    (p.up = true → p.genNow = false → Answers (.napReceive x id) s fun t =>
      (t.tun x).port id.toNat = { p with rxNapped := true } ∧ OnlyTun x s t) ∧
    (p.txNapped = true → Answers (.wake x id) s fun t => ((t.tun x).port id.toNat).txNapped = false ∧
      SentFlit u (t.tun x) id.toNat ftWake [] ∧ OnlyTun x s t)

/-- REGISTER_WRITE, RACK_CONFIG_WRITE, CONFLICT_CLEAR, PKEY_TABLE_WRITE, RANK_DATA_WRITE, RANK_DESC_WRITE, ROUTE_DATA_WRITE and
VORLAUF_MODE_APPLY complete on one Tun: a write over any path that answers stores the register's fields (ARB_WEIGHTS is the example), a
valid PKEY entry is stored with its reserved bits 0 and one with a reserved key is refused, GRID_WIDTH and RANK_COUNT are held within
their limits, a rank entry naming a Tun is refused, a bad route is refused with 0x00F1, and MODE applies once the ring is drained and
empty. -/
def Obligations.RegisterRowsComplete : Prop :=
  ∀ (s : State) (x : TunId), (s.tun x).svc.hold = .none_ →
    ((s.tun x).svc.state ≠ .off → ∀ v, Answers (.rackConfigWrite x v) s fun t => (t.tun x).rack.keeperOverride = v.getLsbD 15 ∧
      (t.tun x).rack.keeperRow = bitsOf v 12 3 ∧ (t.tun x).rack.keeperCol = bitsOf v 10 2 ∧
      (t.tun x).rack.pairing = (v.getLsbD 2 && (s.tun x).rack.plan == 1) ∧ (t.tun x).rack.plan = (s.tun x).rack.plan ∧ OnlyTun x s t) ∧
    ((s.tun x).svc.state ≠ .off → exec (.conflictClear x) s = .next (s.modTun x fun u => { u with conflict := {} })) ∧
    ((s.tun x).svc.state ≠ .off → (s.tun x).plane.ringDrain = true → (s.tun x).plane.holdsEmpty = true →
      Answers (.vorlaufModeApply x) s fun t => (t.tun x).plane.modeNow = (s.tun x).plane.modeStored ∧ OnlyTun x s t) ∧
    ((s.tun x).svc.state ≠ .off → (s.tun x).svc.state ≠ .cold →
      (∀ p (v : Word), (s.tun x).pathAnswers p = true → Answers (.registerWrite x [⟨p, 0x051004, 4, v.setWidth 64⟩]) s fun t =>
        t = s.modTun x fun u => { u with plane := { u.plane with weights := v &&& 0x3FFFFFFF } }) ∧
      (∀ n v, v.getLsbD 31 = true → v.extractLsb' 0 16 ≠ (0 : Half) → v.extractLsb' 0 16 ≠ (0xFFFF : Half) →
        Answers (.pkeyTableWrite x n v) s fun t => (t.tun x).pkeyWord n.toNat = v &&& 0x0000003FBF80FFFF ∧
          (t.tun x).plane.pkeyRefused = (s.tun x).plane.pkeyRefused ∧ OnlyTun x s t) ∧
      (∀ n v, v.getLsbD 31 = true → v.extractLsb' 0 16 = (0xFFFF : Half) → Answers (.pkeyTableWrite x n v) s fun t =>
        ((t.tun x).pkeyWord n.toNat).getLsbD 31 = false ∧ (t.tun x).plane.pkeyRefused = true ∧ OnlyTun x s t) ∧
      (∀ n v, Answers (.rankDescWrite x n v) s fun t => (t.tun x).gridWidth n.toNat = min 256 (max 1 (bitsOf v 16 9).toNat) ∧
        (t.tun x).rankCount n.toNat = min 4096 (bitsOf v 0 13).toNat ∧ OnlyTun x s t) ∧
      (∀ v, v.getLsbD 15 = true → (bitsOf v 0 10).toNat < 192 → Answers (.rankDataWrite x v) s fun t =>
        Tab.get 0 (t.tun x).plane.ranks (s.tun x).plane.rankIndex.toNat = (v &&& 0x83FF).setWidth 16 ∧
        (t.tun x).plane.rankRefused = (s.tun x).plane.rankRefused ∧ OnlyTun x s t) ∧
      (∀ v, v.getLsbD 15 = true → 192 ≤ (bitsOf v 0 10).toNat → (bitsOf v 0 10).toNat ≤ 255 → Answers (.rankDataWrite x v) s fun t =>
        (t.tun x).plane.ranks = (s.tun x).plane.ranks ∧ (t.tun x).plane.rankRefused = true ∧ OnlyTun x s t) ∧
      (∀ v, v.getLsbD 31 = true → (s.tun x).routeOk (s.tun x).plane.routeIndex.toNat v = true → Answers (.routeDataWrite x v) s fun t =>
        Tab.get 0 (t.tun x).plane.routes (s.tun x).plane.routeIndex.toNat = v &&& 0xFFFF0000 ∧
        (t.tun x).plane.routeStatus = (if (s.tun x).svc.state = .draining then 0 else 1) ∧ OnlyTun x s t) ∧
      (∀ v, v.getLsbD 31 = true → (s.tun x).routeOk (s.tun x).plane.routeIndex.toNat v = false → Answers (.routeDataWrite x v) s fun t =>
        (t.tun x).plane.routes = (s.tun x).plane.routes ∧ (t.tun x).plane.routeStatus = 0x00F1 ∧ OnlyTun x s t))

/-- QUEUE_DOORBELL, CRING_HEAD, CMD_PACKET, DOORBELL_PACKET, DESCRIPTOR_FETCH, COMMAND_START, REMOTE_TIMEOUT, HELD_RECORD_WRITE,
QUEUE_CFG_WRITE, CRING_CFG_WRITE, RELEASED_ENTRY_REUSE, NOP, WRITE_IMM, COPY and TIMESTAMP complete: a doorbell within its ring moves the
index, a CMD packet appends its descriptors at P, a fetch takes the descriptor at C, a command that passes its checks and needs no unit
starts and reserves its record, a timed-out request ends its command with 0x0506, a held record is written, a queue and a ring that may be
valid become so with their indices 0, and the general opcodes stage their outputs. While the Tun does not serve, FENCED for one, no engine
command changes anything. -/
def Obligations.QueueCommandsComplete : Prop :=
  ∀ (s : State) (x : TunId),
    let u := s.tun x
    let open_ := u.svc.hold = .none_ ∧ u.svc.state = .full
    (∀ (q : BitVec 10) (i : Half), open_ → u.bm.cmds = [] → (u.queue q.toNat).valid = true → i ≠ (u.queue q.toNat).p →
      (i - (u.queue q.toNat).p).toNat ≤ queueFree q.toNat (u.queue q.toNat) → Answers (.queueDoorbell x q i) s fun t =>
        (t.tun x).queue q.toNat = { u.queue q.toNat with p := i } ∧ OnlyTun x s t) ∧
    (∀ (r : BitVec 10) (i : Half), open_ → (u.ring r.toNat).valid = true → (i - (u.ring r.toNat).head).toNat ≤ (u.ring r.toNat).unconsumed →
      Answers (.cringHead x r i) s fun t => (t.tun x).ring r.toNat = { u.ring r.toNat with head := i } ∧ OnlyTun x s t) ∧
    (∀ port (p : Packet), Reaches u 0x08 p → p.poison = false → u.bm.cmds = [] →
      (let q := (p.addr.extractLsb' 0 10).toNat
       q ≠ 0 → (u.queue q).valid = true → (u.queue q).endpointSubmit = true → (u.queue q).ctx = p.ctx →
       p.payload.length = 64 → 1 ≤ queueFree q (u.queue q) → Answers (.cmdPacket x port p) s fun t =>
        (t.tun x).queue q = { u.queue q with p := (u.queue q).p + 1 } ∧ OnlyTun x s t)) ∧
    (∀ port (p : Packet), Reaches u 0x09 p → p.poison = false → u.bm.cmds = [] → p.payload.length = 4 →
      (let w : Word := BitVec.ofNat 32 (leAt p.payload 0 4)
       let q := (w.extractLsb' 0 10).toNat
       w.getLsbD 15 = false → q ≠ 0 → (u.queue q).valid = true → (u.queue q).endpointSubmit = true → (u.queue q).ctx = p.ctx →
       w.extractLsb' 16 16 ≠ (u.queue q).p → (w.extractLsb' 16 16 - (u.queue q).p).toNat ≤ queueFree q (u.queue q) →
       Answers (.doorbellPacket x port p) s fun t =>
        (t.tun x).queue q = { u.queue q with p := w.extractLsb' 16 16 } ∧ OnlyTun x s t)) ∧
    (∀ (q : BitVec 10) admin, open_ → (u.queue q.toNat).valid = true → (u.queue q.toNat).p ≠ (u.queue q.toNat).c →
      u.headWaiting q.toNat = false → u.sched.stepQueues.contains q.toNat = false → Answers (.descriptorFetch x q admin) s fun t =>
        (t.tun x).queue q.toNat = { u.queue q.toNat with c := (u.queue q.toNat).c + 1 } ∧
        (∃ c : Cmd, (t.tun x).bm.cmds = u.bm.cmds ++ [c] ∧ c.id = u.bm.nextCmd ∧ c.queue = q.toNat ∧ c.index = (u.queue q.toNat).c ∧
          c.phase = .fetched ∧ (q = 0 → c.desc = (admin ++ List.replicate 64 0).take 64)) ∧ OnlyTun x s t) ∧
    (∀ (q : BitVec 10) (c : Cmd), open_ → u.bm.cmds = [c] → c.queue = q.toNat → c.phase = .fetched → extOp c.op = false → c.op ≠ 0x32 →
      c.waitSem = none → c.order = false → u.ringFree (u.queue q.toNat).cring.toNat ≠ 0 → u.checks c = .ok {} →
      Answers (.commandStart x q) s fun t =>
        (∃ d, (t.tun x).bm.cmds = [d] ∧ d.id = c.id ∧ d.phase = .started ∧ d.reserved = 1 ∧ d.units = []) ∧ OnlyTun x s t) ∧
    (∀ (e : BitVec 12) (c : Cmd) (o : OutReq), Alone u c → u.bm.outstanding = [o] → o.entry = e.toNat → o.cmd = some c.id →
      c.op < 0x43 → Answers (.remoteTimeout x e) s fun t =>
        Recorded u (t.tun x) c 0x0506 0 0 ∧ (t.tun x).bm.outstanding = [] ∧ (t.tun x).bm.released = u.bm.released ++ [e.toNat] ∧
        OnlyTun x s t) ∧
    (∀ e, Answers (.releasedEntryReuse x e) s fun t =>
      (t.tun x).bm.released = u.bm.released.filter (· != e.toNat) ∧ OnlyTun x s t) ∧
    (∀ h : HeldRec, u.serving = true → u.bm.held = [h] → h.ext = [] → h.interrupt = false → u.ringFree h.ring ≠ 0 → (u.ring h.ring).endpoint = false →
      (u.ring h.ring).split = false → (u.ring h.ring).function = 0 → u.hostReach 0 = true → u.host.lost = false →
      Answers (.heldRecordWrite x) s fun t =>
        (let k := u.ring h.ring
         (t.tun x).bm.held = [] ∧ (t.tun x).out = u.out ++ [.hostWrite 0 (k.addr.toNat + 32 * (k.tail.toNat % k.depth))
          (withPhase h.bytes (k.phase k.tail.toNat)) false] ∧ OnlyTun x s t)) ∧
    (∀ v : Word, open_ →
      (let q := u.bm.queueSel.toNat
       let n : Queue := { u.queue q with
         valid := true, endpointSubmit := v.getLsbD 30, cring := v.extractLsb' 20 10, log2 := v.extractLsb' 16 4,
         ctx := v.extractLsb' 8 8 }
       q ≠ 0 → u.bm.cmds = [] → (u.queue q).valid = false → v.getLsbD 31 = true → u.queueOk q n = true →
       Answers (.queueCfgWrite x false v) s fun t => (t.tun x).queue q = { n with p := 0, c := 0 } ∧ OnlyTun x s t)) ∧
    (∀ v : Word, open_ →
      (let r := u.bm.cringSel.toNat
       let n : Ring := { u.ring r with
         valid := true, endpoint := v.getLsbD 30, split := v.getLsbD 29, intEn := v.getLsbD 28, log2 := v.extractLsb' 24 4,
         ctx := v.extractLsb' 16 8, vector := v.extractLsb' 0 11 }
       (u.ring r).valid = false → v.getLsbD 31 = true → u.ringOk n = true →
       Answers (.cringCfgWrite x 0 v) s fun t => (t.tun x).ring r = { n with tail := 0, head := 0 } ∧ OnlyTun x s t)) ∧
    (∀ c : Cmd, u.serving = true → u.cmd c.id = some c → c.phase = .started →
      (c.op = 0x00 → Answers (.nop x c.id) s fun t => Staged (t.tun x) c 0 0 0 [] ∧ OnlyTun x s t) ∧
      (c.op = 0x01 → Answers (.writeImm x c.id) s fun t =>
        Staged (t.tun x) c 0 0 0 (u.locEffects c (locOf (c.desc.drop 16)) (plain ((c.desc.drop 40).take (byteAt c.desc 32).toNat))) ∧
        OnlyTun x s t) ∧
      (c.op = 0x02 → c.fetched = true → anyPoison c.fetchedP = false → Answers (.copy x c.id) s fun t =>
        Staged (t.tun x) c 0 (BitVec.ofNat 64 (leAt c.desc 48 4)) 0 (u.locEffects c (locOf (c.desc.drop 32)) c.fetchedP) ∧
        OnlyTun x s t) ∧
      (c.op = 0x04 → Answers (.timestamp x c.id) s fun t => Staged (t.tun x) c 0 0 0 [] ∧ OnlyTun x s t)) ∧
    (u.serving = false → exec (.heldRecordWrite x) s = .next s ∧ ∀ k, engineWork x k = true → exec k s = .next s)

/-- CTX_DEFINE, CTX_UNDEFINE, CTX_RESIDE, RESIDE_TURN, RESIDE_STREAM_DONE, RESIDE_READ_FAIL, CTX_EVICT, CTX_SET_PRIORITY, CTX_KILL,
SEM_INIT and LEASE_EXPIRY complete: a context moves between its states with its slot and blocks, the record of the admin command is
written, and an expired lease passes the lock to its waiter with a notice. -/
def Obligations.ContextCommandsComplete : Prop :=
  ∀ (s : State) (x : TunId) (c : Cmd),
    let u := s.tun x
    let n := (byteAt c.desc 16).toNat
    let k := leAt c.desc 18 2
    (Alone u c → c.queue = 0 → c.phase = .started →
      (u.serving = true → c.op = 0x10 → (u.ctx n).state = .undefined → Answers (.ctxDefine x c.id) s fun t =>
        (t.tun x).ctx n = { u.ctx n with
          state := .defined, priority := (byteAt c.desc 17).setWidth 3, pkey := BitVec.ofNat 16 k, share := byteAt c.desc 20,
          proof := (byteAt c.desc 21).setWidth 3, pin := (byteAt c.desc 22).getLsbD 0 } ∧
        Recorded u (t.tun x) c 0 0 0 ∧ OnlyTun x s t) ∧
      (u.serving = true → c.op = 0x11 → (u.ctx n).state = .defined → u.ctxNamed n = false → u.bm.ctxs.wf {} = true →
        Answers (.ctxUndefine x c.id) s fun t =>
        (t.tun x).ctx n = { gen := (u.ctx n).gen } ∧ Recorded u (t.tun x) c 0 0 0 ∧ OnlyTun x s t) ∧
      (u.serving = true → c.op = 0x12 → (u.ctx n).state = .defined → c.id ∉ u.bm.resideWait → u.bm.streaming = none → c.planned = false →
        k ≠ 0 → u.hostReach 0 = true → u.host.linkUp = true → Answers (.ctxReside x c.id) s fun t =>
          (t.tun x).out = u.out ++ [.hostRead ((c.id + 1) * 65536) 0 (leAt c.desc 24 8) (16 * k)] ∧ OnlyTun x s t) ∧
      (u.serving = true → c.op = 0x12 → (u.ctx n).state = .defined → c.id ∉ u.bm.resideWait → u.bm.streaming = none → c.fetched = true →
        (preloads k (pbytes c.fetchedP)).all (preloadOk (u.ctx n)) = true → Answers (.ctxReside x c.id) s fun t =>
          (t.tun x).bm.resideWait = u.bm.resideWait ++ [c.id] ∧ OnlyTun x s t) ∧
      (c.op = 0x12 → u.svc.state = .full → u.bm.resideWait = [c.id] → u.bm.streaming = none → (u.ctx n).state = .defined → k = 0 →
        u.victimsFor (u.ctx n).priority.toNat (u.ctx n).share.toNat = some [] → Answers (.resideTurn x) s fun t =>
          (t.tun x).ctx n = { u.ctx n with
            state := .streaming, slot := some (u.freeSlots.headD 0), blocks := u.freeBlocks.take (u.ctx n).share.toNat } ∧
          (t.tun x).bm.streaming = some (c.id, n) ∧ (t.tun x).bm.resideWait = [] ∧ OnlyTun x s t) ∧
      (u.bm.streaming = some (c.id, n) → c.fetched = true → k = 0 → Answers (.resideStreamDone x) s fun t =>
        (t.tun x).ctx n = { u.ctx n with state := .resident } ∧ (t.tun x).bm.streaming = none ∧
        Recorded u (t.tun x) c 0 c.result0 0 ∧ OnlyTun x s t) ∧
      (u.bm.streaming = some (c.id, n) → c.op < 0x43 → Answers (.resideReadFail x) s fun t =>
        (t.tun x).ctx n = { u.ctx n with state := .defined, slot := none, blocks := [] } ∧ (t.tun x).bm.streaming = none ∧
        (t.tun x).host.readFail = satInc u.host.readFail ∧ Recorded u (t.tun x) c 0x0012 0 0 ∧ OnlyTun x s t) ∧
      (u.serving = true → c.op = 0x13 → u.ctxLive n = true → (u.ctx n).pin = false → Answers (.ctxEvict x c.id) s fun t =>
        (t.tun x).ctx n = { u.ctx n with state := .defined, slot := none, blocks := [], gen := (u.ctx n).gen + 1 } ∧
        (t.tun x).bm.evictions = satInc u.bm.evictions ∧ Recorded u (t.tun x) c 0 0 0 ∧ OnlyTun x s t) ∧
      (u.serving = true → c.op = 0x14 → (u.ctx n).state ≠ .undefined → byteAt c.desc 18 = 0 → Answers (.ctxSetPriority x c.id) s fun t =>
        (t.tun x).ctx n = { u.ctx n with priority := (byteAt c.desc 17).setWidth 3 } ∧ Recorded u (t.tun x) c 0 0 0 ∧ OnlyTun x s t) ∧
      (u.serving = true → c.op = 0x15 → (u.ctx n).state = .faulted → byteAt c.desc 17 = 1 → Answers (.ctxKill x c.id) s fun t =>
        (t.tun x).ctx n = { u.ctx n with state := .resident, gen := (u.ctx n).gen + 1 } ∧ Recorded u (t.tun x) c 0 0 0 ∧ OnlyTun x s t) ∧
      (u.serving = true → c.op = 0x16 → byteAt c.desc 18 = 1 → (u.sem (leAt c.desc 16 2)).holder = none → Answers (.semInit x c.id) s fun t =>
        ((t.tun x).sem (leAt c.desc 16 2)).mode = 1 ∧ ((t.tun x).sem (leAt c.desc 16 2)).holder = none ∧
        ((t.tun x).sem (leAt c.desc 16 2)).leaseMs = (if leAt c.desc 22 2 = 0 then 10 else leAt c.desc 22 2) ∧
        Recorded u (t.tun x) c 0 0 0 ∧ OnlyTun x s t)) ∧
    (∀ m : BitVec 12, u.leaseActive m.toNat = true → u.svc.state = .draining → (u.sem m.toNat).mode = 1 →
      u.semWaiters m.toNat = [c] → u.cmd c.id = some c → (∀ h, (u.sem m.toNat).holder = some h → (u.ctx h).state ≠ .resident) →
      Answers (.leaseExpiry x m) s fun t =>
        (t.tun x).sem m.toNat = { u.sem m.toNat with holder := some c.ctx } ∧ (t.tun x).bm.leaseExpired = satInc u.bm.leaseExpired ∧
        (t.tun x).cmd c.id = some { c with semHeld := true, phase := .waitUnit, notice := true } ∧ OnlyTun x s t)

/-- FLIT_RECEIVE, PACKET_INGRESS, MULTICAST_COPY, OUTPUT_AWARD, PACKET_DELIVER_STREAM, HOLE_TIMEOUT, INJECT_AGE_GILD,
ROW_LANDING_RELEASE, CIRCUIT_PACKET_ARRIVE, PEER_DEPARTURE and FENCE_NOTICE_RECEIVE complete: a flit in order is accepted and acknowledged
with an IDLE flit (the model's choice of carrier, log entry 84) and a bad one asks for a NAK, a packet that passes the checks waits in the
hold of its port and one that fails is counted as a drop, a single Gilded bidder wins its free target port and its flit leaves, a packet
ahead of its stream is held, a hole is skipped, and a departure is recorded. -/
def Obligations.PacketPlaneCommandsComplete : Prop :=
  ∀ (s : State) (x : TunId),
    let u := s.tun x
    (∀ (id : BitVec 9) bytes rx (f : Flit),
      let p := u.port id.toNat
      u.hasPort id.toNat = true → u.svc.hold = .none_ → u.svc.state = .full → p.link = .linked → p.state = .active → p.genNow = false →
      p.peerIncarn = some f.incarn → Flit.ofBytes bytes = some f → f.ftype = 0x2 → f.fseq = p.expected → f.nak = false →
      f.ackValid = false → u.holdRoom id.toNat (Packet.ofFlits [f.payload]).circuit = true →
      Answers (.flitReceive x id bytes false rx) s fun t =>
        ((t.tun x).port id.toNat).expected = p.expected + 1 ∧ ((t.tun x).port id.toNat).assembling = true ∧
        ((t.tun x).port id.toNat).partial_ = [f.payload] ∧ SentFlit u (t.tun x) id.toNat 0x0 [] ∧ OnlyTun x s t) ∧
    (∀ (id : BitVec 9) bytes rx, u.hasPort id.toNat = true → u.svc.hold = .none_ → u.svc.state = .full →
      (u.port id.toNat).link = .linked → (u.port id.toNat).state = .active → (u.port id.toNat).nakOut = false →
      Answers (.flitReceive x id bytes true rx) s fun t =>
        ((t.tun x).port id.toNat).nakOut = true ∧ ((t.tun x).port id.toNat).nakTime = s.now ∧
        ((t.tun x).port id.toNat).expected = (u.port id.toNat).expected ∧ SentFlit u (t.tun x) id.toNat 0x0 [] ∧ OnlyTun x s t) ∧
    (∀ (id : BitVec 9) vc (p q : Packet), u.portUp id.toNat = true → isFabricId id.toNat = false → p.circuit = false →
      u.injRoom id.toNat = true → u.checkIngress s.now id.toNat p = .ok q → q.axis = 0 → Answers (.packetIngress x id vc p) s fun t =>
        Tab.get [] (t.tun x).plane.inj id.toNat =
          Tab.get [] u.plane.inj id.toNat ++ [{ pkt := q, input := id.toNat, since := s.now, vc := vc }] ∧ OnlyTun x s t) ∧
    (∀ (id : BitVec 9) vc (p q : Packet) code, u.portUp id.toNat = true → isFabricId id.toNat = false → p.circuit = false →
      u.injRoom id.toNat = true → u.checkIngress s.now id.toNat p = .lost code q → q.type = 0x01 →
      Answers (.packetIngress x id vc p) s fun t =>
        (t.tun x).plane.dropCode = BitVec.ofNat 8 code ∧ (t.tun x).plane.dropPort = id ∧
        (t.tun x).plane.dropCount = satInc u.plane.dropCount ∧ (t.tun x).plane.inj = u.plane.inj ∧ OnlyTun x s t) ∧
    (∀ (id : BitVec 9) (w : Waiting) m m' ms, Tab.get [] u.plane.inj id.toNat = [w] → w.copies = some (m :: m' :: ms) →
      u.plane.engine.length < 32 → Answers (.multicastCopy x id) s fun t =>
        (t.tun x).plane.engine = u.plane.engine ++ [{ pkt := mcastCopy w.pkt m, input := 300, since := s.now }] ∧
        Tab.get [] (t.tun x).plane.inj id.toNat = [{ w with copies := some (m' :: ms) }] ∧ OnlyTun x s t) ∧
    (∀ (o i : Nat) (w : Waiting), u.receives = true → o < 192 → u.bidders = [(.inj i, w)] → w.pkt.gild = true →
      u.targets w.pkt.dst.toNat = [o] → u.portUp o = true → (u.port o).link = .linked → (u.port o).txq = [] →
      (u.port o).replayFull = false → (u.port o).genNow = false → u.circuitHolds s.now (u.wireUnits o w.pkt) o = false →
      u.pkeyEgress o w.pkt = true → w.pkt.payload.length ≤ 212 → Answers (.outputAward x [o]) s fun t =>
        SentFlit u (t.tun x) o 0x1 (flitPayload (w.pkt.header ++ w.pkt.payload)) ∧ ((t.tun x).port o).txq = [] ∧ OnlyTun x s t) ∧
    (∀ (port : BitVec 9) (p : Packet), u.receives = true → u.addressed p = true → u.engineTakes p = true → u.ctxOk p = true →
      (u.stream p).valid = true → (u.stream p).incarn = p.incarn → sequenced p = true → p.seq ≠ (u.stream p).expected →
      (p.seq - (u.stream p).expected).toNat < 32768 → (u.stream p).held.any (fun h => h.1 == p.seq) = false →
      Answers (.packetDeliverStream x port p) s fun t =>
        (t.tun x).stream p = { u.stream p with held := (u.stream p).held ++ [(p.seq, s.now, port.toNat, p)] } ∧ OnlyTun x s t) ∧
    (∀ (src : BitVec 10) (ch : BitVec 4) q at_ port (p : Packet),
      let k := src.toNat * 16 + ch.toNat
      let z : Stream := Tab.get {} u.plane.streams k
      z.valid = true → z.held = [(q, at_, port, p)] → p.type = 0x11 → Answers (.holeTimeout x src ch) s fun t =>
        Tab.get {} (t.tun x).plane.streams k = { z with expected := q + 1, held := [] } ∧
        (t.tun x).plane.seqGap = satInc u.plane.seqGap ∧ OnlyTun x s t) ∧
    (∀ (i : Nat) (w : Waiting), Tab.get [] u.plane.inj i = [w] → w.pkt.gild = false → Answers (.injectAgeGild x (.inj i) 0) s fun t =>
      Tab.get [] (t.tun x).plane.inj i = [{ w with pkt := ({ w.pkt with gild := true } : Packet).sealed }] ∧ OnlyTun x s t) ∧
    (∀ (l : BitVec 9) (w : Waiting), isMeshId l.toNat = true → Tab.get [] u.plane.landing l.toNat = [w] →
      Answers (.rowLandingRelease x l 0) s fun t =>
        Tab.get [] (t.tun x).plane.landing l.toNat = [{ w with released := true }] ∧ OnlyTun x s t) ∧
    (∀ (id : BitVec 9) (p q : Packet) first last cause, u.portUp id.toNat = true → isFabricId id.toNat = false → p.circuit = true →
      u.forfeitRoom id.toNat = true → u.checkIngress s.now id.toNat p = .ok q → u.circuitMatch id.toNat q first last = .error cause →
      Answers (.circuitPacketArrive x id p first last) s fun t =>
        Tab.get [] (t.tun x).plane.forfeit id.toNat =
          Tab.get [] u.plane.forfeit id.toNat ++ [{ pkt := forfeited q, input := id.toNat, since := s.now }] ∧
        (t.tun x).sched.slotForfeit = satInc u.sched.slotForfeit ∧ (t.tun x).sched.forfeitCause = BitVec.ofNat 4 cause ∧
        (t.tun x).sched.forfeitSlot = q.slot ∧ OnlyTun x s t) ∧
    (∀ (id : BitVec 9) (scope incarn : Byte) n, u.svc.state = .full → u.svc.hold = .none_ → u.hasPort id.toNat = true →
      u.subjectOf id.toNat = some n → 2 ≤ scope.toNat → scope.toNat ≤ 6 → u.departedLately s.now n = false → u.bm.cmds = [] →
      u.bm.outstanding = [] → Answers (.peerDeparture x id scope incarn) s fun t =>
        (n, s.now) ∈ (t.tun x).plane.departures ∧ OnlyTun x s t) ∧
    (∀ port (p : Packet), Reaches u 0x21 p → 192 ≤ p.srcEp.toNat → p.srcEp.toNat < 224 → p.srcEp.toNat ≠ u.number → p.poison = false →
      2 ≤ (byteAt p.payload 2).toNat → (byteAt p.payload 2).toNat ≤ 6 → u.departedLately s.now (leAt p.payload 0 2) = false →
      u.bm.cmds = [] → u.bm.outstanding = [] → Answers (.fenceNoticeReceive x port p) s fun t =>
        (leAt p.payload 0 2, s.now) ∈ (t.tun x).plane.departures ∧ OnlyTun x s t)

/-- MGMT_REQUEST, READ_REQ_SERVE, ATOMIC_EXECUTE, SHARE_WRITE, RESPONSE_RECEIVE, CONTRIB_DATA_RECEIVE, CONTRIB_SIGNAL_RECEIVE,
PUSH_TILE_RECEIVE, PROXY_SEND, PROXY_REPLY_COLLECT and PROXY_TIMEOUT complete: a request is answered with the register's or the share's
bytes, an atomic add stores the sum and answers the old value, a write is read back, a response fills the read it answers and frees its
entry, a contribution joins its instance, and the proxy takes its frame to the Maltster and its reply back. A contribution that comes
before its command is kept (the model's choice, log entry 71). -/
def Obligations.TunConsumersComplete : Prop :=
  ∀ (s : State) (x : TunId),
    let u := s.tun x
    (∀ port (p : Packet), Reaches u 0x20 p → p.poison = false → (mgmtOp p).toNat = 1 → p.len = 0 →
      (let off := (p.addr.extractLsb' 0 48).toNat
       off < 0x1000000 → off ≠ 0x0D0014 → Answers (.mgmtRequest x port p) s fun t =>
        ∃ q, Queued u (t.tun x) [q] ∧ q.type = 0x20 ∧ q.dst = p.srcEp.setWidth 12 ∧ q.tag = p.tag ∧ mgmtOp q = 0x8001 ∧
          q.addr.extractLsb' 0 16 = 0 ∧ q.payload = (u.readAccess s.now .inband off 4).1 ∧ OnlyTun x s t)) ∧
    (∀ port (p : Packet), Reaches u 0x02 p → p.addr.getLsbD 63 = false → u.shareStatus p.ctx.toNat p.addr.toNat p.len.toNat = 0 →
      (let ps := u.shareReadP p.ctx.toNat p.addr.toNat p.len.toNat
       Answers (.readReqServe x port p) s fun t =>
        Queued u (t.tun x) [({ u.response p 0 (pbytes ps) with poison := anyPoison ps } : Packet).sealed] ∧ OnlyTun x s t)) ∧
    (∀ port (p : Packet), Reaches u 0x04 p → p.poison = false → byteAt p.payload 0 = 1 → byteAt p.payload 1 = 8 → p.addr.toNat % 8 = 0 →
      u.shareStatus p.ctx.toNat p.addr.toNat 8 = 0 → u.sharePoison p.ctx.toNat p.addr.toNat 8 = false → u.bm.wort.wf 0 = true →
      (let old := natLE (u.shareRead p.ctx.toNat p.addr.toNat 8)
       Answers (.atomicExecute x port p) s fun t =>
        (t.tun x).shareRead p.ctx.toNat p.addr.toNat 8 = bytesLE 8 (old + leAt p.payload 8 8) ∧
        Queued u (t.tun x) [u.response p 0 (bytesLE 8 old)] ∧ OnlyTun x s t)) ∧
    (∀ port (p : Packet), Reaches u 0x01 p → u.shareStatus p.ctx.toNat p.addr.toNat p.payload.length = 0 → u.bm.wort.wf 0 = true →
      p.addr.toNat % blockSize + p.payload.length ≤ blockSize → Answers (.shareWrite x port p) s fun t =>
        (t.tun x).shareRead p.ctx.toNat p.addr.toNat p.payload.length = p.payload ∧ OnlyTun x s t) ∧
    (∀ port (p : Packet) (c : Cmd) (o : OutReq) (f : Fetch) (l : Piece), Reaches u 0x03 p → u.bm.cmds = [c] → u.bm.outstanding = [o] →
      o.entry = (p.tag.extractLsb' 0 12).toNat → o.ctx = p.ctx.toNat → o.gen = p.tag.extractLsb' 12 4 → o.cmd = some c.id →
      p.addr.setWidth 16 = (0 : Half) → c.plan = [l] → c.fetches = [f] → f.entry = o.entry → f.host = false → f.data = none →
      l.len = p.payload.length → Answers (.responseReceive x port p) s fun t =>
        (t.tun x).bm.outstanding = [] ∧
        (t.tun x).bm.cmds = [{ c with fetches := [{ f with data := some p.payload, poison := p.poison }] }] ∧ OnlyTun x s t) ∧
    (∀ (p : Packet) (g : Group) forfeit,
      let a := p.addr
      let gn := (a.extractLsb' 52 12).toNat
      let inst := (a.extractLsb' 32 10).toNat
      let m := g.members.findIdx fun y => y.id == p.srcEp.toNat
      Reaches u 0x10 p → u.group gn = some g → (u.ctx g.ctx).state = .resident → p.ctx.toNat = g.ctx → m < g.members.length →
      a.extractLsb' 44 8 = g.gen → g.owns inst = true →
      (a.extractLsb' 42 2 = 0 → u.bm.cmds = [] → (g.place inst).cmd = none → (g.advance g.done.length).oldest = inst →
        Answers (.contribDataReceive x forfeit p) s fun t => ∃ g', (t.tun x).group gn = some g' ∧
          (g'.place inst).early = (g.place inst).early ++ [(m, (a.extractLsb' 0 32).toNat, p.payload, p.poison)] ∧ OnlyTun x s t) ∧
      (a.extractLsb' 42 2 = 1 → p.len = 8 → p.poison = false → (g.place inst).ready = [] →
        Answers (.contribSignalReceive x forfeit p) s fun t => ∃ g', (t.tun x).group gn = some g' ∧
          (g'.place inst).ready = [(m, leAt p.payload 0 4)] ∧ OnlyTun x s t) ∧
      (∀ (c : Cmd), a.extractLsb' 42 2 = 0 → u.bm.cmds = [c] → c.phase = .started → c.op = 0x48 → c.groupNo = gn → c.instanceNo = inst →
        (collOf c.desc).pushOp = 0x43 → g.members.length = 2 → c.produced = [] → u.mash.tiles = [] →
        (let f := collOf c.desc
         let r := f.tileElems 0x43 2 m (a.extractLsb' 0 32).toNat p.payload.length
         let own := u.ownElems g f 0x43
         r.1 < r.2 → own.1 ≤ r.1 → r.2 ≤ own.2 → Answers (.pushTileReceive x none false p) s fun t =>
          (t.tun x).mash.tiles = [⟨c.id, c.units.foldl min 7, m, (a.extractLsb' 0 32).toNat, p.payload, p.poison⟩] ∧ OnlyTun x s t))) ∧
    (u.reachable = true → u.proxy.busy = false → s.malt.alive = false → Answers (.proxySend x) s fun t =>
      (t.tun x).proxy = { u.proxy with done := false, busy := true } ∧ OnlyTun x s t) ∧
    (u.reachable = true → u.proxy.busy = false → s.malt.alive = true → (s.raw (.proxy x)).busy = false →
      parseReq u.proxyFrame = none → Answers (.proxySend x) s fun t =>
        (t.tun x).proxy = { u.proxy with done := false, busy := true } ∧
        Replied t (.raw (.proxy x)) ⟨(rawReq u.proxyFrame).seq, (rawReq u.proxyFrame).op, 0x0803, []⟩) ∧
    (∀ r, u.proxy.busy = true → s.malt.alive = true → (s.raw (.proxy x)).reply = some r → Answers (.proxyReplyCollect x) s fun t =>
      (t.tun x).proxy.busy = false ∧ (t.tun x).proxy.done = true ∧ (t.raw (.proxy x)).wasRead = true) ∧
    (u.proxy.busy = true → Answers (.proxyTimeout x) s fun t =>
      (t.tun x).proxy.busy = false ∧ (t.tun x).proxy.done = true ∧ OnlyTun x s t)

/-- GROUP_FORM, GROUP_REFORM, GROUP_DISBAND, ALL_REDUCE, REDUCE_SCATTER, ALL_GATHER, BROADCAST, ALL_TO_ALL, PUSH_COLLECTIVE, CHUNK_READY,
CHUNK_RACKING, PUSH_SPAN_END, TAP_GROUP_SET and TAP_CONTRIBUTION complete: a group is formed with its members, re-formed under its new
generation and disbanded; a collective that owns chunks takes its instance; a chunk whose inputs are ready is planned and, gathered, Racked;
the end of a span ends the push command; and a Tap slot is set and takes a contribution. -/
def Obligations.CollectiveCommandsComplete : Prop :=
  ∀ (s : State) (x : TunId) (c : Cmd),
    let u := s.tun x
    let d := c.desc
    let n := c.groupNo
    let i := c.instanceNo
    let f := collOf d
    (∀ ms, Alone u c → u.serving = true → c.phase = .started → c.op = 0x40 → u.groupList c (leAt d 56 4) (leAt d 60 4) = .ok ms → u.group n = none →
      u.mash.groups.length < 256 → Answers (.groupForm x c.id) s fun t =>
        (∃ g, (t.tun x).group n = some g ∧ g.members = ms ∧ g.gen = byteAt d 18 ∧ g.ctx = c.ctx ∧ g.queue = c.queue ∧ g.places = [] ∧
          g.landOff = leAt d 56 4 ∧ g.landBytes = leAt d 60 4) ∧
        Recorded u (t.tun x) c 0 0 0 ∧ OnlyTun x s t) ∧
    (∀ g ms, Alone u c → u.serving = true → c.phase = .started → c.op = 0x41 → u.ownGroup c = some g → byteAt d 18 ≠ g.gen →
      u.groupList c g.landOff g.landBytes = .ok ms → Answers (.groupReform x c.id) s fun t =>
        (t.tun x).group n = some { g with
          gen := byteAt d 18, tunMask := BitVec.ofNat 32 (leAt d 20 4), members := ms, places := [] } ∧
        Recorded u (t.tun x) c 0 0 0 ∧ OnlyTun x s t) ∧
    (∀ g, Alone u c → u.serving = true → c.phase = .started → c.op = 0x42 → u.ownGroup c = some g → Answers (.groupDisband x c.id) s fun t =>
      (t.tun x).group n = none ∧ Recorded u (t.tun x) c 0 0 0 ∧ OnlyTun x s t) ∧
    (∀ g, u.serving = true → u.cmd c.id = some c → c.phase = .started → u.group n = some g → u.holdsInstance c = false →
      0 < u.chunksOwned g f c.op →
      (c.op = 0x43 → TakesInstance s x c (.allReduce x c.id)) ∧ (c.op = 0x44 → TakesInstance s x c (.reduceScatter x c.id)) ∧
      (c.op = 0x45 → TakesInstance s x c (.allGather x c.id)) ∧ (c.op = 0x46 → TakesInstance s x c (.broadcast x c.id)) ∧
      (c.op = 0x47 → TakesInstance s x c (.allToAll x c.id))) ∧
    (∀ g, u.serving = true → u.cmd c.id = some c → c.phase = .started → c.op = 0x48 → u.group n = some g →
      Answers (.pushCollective x c.id) s fun t =>
      ∃ g', (t.tun x).group n = some g' ∧ (g'.place i).early = [] ∧ OnlyTun x s t) ∧
    (∀ g, u.serving = true → u.cmd c.id = some c → c.phase = .started → c.op = 0x43 → u.group n = some g → u.holdsInstance c = true → c.planned = false →
      ((u.chunkNeeds g c).all fun k => g.ready i c.progress k.1 k.2.1 k.2.2.1) = true → Answers (.chunkReady x c.id) s fun t =>
        ∃ e, (t.tun x).cmd c.id = some e ∧ e.planned = true ∧
          e.plan = ((u.chunkNeeds g c).flatMap fun k => (u.gatherPieces g c f.src k.1 k.2.1 k.2.2.1).map fun p => { p with tag := k.2.2.2 }) ∧
          OnlyTun x s t) ∧
    (∀ g, u.cmd c.id = some c → c.phase = .started → c.op = 0x43 → u.group n = some g → u.holdsInstance c = true → c.fetched = true →
      u.serving = true → c.progress + 1 < u.chunksOwned g f c.op → Answers (.chunkRacking x c.id) s fun t =>
        ∃ e, (t.tun x).cmd c.id = some e ∧ e.progress = c.progress + 1 ∧ e.planned = false ∧ e.fetches = [] ∧ OnlyTun x s t) ∧
    (Alone u c → u.serving = true → c.phase = .started → c.op = 0x48 → c.abort = none → f.notify = 0 → u.sched.outputs = [] →
      Answers (.pushSpanEnd x c.id) s fun t =>
        Recorded u (t.tun x) c (if u.pushWhole c then 0 else 0x0405) (u.endResults c).1 (u.endResults c).2 ∧ OnlyTun x s t) ∧
    (∀ ms, Alone u c → u.serving = true → c.phase = .started → c.op = 0x49 → byteAt d 21 = 1 → u.memberList c.ctx (leAt d 32 8) (leAt d 22 2) = .ok ms →
      ms.any (fun (m : Member) => m.tun) = false → u.mash.taps = [] → Answers (.tapGroupSet x c.id) s fun t =>
        (t.tun x).mash.taps = [((byteAt d 16).toNat,
          { gen := byteAt d 17, ctx := c.ctx, op := (byteAt d 18).toNat, type := (byteAt d 19).toNat, size := (byteAt d 20).toNat,
            members := ms.map fun (m : Member) => m.id, root := leAt d 24 2 })] ∧
        Recorded u (t.tun x) c 0 0 0 ∧ OnlyTun x s t) ∧
    (∀ (p : Packet) (k : TapSlot), u.serving = true → u.mash.tapQueue = [p] → u.mash.taps = [((p.addr.extractLsb' 56 8).toNat, k)] →
      p.addr.extractLsb' 48 8 = k.gen → k.members.idxOf p.srcEp.toNat < k.members.length → p.len.toNat = k.size → p.ctx.toNat = k.ctx →
      p.poison = false → p.addr.extractLsb' 32 16 = k.step → k.cur.any (fun e => e.1 == k.members.idxOf p.srcEp.toNat) = false →
      k.cur.length + 1 < k.members.length → Answers (.tapContribution x) s fun t =>
        (t.tun x).mash.tapQueue = [] ∧ (t.tun x).mash.taps = [((p.addr.extractLsb' 56 8).toNat,
          { k with cur := k.cur ++ [(k.members.idxOf p.srcEp.toNat, p.payload)] })] ∧ OnlyTun x s t)

/-- CASK_PLL_LOSS, SEQ_OPEN, SEQ_CLOSE, SEQ_LOCK, SEQ_UNLOCK, KV_APPEND, KV_FETCH, BATCH_STEP, PAGE_RELEASE, STEEP_DECODE and
STACK_OFFLINE complete: a batch step that passes its entry and page checks stages its entries with their staging read, a lock that is free
and an unlock by its holder are staged, a fetch stages the held rows and an attention its records, freed pages return, and a stack that
goes offline takes its sequences with it. -/
def Obligations.CellarCommandsComplete : Prop :=
  ∀ (s : State) (x : TunId),
    let u := s.tun x
    (∀ c : Cmd, u.serving = true → u.cmd c.id = some c → c.phase = .started →
      (let d := c.desc
       let k := (u.ctx c.ctx).pkey
       (c.op = 0x30 → u.cseq k (leAt d 16 4) = none → u.seqRoles (byteAt d 26) ≤ 65536 - u.seqEntries →
        StagesBatch s x c (u.batchOf c) (.seqOpen x c.id)) ∧
       (∀ q, c.op = 0x31 → u.cseq k (leAt d 16 4) = some q → q.lockedTo c.ctx = true →
        StagesBatch s x c (u.batchOf c) (.seqClose x c.id)) ∧
       (∀ es, c.op = 0x34 → u.entriesStart c (u.batchOf c) = .ok es →
        u.grant c.ctx k (es.filter fun e => !e.skip && e.action != 2) u.freePages [] (65536 - u.seqEntries) = [] →
        StagesBatch s x c (es.map (u.readStaging c)) (.kvAppend x c.id)) ∧
       (∀ es, c.op = 0x36 → u.entriesStart c (u.batchOf c) = .ok es →
        u.grant c.ctx k (es.filter fun e => !e.skip && e.action != 2) u.freePages [] (65536 - u.seqEntries) = [] →
        StagesBatch s x c (es.map (u.readStaging c)) (.batchStep x c.id)) ∧
       (∀ q, c.op = 0x32 → u.cseq k (leAt d 16 4) = some q → q.lost = false → q.holder = none → Answers (.seqLock x c.id) s fun t =>
        Staged (t.tun x) c 0 0 0 [] ∧ OnlyTun x s t) ∧
       (∀ q, c.op = 0x33 → u.cseq k (leAt d 16 4) = some q → q.lost = false → q.holder = some c.ctx →
        Answers (.seqUnlock x c.id) s fun t => Staged (t.tun x) c 0 0 0 [] ∧ OnlyTun x s t) ∧
       (∀ q, c.op = 0x35 → u.cseq k (leAt d 16 4) = some q → q.lost = false →
        (let rows := u.fetchRows q (byteAt d 20 == 1) (leAt d 22 2) (leAt d 24 4) (leAt d 28 4)
         let l := locOf (d.drop 32)
         rows.any (fun r => anyPoison r.2) = false → Answers (.kvFetch x c.id) s fun t =>
          Staged (t.tun x) c 0 0 0 (rows.flatMap fun r => u.locEffects c { l with addr := l.addr + BitVec.ofNat 64 r.1 } r.2) ∧
          OnlyTun x s t)) ∧
       (c.op = 0x50 → u.readsLost c = false → (steepOf d).merge = false → Answers (.steepDecode x c.id) s fun t =>
        (∃ e, (t.tun x).cmd c.id = some e ∧ e.phase = .staged ∧ e.status = 0 ∧
          e.effects = wortEffects c.ctx (steepOf d).out (u.steepRecords c)) ∧ OnlyTun x s t))) ∧
    (u.steepsRunning = [] → Answers (.pageRelease x) s fun t => (t.tun x).cellar = { u.cellar with freeing := [] } ∧ OnlyTun x s t) ∧
    (∀ (n : BitVec 3) (cause : BitVec 4), n.toNat < u.asm.casks → u.cellar.lostStacks.getLsbD n.toNat = false → 1 ≤ cause.toNat →
      cause.toNat ≤ 4 → u.svc.state = .full → u.svc.hold = .none_ → u.bm.cmds = [] → Answers (.stackOffline x n cause) s fun t =>
        (t.tun x).cellar.lostStacks.getLsbD n.toNat = true ∧
        (∀ q ∈ (t.tun x).cellar.seqs, q.pages.any (fun p => p.stack == n.toNat) = true → q.lost = true) ∧ OnlyTun x s t) ∧
    (∀ n : BitVec 3, n.toNat < u.asm.casks → u.cellar.lostStacks.getLsbD n.toNat = false → u.clk.caskLock.getLsbD n.toNat = true →
      u.bm.cmds = [] → Answers (.caskPllLoss x n) s fun t =>
        (t.tun x).clk.caskLock.getLsbD n.toNat = false ∧ (t.tun x).cellar.lostStacks.getLsbD n.toNat = true ∧ OnlyTun x s t)

/-- RACKING, TABLE_LOAD, GRIST_ENCODE, GRIST_DECODE, STREAM_OPEN, STREAM_CLOSE, STREAM_HEAD, LAUTER_STATE, POUR_PARAMS and SAMPLE_STEP
complete. Racking of a staged command publishes what it staged (a Wort write is read back, a free lock is taken, a stream is opened, a
table slot is bound, a parameter set stands) and writes its record; the opcodes stage their tokens, text and state records, and a sampling
step first takes its instance, then stages one record for each entry it owns. -/
def Obligations.TokenCommandsComplete : Prop :=
  ∀ (s : State) (x : TunId) (c : Cmd),
    let u := s.tun x
    let d := c.desc
    (Alone u c → c.phase = .staged → u.serving = true → c.ext = [] →
      (c.op = 0x00 → c.effects = [] → Answers (.racking x c.id) s fun t =>
        Recorded u (t.tun x) c c.status c.result0 c.result1 ∧ OnlyTun x s t) ∧
      (c.op = 0x04 → Answers (.racking x c.id) s fun t =>
        Recorded u (t.tun x) c 0 (BitVec.ofNat 64 s.now) u.sched.brew ∧ OnlyTun x s t) ∧
      (∀ off bs, c.op = 0x01 → c.effects = [.wort c.ctx off bs false] → u.bm.wort.wf 0 = true → off % blockSize + bs.length ≤ blockSize →
        Answers (.racking x c.id) s fun t => (t.tun x).shareRead c.ctx off bs.length = bs ∧
          Recorded u (t.tun x) c c.status c.result0 c.result1 ∧ OnlyTun x s t) ∧
      (∀ q, c.op = 0x32 → u.cseq (u.ctx c.ctx).pkey (leAt d 16 4) = some q → q.holder = none → q.orphaned = false →
        Answers (.racking x c.id) s fun t =>
          (t.tun x).cseq (u.ctx c.ctx).pkey (leAt d 16 4) = some { q with holder := some c.ctx } ∧
          Recorded u (t.tun x) c 0 0 0 ∧ OnlyTun x s t) ∧
      (c.op = 0x62 → (u.tstream (leAt d 16 2)).isOpen = false → Answers (.racking x c.id) s fun t =>
        (t.tun x).tstream (leAt d 16 2) = {
          ctx := c.ctx, isOpen := true, replace := (byteAt d 19).getLsbD 0, log2 := (byteAt d 18).setWidth 5,
          ring := BitVec.ofNat 64 (leAt d 24 8), tailAddr := BitVec.ofNat 64 (leAt d 32 8) } ∧
        Recorded u (t.tun x) c c.status c.result0 c.result1 ∧ OnlyTun x s t) ∧
      (c.op = 0x63 → (u.tstream (leAt d 16 2)).isOpen = true → (u.tstream (leAt d 16 2)).held = [] → u.token.streams.wf {} = true →
        Answers (.racking x c.id) s fun t => (t.tun x).tstream (leAt d 16 2) = { u.tstream (leAt d 16 2) with isOpen := false } ∧
          Recorded u (t.tun x) c 0 0 0 ∧ OnlyTun x s t) ∧
      (∀ b : Nat × Nat × Nat × Nat, c.op = 0x64 → byteAt d 17 ≠ 1 → c.binds = [b] → b.2.1 ≠ 0 → Answers (.racking x c.id) s fun t =>
        (t.tun x).tslot c.ctx (byteAt d 16).toNat = ⟨b.2.1, b.2.2.1, b.2.2.2⟩ ∧
        Recorded u (t.tun x) c c.status c.result0 c.result1 ∧ OnlyTun x s t) ∧
      (c.op = 0x67 → Answers (.racking x c.id) s fun t =>
        (let w (o : Nat) : Word := BitVec.ofNat 32 (leAt d o 4)
         Tab.get {} (t.tun x).token.params (c.ctx * 16 + (byteAt d 16).toNat) =
          ⟨byteAt d 17 == 1, leAt d 18 2, w 20, w 24, w 28, [w 32, w 36, w 40, w 44]⟩) ∧
        Recorded u (t.tun x) c c.status c.result0 c.result1 ∧ OnlyTun x s t)) ∧
    (u.serving = true → u.cmd c.id = some c → c.phase = .started →
      (c.op = 0x64 → byteAt d 17 = 1 → Answers (.tableLoad x c.id) s fun t => Staged (t.tun x) c 0 0 0 [] ∧ OnlyTun x s t) ∧
      (c.op = 0x64 → byteAt d 17 ≠ 1 →
        (let off := leAt d 20 4
         let len := leAt (u.shareRead c.ctx (off + 8) 4) 0 4
         let im := u.shareRead c.ctx off len
         (u.ctx c.ctx).inUsable off 64 = true → (u.ctx c.ctx).inUsable off len = true → u.sharePoison c.ctx off (max 64 len) = false →
         tableReason im = none → imgKind im ≠ 5 → u.bindOverlaps c.ctx (byteAt d 16).toNat off len = false →
         Answers (.tableLoad x c.id) s fun t =>
          Staged (t.tun x) { c with binds := [((byteAt d 16).toNat, imgKind im, off, len)] } 0 0 0 [] ∧ OnlyTun x s t)) ∧
      (∀ trie, c.op = 0x60 → c.fetched = true → anyPoison c.fetchedP = false →
        u.tablePoison c [(byteAt d 44).toNat, (byteAt d 45).toNat] = false → u.boundImage c (byteAt d 44).toNat = some trie →
        byteAt d 46 ≠ 2 →
        (let bs := pbytes c.fetchedP
         let r := utf8All (byteAt d 46).toNat bs.length 0 bs
         let toks := encodeItems trie (if byteAt d 45 = 0xFF then none else u.boundImage c (byteAt d 45).toNat) [] r.items
         toks.length ≤ leAt d 40 4 → Answers (.gristEncode x c.id) s fun t =>
          Staged (t.tun x) c 0 (BitVec.ofNat 64 toks.length) (BitVec.ofNat 48 r.bad)
            (wortEffects c.ctx (leAt d 36 4) (plain (tokenWords toks))) ∧ OnlyTun x s t)) ∧
      (∀ im, c.op = 0x61 → u.boundImage c (byteAt d 24).toNat = some im → u.sharePoison c.ctx (leAt d 16 4) (4 * leAt d 20 4) = false →
        u.tablePoison c [(byteAt d 24).toNat] = false →
        (let bs := u.shareRead c.ctx (leAt d 16 4) (4 * leAt d 20 4)
         let toks := (List.range (leAt d 20 4)).map fun i => leAt bs (4 * i) 4
         let text := toks.flatMap (tokenBytes im)
         (∀ k ∈ toks, k < imgVocab im) → text.length ≤ leAt d 32 4 → Answers (.gristDecode x c.id) s fun t =>
          Staged (t.tun x) c 0 (BitVec.ofNat 64 text.length) 0
            (if (byteAt d 25).getLsbD 0 then [.text (leAt d 26 2) text] else wortEffects c.ctx (leAt d 28 4) (plain text)) ∧
          OnlyTun x s t)) ∧
      (c.op = 0x62 → (u.tstream (leAt d 16 2)).isOpen = false → Answers (.streamOpen x c.id) s fun t =>
        Staged (t.tun x) c 0 0 0 [] ∧ OnlyTun x s t) ∧
      (c.op = 0x63 → Answers (.streamClose x c.id) s fun t => Staged (t.tun x) c 0 0 0 [] ∧ OnlyTun x s t) ∧
      (c.op = 0x65 → byteAt d 23 = 0xFF →
        (let off := leAt d 16 4 + 64 * leAt d 20 2
         let w (o : Nat) (bs : List Byte) : Effect := .wort c.ctx (off + o) bs false
         u.sharePoison c.ctx off 64 = false → Answers (.lauterState x c.id) s fun t =>
          Staged (t.tun x) c 0 (BitVec.ofNat 64 (leAt (u.shareRead c.ctx off 8) 0 8)) 0
            (if byteAt d 22 = 0 then [w 0 (bytesLE 4 (leAt d 24 4))]
             else if byteAt d 22 = 1 then [w 8 [0], w 12 (List.replicate 48 0)]
             else if byteAt d 22 = 2 then [w 4 (bytesLE 2 (leAt d 28 2) ++ [0, 0])]
             else [w 4 [0xFF, 0xFF, 0, 0]]) ∧ OnlyTun x s t)) ∧
      (c.op = 0x67 → Answers (.pourParams x c.id) s fun t => Staged (t.tun x) c 0 0 0 [] ∧ OnlyTun x s t) ∧
      (∀ g, c.op = 0x66 → u.group c.groupNo = some g →
        (g.places = [] → g.oldest = c.instanceNo → u.sampleOwn c g ≠ [] → Answers (.sampleStep x c.id) s fun t =>
          (∃ g', (t.tun x).group c.groupNo = some g' ∧ (g'.place c.instanceNo).cmd = some c.id) ∧ (t.tun x).cmd c.id = some c ∧
          OnlyTun x s t) ∧
        ((g.place c.instanceNo).cmd = some c.id → c.fetched = true →
          u.tablePoison c ((sampleDecode c).toList ++ (sampleList c).toList ++ (sampleAuto c).toList) = false →
          anyPoison c.fetchedP = false → c.fetches.any (·.poison) = false →
          (∀ e ∈ u.sampleOwn c g, e.lslot = 0xFFFF) → Answers (.sampleStep x c.id) s fun t =>
            (let es := u.sampleOwn c g
             ∃ e, (t.tun x).cmd c.id = some e ∧ e.phase = .staged ∧ e.result1 = BitVec.ofNat 48 es.length ∧
              e.effects = (List.range es.length).flatMap fun i => (es[i]?).toList.flatMap fun k =>
                u.sampleOutputs c g k (u.sampleEntry c k (c.tables.getD i []) (c.logitsOf g.members.length i))) ∧
            OnlyTun x s t))) ∧
    (∀ (n : Byte) (i : Word), u.svc.hold = .none_ → u.svc.state = .full → (u.tstream n.toNat).isOpen = true →
      (i - (u.tstream n.toNat).head).toNat ≤ ((u.tstream n.toNat).tail - (u.tstream n.toNat).head).toNat →
      Answers (.streamHead x n i) s fun t => (t.tun x).tstream n.toNat = { u.tstream n.toNat with head := i } ∧ OnlyTun x s t)

/-- BREW_BOUNDARY, KEEPER_MARK_SEND, BREW_MARK_RECEIVE, BREW_MARK_TAKE, ALIGN_LOSS, ENGINE_CIRCUIT_SEND, TIMED_STEP_START, STEP_BUDGET_END
and BINDING_START complete: a boundary moves the counter on, the keeper sends its marker with its offset, a native marker is kept and then
taken, alignment lost on a running plane is due a release, a slot takes an engine's output, and timed steps and bindings start the commands
of their queues on their own units. -/
def Obligations.BrewEventsComplete : Prop :=
  ∀ (s : State) (x : TunId),
    let u := s.tun x
    (u.sched.counting = true → u.sched.plane = .stopped → u.sched.releaseDue = none → Answers (.brewBoundary x) s fun t =>
      (t.tun x).sched.brew = u.sched.brew + 1 ∧ (t.tun x).sched.boundary = s.now ∧ (t.tun x).sched.markerOk = u.sched.taken ∧
      (t.tun x).sched.taken = false ∧ (t.tun x).sched.best = none ∧ OnlyTun x s t) ∧
    (∀ id, u.serving = true → u.isKeeper = true → u.refOk = true → u.sched.counting = true → u.markPorts = [id] → (u.port id).link = .linked →
      Answers (.keeperMarkSend x) s fun t => SentFlit u (t.tun x) id ftMark
        (markPayload u.sched.brew (BitVec.ofNat 8 u.row) (BitVec.ofNat 8 u.col.num) (BitVec.ofNat 8 u.row) (BitVec.ofNat 8 u.col.num) 0
          (BitVec.ofInt 32 ((s.now : Int) - u.sched.boundary))) ∧ OnlyTun x s t) ∧
    (∀ (id : BitVec 9) b, u.serving = true → u.portUp id.toNat = true → (u.port id.toNat).genNow = false → u.sched.counting = true →
      u.markNative (markOf s.now id.toNat b) = true → u.isKeeper = false → u.sched.taken = false → u.sched.best = none →
      Answers (.brewMarkReceive x id b) s fun t =>
        (t.tun x).sched = { u.sched with best := some (markOf s.now id.toNat b) } ∧ OnlyTun x s t) ∧
    (∀ m, u.serving = true → u.sched.best = some m → u.isKeeper = false → Answers (.brewMarkTake x) s fun t =>
      (t.tun x).sched.taken = true ∧ (t.tun x).sched.best = none ∧ (t.tun x).sched.parent = BitVec.ofNat 9 m.port ∧
      (t.tun x).sched.hops = BitVec.ofNat 4 (m.hops.toNat + 1) ∧ (t.tun x).sched.missedRun = 0 ∧ OnlyTun x s t) ∧
    (u.sched.aligned = true → u.isKeeper = false → Answers (.alignLoss x) s fun t =>
      (t.tun x).sched.aligned = false ∧ (u.sched.plane = .running → (t.tun x).sched.releaseDue = some 0x0709) ∧ OnlyTun x s t) ∧
    (∀ (n : Nat) (r : Recipe) (w : Dword) (o : EngineOut),
      let q := ({ o.pkt with circuit := true, slot := BitVec.ofNat 14 (cirSlot w) } : Packet).sealed
      u.sched.inForce = some r → r.circuits[n]? = some w → cirKind w = 2 → cirPackets w = 1 → u.suspended w = false →
      u.sched.outputs = [o] → o.unit = cirIn w → o.port = cirOut w → o.pkt.dst.toNat = cirPeer w → u.pkeyEgress (cirOut w) q = true →
      (u.port (cirOut w)).genNow = false → (u.port (cirOut w)).link = .linked → (u.port (cirOut w)).up = true →
      (u.port (cirOut w)).txq = [] → (u.port (cirOut w)).replayFull = false → q.payload.length ≤ 212 →
      Answers (.engineCircuitSend x n) s fun t =>
        (t.tun x).sched.outputs = [] ∧ SentFlit u (t.tun x) (cirOut w) 0x1 (flitPayload (q.header ++ q.payload)) ∧ OnlyTun x s t) ∧
    (∀ (n : Nat) (r : Recipe) (w : Dword) p,
      let f := u.fetchNext (stepQueue w) [] false
      u.startsCommands = true → u.sched.inForce = some r → r.steps[n]? = some w → (u.ctx (stepCtx w)).state = .resident → (u.queue (stepQueue w)).valid = true →
      (u.queue (stepQueue w)).held ≠ 0 → u.sched.runSteps = [] → u.bm.held = [] → u.bm.cmds = [] →
      (f.2.modCmd f.1.id fun k => { k with timed := true }).timedChecks { f.1 with timed := true } = .ok p →
      Answers (.timedStepStart x n) s fun t =>
        (t.tun x).sched.runSteps = [⟨stepUnit w, u.bm.nextCmd, false⟩] ∧
        (∃ c, (t.tun x).bm.cmds = [c] ∧ c.id = u.bm.nextCmd ∧ c.queue = stepQueue w ∧ c.phase = .started ∧ c.timed = true ∧
          c.units = [stepUnit w]) ∧ OnlyTun x s t) ∧
    (∀ (id un : Nat), u.sched.runSteps = [⟨un, id, false⟩] → u.sched.outputs = [] → Answers (.stepBudgetEnd x id) s fun t =>
      (t.tun x).sched.runSteps = [⟨un, id, true⟩] ∧ (t.tun x).sched.stepOverrun = satInc u.sched.stepOverrun ∧ OnlyTun x s t) ∧
    (∀ (n : Nat) (r : Recipe) (w : Dword) (g : Group) (c : Cmd) p,
      u.startsCommands = true → u.sched.inForce = some r → r.bindings[n]? = some w → u.group (bindGroup w) = some g → u.bm.cmds = [c] → c.queue = g.queue →
      c.running = false → c.op = 0x48 → (u.ctx (bindCtx w)).pin = true →
      (u.modCmd c.id fun k => { k with timed := true }).timedChecks { c with timed := true } = .ok p →
      Answers (.bindingStart x n) s fun t =>
        (t.tun x).sched.runBinds = u.sched.runBinds ++ [(c.id, bindPipes w)] ∧
        (∃ e, (t.tun x).bm.cmds = [e] ∧ e.id = c.id ∧ e.phase = .started ∧ e.timed = true ∧ e.units = pipeList (bindPipes w)) ∧
        OnlyTun x s t)

/-- RECIPE_LOAD, RECIPE_LOAD_DONE, BREW_START, BREW_STOP, SHADOW_DISCARD, ARM_CHECK, ARM_RECHECK, ARMED_BREW_BEGIN and PLANE_RELEASE complete:
a load reads the image through the host port and ends with the shadow valid or its status and REASON, a start that no check refuses arms
the plane, a peer that does not agree moves ARM_STATE to 2, Brew F makes the armed Recipe the loaded one, a stop ends the run at its Brew,
and a release that is due leaves the plane STOPPED with its status. -/
def Obligations.PlaneCommandsComplete : Prop :=
  ∀ (s : State) (x : TunId),
    let u := s.tun x
    (u.svc.hold = .none_ → u.svc.state = .full → u.rack.gensel = true →
      (u.sched.loading = none → u.sched.startBrew = none → u.hostReads (some 0) = true → Answers (.recipeLoad x none) s fun t =>
        (t.tun x).sched.loading = some .reg ∧ (t.tun x).sched.loadSrc = u.sched.recipeSrc ∧
        (t.tun x).out = u.out ++ [.hostRead 0 0 u.sched.recipeSrc.toNat 64] ∧ OnlyTun x s t) ∧
      (u.startRefusal u.sched.brewTarget = none → u.sched.plane = .stopped → Answers (.brewStart x none) s fun t =>
        (t.tun x).sched.plane = .armed ∧ (t.tun x).sched.startBrew = some u.sched.brewTarget ∧ (t.tun x).sched.armState = 1 ∧
        OnlyTun x s t) ∧
      (u.sched.plane = .running → Answers (.brewStop x none) s fun t =>
        (t.tun x).sched = { u.sched with
          plane := .stopping, lastStatus := 0,
          stopBrew := some (if u.sched.brewTarget.toNat ≤ u.sched.brew.toNat then u.sched.brew + 1 else u.sched.brewTarget) } ∧
        OnlyTun x s t) ∧
      (u.sched.startBrew = none → Answers (.shadowDiscard x none) s fun t =>
        (t.tun x).sched = { u.sched with shadow := none, shadowValid := false, lastStatus := 0 } ∧ OnlyTun x s t)) ∧
    (∀ c : Cmd, Alone u c → u.serving = true → c.phase = .started →
      (c.op = 0x20 → u.sched.loading = none → u.sched.startBrew = none → u.hostReads (some 0) = true →
        Answers (.recipeLoad x (some c.id)) s fun t => (t.tun x).sched.loading = some (.cmd c.id) ∧
          (t.tun x).out = u.out ++ [.hostRead 0 0 (leAt c.desc 16 8) 64] ∧ OnlyTun x s t) ∧
      (c.op = 0x23 → u.sched.loading = none → u.sched.startBrew = none → u.sched.shadowValid = true →
        Answers (.shadowDiscard x (some c.id)) s fun t =>
          (t.tun x).sched.shadow = none ∧ (t.tun x).sched.shadowValid = false ∧ Recorded u (t.tun x) c 0 0 0 ∧ OnlyTun x s t)) ∧
    (u.sched.loading = some .reg →
      (Answers (.recipeLoadDone x none) s fun t =>
        (t.tun x).sched = { u.sched with loading := none, loadStatus := 0x0704, loadReason := 1 } ∧ OnlyTun x s t) ∧
      (∀ im, u.headerCheck im = none → u.recordCheck im (Recipe.ofImage im) = none → Answers (.recipeLoadDone x (some im)) s fun t =>
        (t.tun x).sched = { u.sched with
          loading := none, shadow := some (Recipe.ofImage im), shadowValid := true, loadStatus := 0, loadReason := 0 } ∧
        OnlyTun x s t)) ∧
    (∀ (f : BitVec 48) (as : List ArmAnswer) id, u.sched.startBrew = some f → id ∈ u.armPeers →
      (as.find? (fun a => a.port == id) = none → Answers (.armCheck x as) s fun t => (t.tun x).sched.armState = 2 ∧ OnlyTun x s t) ∧
      (∀ a ∈ as, a.port = id → a.state = 2 → Answers (.armRecheck x as) s fun t =>
        (t.tun x).sched.armState = 2 ∧ OnlyTun x s t)) ∧
    (∀ r, u.sched.plane = .armed → u.sched.startBrew = some u.sched.brew → u.sched.armState = 1 → u.sched.starter = .reg →
      u.sched.toArm = some r → u.bindingsReady r = true → Answers (.armedBrewBegin x) s fun t =>
        (t.tun x).sched.plane = .running ∧ (t.tun x).sched.loaded = some r ∧ (t.tun x).sched.startBrew = none ∧
        (t.tun x).sched.armState = 0 ∧ (t.tun x).sched.lastStatus = 0 ∧ OnlyTun x s t) ∧
    (u.sched.startBrew = none → u.sched.runBinds = [] → u.bm.cmds = [] →
      (∀ st, u.sched.releaseDue = some st → u.sched.plane = .running → Answers (.planeRelease x) s fun t =>
        (t.tun x).sched = { u.sched with plane := .stopped, lastStatus := st, stopBrew := none, releaseDue := none } ∧ OnlyTun x s t) ∧
      (∀ b, u.sched.releaseDue = none → u.sched.plane = .stopping → u.sched.stopBrew = some b → b.toNat ≤ u.sched.brew.toNat →
        Answers (.planeRelease x) s fun t =>
          (t.tun x).sched = { u.sched with plane := .stopped, stopBrew := none } ∧ OnlyTun x s t))

/-- HOST_LINK_TRAIN, HOST_DIRECTED_RETRAIN, HOST_PERST, HOST_LINK_LOSS, VF_FLR, PF_FLR, SRIOV_NUMVFS_WRITE, VF_DOORBELL_WRITE, VF_BAR2_WRITE,
PF_WORT_WINDOW_WRITE, HOST_READ_COMPLETION and MSIX_UNMASK complete: the link comes up with the host's configuration and goes down with
PORT_LOST, a function's reset resets what is its own, a doorbell page moves the indices its context owns, the two windows write Wort, a
completion fills its read, and an unmasked pending vector is sent once. -/
def Obligations.HostPortEventsComplete : Prop :=
  ∀ (s : State) (x : TunId),
    let u := s.tun x
    (∀ (cfg : HostCfg) (speed : BitVec 4) (width : BitVec 6) flit, speedOk speed = true → widthOk width = true →
      (let v : BitVec 4 := if speed = 6 ∧ u.cellar.opened = false then 5 else speed
       let h := { u.host with
         linkUp := true, speed := v, width := width, flitMode := flit || v == 6,
         busMaster := if u.svc.fwRunning then cfg.busMaster else u.host.busMaster,
         d3hot := if u.svc.fwRunning then cfg.d3hot else u.host.d3hot,
         msixEnable := if u.svc.fwRunning then cfg.msixEnable else u.host.msixEnable }
       (u.svc.state ≠ .off → u.svc.hold ≠ .cold → u.host.perst = false → u.host.linkUp = false →
        Answers (.hostLinkTrain x cfg speed width flit) s fun t => (t.tun x).host = h ∧ OnlyTun x s t) ∧
       (u.host.linkUp = true → Answers (.hostDirectedRetrain x cfg speed width flit) s fun t => (t.tun x).host = h ∧ OnlyTun x s t))) ∧
    (Answers (.hostPerst x true) s fun t =>
      (t.tun x).host = { u.host with
        perst := true, linkUp := false, lost := true, speed := 0, width := 0, flitMode := false, numVfs := 0, vfEnable := false,
        busMaster := 0, d3hot := 0, msixEnable := 0, masked := [], pendingBits := [] } ∧ OnlyTun x s t) ∧
    (Answers (.hostPerst x false) s fun t => (t.tun x).host = { u.host with perst := false } ∧ OnlyTun x s t) ∧
    (u.host.linkUp = true → u.sched.loading = none → u.bm.streaming = none → u.bm.cmds = [] → Answers (.hostLinkLoss x) s fun t =>
      (t.tun x).host = { u.host with linkUp := false, lost := true, speed := 0, width := 0, flitMode := false } ∧ OnlyTun x s t) ∧
    (∀ (n : BitVec 5) c, u.vfExists n.toNat = true → u.slotCtx (n.toNat - 1) = some c → (u.ctx c).state = .faulted → u.bm.cmds = [] →
      Answers (.vfFlr x n) s fun t =>
        (t.tun x).ctx c = { u.ctx c with state := .resident, gen := (u.ctx c).gen + 1 } ∧ (t.tun x).host.busMaster.getLsbD n.toNat = false ∧
        (t.tun x).host.msixEnable.getLsbD n.toNat = false ∧ OnlyTun x s t) ∧
    (u.host.linkUp = true → u.svc.state ≠ .off → u.svc.hold = .none_ → u.svc.mgmtUp = true → Answers (.pfFlr x) s fun t =>
      (t.tun x).svc.hold = .warm ∧ (t.tun x).svc.pendCause = 6 ∧ (t.tun x).host.numVfs = 0 ∧ (t.tun x).host.vfEnable = false ∧
      (t.tun x).host.busMaster = 0 ∧ OnlyTun x s t) ∧
    (∀ n e, u.host.linkUp = true → Answers (.sriovNumvfsWrite x n e) s fun t =>
      (t.tun x).host = (if u.svc.fwRunning then { u.host with numVfs := n, vfEnable := e && n == 16 } else u.host) ∧ OnlyTun x s t) ∧
    (∀ (vf : BitVec 5) (off : Half) (v : Dword), u.vfExists vf.toNat = true → u.windowsOpen = true → off.toNat % 8 = 0 →
      (let k := off.toNat / 8
       let i : Half := v.setWidth 16
       let own (c : Nat) : Prop := some c = u.slotCtx (vf.toNat - 1)
       (0 < k → k < 1024 → (u.queue k).valid = true → own (u.queue k).ctx.toNat → i ≠ (u.queue k).p →
        (i - (u.queue k).p).toNat ≤ queueFree k (u.queue k) → u.bm.cmds = [] → Answers (.vfDoorbellWrite x vf off 4 v) s fun t =>
          (t.tun x).queue k = { u.queue k with p := i } ∧ OnlyTun x s t) ∧
       (1024 ≤ k → k < 2048 → (u.ring (k - 1024)).valid = true → own (u.ring (k - 1024)).ctx.toNat →
        (i - (u.ring (k - 1024)).head).toNat ≤ (u.ring (k - 1024)).unconsumed → Answers (.vfDoorbellWrite x vf off 4 v) s fun t =>
          (t.tun x).ring (k - 1024) = { u.ring (k - 1024) with head := i } ∧ OnlyTun x s t) ∧
       (2048 ≤ k → k < 2304 → (u.tstream (k - 2048)).isOpen = true → own (u.tstream (k - 2048)).ctx →
        (v.setWidth 32 - (u.tstream (k - 2048)).head).toNat ≤ ((u.tstream (k - 2048)).tail - (u.tstream (k - 2048)).head).toNat →
        Answers (.vfDoorbellWrite x vf off 4 v) s fun t =>
          (t.tun x).tstream (k - 2048) = { u.tstream (k - 2048) with head := v.setWidth 32 } ∧ OnlyTun x s t) ∧
       (0 < k → k < 1024 → (¬ ((u.queue k).valid = true ∧ own (u.queue k).ctx.toNat)) → Answers (.vfDoorbellWrite x vf off 4 v) s fun t =>
          (t.tun x).host.vfRefused = satInc u.host.vfRefused ∧ (t.tun x).queue k = u.queue k ∧ OnlyTun x s t))) ∧
    (∀ (vf : BitVec 5) (off : Nat) (bs : List Byte) c, u.vfExists vf.toNat = true → u.windowsOpen = true → off + bs.length ≤ 2 ^ 29 →
      bs.length ≤ 512 → u.slotCtx (vf.toNat - 1) = some c →
      ((u.ctx c).inUsable off bs.length = true → u.bm.wort.wf 0 = true → off % blockSize + bs.length ≤ blockSize →
        Answers (.vfBar2Write x vf off bs) s fun t => (t.tun x).shareRead c off bs.length = bs ∧ OnlyTun x s t) ∧
      ((u.ctx c).inUsable off bs.length = false → Answers (.vfBar2Write x vf off bs) s fun t =>
        (t.tun x).bm.wort = u.bm.wort ∧ (t.tun x).host.vfRefused = satInc u.host.vfRefused ∧ OnlyTun x s t)) ∧
    (∀ (off : Nat) (bs : List Byte), u.host.linkUp = true → u.windowsOpen = true → off + bs.length ≤ 2 ^ 29 → bs.length ≤ 512 →
      u.bm.wort.wf 0 = true → Answers (.pfWortWindowWrite x off bs) s fun t =>
        (∀ i, i < bs.length → (t.tun x).wortByte (off + i) = if off + i < 32 * blockSize then u.wortByte (off + i) else byteAt bs i) ∧
        OnlyTun x s t) ∧
    (∀ (c : Cmd) (f : Fetch) (p : Piece) bs, u.bm.cmds = [c] → c.plan = [p] → c.fetches = [f] → f.host = true → f.data = none →
      u.hostReads (u.cmdFn c) = true → bs.length = p.len → Answers (.hostReadCompletion x (65536 * (c.id + 1)) (some bs)) s fun t =>
        (t.tun x).bm.cmds = [{ c with fetches := [{ f with data := some bs }] }] ∧ OnlyTun x s t) ∧
    (∀ (fn : BitVec 5) (vec : BitVec 10),
      let k := fn.toNat * 1024 + vec.toNat
      fn.toNat ≤ 16 → (fn ≠ 0 → vec.toNat < 64 ∧ u.host.vfEnable = true) → u.host.linkUp = true → u.host.lost = false →
      (u.host.pendingBits.contains k = true → u.host.msixEnable.getLsbD fn.toNat = true → u.host.d3hot.getLsbD fn.toNat = false →
        Answers (.msixUnmask x fn vec false) s fun t =>
          (t.tun x).out = u.out ++ [.hostMsi fn.toNat vec.toNat] ∧ (t.tun x).host.pendingBits.contains k = false ∧
          (t.tun x).host.masked.contains k = false ∧ OnlyTun x s t) ∧
      (Answers (.msixUnmask x fn vec true) s fun t => (t.tun x).host.masked.contains k = true ∧ OnlyTun x s t))

/-- ERROR_DETECT, SPARGE_SCRUB, CASK_CALIBRATION, CASK_TEMPERATURE_READ, CASK_SELF_REFRESH_ENTRY, SERDES_RECAL and JUNCTION_TEMP_SAMPLE
complete: an error is logged and acted on by its class, a scrub advances its pass, a calibration or recalibration that meets a running
Recipe or a stack in self-refresh waits, and the readings are kept. -/
def Obligations.ReliabilityEventsComplete : Prop :=
  ∀ (s : State) (x : TunId),
    let u := s.tun x
    let runs := u.backgroundRuns = true
    (∀ (src : Byte) (cls : BitVec 3) (a : ErrAt), errClassOk src.toNat cls.toNat = true → u.reachable = true → u.svc.hold = .none_ →
      (cls = 0 → Answers (.errorDetect x src cls a) s fun t =>
        t.tun x = (u.logError s.now src 0 a).writeBack src.toNat a.addr.toNat ∧ (t.tun x).err.classes.getLsbD 0 = true ∧ OnlyTun x s t) ∧
      (cls = 1 → u.unitPoisoned src.toNat a.addr.toNat = false → Answers (.errorDetect x src cls a) s fun t =>
        (t.tun x).unitPoisoned src.toNat a.addr.toNat = true ∧ (t.tun x).err.next = u.err.next + 1 ∧ OnlyTun x s t) ∧
      (cls = 2 → src = 6 → Answers (.errorDetect x src cls a) s fun t =>
        (t.tun x).sched.shadowValid = false ∧ (t.tun x).sched.storeBad = u.sched.loaded.isSome ∧
        (u.sched.plane = .running → (t.tun x).sched.releaseDue = some 0x0704) ∧ OnlyTun x s t) ∧
      (cls = 4 → u.svc.state ≠ .fenced → Answers (.errorDetect x src cls a) s fun t =>
        (t.tun x).svc.state = .fenced ∧ (t.tun x).svc.fenceCause = 3 ∧ OnlyTun x s t) ∧
      (cls = 5 → u.svc.fatalEnd = none → Answers (.errorDetect x src cls a) s fun t =>
        (t.tun x).svc.hold = .warm ∧ (t.tun x).svc.pendCause = 5 ∧ OnlyTun x s t)) ∧
    (∀ (n : BitVec 3) (k : Nat), runs → u.cellar.opened = true → n.toNat < u.asm.casks → u.cellar.lostStacks.getLsbD n.toNat = false →
      u.rel.selfRefresh.getLsbD n.toNat = false → u.rel.scrubOff = false → 0 < k → Tab.get 0 u.rel.scrubPos n.toNat + k < stackUnits →
      Answers (.spargeScrub x (some n) k []) s fun t =>
        Tab.get 0 (t.tun x).rel.scrubPos n.toNat = Tab.get 0 u.rel.scrubPos n.toNat + k ∧ OnlyTun x s t) ∧
    (∀ k : Nat, runs → 0 < k → Tab.get 0 u.rel.scrubPos 8 + k < wortUnits → Answers (.spargeScrub x none k []) s fun t =>
      Tab.get 0 (t.tun x).rel.scrubPos 8 = Tab.get 0 u.rel.scrubPos 8 + k ∧ OnlyTun x s t) ∧
    (∀ n : BitVec 3, runs → u.cellar.opened = true → n.toNat < u.asm.casks → u.cellar.lostStacks.getLsbD n.toNat = false →
      Answers (.caskCalibration x n) s fun t =>
        (t.tun x).rel.calPending.getLsbD n.toNat = (u.rel.selfRefresh.getLsbD n.toNat || (u.recipeRuns && !(u.inAngel s.now))) ∧
        OnlyTun x s t) ∧
    (∀ (n : BitVec 3) (v : Half), u.svc.state ≠ .off → u.svc.hold = .none_ → n.toNat < u.asm.casks →
      u.cellar.lostStacks.getLsbD n.toNat = false → v ≠ 0 →
      (v.toInt ≤ 840 → Answers (.caskTemperatureRead x n v) s fun t => Tab.get 0 (t.tun x).rel.temps n.toNat = v ∧ OnlyTun x s t) ∧
      (840 < v.toInt → Answers (.caskTemperatureRead x n v) s fun t =>
        (t.tun x).cellar.lostStacks.getLsbD n.toNat = true ∧ OnlyTun x s t)) ∧
    (∀ n : BitVec 3, runs → u.cellar.opened = true → n.toNat < u.asm.casks → u.cellar.lostStacks.getLsbD n.toNat = false →
      u.stackReserved n.toNat = false → Answers (.caskSelfRefreshEntry x n) s fun t => (t.tun x).rel.selfRefresh.getLsbD n.toNat = true ∧ OnlyTun x s t) ∧
    (∀ id : BitVec 9, u.svc.state ≠ .off → u.svc.hold = .none_ → u.hasPort id.toNat = true → (u.port id.toNat).link = .linked →
      Answers (.serdesRecal x id) s fun t =>
        (t.tun x).rel.recalPending.contains id.toNat =
          ((u.port id.toNat).rxNapped || (u.circuitNames id.toNat && !(u.inAngel s.now))) ∧ OnlyTun x s t) ∧
    (∀ rs, u.svc.state ≠ .off → u.svc.hold ≠ .cold → rs.length = 8 → Answers (.junctionTempSample x rs) s fun t =>
      (t.tun x).junction.now = maxReading rs ∧ (t.tun x).junction.sampled = true ∧
      (maxReading rs).toInt ≤ (t.tun x).junction.peak.toInt ∧ OnlyTun x s t)

/-- SNAP, HYD_VALUE_LO_READ, HYD_RING_HEAD, HYD_CONFIG_WRITE, EXPORT_ROUND and EXPORT_CONTINUE complete: a snapshot copies the live values and
starts the peaks again, a read of the low word latches the high one for its path, a round that is due takes a snapshot and emits its
records on the host ring, and what is left follows in the next share. -/
def Obligations.HydrometerCommandsComplete : Prop :=
  ∀ (s : State) (x : TunId),
    let u := s.tun x
    (u.svc.hold = .none_ → u.svc.state ≠ .off →
      (u.hyd.left = [] → Answers (.snap x) s fun t => t.tun x = u.snapshot ∧
        (t.tun x).hyd.tempPeak = (if u.junction.sampled then some u.junction.now else none) ∧ OnlyTun x s t) ∧
      (∀ p, Answers (.hydValueLoRead x p) s fun t =>
        (let hi : Word := u.hydRead.extractLsb' 32 32
         (t.tun x).hyd = match p with
          | .pcie => { u.hyd with hiPcie := hi }
          | .inband => { u.hyd with hiInband := hi }
          | .sideband => { u.hyd with hiSideband := hi }) ∧ OnlyTun x s t) ∧
      (∀ i : Half, u.hyd.ringValid = true → (i - u.hyd.head).toNat ≤ (u.hyd.tail - u.hyd.head).toNat →
        Answers (.hydRingHead x i) s fun t => (t.tun x).hyd = { u.hyd with head := i } ∧ OnlyTun x s t) ∧
      (∀ v : Word, u.hyd.ringValid = false →
        (Answers (.hydConfigWrite x 1 v) s fun t =>
          (t.tun x).hyd = { u.hyd with ringAddr := u.hyd.ringAddr.extractLsb' 32 32 ++ v } ∧ OnlyTun x s t) ∧
        (Answers (.hydConfigWrite x 2 v) s fun t =>
          (t.tun x).hyd = { u.hyd with ringAddr := v ++ u.hyd.ringAddr.extractLsb' 0 32 } ∧ OnlyTun x s t) ∧
        (v.getLsbD 31 = true → ringRange u.hyd.ringAddr (v.extractLsb' 24 5) (v.extractLsb' 0 11) = true →
          Answers (.hydConfigWrite x 0 v) s fun t =>
            (t.tun x).hyd = { u.hyd with
              ringValid := true, ringInt := v.getLsbD 30, ringLog2 := v.extractLsb' 24 5, ringVector := v.extractLsb' 0 11, tail := 0,
              head := 0 } ∧ OnlyTun x s t)) ∧
      (∀ v : Word, (v.extractLsb' 0 10).toNat < 192 → Answers (.hydConfigWrite x 3 v) s fun t =>
        (t.tun x).hyd = { u.hyd with destValid := v.getLsbD 31, dest := v.extractLsb' 0 10 } ∧ OnlyTun x s t)) ∧
    (u.counts = true → u.roundDue = true →
      (u.hyd.left ≠ [] → Answers (.exportRound x) s fun t =>
        (t.tun x).hyd = { u.hyd with roundSkipped := satInc u.hyd.roundSkipped } ∧ OnlyTun x s t) ∧
      (u.hyd.left = [] → u.hyd.exportEn = false → u.hyd.ringEn = true → u.hyd.ringValid = true → u.hyd.ringInt = false →
        Answers (.exportRound x) s fun t =>
          (t.tun x).hyd.round = u.hyd.round + 1 ∧ (t.tun x).hyd.snap = u.snapshot.hyd.snap ∧ (t.tun x).hyd.onRing = true ∧
          OnlyTun x s t)) ∧
    (∀ r, u.counts = true → u.hyd.left = [r] → u.hyd.onInband = false → u.hyd.onRing = true → u.hyd.ringInt = false →
      u.hyd.dropping = false → (u.hyd.tail - u.hyd.head).toNat ≠ u.hyd.ringDepth - 1 → u.hostReach 0 = true → u.host.lost = false →
      Answers (.exportContinue x) s fun t =>
        (t.tun x).out = u.out ++ [.hostWrite 0 (u.hyd.ringAddr.toNat + 32 * (u.hyd.tail.toNat % u.hyd.ringDepth))
          (r.take 31 ++ [if u.hyd.tail.toNat / u.hyd.ringDepth % 2 = 0 then 0x80 else 0]) false] ∧
        (t.tun x).hyd = { u.hyd with left := [], tail := u.hyd.tail + 1 } ∧ OnlyTun x s t)

/-- A doorbell on a valid queue, by its register or by a KIND 0 word of a packet that may submit there, has the outcome of Table 13-3 whatever
commands the Tun holds: the four rows cover every index. -/
def Obligations.ProducerDoorbellTable : Prop :=
  ∀ (s : State) (x : TunId),
    let u := s.tun x
    (∀ (q : BitVec 10) (i : Half), WindowOpen u →
      (u.queue q.toNat).valid = true → Answers (.queueDoorbell x q i) s fun t => ProducerOutcome u (t.tun x) q.toNat i ∧ OnlyTun x s t) ∧
    (∀ port (p : Packet), Reaches u 0x09 p → p.poison = false → p.payload.length = 4 →
      (let w : Word := BitVec.ofNat 32 (leAt p.payload 0 4)
       let q := (w.extractLsb' 0 10).toNat
       w.getLsbD 15 = false → q ≠ 0 → (u.queue q).valid = true → (u.queue q).endpointSubmit = true → (u.queue q).ctx = p.ctx →
       Answers (.doorbellPacket x port p) s fun t => ProducerOutcome u (t.tun x) q (w.extractLsb' 16 16)))

/-- A head doorbell on a valid ring, by its register or by a KIND 1 word from the ring's endpoint, has the outcome R521 lists for each range of
its distance from H. -/
def Obligations.HeadDoorbellRule : Prop :=
  ∀ (s : State) (x : TunId),
    let u := s.tun x
    (∀ (r : BitVec 10) (i : Half), WindowOpen u →
      (u.ring r.toNat).valid = true → Answers (.cringHead x r i) s fun t => HeadOutcome u (t.tun x) r.toNat i ∧ OnlyTun x s t ∧
        (t.tun x).bm.cmds = u.bm.cmds ∧ (∀ m, m ≠ r.toNat → (t.tun x).ring m = u.ring m) ∧ (t.tun x).out = u.out) ∧
    (∀ port (p : Packet), Reaches u 0x09 p → p.poison = false → u.bm.cmds = [] → p.payload.length = 4 →
      (let w : Word := BitVec.ofNat 32 (leAt p.payload 0 4)
       let r := (w.extractLsb' 0 10).toNat
       w.getLsbD 15 = true → (u.ring r).valid = true → (u.ring r).endpoint = true → (u.ring r).dest = p.srcEp →
       Answers (.doorbellPacket x port p) s fun t => HeadOutcome u (t.tun x) r (w.extractLsb' 16 16)))

/-- A head write on an open stream acts on the stream alone: the head moves to the index, to the tail with HEAD_OVERRUN, or not at all. -/
def Obligations.StreamHeadRule : Prop :=
  ∀ (s : State) (x : TunId) (n : BitVec 8) (i : Word),
    let u := s.tun x
    let k := u.tstream n.toNat
    let d := (i - k.head).toNat
    let a := (k.tail - k.head).toNat
    WindowOpen u → k.isOpen = true →
    (1 ≤ d → d ≤ a → exec (.streamHead x n i) s = .next (s.modTun x fun u => u.modStream n.toNat fun k => { k with head := i })) ∧
    (a + 1 ≤ d → d ≤ 2 ^ 31 - 1 →
      exec (.streamHead x n i) s = .next (s.modTun x fun u => u.modStream n.toNat fun k => { k with head := k.tail, overrun := true })) ∧
    (a + 1 ≤ d → 2 ^ 31 ≤ d → exec (.streamHead x n i) s = .next s) ∧
    (d = 0 → exec (.streamHead x n i) s = .next s) ∧
    (∀ f : TStream → TStream, f k ≠ {} → (u.modStream n.toNat f).tstream n.toNat = f k ∧
      ∀ m, m ≠ n.toNat → (u.modStream n.toNat f).tstream m = u.tstream m)

/-- For the Tun's only command: CTX_UNDEFINE ends in every state of the context, with status 0 and the context UNDEFINED, or with 0x0207 and every
context as it was; CTX_SET_PRIORITY of an UNDEFINED context ends with 0x0207 and changes no context. -/
def Obligations.ContextConflicts : Prop :=
  (∀ (s : State) (x : TunId) (c : Cmd),
    let u := s.tun x
    let n := (byteAt c.desc 16).toNat
    Alone u c → u.serving = true → c.phase = .started → c.op = 0x11 →
    ((u.ctx n).state ≠ .defined ∨ u.ctxNamed n = true → Answers (.ctxUndefine x c.id) s fun t =>
      Recorded u (t.tun x) c 0x0207 0 0 ∧ (∀ m, (t.tun x).ctx m = u.ctx m) ∧ OnlyTun x s t) ∧
    ((u.ctx n).state = .defined → u.ctxNamed n = false → u.bm.ctxs.wf {} = true → Answers (.ctxUndefine x c.id) s fun t =>
      Recorded u (t.tun x) c 0 0 0 ∧ ((t.tun x).ctx n).state = .undefined ∧ (∀ m, m ≠ n → (t.tun x).ctx m = u.ctx m) ∧ OnlyTun x s t)) ∧
  (∀ (s : State) (x : TunId) (c : Cmd),
    Alone (s.tun x) c → (s.tun x).serving = true → c.phase = .started → c.op = 0x14 → ((s.tun x).ctx (byteAt c.desc 16).toNat).state = .undefined →
    Answers (.ctxSetPriority x c.id) s fun t =>
      Recorded (s.tun x) (t.tun x) c 0x0207 0 0 ∧ (∀ m, (t.tun x).ctx m = (s.tun x).ctx m) ∧ OnlyTun x s t)

/-- By BREW_CTRL and as a command: only LOAD_STATUS and its REASON, or the command's record, show a refused load; the load under way, the shadow,
the loaded Recipe and the plane stay as they were and nothing is read. SHADOW_DISCARD marks the shadow not valid where no start is recorded. -/
def Obligations.PlaneRefusals : Prop :=
  (∀ (s : State) (x : TunId),
    let u := s.tun x
    let pending := u.sched.loading.isSome = true
    let armed := (u.sched.plane = .armed ∨ u.sched.plane = .stopping) ∧ u.sched.startBrew.isSome = true
    (WindowOpen u → u.svc.state ≠ .fenced → u.rack.gensel = true →
      (pending → exec (.recipeLoad x none) s =
        .next (s.modTun x fun u => { u with sched := { u.sched with loadStatus := 0x070B, loadReason := 0 } })) ∧
      (u.sched.loading = none → armed → exec (.recipeLoad x none) s =
        .next (s.modTun x fun u => { u with sched := { u.sched with loadStatus := 0x0706, loadReason := 0 } }))) ∧
    (∀ c : Cmd, Alone u c → u.serving = true → c.phase = .started → c.op = 0x20 → u.sched.loading ≠ some (.cmd c.id) → u.sched.starter ≠ .cmd c.id →
      (pending → Answers (.recipeLoad x (some c.id)) s fun t => Recorded u (t.tun x) c 0x070B 0x070B0000 0 ∧
        (t.tun x).sched.loading = u.sched.loading ∧ (t.tun x).sched.loadSrc = u.sched.loadSrc ∧ (t.tun x).sched.shadow = u.sched.shadow ∧
        (t.tun x).sched.shadowValid = u.sched.shadowValid ∧ (t.tun x).sched.inForce = u.sched.inForce ∧
        (t.tun x).sched.plane = u.sched.plane ∧ OnlyTun x s t) ∧
      (u.sched.loading = none → armed → Answers (.recipeLoad x (some c.id)) s fun t => Recorded u (t.tun x) c 0x0706 0x07060000 0 ∧
        (t.tun x).sched.loading = none ∧ (t.tun x).sched.loadSrc = u.sched.loadSrc ∧ (t.tun x).sched.shadow = u.sched.shadow ∧
        (t.tun x).sched.shadowValid = u.sched.shadowValid ∧ (t.tun x).sched.inForce = u.sched.inForce ∧
        (t.tun x).sched.plane = u.sched.plane ∧ OnlyTun x s t))) ∧
  (∀ (s : State) (x : TunId),
    let u := s.tun x
    let armed := (u.sched.plane = .armed ∨ u.sched.plane = .stopping) ∧ u.sched.startBrew.isSome = true
    (WindowOpen u → u.rack.gensel = true →
      (u.sched.startBrew = none → exec (.shadowDiscard x none) s =
        .next (s.modTun x fun u => { u with sched := { u.sched with shadowValid := false, shadow := none, lastStatus := 0 } })) ∧
      (armed → exec (.shadowDiscard x none) s = .next (s.modTun x fun u => { u with sched := { u.sched with lastStatus := 0x0706 } }))) ∧
    (∀ c : Cmd, Alone u c → u.serving = true → c.phase = .started → c.op = 0x23 → u.sched.loading ≠ some (.cmd c.id) → u.sched.starter ≠ .cmd c.id →
      (u.sched.startBrew = none → Answers (.shadowDiscard x (some c.id)) s fun t => Recorded u (t.tun x) c 0 0 0 ∧
        (t.tun x).sched.shadowValid = false ∧ (t.tun x).sched.inForce = u.sched.inForce ∧ (t.tun x).sched.plane = u.sched.plane ∧
        OnlyTun x s t) ∧
      (armed → Answers (.shadowDiscard x (some c.id)) s fun t => Recorded u (t.tun x) c 0x0706 0 0 ∧
        (t.tun x).sched.shadowValid = u.sched.shadowValid ∧ (t.tun x).sched.shadow = u.sched.shadow ∧
        (t.tun x).sched.startBrew = u.sched.startBrew ∧ (t.tun x).sched.plane = u.sched.plane ∧ OnlyTun x s t)))

/-- Only ROUND_SKIPPED changes: the snapshot bank, the round counter and the rest of the round under way stay as they were. -/
def Obligations.RoundSkipped : Prop :=
  ∀ (s : State) (x : TunId), (s.tun x).counts = true → (s.tun x).roundDue = true → (s.tun x).hyd.left ≠ [] →
    exec (.exportRound x) s = .next (s.modTun x fun u => { u with hyd := { u.hyd with roundSkipped := satInc u.hyd.roundSkipped } })

/-- Every raw path, a bus or a Tun's proxy, that the Maltster serves. A read before any frame consumes nothing. A frame that overruns leaves the
command under way everything but the overrun mark, no command is accepted, no record is logged, and whatever reply is then given to that command
carries OVERRUN. -/
def Obligations.RawPathReplies : Prop :=
  (∀ (s : State) (p : RawPath) a, s.serves p a = true → (s.raw p).accepted = false →
    Answers (.rawReplyRead ⟨p, a⟩) s fun t => t.malt.out = s.malt.out ++ [.bytes p (s.readFrame p a [0xB1])] ∧ t.raw p = s.raw p ∧ OnlyMalt s t) ∧
  (∀ (s : State) (p : RawPath) a (frame : List Byte) (pec : Option Bool), s.serves p a = true → (s.raw p).busy = true → pec ≠ some false →
    exec (.rawFrameReceive ⟨p, a⟩ frame pec) s =
      .next (s.modRaw p fun w => { w with overrun := true, overrunCount := satInc w.overrunCount }) ∧
    Answers (.rawFrameReceive ⟨p, a⟩ frame pec) s fun t => t.malt.windows = s.malt.windows ∧ t.malt.executing = s.malt.executing ∧
      t.malt.log = s.malt.log ∧ OnlyMalt s t ∧
      (t.raw p).overrunCount = satInc (s.raw p).overrunCount ∧ (t.raw p).reply = (s.raw p).reply ∧
      ∀ q st data, let v := t.reply (.raw p) q st data
        ∃ r, (v.raw p).reply = some r ∧ (v.replyFlags (v.raw p)).getLsbD 5 = true)

/-- Over every path, in every state of the Tun, the whole machine is unchanged. -/
def Obligations.ResetNeedsKey : Prop :=
  ∀ (s : State) (x : TunId) (p : Path) (v : Word), v.extractLsb' 16 16 ≠ 0xA5C3 →
    exec (.registerWrite x [⟨p, 0x0F0010, 4, v.setWidth 64⟩]) s = .next s

/-- The write enters the cold hold with the cause of its path, and leaves exactly the state a write of COLD alone leaves, whatever the
reserved bits. -/
def Obligations.ColdOverWarm : Prop :=
  ∀ (s : State) (x : TunId) (p : Path) (v : Word), (s.tun x).pathAnswers p = true →
    v.extractLsb' 16 16 = 0xA5C3 → v.getLsbD 1 = true → v.getLsbD 0 = true →
    exec (.registerWrite x [⟨p, 0x0F0010, 4, v.setWidth 64⟩]) s = exec (.registerWrite x [⟨p, 0x0F0010, 4, 0xA5C30002⟩]) s ∧
    Answers (.registerWrite x [⟨p, 0x0F0010, 4, v.setWidth 64⟩]) s fun t =>
      (t.tun x).svc.hold = .cold ∧ (t.tun x).svc.state = .cold ∧ (t.tun x).svc.pendCause = coldCause (.path p) ∧ OnlyTun x s t

/-- Over PCIe and in-band, the paths that reach the proxy: SEND changes SEND_REFUSED alone, and a write to any word of MALT_PROXY_BUF changes
nothing. -/
def Obligations.ProxyBusy : Prop :=
  ∀ (s : State) (x : TunId) (p : Path) (v : Word), WindowOpen (s.tun x) → (s.tun x).pathAnswers p = true → p ≠ .sideband →
    (s.tun x).proxy.busy = true →
    (v.getLsbD 0 = true → exec (.registerWrite x [⟨p, 0x300, 4, v.setWidth 64⟩]) s =
      .next (s.modTun x fun u => { u with proxy := { u.proxy with refused := satInc u.proxy.refused } })) ∧
    (∀ k, k < 64 → exec (.registerWrite x [⟨p, 0x200 + 4 * k, 4, v.setWidth 64⟩]) s = .next s)

/-- One second: SECONDS of 0 stays, a larger one falls by 1 with the targets kept, and 1 becomes 0 with every target cleared. A LOCATE that its
window runs sets its object's target and SECONDS with ON 1, and clears that target only with ON 0; a LOCATE frame with another ON is answered
0x00F1 and changes no target. An accepted press (500 ms or more after the last) locates the tray or clears every target, and is logged. -/
def Obligations.LocateRules : Prop :=
  ((∀ m : Malt, m.locating = true ↔ (m.locTray = true ∨ ∃ n, n < 6 ∧ m.locBays.getLsbD n = true)) ∧
  ∀ s : State, s.malt.alive = true →
    (s.malt.locSeconds = 0 → exec .locateSecondTick s = .next s) ∧
    (1 < s.malt.locSeconds.toNat → exec .locateSecondTick s =
      .next { s with malt := { s.malt with locSeconds := s.malt.locSeconds - 1 } }) ∧
    (s.malt.locSeconds = 1 → exec .locateSecondTick s =
      .next { s with malt := { s.malt with locSeconds := 0, locBays := 0, locTray := false } })) ∧
  (∀ s : State, s.malt.alive = true →
    (∀ o h, s.malt.windows = [⟨o, [h]⟩] → s.malt.executing = [] → h.req.op = 0x40 → objectOk 0x40 h.req.obj = some true →
      (byteAt h.req.payload 0 = 1 → Answers (.windowClose o) s fun t =>
        t.malt.locSeconds = BitVec.ofNat 16 (leAt h.req.payload 1 2) ∧
        t.malt.locTray = (s.malt.locTray || h.req.obj == 0) ∧
        t.malt.locBays = (if h.req.obj = 0 then s.malt.locBays else s.malt.locBays ||| (1#6 <<< objBay h.req.obj)) ∧
        Replied t h.src ⟨h.req.seq, h.req.op, 0, []⟩ ∧ OnlyMalt s t) ∧
      (byteAt h.req.payload 0 = 0 → Answers (.windowClose o) s fun t =>
        t.malt.locSeconds = s.malt.locSeconds ∧
        t.malt.locTray = (s.malt.locTray && h.req.obj != 0) ∧
        t.malt.locBays = (if h.req.obj = 0 then s.malt.locBays else s.malt.locBays &&& ~~~(1#6 <<< objBay h.req.obj)) ∧
        Replied t h.src ⟨h.req.seq, h.req.op, 0, []⟩ ∧ OnlyMalt s t)) ∧
    (∀ p a frame q, s.serves p a = true → (s.raw p).busy = false → parseReq frame = some q → q.op = 0x40 →
      objectOk 0x40 q.obj = some true → 3 ≤ q.payload.length → byteAt q.payload 0 ≠ 0 → byteAt q.payload 0 ≠ 1 →
      Answers (.rawFrameReceive ⟨p, a⟩ frame none) s fun t =>
        Replied t (.raw p) ⟨q.seq, q.op, 0x00F1, []⟩ ∧ t.malt.locTray = s.malt.locTray ∧ t.malt.locBays = s.malt.locBays ∧
        t.malt.locSeconds = s.malt.locSeconds ∧ OnlyMalt s t)) ∧
  (∀ s : State, s.malt.alive = true → (∀ w, s.malt.btnTime = some w → 500 ≤ msSince s w) →
    (s.malt.locating = false → Answers .locateButtonPress s fun t =>
      t.malt.locTray = true ∧ t.malt.locBays = 0 ∧ t.malt.locSeconds = 0 ∧ Logged s t 0x0070 0 0x00 [1]) ∧
    (s.malt.locating = true → Answers .locateButtonPress s fun t =>
      t.malt.locTray = false ∧ t.malt.locBays = 0 ∧ Logged s t 0x0070 0 0x00 [0]))

/-- Every record is written by this one operation; LOG_COUNT is the number of records held and LOG_FIRST the number of the oldest. -/
def Obligations.LogOverwrite : Prop :=
  (∀ (s : State) (sev src event : Nat) (data : List Byte), s.malt.log.length = 1024 →
    (let t := s.logRecord sev src event data
     (∃ r, t.malt.log = s.malt.log.drop 1 ++ [r] ∧ r.number = s.malt.logNext) ∧ t.malt.log.length = 1024 ∧
      t.malt.logFirst = s.malt.logFirst + 1)) ∧
  (∀ (s : State) o h, s.malt.alive = true → s.malt.windows = [⟨o, [h]⟩] → s.malt.executing = [] → h.req.op = 0x05 →
    Answers (.windowClose o) s fun t =>
      t.malt.log.length = 0 ∧ t.malt.logFirst = s.malt.logNext ∧ t.malt.logNext = s.malt.logNext)

/-- In every state in which the Tun takes the write. -/
def Obligations.PairingOutsidePlan : Prop :=
  ∀ (s : State) (x : TunId) (v : Word), (s.tun x).svc.state ≠ .off → (s.tun x).svc.hold ≠ .cold → (s.tun x).rack.plan ≠ 1 →
    v.getLsbD 2 = true → Answers (.rackConfigWrite x v) s fun t =>
      (t.tun x).rack.pairing = false ∧ (t.tun x).rack.keeperOverride = v.getLsbD 15 ∧ (t.tun x).rack.keeperRow = v.extractLsb' 12 3 ∧
      (t.tun x).rack.keeperCol = v.extractLsb' 10 2 ∧ (t.tun x).rack.plan = (s.tun x).rack.plan ∧ OnlyTun x s t

/-- Racking of the Tun's only command, a NOP that signals semaphore k: the two rows for a LOCK and the two for a COUNT. -/
def Obligations.SemaphoreRelease : Prop :=
  ∀ (s : State) (x : TunId) (c : Cmd) (k : Nat),
    let u := s.tun x
    u.bm.cmds = [c] → c.phase = .staged → u.serving = true → c.op = 0x00 → c.effects = [] → c.signalSem = some k →
    ((u.sem k).mode = 1 → (u.sem k).holder = some c.ctx → Answers (.racking x c.id) s fun t =>
      (t.tun x).sem k = { u.sem k with holder := none } ∧ (t.tun x).bm.semMisuse = u.bm.semMisuse) ∧
    ((u.sem k).mode = 1 → (u.sem k).holder ≠ some c.ctx → Answers (.racking x c.id) s fun t =>
      (t.tun x).sem k = u.sem k ∧ (t.tun x).bm.semMisuse = satInc u.bm.semMisuse) ∧
    ((u.sem k).mode = 2 → (u.sem k).count ≠ 0xFFFF → Answers (.racking x c.id) s fun t =>
      (t.tun x).sem k = { u.sem k with count := (u.sem k).count + 1 } ∧ (t.tun x).bm.semMisuse = u.bm.semMisuse) ∧
    ((u.sem k).mode = 2 → (u.sem k).count = 0xFFFF → Answers (.racking x c.id) s fun t =>
      (t.tun x).sem k = u.sem k ∧ (t.tun x).bm.semMisuse = satInc u.bm.semMisuse)

/-- Both response types: without an entry in use that agrees in all three, no command, entry or memory changes and LATE_REPLY_DISCARD rises;
with one, nothing is counted as late. -/
def Obligations.LateReplies : Prop :=
  ∀ (s : State) (x : TunId) port (p : Packet) (ty : BitVec 6),
    let u := s.tun x
    Reaches u ty p → (ty = tyReadResp ∨ ty = tyAtomicResp) →
    ((∀ o, o ∈ u.bm.outstanding → ¬ Answered p o) → Answers (.responseReceive x port p) s fun t =>
      (t.tun x).bm = { u.bm with lateReply := satInc u.bm.lateReply } ∧ (t.tun x).plane.dropCode = 0x10 ∧
      (t.tun x).plane.dropCount = satInc u.plane.dropCount ∧ (t.tun x).out = u.out ∧ SameMemory u (t.tun x) ∧ OnlyTun x s t) ∧
    (∀ o, u.bm.outstanding = [o] → Answered p o → o.cmd = none → Answers (.responseReceive x port p) s fun t =>
      (t.tun x).bm = { u.bm with outstanding := [] } ∧ (t.tun x).plane = u.plane ∧ OnlyTun x s t)

/-- With eight in progress the answer leaves at once and nothing but the Maltster's output changes; with fewer, the request is taken up. -/
def Obligations.NinthMctpRequest : Prop :=
  ∀ (s : State) (b : Bus) (tag : BitVec 3) (frame : List Byte), s.busServes b = true → (s.bus b).eid ≠ 0 → 5 + frame.length ≤ 1024 →
    (8 ≤ s.malt.mctpBusy.length →
      (let r := replyBytes ⟨(rawReq frame).seq, (rawReq frame).op, 0x0802, []⟩ (if s.malt.alertPending then 0x40 else 0)
       exec (.mctpVendorMessage b tag ⟨Config.ianaNumber, frame⟩) s = .next (s.emitMalt (.mctp b tag Config.ianaNumber r (mctpPackets r))))) ∧
    (s.malt.mctpBusy.length < 8 → ∀ q, parseReq frame = some q → q.op = 0x05 → q.obj = 0x30 → s.malt.windows = [] →
      Answers (.mctpVendorMessage b tag ⟨Config.ianaNumber, frame⟩) s fun t => t.malt.mctpBusy = s.malt.mctpBusy ++ [.mctp b tag] ∧
        t.malt.windows = [⟨.object 0x30, [⟨.mctp b tag, q, s.now⟩]⟩])

/-- The three discarded kinds of write leave the Tun as it was, a write that only clears VALID does that, and a round that starts uses
EXPORT_EN only with a valid destination and RING_EN only with a valid ring. -/
def Obligations.ExportSettings : Prop :=
  ∀ (s : State) (x : TunId) (v : Word),
    let u := s.tun x
    let h := u.hyd
    u.svc.hold = .none_ → u.svc.state ≠ .off →
    (v.getLsbD 31 = true → 192 ≤ (v.extractLsb' 0 10).toNat → (v.extractLsb' 0 10).toNat ≤ 255 →
      exec (.hydConfigWrite x 3 v) s = .next s) ∧
    (h.ringValid = true →
      exec (.hydConfigWrite x 1 v) s = .next s ∧ exec (.hydConfigWrite x 2 v) s = .next s ∧
      (let onlyClears := v.getLsbD 31 = false ∧ v.getLsbD 30 = h.ringInt ∧ v.extractLsb' 24 5 = h.ringLog2 ∧ v.extractLsb' 0 11 = h.ringVector
       (¬ onlyClears → exec (.hydConfigWrite x 0 v) s = .next s) ∧
       (onlyClears → exec (.hydConfigWrite x 0 v) s = .next (s.modTun x fun u => { u with hyd := { u.hyd with ringValid := false } })))) ∧
    (h.ringValid = false → v.getLsbD 31 = true →
      ((v.extractLsb' 24 5).toNat < 8 ∨ 16 < (v.extractLsb' 24 5).toNat ∨ 1024 ≤ (v.extractLsb' 0 11).toNat ∨
        h.ringAddr.toNat % (2 ^ (v.extractLsb' 24 5).toNat * 32) ≠ 0) → exec (.hydConfigWrite x 0 v) s = .next s) ∧
    (u.counts = true → u.roundDue = true → h.left = [] → Answers (.exportRound x) s fun t =>
      (t.tun x).hyd.onInband = (h.exportEn && h.destValid) ∧ (t.tun x).hyd.onRing = (h.ringEn && h.ringValid))
end

