-- ==== Sys2Proof/Laws/Mem.lean ====
section
/-! SUPPORT. The laws of the sparse table that every memory, window and register file is kept in: a read after a write, the writes
that leave other keys alone, and the canonical form every operation keeps. -/

namespace Sys2Proof

variable {α : Type}

theorem lookupD_insert (d v : α) (k : Nat) (es : List (Nat × α)) : lookupD d k (insertKey k v es) = v := by
  induction es with
  | nil => simp [insertKey, lookupD]
  | cons e es ih =>
    obtain ⟨j, w⟩ := e
    unfold insertKey
    split
    · simp [lookupD]
    · split
      · simp [lookupD]
      · rename_i h
        simp [lookupD, ih, Ne.symm h]

theorem lookupD_insert_other (d v : α) {k n : Nat} (h : n ≠ k) (es : List (Nat × α)) :
    lookupD d n (insertKey k v es) = lookupD d n es := by
  induction es with
  | nil => simp [insertKey, lookupD, Ne.symm h]
  | cons e es ih =>
    obtain ⟨j, w⟩ := e
    unfold insertKey
    split
    · simp [lookupD, Ne.symm h]
    · split
      · rename_i hk; subst hk; simp [lookupD, Ne.symm h]
      · simp [lookupD, ih]

theorem lookupD_remove_other (d : α) {k n : Nat} (h : n ≠ k) (es : List (Nat × α)) :
    lookupD d n (removeKey k es) = lookupD d n es := by
  induction es with
  | nil => rfl
  | cons e es ih =>
    obtain ⟨j, w⟩ := e
    unfold removeKey
    split
    · rfl
    · split
      · rename_i hk; subst hk; simp [lookupD, Ne.symm h]
      · simp [lookupD, ih]

theorem risingFrom_le {lo k : Nat} (h : k ≤ lo) : ∀ es : List (Nat × α), risingFrom lo es = true → risingFrom k es = true
  | [], _ => rfl
  | (j, w) :: es, hr => by
    simp [risingFrom] at hr ⊢
    exact ⟨by omega, hr.2⟩

theorem lookupD_above (d : α) {lo k : Nat} (h : k < lo) : ∀ es : List (Nat × α), risingFrom lo es = true → lookupD d k es = d
  | [], _ => rfl
  | (j, w) :: es, hr => by
    simp [risingFrom] at hr
    have : j ≠ k := by omega
    simp [lookupD, this]
    exact lookupD_above d (by omega : k < j + 1) es hr.2

theorem lookupD_remove (d : α) {lo k : Nat} : ∀ es : List (Nat × α), risingFrom lo es = true → lookupD d k (removeKey k es) = d
  | [], _ => rfl
  | (j, w) :: es, hr => by
    simp [risingFrom] at hr
    unfold removeKey
    split
    · exact lookupD_above d (by omega : k < k + 1) _ (by simp [risingFrom]; exact ⟨by omega, hr.2⟩)
    · split
      · rename_i hk; subst hk; exact lookupD_above d (Nat.lt_succ_self _) es hr.2
      · rename_i hk
        simp [lookupD, Ne.symm hk]
        exact lookupD_remove d es hr.2

theorem risingFrom_insert (v : α) {lo k : Nat} (hk : lo ≤ k) : ∀ es : List (Nat × α), risingFrom lo es = true →
    risingFrom lo (insertKey k v es) = true
  | [], _ => by simp [insertKey, risingFrom, hk]
  | (j, w) :: es, hr => by
    simp [risingFrom] at hr
    unfold insertKey
    split
    · simp [risingFrom, hk]; exact ⟨by omega, hr.2⟩
    · split
      · rename_i h; subst h; simp [risingFrom, hk, hr.2]
      · simp [risingFrom, hr.1]
        exact risingFrom_insert v (by omega) es hr.2

theorem risingFrom_remove {lo k : Nat} : ∀ es : List (Nat × α), risingFrom lo es = true → risingFrom lo (removeKey k es) = true
  | [], _ => rfl
  | (j, w) :: es, hr => by
    simp [risingFrom] at hr
    unfold removeKey
    split
    · simp [risingFrom]; exact hr
    · split
      · exact risingFrom_le (by omega) es hr.2
      · simp [risingFrom, hr.1]
        exact risingFrom_remove es hr.2

theorem mem_insertKey {k : Nat} {v : α} {e : Nat × α} : ∀ {es : List (Nat × α)}, e ∈ insertKey k v es → e = (k, v) ∨ e ∈ es
  | [], h => by simp [insertKey] at h; exact .inl h
  | (j, w) :: es, h => by
    unfold insertKey at h
    split at h
    · simpa using h
    · split at h
      · simp at h ⊢; rcases h with h | h <;> simp [h]
      · simp at h ⊢
        rcases h with h | h
        · simp [h]
        · rcases mem_insertKey h with h | h <;> simp [h]

theorem mem_removeKey {k : Nat} {e : Nat × α} : ∀ {es : List (Nat × α)}, e ∈ removeKey k es → e ∈ es
  | [], h => h
  | (j, w) :: es, h => by
    unfold removeKey at h
    split at h
    · exact h
    · split at h
      · exact List.mem_cons_of_mem _ h
      · simp at h ⊢
        rcases h with h | h
        · exact .inl h
        · exact .inr (mem_removeKey h)

variable [DecidableEq α]

/-- A key written with a listed value reads it back, whatever the table. -/
theorem Tab.get_set_listed (d : α) (t : Tab α) (k : Nat) {v : α} (h : v ≠ d) : (t.set d k v).get d k = v := by
  simp [Tab.set, h, Tab.get, lookupD_insert]

/-- In canonical form, a key reads what was last written to it. -/
theorem Tab.get_set_same (d : α) {t : Tab α} (k : Nat) (v : α) (w : t.wf d = true) : (t.set d k v).get d k = v := by
  by_cases h : v = d
  · subst h
    simp [Tab.wf] at w
    simp [Tab.set, Tab.get]
    exact lookupD_remove v t.entries w.1
  · exact Tab.get_set_listed d t k h

/-- A write leaves every other key's value. -/
theorem Tab.get_set_other (d : α) (t : Tab α) {k n : Nat} (v : α) (h : n ≠ k) : (t.set d k v).get d n = t.get d n := by
  unfold Tab.set Tab.get
  split
  · exact lookupD_remove_other d h _
  · exact lookupD_insert_other d v h _

/-- A write keeps the canonical form. -/
theorem Tab.set_wf (d : α) {t : Tab α} (k : Nat) (v : α) (w : t.wf d = true) : (t.set d k v).wf d = true := by
  simp [Tab.wf] at w ⊢
  unfold Tab.set
  split
  · exact ⟨risingFrom_remove _ w.1, fun a b h => w.2 a b (mem_removeKey h)⟩
  · rename_i hv
    refine ⟨risingFrom_insert v (Nat.zero_le _) _ w.1, fun a b h => ?_⟩
    rcases mem_insertKey h with e | e
    · cases e; exact hv
    · exact w.2 a b e

theorem Tab.get_modify_other (d : α) (t : Tab α) {k n : Nat} (f : α → α) (h : n ≠ k) : (t.modify d k f).get d n = t.get d n :=
  Tab.get_set_other d t _ h

theorem Tab.get_modify_same (d : α) {t : Tab α} (k : Nat) (f : α → α) (w : t.wf d = true) :
    (t.modify d k f).get d k = f (t.get d k) := Tab.get_set_same d k _ w

theorem Tab.modify_wf (d : α) {t : Tab α} (k : Nat) (f : α → α) (w : t.wf d = true) : (t.modify d k f).wf d = true :=
  Tab.set_wf d k _ w

theorem Tab.empty_wf (d : α) : (Tab.empty : Tab α).wf d = true := rfl

end Sys2Proof
end

