-- ==== Sys2Proof/Laws/State.lean ====
section
/-! SUPPORT. What each update of the whole state leaves unchanged: choosing one of four, a Tun, a Maltster record, a bay, a bus, a
reply buffer. -/

namespace Sys2Proof.Machine
open Sys2Proof

/-! ### One of four, one of two -/

@[simp] theorem Quad.get_set_same {α : Type} (q : Quad α) (t : TunId) (v : α) : (q.set t v).get t = v := by cases t <;> rfl

theorem Quad.get_set_other {α : Type} (q : Quad α) {t x : TunId} (v : α) (h : x ≠ t) : (q.set t v).get x = q.get x := by
  cases t <;> cases x <;> first | rfl | exact absurd rfl h

@[simp] theorem Quad.set_get {α : Type} (q : Quad α) (t : TunId) : q.set t (q.get t) = q := by cases t <;> rfl

@[simp] theorem Quad.set_set {α : Type} (q : Quad α) (t : TunId) (v w : α) : (q.set t v).set t w = q.set t w := by
  cases t <;> rfl

@[simp] theorem Quad.get_map {α β : Type} (f : α → β) (q : Quad α) (t : TunId) : (q.map f).get t = f (q.get t) := by
  cases t <;> rfl

@[simp] theorem Duo.get_set_same {α : Type} (q : Duo α) (b : Bus) (v : α) : (q.set b v).get b = v := by cases b <;> rfl

theorem Duo.get_set_other {α : Type} (q : Duo α) {b x : Bus} (v : α) (h : x ≠ b) : (q.set b v).get x = q.get x := by
  cases b <;> cases x <;> first | rfl | exact absurd rfl h

/-! ### A Tun -/

section
variable (s : State) (t : TunId) (f : Tun → Tun) (u : Tun)
@[simp] theorem State.setTun_now : (s.setTun t u).now = s.now := rfl
@[simp] theorem State.setTun_tray : (s.setTun t u).tray = s.tray := rfl
@[simp] theorem State.setTun_bays : (s.setTun t u).bays = s.bays := rfl
@[simp] theorem State.setTun_malt : (s.setTun t u).malt = s.malt := rfl
@[simp] theorem State.setTun_fw : (s.setTun t u).fw = s.fw := rfl
@[simp] theorem State.setTun_fresh : (s.setTun t u).fresh = s.fresh := rfl
@[simp] theorem State.setTun_pending : (s.setTun t u).pending = s.pending := rfl
@[simp] theorem State.modTun_now : (s.modTun t f).now = s.now := rfl
@[simp] theorem State.modTun_tray : (s.modTun t f).tray = s.tray := rfl
@[simp] theorem State.modTun_bays : (s.modTun t f).bays = s.bays := rfl
@[simp] theorem State.modTun_malt : (s.modTun t f).malt = s.malt := rfl
@[simp] theorem State.modTun_fw : (s.modTun t f).fw = s.fw := rfl
@[simp] theorem State.modTun_fresh : (s.modTun t f).fresh = s.fresh := rfl
@[simp] theorem State.modTun_pending : (s.modTun t f).pending = s.pending := rfl
@[simp] theorem State.raw_modTun (q : RawPath) : (s.modTun t f).raw q = s.raw q := rfl
@[simp] theorem State.tun_setTun : (s.setTun t u).tun t = u := Quad.get_set_same _ _ _
theorem State.tun_setTun_other {x : TunId} (h : x ≠ t) : (s.setTun t u).tun x = s.tun x := Quad.get_set_other _ _ h
@[simp] theorem State.tun_modTun : (s.modTun t f).tun t = f (s.tun t) := Quad.get_set_same _ _ _
theorem State.tun_modTun_other {x : TunId} (h : x ≠ t) : (s.modTun t f).tun x = s.tun x := Quad.get_set_other _ _ h
@[simp] theorem State.mtun_setTun (x : TunId) : (s.setTun t u).mtun x = s.mtun x := rfl
@[simp] theorem State.mtun_modTun (x : TunId) : (s.modTun t f).mtun x = s.mtun x := rfl
@[simp] theorem State.bay_modTun (n : Nat) : (s.modTun t f).bay n = s.bay n := rfl
@[simp] theorem State.bus_modTun (b : Bus) : (s.modTun t f).bus b = s.bus b := rfl
@[simp] theorem State.modAllTuns_now : (s.modAllTuns f).now = s.now := rfl
@[simp] theorem State.modAllTuns_tray : (s.modAllTuns f).tray = s.tray := rfl
@[simp] theorem State.modAllTuns_bays : (s.modAllTuns f).bays = s.bays := rfl
@[simp] theorem State.modAllTuns_malt : (s.modAllTuns f).malt = s.malt := rfl
@[simp] theorem State.modAllTuns_fw : (s.modAllTuns f).fw = s.fw := rfl
@[simp] theorem State.modAllTuns_fresh : (s.modAllTuns f).fresh = s.fresh := rfl
@[simp] theorem State.modAllTuns_pending : (s.modAllTuns f).pending = s.pending := rfl
@[simp] theorem State.tun_modAllTuns : (s.modAllTuns f).tun t = f (s.tun t) := Quad.get_map _ _ _
@[simp] theorem State.mtun_modAllTuns (x : TunId) : (s.modAllTuns f).mtun x = s.mtun x := rfl
end

/-! ### The tray, the Maltster, the firmware store -/

section
variable (s : State) (f : Tray → Tray) (g : Malt → Malt) (h : Fw → Fw)
@[simp] theorem State.modTray_now : (s.modTray f).now = s.now := rfl
@[simp] theorem State.modTray_tuns : (s.modTray f).tuns = s.tuns := rfl
@[simp] theorem State.modTray_tray : (s.modTray f).tray = f s.tray := rfl
@[simp] theorem State.modTray_bays : (s.modTray f).bays = s.bays := rfl
@[simp] theorem State.modTray_malt : (s.modTray f).malt = s.malt := rfl
@[simp] theorem State.modTray_fw : (s.modTray f).fw = s.fw := rfl
@[simp] theorem State.modTray_fresh : (s.modTray f).fresh = s.fresh := rfl
@[simp] theorem State.modTray_pending : (s.modTray f).pending = s.pending := rfl
@[simp] theorem State.tun_modTray (x : TunId) : (s.modTray f).tun x = s.tun x := rfl
@[simp] theorem State.mtun_modTray (x : TunId) : (s.modTray f).mtun x = s.mtun x := rfl
@[simp] theorem State.bay_modTray (x : Nat) : (s.modTray f).bay x = s.bay x := rfl
@[simp] theorem State.bus_modTray (x : Bus) : (s.modTray f).bus x = s.bus x := rfl
@[simp] theorem State.modMalt_now : (s.modMalt g).now = s.now := rfl
@[simp] theorem State.modMalt_tuns : (s.modMalt g).tuns = s.tuns := rfl
@[simp] theorem State.modMalt_tray : (s.modMalt g).tray = s.tray := rfl
@[simp] theorem State.modMalt_bays : (s.modMalt g).bays = s.bays := rfl
@[simp] theorem State.modMalt_malt : (s.modMalt g).malt = g s.malt := rfl
@[simp] theorem State.modMalt_fw : (s.modMalt g).fw = s.fw := rfl
@[simp] theorem State.modMalt_fresh : (s.modMalt g).fresh = s.fresh := rfl
@[simp] theorem State.modMalt_pending : (s.modMalt g).pending = s.pending := rfl
@[simp] theorem State.tun_modMalt (x : TunId) : (s.modMalt g).tun x = s.tun x := rfl
@[simp] theorem State.bay_modMalt (x : Nat) : (s.modMalt g).bay x = s.bay x := rfl
@[simp] theorem State.modFw_now : (s.modFw h).now = s.now := rfl
@[simp] theorem State.modFw_tuns : (s.modFw h).tuns = s.tuns := rfl
@[simp] theorem State.modFw_tray : (s.modFw h).tray = s.tray := rfl
@[simp] theorem State.modFw_bays : (s.modFw h).bays = s.bays := rfl
@[simp] theorem State.modFw_malt : (s.modFw h).malt = s.malt := rfl
@[simp] theorem State.modFw_fw : (s.modFw h).fw = h s.fw := rfl
@[simp] theorem State.modFw_fresh : (s.modFw h).fresh = s.fresh := rfl
@[simp] theorem State.modFw_pending : (s.modFw h).pending = s.pending := rfl
@[simp] theorem State.tun_modFw (x : TunId) : (s.modFw h).tun x = s.tun x := rfl
@[simp] theorem State.mtun_modFw (x : TunId) : (s.modFw h).mtun x = s.mtun x := rfl
@[simp] theorem State.bay_modFw (x : Nat) : (s.modFw h).bay x = s.bay x := rfl
@[simp] theorem State.bus_modFw (x : Bus) : (s.modFw h).bus x = s.bus x := rfl
end

/-! ### A Maltster record of a Tun -/

section
variable (s : State) (t : TunId) (f : MTun → MTun)
@[simp] theorem State.modMTun_now : (s.modMTun t f).now = s.now := rfl
@[simp] theorem State.modMTun_tuns : (s.modMTun t f).tuns = s.tuns := rfl
@[simp] theorem State.modMTun_tray : (s.modMTun t f).tray = s.tray := rfl
@[simp] theorem State.modMTun_bays : (s.modMTun t f).bays = s.bays := rfl
@[simp] theorem State.modMTun_fw : (s.modMTun t f).fw = s.fw := rfl
@[simp] theorem State.modMTun_fresh : (s.modMTun t f).fresh = s.fresh := rfl
@[simp] theorem State.modMTun_pending : (s.modMTun t f).pending = s.pending := rfl
@[simp] theorem State.raw_modMTun (q : RawPath) : (s.modMTun t f).raw q = s.raw q := rfl
@[simp] theorem State.modMTun_out : (s.modMTun t f).malt.out = s.malt.out := rfl
@[simp] theorem State.modMTun_alive : (s.modMTun t f).malt.alive = s.malt.alive := rfl
@[simp] theorem State.modMTun_log : (s.modMTun t f).malt.log = s.malt.log := rfl
@[simp] theorem State.modMTun_logNext : (s.modMTun t f).malt.logNext = s.malt.logNext := rfl
@[simp] theorem State.modMTun_buses : (s.modMTun t f).malt.buses = s.malt.buses := rfl
@[simp] theorem State.modMTun_executing : (s.modMTun t f).malt.executing = s.malt.executing := rfl
@[simp] theorem State.modMTun_raws : (s.modMTun t f).malt.raws = s.malt.raws := rfl
@[simp] theorem State.modMTun_restarts : (s.modMTun t f).malt.restarts = s.malt.restarts := rfl
@[simp] theorem State.modMTun_mctpBusy : (s.modMTun t f).malt.mctpBusy = s.malt.mctpBusy := rfl
@[simp] theorem State.modMTun_windows : (s.modMTun t f).malt.windows = s.malt.windows := rfl
@[simp] theorem State.modMTun_locBays : (s.modMTun t f).malt.locBays = s.malt.locBays := rfl
@[simp] theorem State.modMTun_locTray : (s.modMTun t f).malt.locTray = s.malt.locTray := rfl
@[simp] theorem State.modMTun_locSeconds : (s.modMTun t f).malt.locSeconds = s.malt.locSeconds := rfl
@[simp] theorem State.modMTun_imageOk : (s.modMTun t f).malt.imageOk = s.malt.imageOk := rfl
@[simp] theorem State.modMTun_alertHeld : (s.modMTun t f).malt.alertHeld = s.malt.alertHeld := rfl
@[simp] theorem State.modMTun_alertMask : (s.modMTun t f).malt.alertMask = s.malt.alertMask := rfl
@[simp] theorem State.modMTun_alertStatus : (s.modMTun t f).malt.alertStatus = s.malt.alertStatus := rfl
@[simp] theorem State.modMTun_alertAck : (s.modMTun t f).malt.alertAck = s.malt.alertAck := rfl
@[simp] theorem State.modMTun_reeval : (s.modMTun t f).malt.reeval = s.malt.reeval := rfl
@[simp] theorem State.modMTun_bootTime : (s.modMTun t f).malt.bootTime = s.malt.bootTime := rfl
@[simp] theorem State.modMTun_row : (s.modMTun t f).malt.row = s.malt.row := rfl
@[simp] theorem State.modMTun_bank : (s.modMTun t f).malt.bank = s.malt.bank := rfl
@[simp] theorem State.modMTun_eventReceiver : (s.modMTun t f).malt.eventReceiver = s.malt.eventReceiver := rfl
@[simp] theorem State.modMTun_events : (s.modMTun t f).malt.events = s.malt.events := rfl
@[simp] theorem State.modMTun_tid : (s.modMTun t f).malt.tid = s.malt.tid := rfl
@[simp] theorem State.mtun_modMTun : (s.modMTun t f).mtun t = f (s.mtun t) := Quad.get_set_same _ _ _
theorem State.mtun_modMTun_other {x : TunId} (h : x ≠ t) : (s.modMTun t f).mtun x = s.mtun x := Quad.get_set_other _ _ h
@[simp] theorem State.tun_modMTun (x : TunId) : (s.modMTun t f).tun x = s.tun x := rfl
@[simp] theorem State.bay_modMTun (n : Nat) : (s.modMTun t f).bay n = s.bay n := rfl
@[simp] theorem State.bus_modMTun (b : Bus) : (s.modMTun t f).bus b = s.bus b := rfl
end

/-! ### A bay, a bus, a reply buffer, an output -/

section
variable (s : State) (n : Nat) (f : Bay → Bay)
@[simp] theorem State.modBay_now : (s.modBay n f).now = s.now := rfl
@[simp] theorem State.modBay_tuns : (s.modBay n f).tuns = s.tuns := rfl
@[simp] theorem State.modBay_tray : (s.modBay n f).tray = s.tray := rfl
@[simp] theorem State.modBay_malt : (s.modBay n f).malt = s.malt := rfl
@[simp] theorem State.modBay_fw : (s.modBay n f).fw = s.fw := rfl
@[simp] theorem State.modBay_fresh : (s.modBay n f).fresh = s.fresh := rfl
@[simp] theorem State.modBay_pending : (s.modBay n f).pending = s.pending := rfl
@[simp] theorem State.bus_modBay (c : Bus) : (s.modBay n f).bus c = s.bus c := rfl
@[simp] theorem State.raw_modBay (q : RawPath) : (s.modBay n f).raw q = s.raw q := rfl
@[simp] theorem State.modBay_length : (s.modBay n f).bays.length = s.bays.length := by simp [State.modBay]
@[simp] theorem State.tun_modBay (x : TunId) : (s.modBay n f).tun x = s.tun x := rfl
@[simp] theorem State.mtun_modBay (x : TunId) : (s.modBay n f).mtun x = s.mtun x := rfl
theorem State.bay_modBay (h : n < s.bays.length) : (s.modBay n f).bay n = f (s.bay n) := by
  simp [State.bay, State.modBay, List.getD, h]
theorem State.bay_modBay_other {k : Nat} (h : k ≠ n) : (s.modBay n f).bay k = s.bay k := by
  simp [State.bay, State.modBay, List.getD, List.getElem?_set_ne (Ne.symm h)]
end

section
variable (s : State) (b : Bus) (f : SbBus → SbBus)
@[simp] theorem State.modBus_now : (s.modBus b f).now = s.now := rfl
@[simp] theorem State.modBus_tuns : (s.modBus b f).tuns = s.tuns := rfl
@[simp] theorem State.modBus_tray : (s.modBus b f).tray = s.tray := rfl
@[simp] theorem State.modBus_bays : (s.modBus b f).bays = s.bays := rfl
@[simp] theorem State.modBus_fw : (s.modBus b f).fw = s.fw := rfl
@[simp] theorem State.modBus_fresh : (s.modBus b f).fresh = s.fresh := rfl
@[simp] theorem State.modBus_pending : (s.modBus b f).pending = s.pending := rfl
@[simp] theorem State.bay_modBus (n : Nat) : (s.modBus b f).bay n = s.bay n := rfl
@[simp] theorem State.raw_modBus (q : RawPath) : (s.modBus b f).raw q = s.raw q := rfl
@[simp] theorem State.modBus_out : (s.modBus b f).malt.out = s.malt.out := rfl
@[simp] theorem State.modBus_alive : (s.modBus b f).malt.alive = s.malt.alive := rfl
@[simp] theorem State.modBus_log : (s.modBus b f).malt.log = s.malt.log := rfl
@[simp] theorem State.modBus_logNext : (s.modBus b f).malt.logNext = s.malt.logNext := rfl
@[simp] theorem State.modBus_mtun : (s.modBus b f).malt.mtun = s.malt.mtun := rfl
@[simp] theorem State.modBus_executing : (s.modBus b f).malt.executing = s.malt.executing := rfl
@[simp] theorem State.modBus_raws : (s.modBus b f).malt.raws = s.malt.raws := rfl
@[simp] theorem State.modBus_restarts : (s.modBus b f).malt.restarts = s.malt.restarts := rfl
@[simp] theorem State.modBus_mctpBusy : (s.modBus b f).malt.mctpBusy = s.malt.mctpBusy := rfl
@[simp] theorem State.modBus_windows : (s.modBus b f).malt.windows = s.malt.windows := rfl
@[simp] theorem State.modBus_locBays : (s.modBus b f).malt.locBays = s.malt.locBays := rfl
@[simp] theorem State.modBus_locTray : (s.modBus b f).malt.locTray = s.malt.locTray := rfl
@[simp] theorem State.modBus_locSeconds : (s.modBus b f).malt.locSeconds = s.malt.locSeconds := rfl
@[simp] theorem State.modBus_imageOk : (s.modBus b f).malt.imageOk = s.malt.imageOk := rfl
@[simp] theorem State.modBus_alertHeld : (s.modBus b f).malt.alertHeld = s.malt.alertHeld := rfl
@[simp] theorem State.modBus_alertMask : (s.modBus b f).malt.alertMask = s.malt.alertMask := rfl
@[simp] theorem State.modBus_alertStatus : (s.modBus b f).malt.alertStatus = s.malt.alertStatus := rfl
@[simp] theorem State.modBus_alertAck : (s.modBus b f).malt.alertAck = s.malt.alertAck := rfl
@[simp] theorem State.modBus_reeval : (s.modBus b f).malt.reeval = s.malt.reeval := rfl
@[simp] theorem State.modBus_bootTime : (s.modBus b f).malt.bootTime = s.malt.bootTime := rfl
@[simp] theorem State.modBus_row : (s.modBus b f).malt.row = s.malt.row := rfl
@[simp] theorem State.modBus_bank : (s.modBus b f).malt.bank = s.malt.bank := rfl
@[simp] theorem State.modBus_eventReceiver : (s.modBus b f).malt.eventReceiver = s.malt.eventReceiver := rfl
@[simp] theorem State.modBus_events : (s.modBus b f).malt.events = s.malt.events := rfl
@[simp] theorem State.modBus_tid : (s.modBus b f).malt.tid = s.malt.tid := rfl
@[simp] theorem State.bus_modBus : (s.modBus b f).bus b = f (s.bus b) := Duo.get_set_same _ _ _
theorem State.bus_modBus_other {x : Bus} (h : x ≠ b) : (s.modBus b f).bus x = s.bus x := Duo.get_set_other _ _ h
@[simp] theorem State.mtun_modBus (x : TunId) : (s.modBus b f).mtun x = s.mtun x := rfl
@[simp] theorem State.tun_modBus (x : TunId) : (s.modBus b f).tun x = s.tun x := rfl
end

section
variable (s : State) (p : RawPath) (f : RawState → RawState) (e : MaltEmit)
@[simp] theorem State.modRaw_now : (s.modRaw p f).now = s.now := rfl
@[simp] theorem State.modRaw_tuns : (s.modRaw p f).tuns = s.tuns := rfl
@[simp] theorem State.modRaw_tray : (s.modRaw p f).tray = s.tray := rfl
@[simp] theorem State.modRaw_bays : (s.modRaw p f).bays = s.bays := rfl
@[simp] theorem State.modRaw_fw : (s.modRaw p f).fw = s.fw := rfl
@[simp] theorem State.modRaw_fresh : (s.modRaw p f).fresh = s.fresh := rfl
@[simp] theorem State.modRaw_pending : (s.modRaw p f).pending = s.pending := rfl
@[simp] theorem State.tun_modRaw (x : TunId) : (s.modRaw p f).tun x = s.tun x := rfl
@[simp] theorem State.mtun_modRaw (x : TunId) : (s.modRaw p f).mtun x = s.mtun x := rfl
@[simp] theorem State.bay_modRaw (n : Nat) : (s.modRaw p f).bay n = s.bay n := rfl
@[simp] theorem State.bus_modRaw (c : Bus) : (s.modRaw p f).bus c = s.bus c := rfl
@[simp] theorem State.modRaw_out : (s.modRaw p f).malt.out = s.malt.out := rfl
@[simp] theorem State.modRaw_alive : (s.modRaw p f).malt.alive = s.malt.alive := rfl
@[simp] theorem State.modRaw_log : (s.modRaw p f).malt.log = s.malt.log := rfl
@[simp] theorem State.modRaw_logNext : (s.modRaw p f).malt.logNext = s.malt.logNext := rfl
@[simp] theorem State.modRaw_mtun : (s.modRaw p f).malt.mtun = s.malt.mtun := rfl
@[simp] theorem State.modRaw_buses : (s.modRaw p f).malt.buses = s.malt.buses := rfl
@[simp] theorem State.modRaw_executing : (s.modRaw p f).malt.executing = s.malt.executing := rfl
@[simp] theorem State.modRaw_restarts : (s.modRaw p f).malt.restarts = s.malt.restarts := rfl
@[simp] theorem State.modRaw_mctpBusy : (s.modRaw p f).malt.mctpBusy = s.malt.mctpBusy := rfl
@[simp] theorem State.modRaw_windows : (s.modRaw p f).malt.windows = s.malt.windows := rfl
@[simp] theorem State.modRaw_locBays : (s.modRaw p f).malt.locBays = s.malt.locBays := rfl
@[simp] theorem State.modRaw_locTray : (s.modRaw p f).malt.locTray = s.malt.locTray := rfl
@[simp] theorem State.modRaw_locSeconds : (s.modRaw p f).malt.locSeconds = s.malt.locSeconds := rfl
@[simp] theorem State.modRaw_imageOk : (s.modRaw p f).malt.imageOk = s.malt.imageOk := rfl
@[simp] theorem State.modRaw_alertHeld : (s.modRaw p f).malt.alertHeld = s.malt.alertHeld := rfl
@[simp] theorem State.modRaw_alertMask : (s.modRaw p f).malt.alertMask = s.malt.alertMask := rfl
@[simp] theorem State.modRaw_alertStatus : (s.modRaw p f).malt.alertStatus = s.malt.alertStatus := rfl
@[simp] theorem State.modRaw_alertAck : (s.modRaw p f).malt.alertAck = s.malt.alertAck := rfl
@[simp] theorem State.modRaw_reeval : (s.modRaw p f).malt.reeval = s.malt.reeval := rfl
@[simp] theorem State.modRaw_bootTime : (s.modRaw p f).malt.bootTime = s.malt.bootTime := rfl
@[simp] theorem State.modRaw_row : (s.modRaw p f).malt.row = s.malt.row := rfl
@[simp] theorem State.modRaw_bank : (s.modRaw p f).malt.bank = s.malt.bank := rfl
@[simp] theorem State.modRaw_eventReceiver : (s.modRaw p f).malt.eventReceiver = s.malt.eventReceiver := rfl
@[simp] theorem State.modRaw_events : (s.modRaw p f).malt.events = s.malt.events := rfl
@[simp] theorem State.modRaw_tid : (s.modRaw p f).malt.tid = s.malt.tid := rfl
@[simp] theorem State.emitMalt_now : (s.emitMalt e).now = s.now := rfl
@[simp] theorem State.emitMalt_tuns : (s.emitMalt e).tuns = s.tuns := rfl
@[simp] theorem State.emitMalt_tray : (s.emitMalt e).tray = s.tray := rfl
@[simp] theorem State.emitMalt_bays : (s.emitMalt e).bays = s.bays := rfl
@[simp] theorem State.emitMalt_fw : (s.emitMalt e).fw = s.fw := rfl
@[simp] theorem State.emitMalt_fresh : (s.emitMalt e).fresh = s.fresh := rfl
@[simp] theorem State.emitMalt_pending : (s.emitMalt e).pending = s.pending := rfl
@[simp] theorem State.tun_emitMalt (x : TunId) : (s.emitMalt e).tun x = s.tun x := rfl
@[simp] theorem State.mtun_emitMalt (x : TunId) : (s.emitMalt e).mtun x = s.mtun x := rfl
@[simp] theorem State.bay_emitMalt (n : Nat) : (s.emitMalt e).bay n = s.bay n := rfl
@[simp] theorem State.bus_emitMalt (c : Bus) : (s.emitMalt e).bus c = s.bus c := rfl
@[simp] theorem State.raw_emitMalt (q : RawPath) : (s.emitMalt e).raw q = s.raw q := rfl
@[simp] theorem State.emitMalt_alive : (s.emitMalt e).malt.alive = s.malt.alive := rfl
@[simp] theorem State.emitMalt_log : (s.emitMalt e).malt.log = s.malt.log := rfl
@[simp] theorem State.emitMalt_logNext : (s.emitMalt e).malt.logNext = s.malt.logNext := rfl
@[simp] theorem State.emitMalt_mtun : (s.emitMalt e).malt.mtun = s.malt.mtun := rfl
@[simp] theorem State.emitMalt_buses : (s.emitMalt e).malt.buses = s.malt.buses := rfl
@[simp] theorem State.emitMalt_executing : (s.emitMalt e).malt.executing = s.malt.executing := rfl
@[simp] theorem State.emitMalt_raws : (s.emitMalt e).malt.raws = s.malt.raws := rfl
@[simp] theorem State.emitMalt_restarts : (s.emitMalt e).malt.restarts = s.malt.restarts := rfl
@[simp] theorem State.emitMalt_mctpBusy : (s.emitMalt e).malt.mctpBusy = s.malt.mctpBusy := rfl
@[simp] theorem State.emitMalt_windows : (s.emitMalt e).malt.windows = s.malt.windows := rfl
@[simp] theorem State.emitMalt_locBays : (s.emitMalt e).malt.locBays = s.malt.locBays := rfl
@[simp] theorem State.emitMalt_locTray : (s.emitMalt e).malt.locTray = s.malt.locTray := rfl
@[simp] theorem State.emitMalt_locSeconds : (s.emitMalt e).malt.locSeconds = s.malt.locSeconds := rfl
@[simp] theorem State.emitMalt_imageOk : (s.emitMalt e).malt.imageOk = s.malt.imageOk := rfl
@[simp] theorem State.emitMalt_alertHeld : (s.emitMalt e).malt.alertHeld = s.malt.alertHeld := rfl
@[simp] theorem State.emitMalt_alertMask : (s.emitMalt e).malt.alertMask = s.malt.alertMask := rfl
@[simp] theorem State.emitMalt_alertStatus : (s.emitMalt e).malt.alertStatus = s.malt.alertStatus := rfl
@[simp] theorem State.emitMalt_alertAck : (s.emitMalt e).malt.alertAck = s.malt.alertAck := rfl
@[simp] theorem State.emitMalt_reeval : (s.emitMalt e).malt.reeval = s.malt.reeval := rfl
@[simp] theorem State.emitMalt_bootTime : (s.emitMalt e).malt.bootTime = s.malt.bootTime := rfl
@[simp] theorem State.emitMalt_row : (s.emitMalt e).malt.row = s.malt.row := rfl
@[simp] theorem State.emitMalt_bank : (s.emitMalt e).malt.bank = s.malt.bank := rfl
@[simp] theorem State.emitMalt_eventReceiver : (s.emitMalt e).malt.eventReceiver = s.malt.eventReceiver := rfl
@[simp] theorem State.emitMalt_events : (s.emitMalt e).malt.events = s.malt.events := rfl
@[simp] theorem State.emitMalt_tid : (s.emitMalt e).malt.tid = s.malt.tid := rfl
@[simp] theorem State.emitMalt_out : (s.emitMalt e).malt.out = s.malt.out ++ [e] := rfl
end

end Sys2Proof.Machine
end

