-- ==== Sys2Proof/Laws/Ops.lean ====
section
/-! SUPPORT. What the Maltster's shared operations can change: an alert raised, a record logged, a reply given, a command ended, a
Tun's power reported; and that a record logged is held. -/

namespace Sys2Proof.Machine
open Sys2Proof

/-! ### An alert raised -/

/-- Raising an alert changes the alert registers and the Maltster's outputs only. -/
theorem State.raise_eq (s : State) (n : Nat) : ∃ a k o,
    s.raise n = { s with malt := { s.malt with alertStatus := a, alertAck := k, out := o } } := by
  unfold State.raise
  dsimp only
  split
  · exact ⟨_, _, _, rfl⟩
  · exact ⟨_, _, _, rfl⟩

@[simp] theorem State.raise_now (s : State) (n : Nat) : (s.raise n).now = s.now := by
  obtain ⟨_, _, _, h⟩ := State.raise_eq s n; rw [h]

@[simp] theorem State.raise_tuns (s : State) (n : Nat) : (s.raise n).tuns = s.tuns := by
  obtain ⟨_, _, _, h⟩ := State.raise_eq s n; rw [h]

@[simp] theorem State.raise_tray (s : State) (n : Nat) : (s.raise n).tray = s.tray := by
  obtain ⟨_, _, _, h⟩ := State.raise_eq s n; rw [h]

@[simp] theorem State.raise_bays (s : State) (n : Nat) : (s.raise n).bays = s.bays := by
  obtain ⟨_, _, _, h⟩ := State.raise_eq s n; rw [h]

@[simp] theorem State.raise_fw (s : State) (n : Nat) : (s.raise n).fw = s.fw := by
  obtain ⟨_, _, _, h⟩ := State.raise_eq s n; rw [h]

@[simp] theorem State.raise_fresh (s : State) (n : Nat) : (s.raise n).fresh = s.fresh := by
  obtain ⟨_, _, _, h⟩ := State.raise_eq s n; rw [h]

@[simp] theorem State.raise_pending (s : State) (n : Nat) : (s.raise n).pending = s.pending := by
  obtain ⟨_, _, _, h⟩ := State.raise_eq s n; rw [h]

@[simp] theorem State.raise_alive (s : State) (n : Nat) : (s.raise n).malt.alive = s.malt.alive := by
  obtain ⟨_, _, _, h⟩ := State.raise_eq s n; rw [h]

@[simp] theorem State.raise_log (s : State) (n : Nat) : (s.raise n).malt.log = s.malt.log := by
  obtain ⟨_, _, _, h⟩ := State.raise_eq s n; rw [h]

@[simp] theorem State.raise_logNext (s : State) (n : Nat) : (s.raise n).malt.logNext = s.malt.logNext := by
  obtain ⟨_, _, _, h⟩ := State.raise_eq s n; rw [h]

@[simp] theorem State.raise_mtun (s : State) (n : Nat) : (s.raise n).malt.mtun = s.malt.mtun := by
  obtain ⟨_, _, _, h⟩ := State.raise_eq s n; rw [h]

@[simp] theorem State.raise_buses (s : State) (n : Nat) : (s.raise n).malt.buses = s.malt.buses := by
  obtain ⟨_, _, _, h⟩ := State.raise_eq s n; rw [h]

@[simp] theorem State.raise_executing (s : State) (n : Nat) : (s.raise n).malt.executing = s.malt.executing := by
  obtain ⟨_, _, _, h⟩ := State.raise_eq s n; rw [h]

@[simp] theorem State.raise_raws (s : State) (n : Nat) : (s.raise n).malt.raws = s.malt.raws := by
  obtain ⟨_, _, _, h⟩ := State.raise_eq s n; rw [h]

@[simp] theorem State.raise_restarts (s : State) (n : Nat) : (s.raise n).malt.restarts = s.malt.restarts := by
  obtain ⟨_, _, _, h⟩ := State.raise_eq s n; rw [h]

@[simp] theorem State.raise_mctpBusy (s : State) (n : Nat) : (s.raise n).malt.mctpBusy = s.malt.mctpBusy := by
  obtain ⟨_, _, _, h⟩ := State.raise_eq s n; rw [h]

@[simp] theorem State.raise_windows (s : State) (n : Nat) : (s.raise n).malt.windows = s.malt.windows := by
  obtain ⟨_, _, _, h⟩ := State.raise_eq s n; rw [h]

@[simp] theorem State.raise_locBays (s : State) (n : Nat) : (s.raise n).malt.locBays = s.malt.locBays := by
  obtain ⟨_, _, _, h⟩ := State.raise_eq s n; rw [h]

@[simp] theorem State.raise_locTray (s : State) (n : Nat) : (s.raise n).malt.locTray = s.malt.locTray := by
  obtain ⟨_, _, _, h⟩ := State.raise_eq s n; rw [h]

@[simp] theorem State.raise_locSeconds (s : State) (n : Nat) : (s.raise n).malt.locSeconds = s.malt.locSeconds := by
  obtain ⟨_, _, _, h⟩ := State.raise_eq s n; rw [h]

@[simp] theorem State.raise_imageOk (s : State) (n : Nat) : (s.raise n).malt.imageOk = s.malt.imageOk := by
  obtain ⟨_, _, _, h⟩ := State.raise_eq s n; rw [h]

@[simp] theorem State.raise_alertHeld (s : State) (n : Nat) : (s.raise n).malt.alertHeld = s.malt.alertHeld := by
  obtain ⟨_, _, _, h⟩ := State.raise_eq s n; rw [h]

@[simp] theorem State.raise_alertMask (s : State) (n : Nat) : (s.raise n).malt.alertMask = s.malt.alertMask := by
  obtain ⟨_, _, _, h⟩ := State.raise_eq s n; rw [h]

@[simp] theorem State.raise_reeval (s : State) (n : Nat) : (s.raise n).malt.reeval = s.malt.reeval := by
  obtain ⟨_, _, _, h⟩ := State.raise_eq s n; rw [h]

@[simp] theorem State.raise_bootTime (s : State) (n : Nat) : (s.raise n).malt.bootTime = s.malt.bootTime := by
  obtain ⟨_, _, _, h⟩ := State.raise_eq s n; rw [h]

@[simp] theorem State.raise_row (s : State) (n : Nat) : (s.raise n).malt.row = s.malt.row := by
  obtain ⟨_, _, _, h⟩ := State.raise_eq s n; rw [h]

@[simp] theorem State.raise_bank (s : State) (n : Nat) : (s.raise n).malt.bank = s.malt.bank := by
  obtain ⟨_, _, _, h⟩ := State.raise_eq s n; rw [h]

@[simp] theorem State.raise_eventReceiver (s : State) (n : Nat) : (s.raise n).malt.eventReceiver = s.malt.eventReceiver := by
  obtain ⟨_, _, _, h⟩ := State.raise_eq s n; rw [h]

@[simp] theorem State.raise_events (s : State) (n : Nat) : (s.raise n).malt.events = s.malt.events := by
  obtain ⟨_, _, _, h⟩ := State.raise_eq s n; rw [h]

@[simp] theorem State.raise_tid (s : State) (n : Nat) : (s.raise n).malt.tid = s.malt.tid := by
  obtain ⟨_, _, _, h⟩ := State.raise_eq s n; rw [h]

@[simp] theorem State.tun_raise (s : State) (n : Nat) (x : TunId) : (s.raise n).tun x = s.tun x := by
  simp [State.tun]

@[simp] theorem State.mtun_raise (s : State) (n : Nat) (x : TunId) : (s.raise n).mtun x = s.mtun x := by
  simp [State.mtun]

@[simp] theorem State.bay_raise (s : State) (n : Nat) (x : Nat) : (s.raise n).bay x = s.bay x := by
  simp [State.bay]

@[simp] theorem State.bus_raise (s : State) (n : Nat) (x : Bus) : (s.raise n).bus x = s.bus x := by
  simp [State.bus]

@[simp] theorem State.raw_raise (s : State) (n : Nat) (x : RawPath) : (s.raise n).raw x = s.raw x := by
  simp [State.raw]

/-- The alert bit is set. -/
theorem State.raise_bit (s : State) (n : Nat) : (s.raise n).malt.alertStatus &&& (1#8 <<< n) = 1#8 <<< n := by
  unfold State.raise
  dsimp only
  split
  · assumption
  · ext i; simp; intro a b; exact Or.inr ⟨a, b⟩

/-- No alert bit is lost. -/
theorem State.raise_keeps (s : State) (n : Nat) (b : Byte) (h : s.malt.alertStatus &&& b = b) :
    (s.raise n).malt.alertStatus &&& b = b := by
  unfold State.raise
  dsimp only
  split
  · exact h
  · have h' : ∀ i, (s.malt.alertStatus &&& b).getLsbD i = b.getLsbD i := by intro i; rw [h]
    ext i hi
    have := h' i
    simp at this ⊢
    grind

/-! ### A record logged -/

/-- Writing a record changes the log, its flash, the alert registers and the Maltster's outputs only. -/
theorem State.logRecord_eq (s : State) (sev src ev : Nat) (d : List Byte) : ∃ l n a k o f,
    s.logRecord sev src ev d = { s with
      malt := { s.malt with log := l, logNext := n, alertStatus := a, alertAck := k, out := o },
      fw := { s.fw with logFlash := f } } := by
  unfold State.logRecord
  dsimp only
  split
  · obtain ⟨a, k, o, h⟩ := State.raise_eq _ 7
    rw [h]; exact ⟨_, _, _, _, _, _, rfl⟩
  · exact ⟨_, _, _, _, _, _, rfl⟩

/-- Logging an event changes the log, its flash, the alert registers and the Maltster's outputs only. -/
theorem State.log_eq (s : State) (sev src ev : Nat) (d : List Byte) : ∃ l n a k o f,
    s.log sev src ev d = { s with
      malt := { s.malt with log := l, logNext := n, alertStatus := a, alertAck := k, out := o },
      fw := { s.fw with logFlash := f } } := by
  have key : ∀ (x : State), (∃ l n a k o f, x = { s with
      malt := { s.malt with log := l, logNext := n, alertStatus := a, alertAck := k, out := o },
      fw := { s.fw with logFlash := f } }) → ∀ p q e, ∃ l n a k o f, x.logRecord p q e [] = { s with
      malt := { s.malt with log := l, logNext := n, alertStatus := a, alertAck := k, out := o },
      fw := { s.fw with logFlash := f } } := by
    rintro x ⟨l, n, a, k, o, f, rfl⟩ p q e
    obtain ⟨l', n', a', k', o', f', h⟩ := State.logRecord_eq { s with
      malt := { s.malt with log := l, logNext := n, alertStatus := a, alertAck := k, out := o },
      fw := { s.fw with logFlash := f } } p q e []
    rw [h]; exact ⟨_, _, _, _, _, _, rfl⟩
  have k0 := State.logRecord_eq s sev src ev d
  unfold State.log
  dsimp only
  split
  · exact k0
  · split <;> split <;> split <;> first
      | exact k0
      | exact key _ k0 _ _ _
      | exact key _ (key _ k0 _ _ _) _ _ _
      | (obtain ⟨l, n, a, k, o, f, h⟩ := key _ k0 4 0x30 0x0092
         rw [h]; exact ⟨_, _, _, _, _, _, rfl⟩)
      | (obtain ⟨l, n, a, k, o, f, h⟩ := key _ (key _ k0 2 0x30 0x0090) 4 0x30 0x0092
         rw [h]; exact ⟨_, _, _, _, _, _, rfl⟩)
      | (obtain ⟨l, n, a, k, o, f, h⟩ := key _ (key _ k0 1 0x30 0x0091) 4 0x30 0x0092
         rw [h]; exact ⟨_, _, _, _, _, _, rfl⟩)
      | (obtain ⟨l, n, a, k, o, f, h⟩ := key _ (key _ (key _ k0 2 0x30 0x0090) 1 0x30 0x0091) 4 0x30 0x0092
         rw [h]; exact ⟨_, _, _, _, _, _, rfl⟩)

@[simp] theorem State.logRecord_now (s : State) (sev src ev : Nat) (d : List Byte) : (s.logRecord sev src ev d).now = s.now := by
  obtain ⟨_, _, _, _, _, _, h⟩ := State.logRecord_eq s sev src ev d; rw [h]

@[simp] theorem State.logRecord_tuns (s : State) (sev src ev : Nat) (d : List Byte) : (s.logRecord sev src ev d).tuns = s.tuns := by
  obtain ⟨_, _, _, _, _, _, h⟩ := State.logRecord_eq s sev src ev d; rw [h]

@[simp] theorem State.logRecord_tray (s : State) (sev src ev : Nat) (d : List Byte) : (s.logRecord sev src ev d).tray = s.tray := by
  obtain ⟨_, _, _, _, _, _, h⟩ := State.logRecord_eq s sev src ev d; rw [h]

@[simp] theorem State.logRecord_bays (s : State) (sev src ev : Nat) (d : List Byte) : (s.logRecord sev src ev d).bays = s.bays := by
  obtain ⟨_, _, _, _, _, _, h⟩ := State.logRecord_eq s sev src ev d; rw [h]

@[simp] theorem State.logRecord_fresh (s : State) (sev src ev : Nat) (d : List Byte) : (s.logRecord sev src ev d).fresh = s.fresh := by
  obtain ⟨_, _, _, _, _, _, h⟩ := State.logRecord_eq s sev src ev d; rw [h]

@[simp] theorem State.logRecord_pending (s : State) (sev src ev : Nat) (d : List Byte) : (s.logRecord sev src ev d).pending = s.pending := by
  obtain ⟨_, _, _, _, _, _, h⟩ := State.logRecord_eq s sev src ev d; rw [h]

@[simp] theorem State.logRecord_alive (s : State) (sev src ev : Nat) (d : List Byte) : (s.logRecord sev src ev d).malt.alive = s.malt.alive := by
  obtain ⟨_, _, _, _, _, _, h⟩ := State.logRecord_eq s sev src ev d; rw [h]

@[simp] theorem State.logRecord_mtun (s : State) (sev src ev : Nat) (d : List Byte) : (s.logRecord sev src ev d).malt.mtun = s.malt.mtun := by
  obtain ⟨_, _, _, _, _, _, h⟩ := State.logRecord_eq s sev src ev d; rw [h]

@[simp] theorem State.logRecord_buses (s : State) (sev src ev : Nat) (d : List Byte) : (s.logRecord sev src ev d).malt.buses = s.malt.buses := by
  obtain ⟨_, _, _, _, _, _, h⟩ := State.logRecord_eq s sev src ev d; rw [h]

@[simp] theorem State.logRecord_executing (s : State) (sev src ev : Nat) (d : List Byte) : (s.logRecord sev src ev d).malt.executing = s.malt.executing := by
  obtain ⟨_, _, _, _, _, _, h⟩ := State.logRecord_eq s sev src ev d; rw [h]

@[simp] theorem State.logRecord_raws (s : State) (sev src ev : Nat) (d : List Byte) : (s.logRecord sev src ev d).malt.raws = s.malt.raws := by
  obtain ⟨_, _, _, _, _, _, h⟩ := State.logRecord_eq s sev src ev d; rw [h]

@[simp] theorem State.logRecord_restarts (s : State) (sev src ev : Nat) (d : List Byte) : (s.logRecord sev src ev d).malt.restarts = s.malt.restarts := by
  obtain ⟨_, _, _, _, _, _, h⟩ := State.logRecord_eq s sev src ev d; rw [h]

@[simp] theorem State.logRecord_mctpBusy (s : State) (sev src ev : Nat) (d : List Byte) : (s.logRecord sev src ev d).malt.mctpBusy = s.malt.mctpBusy := by
  obtain ⟨_, _, _, _, _, _, h⟩ := State.logRecord_eq s sev src ev d; rw [h]

@[simp] theorem State.logRecord_windows (s : State) (sev src ev : Nat) (d : List Byte) : (s.logRecord sev src ev d).malt.windows = s.malt.windows := by
  obtain ⟨_, _, _, _, _, _, h⟩ := State.logRecord_eq s sev src ev d; rw [h]

@[simp] theorem State.logRecord_locBays (s : State) (sev src ev : Nat) (d : List Byte) : (s.logRecord sev src ev d).malt.locBays = s.malt.locBays := by
  obtain ⟨_, _, _, _, _, _, h⟩ := State.logRecord_eq s sev src ev d; rw [h]

@[simp] theorem State.logRecord_locTray (s : State) (sev src ev : Nat) (d : List Byte) : (s.logRecord sev src ev d).malt.locTray = s.malt.locTray := by
  obtain ⟨_, _, _, _, _, _, h⟩ := State.logRecord_eq s sev src ev d; rw [h]

@[simp] theorem State.logRecord_locSeconds (s : State) (sev src ev : Nat) (d : List Byte) : (s.logRecord sev src ev d).malt.locSeconds = s.malt.locSeconds := by
  obtain ⟨_, _, _, _, _, _, h⟩ := State.logRecord_eq s sev src ev d; rw [h]

@[simp] theorem State.logRecord_imageOk (s : State) (sev src ev : Nat) (d : List Byte) : (s.logRecord sev src ev d).malt.imageOk = s.malt.imageOk := by
  obtain ⟨_, _, _, _, _, _, h⟩ := State.logRecord_eq s sev src ev d; rw [h]

@[simp] theorem State.logRecord_alertHeld (s : State) (sev src ev : Nat) (d : List Byte) : (s.logRecord sev src ev d).malt.alertHeld = s.malt.alertHeld := by
  obtain ⟨_, _, _, _, _, _, h⟩ := State.logRecord_eq s sev src ev d; rw [h]

@[simp] theorem State.logRecord_alertMask (s : State) (sev src ev : Nat) (d : List Byte) : (s.logRecord sev src ev d).malt.alertMask = s.malt.alertMask := by
  obtain ⟨_, _, _, _, _, _, h⟩ := State.logRecord_eq s sev src ev d; rw [h]

@[simp] theorem State.logRecord_reeval (s : State) (sev src ev : Nat) (d : List Byte) : (s.logRecord sev src ev d).malt.reeval = s.malt.reeval := by
  obtain ⟨_, _, _, _, _, _, h⟩ := State.logRecord_eq s sev src ev d; rw [h]

@[simp] theorem State.logRecord_bootTime (s : State) (sev src ev : Nat) (d : List Byte) : (s.logRecord sev src ev d).malt.bootTime = s.malt.bootTime := by
  obtain ⟨_, _, _, _, _, _, h⟩ := State.logRecord_eq s sev src ev d; rw [h]

@[simp] theorem State.logRecord_row (s : State) (sev src ev : Nat) (d : List Byte) : (s.logRecord sev src ev d).malt.row = s.malt.row := by
  obtain ⟨_, _, _, _, _, _, h⟩ := State.logRecord_eq s sev src ev d; rw [h]

@[simp] theorem State.logRecord_bank (s : State) (sev src ev : Nat) (d : List Byte) : (s.logRecord sev src ev d).malt.bank = s.malt.bank := by
  obtain ⟨_, _, _, _, _, _, h⟩ := State.logRecord_eq s sev src ev d; rw [h]

@[simp] theorem State.logRecord_eventReceiver (s : State) (sev src ev : Nat) (d : List Byte) : (s.logRecord sev src ev d).malt.eventReceiver = s.malt.eventReceiver := by
  obtain ⟨_, _, _, _, _, _, h⟩ := State.logRecord_eq s sev src ev d; rw [h]

@[simp] theorem State.logRecord_events (s : State) (sev src ev : Nat) (d : List Byte) : (s.logRecord sev src ev d).malt.events = s.malt.events := by
  obtain ⟨_, _, _, _, _, _, h⟩ := State.logRecord_eq s sev src ev d; rw [h]

@[simp] theorem State.logRecord_tid (s : State) (sev src ev : Nat) (d : List Byte) : (s.logRecord sev src ev d).malt.tid = s.malt.tid := by
  obtain ⟨_, _, _, _, _, _, h⟩ := State.logRecord_eq s sev src ev d; rw [h]

@[simp] theorem State.tun_logRecord (s : State) (sev src ev : Nat) (d : List Byte) (x : TunId) : (s.logRecord sev src ev d).tun x = s.tun x := by
  simp [State.tun]

@[simp] theorem State.mtun_logRecord (s : State) (sev src ev : Nat) (d : List Byte) (x : TunId) : (s.logRecord sev src ev d).mtun x = s.mtun x := by
  simp [State.mtun]

@[simp] theorem State.bay_logRecord (s : State) (sev src ev : Nat) (d : List Byte) (x : Nat) : (s.logRecord sev src ev d).bay x = s.bay x := by
  simp [State.bay]

@[simp] theorem State.bus_logRecord (s : State) (sev src ev : Nat) (d : List Byte) (x : Bus) : (s.logRecord sev src ev d).bus x = s.bus x := by
  simp [State.bus]

@[simp] theorem State.raw_logRecord (s : State) (sev src ev : Nat) (d : List Byte) (x : RawPath) : (s.logRecord sev src ev d).raw x = s.raw x := by
  simp [State.raw]

@[simp] theorem State.log_now (s : State) (sev src ev : Nat) (d : List Byte) : (s.log sev src ev d).now = s.now := by
  obtain ⟨_, _, _, _, _, _, h⟩ := State.log_eq s sev src ev d; rw [h]

@[simp] theorem State.log_tuns (s : State) (sev src ev : Nat) (d : List Byte) : (s.log sev src ev d).tuns = s.tuns := by
  obtain ⟨_, _, _, _, _, _, h⟩ := State.log_eq s sev src ev d; rw [h]

@[simp] theorem State.log_tray (s : State) (sev src ev : Nat) (d : List Byte) : (s.log sev src ev d).tray = s.tray := by
  obtain ⟨_, _, _, _, _, _, h⟩ := State.log_eq s sev src ev d; rw [h]

@[simp] theorem State.log_bays (s : State) (sev src ev : Nat) (d : List Byte) : (s.log sev src ev d).bays = s.bays := by
  obtain ⟨_, _, _, _, _, _, h⟩ := State.log_eq s sev src ev d; rw [h]

@[simp] theorem State.log_fresh (s : State) (sev src ev : Nat) (d : List Byte) : (s.log sev src ev d).fresh = s.fresh := by
  obtain ⟨_, _, _, _, _, _, h⟩ := State.log_eq s sev src ev d; rw [h]

@[simp] theorem State.log_pending (s : State) (sev src ev : Nat) (d : List Byte) : (s.log sev src ev d).pending = s.pending := by
  obtain ⟨_, _, _, _, _, _, h⟩ := State.log_eq s sev src ev d; rw [h]

@[simp] theorem State.log_alive (s : State) (sev src ev : Nat) (d : List Byte) : (s.log sev src ev d).malt.alive = s.malt.alive := by
  obtain ⟨_, _, _, _, _, _, h⟩ := State.log_eq s sev src ev d; rw [h]

@[simp] theorem State.log_mtun (s : State) (sev src ev : Nat) (d : List Byte) : (s.log sev src ev d).malt.mtun = s.malt.mtun := by
  obtain ⟨_, _, _, _, _, _, h⟩ := State.log_eq s sev src ev d; rw [h]

@[simp] theorem State.log_buses (s : State) (sev src ev : Nat) (d : List Byte) : (s.log sev src ev d).malt.buses = s.malt.buses := by
  obtain ⟨_, _, _, _, _, _, h⟩ := State.log_eq s sev src ev d; rw [h]

@[simp] theorem State.log_executing (s : State) (sev src ev : Nat) (d : List Byte) : (s.log sev src ev d).malt.executing = s.malt.executing := by
  obtain ⟨_, _, _, _, _, _, h⟩ := State.log_eq s sev src ev d; rw [h]

@[simp] theorem State.log_raws (s : State) (sev src ev : Nat) (d : List Byte) : (s.log sev src ev d).malt.raws = s.malt.raws := by
  obtain ⟨_, _, _, _, _, _, h⟩ := State.log_eq s sev src ev d; rw [h]

@[simp] theorem State.log_restarts (s : State) (sev src ev : Nat) (d : List Byte) : (s.log sev src ev d).malt.restarts = s.malt.restarts := by
  obtain ⟨_, _, _, _, _, _, h⟩ := State.log_eq s sev src ev d; rw [h]

@[simp] theorem State.log_mctpBusy (s : State) (sev src ev : Nat) (d : List Byte) : (s.log sev src ev d).malt.mctpBusy = s.malt.mctpBusy := by
  obtain ⟨_, _, _, _, _, _, h⟩ := State.log_eq s sev src ev d; rw [h]

@[simp] theorem State.log_windows (s : State) (sev src ev : Nat) (d : List Byte) : (s.log sev src ev d).malt.windows = s.malt.windows := by
  obtain ⟨_, _, _, _, _, _, h⟩ := State.log_eq s sev src ev d; rw [h]

@[simp] theorem State.log_locBays (s : State) (sev src ev : Nat) (d : List Byte) : (s.log sev src ev d).malt.locBays = s.malt.locBays := by
  obtain ⟨_, _, _, _, _, _, h⟩ := State.log_eq s sev src ev d; rw [h]

@[simp] theorem State.log_locTray (s : State) (sev src ev : Nat) (d : List Byte) : (s.log sev src ev d).malt.locTray = s.malt.locTray := by
  obtain ⟨_, _, _, _, _, _, h⟩ := State.log_eq s sev src ev d; rw [h]

@[simp] theorem State.log_locSeconds (s : State) (sev src ev : Nat) (d : List Byte) : (s.log sev src ev d).malt.locSeconds = s.malt.locSeconds := by
  obtain ⟨_, _, _, _, _, _, h⟩ := State.log_eq s sev src ev d; rw [h]

@[simp] theorem State.log_imageOk (s : State) (sev src ev : Nat) (d : List Byte) : (s.log sev src ev d).malt.imageOk = s.malt.imageOk := by
  obtain ⟨_, _, _, _, _, _, h⟩ := State.log_eq s sev src ev d; rw [h]

@[simp] theorem State.log_alertHeld (s : State) (sev src ev : Nat) (d : List Byte) : (s.log sev src ev d).malt.alertHeld = s.malt.alertHeld := by
  obtain ⟨_, _, _, _, _, _, h⟩ := State.log_eq s sev src ev d; rw [h]

@[simp] theorem State.log_alertMask (s : State) (sev src ev : Nat) (d : List Byte) : (s.log sev src ev d).malt.alertMask = s.malt.alertMask := by
  obtain ⟨_, _, _, _, _, _, h⟩ := State.log_eq s sev src ev d; rw [h]

@[simp] theorem State.log_reeval (s : State) (sev src ev : Nat) (d : List Byte) : (s.log sev src ev d).malt.reeval = s.malt.reeval := by
  obtain ⟨_, _, _, _, _, _, h⟩ := State.log_eq s sev src ev d; rw [h]

@[simp] theorem State.log_bootTime (s : State) (sev src ev : Nat) (d : List Byte) : (s.log sev src ev d).malt.bootTime = s.malt.bootTime := by
  obtain ⟨_, _, _, _, _, _, h⟩ := State.log_eq s sev src ev d; rw [h]

@[simp] theorem State.log_row (s : State) (sev src ev : Nat) (d : List Byte) : (s.log sev src ev d).malt.row = s.malt.row := by
  obtain ⟨_, _, _, _, _, _, h⟩ := State.log_eq s sev src ev d; rw [h]

@[simp] theorem State.log_bank (s : State) (sev src ev : Nat) (d : List Byte) : (s.log sev src ev d).malt.bank = s.malt.bank := by
  obtain ⟨_, _, _, _, _, _, h⟩ := State.log_eq s sev src ev d; rw [h]

@[simp] theorem State.log_eventReceiver (s : State) (sev src ev : Nat) (d : List Byte) : (s.log sev src ev d).malt.eventReceiver = s.malt.eventReceiver := by
  obtain ⟨_, _, _, _, _, _, h⟩ := State.log_eq s sev src ev d; rw [h]

@[simp] theorem State.log_events (s : State) (sev src ev : Nat) (d : List Byte) : (s.log sev src ev d).malt.events = s.malt.events := by
  obtain ⟨_, _, _, _, _, _, h⟩ := State.log_eq s sev src ev d; rw [h]

@[simp] theorem State.log_tid (s : State) (sev src ev : Nat) (d : List Byte) : (s.log sev src ev d).malt.tid = s.malt.tid := by
  obtain ⟨_, _, _, _, _, _, h⟩ := State.log_eq s sev src ev d; rw [h]

@[simp] theorem State.tun_log (s : State) (sev src ev : Nat) (d : List Byte) (x : TunId) : (s.log sev src ev d).tun x = s.tun x := by
  simp [State.tun]

@[simp] theorem State.mtun_log (s : State) (sev src ev : Nat) (d : List Byte) (x : TunId) : (s.log sev src ev d).mtun x = s.mtun x := by
  simp [State.mtun]

@[simp] theorem State.bay_log (s : State) (sev src ev : Nat) (d : List Byte) (x : Nat) : (s.log sev src ev d).bay x = s.bay x := by
  simp [State.bay]

@[simp] theorem State.bus_log (s : State) (sev src ev : Nat) (d : List Byte) (x : Bus) : (s.log sev src ev d).bus x = s.bus x := by
  simp [State.bus]

@[simp] theorem State.raw_log (s : State) (sev src ev : Nat) (d : List Byte) (x : RawPath) : (s.log sev src ev d).raw x = s.raw x := by
  simp [State.raw]

/-- The log with one record more. -/
def pushLog (l : List LogRec) (r : LogRec) : List LogRec := if (l ++ [r]).length > 1024 then (l ++ [r]).drop 1 else l ++ [r]

theorem pushLog_length (l : List LogRec) (r : LogRec) (h : l.length ≤ 1024) : (pushLog l r).length ≤ 1024 := by
  unfold pushLog; split <;> simp at * <;> omega

/-- The last fewer than 1,024 records stay when one is added. -/
theorem pushLog_keep {l m k : List LogRec} (r : LogRec) (h : l = m ++ k) (hk : k.length < 1024) :
    ∃ m', pushLog l r = m' ++ (k ++ [r]) := by
  subst h
  unfold pushLog
  split
  · next h =>
    rcases m with _ | ⟨x, m⟩
    · simp at h; omega
    · exact ⟨m, by simp⟩
  · exact ⟨m, by simp⟩

/-- The log after one record: the record is the newest. -/
theorem State.logRecord_log (s : State) (sev src ev : Nat) (d : List Byte) :
    (s.logRecord sev src ev d).malt.log = pushLog s.malt.log (LogRec.mk s.malt.logNext (BitVec.ofNat 8 sev)
      (BitVec.ofNat 8 src) (BitVec.ofNat 16 ev) s.malt.restarts (msSince s s.malt.bootTime % 2 ^ 48) (logData d)) := by
  unfold State.logRecord pushLog
  dsimp only
  split <;> simp

theorem State.logRecord_length (s : State) (sev src ev : Nat) (d : List Byte) (h : s.malt.log.length ≤ 1024) :
    (s.logRecord sev src ev d).malt.log.length ≤ 1024 := by
  rw [State.logRecord_log]; exact pushLog_length _ _ h

theorem State.logRecord_keep (s : State) (sev src ev : Nat) (d : List Byte) {m k : List LogRec}
    (h : s.malt.log = m ++ k) (hk : k.length < 1024) :
    ∃ m' x, (s.logRecord sev src ev d).malt.log = m' ++ (k ++ [x]) := by
  rw [State.logRecord_log]
  obtain ⟨m', hm⟩ := pushLog_keep _ h hk
  exact ⟨m', _, hm⟩

/-- The record of the event is held, whatever the log held before. -/
theorem State.log_mem (s : State) (sev src ev : Nat) (d : List Byte) :
    ∃ r ∈ (s.log sev src ev d).malt.log, r.event = BitVec.ofNat 16 ev ∧ r.severity = BitVec.ofNat 8 sev ∧
      r.source = BitVec.ofNat 8 src ∧ r.data = logData d ∧ r.number = s.malt.logNext := by
  let r := LogRec.mk s.malt.logNext (BitVec.ofNat 8 sev) (BitVec.ofNat 8 src) (BitVec.ofNat 16 ev) s.malt.restarts
    (msSince s s.malt.bootTime % 2 ^ 48) (logData d)
  obtain ⟨m0, h0⟩ : ∃ m, (s.logRecord sev src ev d).malt.log = m ++ [r] := by
    rw [State.logRecord_log]
    obtain ⟨m, hm⟩ := pushLog_keep (l := s.malt.log) (m := s.malt.log) (k := []) r (by simp) (by simp)
    exact ⟨m, hm⟩
  refine ⟨r, ?_, rfl, rfl, rfl, rfl, rfl⟩
  unfold State.log
  dsimp only
  split
  · simp [h0]
  · split <;> split <;> split <;> (try simp only [State.modFw_malt]) <;> first
      | (rw [h0]; simp)
      | (obtain ⟨m1, x1, h1⟩ := State.logRecord_keep _ _ _ _ _ h0 (by simp); rw [h1]; simp)
      | (obtain ⟨m1, x1, h1⟩ := State.logRecord_keep _ _ _ _ _ h0 (by simp)
         obtain ⟨m2, x2, h2⟩ := State.logRecord_keep _ _ _ _ _ h1 (by simp); rw [h2]; simp)
      | (obtain ⟨m1, x1, h1⟩ := State.logRecord_keep _ _ _ _ _ h0 (by simp)
         obtain ⟨m2, x2, h2⟩ := State.logRecord_keep _ _ _ _ _ h1 (by simp)
         obtain ⟨m3, x3, h3⟩ := State.logRecord_keep _ _ _ _ _ h2 (by simp); rw [h3]; simp)

/-- The log never holds more than 1,024 records (07 R255). -/
theorem State.log_length (s : State) (sev src ev : Nat) (d : List Byte) (h : s.malt.log.length ≤ 1024) :
    (s.log sev src ev d).malt.log.length ≤ 1024 := by
  have h0 := State.logRecord_length s sev src ev d h
  unfold State.log
  dsimp only
  split
  · exact h0
  · split <;> split <;> split <;>
      (try simp only [State.modFw_malt]) <;>
      first
      | exact h0
      | exact State.logRecord_length _ _ _ _ _ h0
      | exact State.logRecord_length _ _ _ _ _ (State.logRecord_length _ _ _ _ _ h0)
      | exact State.logRecord_length _ _ _ _ _ (State.logRecord_length _ _ _ _ _ (State.logRecord_length _ _ _ _ _ h0))

/-! ### Replies -/

/-- A reply changes the reply buffers, the MCTP exchanges open and the Maltster's outputs only. -/
theorem State.reply_eq (s : State) (src : Src) (q : Req) (st : Half) (pl : List Byte) : ∃ r b o,
    s.reply src q st pl = { s with malt := { s.malt with raws := r, mctpBusy := b, out := o } } := by
  unfold State.reply
  cases src <;> exact ⟨_, _, _, rfl⟩

@[simp] theorem State.reply_now (s : State) (src : Src) (q : Req) (st : Half) (pl : List Byte) : (s.reply src q st pl).now = s.now := by
  obtain ⟨_, _, _, h⟩ := State.reply_eq s src q st pl; rw [h]

@[simp] theorem State.reply_tuns (s : State) (src : Src) (q : Req) (st : Half) (pl : List Byte) : (s.reply src q st pl).tuns = s.tuns := by
  obtain ⟨_, _, _, h⟩ := State.reply_eq s src q st pl; rw [h]

@[simp] theorem State.reply_tray (s : State) (src : Src) (q : Req) (st : Half) (pl : List Byte) : (s.reply src q st pl).tray = s.tray := by
  obtain ⟨_, _, _, h⟩ := State.reply_eq s src q st pl; rw [h]

@[simp] theorem State.reply_bays (s : State) (src : Src) (q : Req) (st : Half) (pl : List Byte) : (s.reply src q st pl).bays = s.bays := by
  obtain ⟨_, _, _, h⟩ := State.reply_eq s src q st pl; rw [h]

@[simp] theorem State.reply_fw (s : State) (src : Src) (q : Req) (st : Half) (pl : List Byte) : (s.reply src q st pl).fw = s.fw := by
  obtain ⟨_, _, _, h⟩ := State.reply_eq s src q st pl; rw [h]

@[simp] theorem State.reply_fresh (s : State) (src : Src) (q : Req) (st : Half) (pl : List Byte) : (s.reply src q st pl).fresh = s.fresh := by
  obtain ⟨_, _, _, h⟩ := State.reply_eq s src q st pl; rw [h]

@[simp] theorem State.reply_pending (s : State) (src : Src) (q : Req) (st : Half) (pl : List Byte) : (s.reply src q st pl).pending = s.pending := by
  obtain ⟨_, _, _, h⟩ := State.reply_eq s src q st pl; rw [h]

@[simp] theorem State.reply_alive (s : State) (src : Src) (q : Req) (st : Half) (pl : List Byte) : (s.reply src q st pl).malt.alive = s.malt.alive := by
  obtain ⟨_, _, _, h⟩ := State.reply_eq s src q st pl; rw [h]

@[simp] theorem State.reply_log (s : State) (src : Src) (q : Req) (st : Half) (pl : List Byte) : (s.reply src q st pl).malt.log = s.malt.log := by
  obtain ⟨_, _, _, h⟩ := State.reply_eq s src q st pl; rw [h]

@[simp] theorem State.reply_logNext (s : State) (src : Src) (q : Req) (st : Half) (pl : List Byte) : (s.reply src q st pl).malt.logNext = s.malt.logNext := by
  obtain ⟨_, _, _, h⟩ := State.reply_eq s src q st pl; rw [h]

@[simp] theorem State.reply_mtun (s : State) (src : Src) (q : Req) (st : Half) (pl : List Byte) : (s.reply src q st pl).malt.mtun = s.malt.mtun := by
  obtain ⟨_, _, _, h⟩ := State.reply_eq s src q st pl; rw [h]

@[simp] theorem State.reply_buses (s : State) (src : Src) (q : Req) (st : Half) (pl : List Byte) : (s.reply src q st pl).malt.buses = s.malt.buses := by
  obtain ⟨_, _, _, h⟩ := State.reply_eq s src q st pl; rw [h]

@[simp] theorem State.reply_executing (s : State) (src : Src) (q : Req) (st : Half) (pl : List Byte) : (s.reply src q st pl).malt.executing = s.malt.executing := by
  obtain ⟨_, _, _, h⟩ := State.reply_eq s src q st pl; rw [h]

@[simp] theorem State.reply_restarts (s : State) (src : Src) (q : Req) (st : Half) (pl : List Byte) : (s.reply src q st pl).malt.restarts = s.malt.restarts := by
  obtain ⟨_, _, _, h⟩ := State.reply_eq s src q st pl; rw [h]

@[simp] theorem State.reply_windows (s : State) (src : Src) (q : Req) (st : Half) (pl : List Byte) : (s.reply src q st pl).malt.windows = s.malt.windows := by
  obtain ⟨_, _, _, h⟩ := State.reply_eq s src q st pl; rw [h]

@[simp] theorem State.reply_locBays (s : State) (src : Src) (q : Req) (st : Half) (pl : List Byte) : (s.reply src q st pl).malt.locBays = s.malt.locBays := by
  obtain ⟨_, _, _, h⟩ := State.reply_eq s src q st pl; rw [h]

@[simp] theorem State.reply_locTray (s : State) (src : Src) (q : Req) (st : Half) (pl : List Byte) : (s.reply src q st pl).malt.locTray = s.malt.locTray := by
  obtain ⟨_, _, _, h⟩ := State.reply_eq s src q st pl; rw [h]

@[simp] theorem State.reply_locSeconds (s : State) (src : Src) (q : Req) (st : Half) (pl : List Byte) : (s.reply src q st pl).malt.locSeconds = s.malt.locSeconds := by
  obtain ⟨_, _, _, h⟩ := State.reply_eq s src q st pl; rw [h]

@[simp] theorem State.reply_imageOk (s : State) (src : Src) (q : Req) (st : Half) (pl : List Byte) : (s.reply src q st pl).malt.imageOk = s.malt.imageOk := by
  obtain ⟨_, _, _, h⟩ := State.reply_eq s src q st pl; rw [h]

@[simp] theorem State.reply_alertHeld (s : State) (src : Src) (q : Req) (st : Half) (pl : List Byte) : (s.reply src q st pl).malt.alertHeld = s.malt.alertHeld := by
  obtain ⟨_, _, _, h⟩ := State.reply_eq s src q st pl; rw [h]

@[simp] theorem State.reply_alertMask (s : State) (src : Src) (q : Req) (st : Half) (pl : List Byte) : (s.reply src q st pl).malt.alertMask = s.malt.alertMask := by
  obtain ⟨_, _, _, h⟩ := State.reply_eq s src q st pl; rw [h]

@[simp] theorem State.reply_alertStatus (s : State) (src : Src) (q : Req) (st : Half) (pl : List Byte) : (s.reply src q st pl).malt.alertStatus = s.malt.alertStatus := by
  obtain ⟨_, _, _, h⟩ := State.reply_eq s src q st pl; rw [h]

@[simp] theorem State.reply_alertAck (s : State) (src : Src) (q : Req) (st : Half) (pl : List Byte) : (s.reply src q st pl).malt.alertAck = s.malt.alertAck := by
  obtain ⟨_, _, _, h⟩ := State.reply_eq s src q st pl; rw [h]

@[simp] theorem State.reply_reeval (s : State) (src : Src) (q : Req) (st : Half) (pl : List Byte) : (s.reply src q st pl).malt.reeval = s.malt.reeval := by
  obtain ⟨_, _, _, h⟩ := State.reply_eq s src q st pl; rw [h]

@[simp] theorem State.reply_bootTime (s : State) (src : Src) (q : Req) (st : Half) (pl : List Byte) : (s.reply src q st pl).malt.bootTime = s.malt.bootTime := by
  obtain ⟨_, _, _, h⟩ := State.reply_eq s src q st pl; rw [h]

@[simp] theorem State.reply_row (s : State) (src : Src) (q : Req) (st : Half) (pl : List Byte) : (s.reply src q st pl).malt.row = s.malt.row := by
  obtain ⟨_, _, _, h⟩ := State.reply_eq s src q st pl; rw [h]

@[simp] theorem State.reply_bank (s : State) (src : Src) (q : Req) (st : Half) (pl : List Byte) : (s.reply src q st pl).malt.bank = s.malt.bank := by
  obtain ⟨_, _, _, h⟩ := State.reply_eq s src q st pl; rw [h]

@[simp] theorem State.reply_eventReceiver (s : State) (src : Src) (q : Req) (st : Half) (pl : List Byte) : (s.reply src q st pl).malt.eventReceiver = s.malt.eventReceiver := by
  obtain ⟨_, _, _, h⟩ := State.reply_eq s src q st pl; rw [h]

@[simp] theorem State.reply_events (s : State) (src : Src) (q : Req) (st : Half) (pl : List Byte) : (s.reply src q st pl).malt.events = s.malt.events := by
  obtain ⟨_, _, _, h⟩ := State.reply_eq s src q st pl; rw [h]

@[simp] theorem State.reply_tid (s : State) (src : Src) (q : Req) (st : Half) (pl : List Byte) : (s.reply src q st pl).malt.tid = s.malt.tid := by
  obtain ⟨_, _, _, h⟩ := State.reply_eq s src q st pl; rw [h]

@[simp] theorem State.tun_reply (s : State) (src : Src) (q : Req) (st : Half) (pl : List Byte) (x : TunId) : (s.reply src q st pl).tun x = s.tun x := by
  simp [State.tun]

@[simp] theorem State.mtun_reply (s : State) (src : Src) (q : Req) (st : Half) (pl : List Byte) (x : TunId) : (s.reply src q st pl).mtun x = s.mtun x := by
  simp [State.mtun]

@[simp] theorem State.bay_reply (s : State) (src : Src) (q : Req) (st : Half) (pl : List Byte) (x : Nat) : (s.reply src q st pl).bay x = s.bay x := by
  simp [State.bay]

@[simp] theorem State.bus_reply (s : State) (src : Src) (q : Req) (st : Half) (pl : List Byte) (x : Bus) : (s.reply src q st pl).bus x = s.bus x := by
  simp [State.bus]

/-- Ending a command changes the commands executing, the reply buffers and the Maltster's outputs only. -/
theorem State.finishObj_eq (s : State) (o : WinObj) (st : Half) (pl : List Byte) : ∃ r b e x,
    s.finishObj o st pl = { s with malt := { s.malt with raws := r, mctpBusy := b, out := e, executing := x } } := by
  have inner : ∀ (hs : List Held) (z : State), (∃ r b e x, z = { s with malt := { s.malt with raws := r, mctpBusy := b, out := e, executing := x } }) →
      ∃ r b e x, hs.foldl (fun s h => s.reply h.src h.req st pl) z =
        { s with malt := { s.malt with raws := r, mctpBusy := b, out := e, executing := x } } := by
    intro hs
    induction hs with
    | nil => intro z h; exact h
    | cons h hs ih =>
      rintro z ⟨r, b, e, x, rfl⟩
      obtain ⟨r', b', o', h'⟩ := State.reply_eq { s with malt := { s.malt with raws := r, mctpBusy := b, out := e, executing := x } } h.src h.req st pl
      exact ih _ ⟨_, _, _, _, h'⟩
  have outer : ∀ (es : List Executing) (z : State), (∃ r b e x, z = { s with malt := { s.malt with raws := r, mctpBusy := b, out := e, executing := x } }) →
      ∃ r b e x, es.foldl (fun s e => e.srcs.foldl (fun s h => s.reply h.src h.req st pl) s) z =
        { s with malt := { s.malt with raws := r, mctpBusy := b, out := e, executing := x } } := by
    intro es
    induction es with
    | nil => intro z h; exact h
    | cons e es ih => intro z h; exact ih _ (inner _ _ h)
  unfold State.finishObj
  exact outer _ _ ⟨_, _, _, _, rfl⟩

theorem State.finish_eq (s : State) (o : Byte) (st : Half) (pl : List Byte) : ∃ r b e x,
    s.finish o st pl = { s with malt := { s.malt with raws := r, mctpBusy := b, out := e, executing := x } } :=
  State.finishObj_eq s _ st pl

@[simp] theorem State.finishObj_now (s : State) (o : WinObj) (st : Half) (pl : List Byte) : (s.finishObj o st pl).now = s.now := by
  obtain ⟨_, _, _, _, h⟩ := State.finishObj_eq s o st pl; rw [h]

@[simp] theorem State.finishObj_tuns (s : State) (o : WinObj) (st : Half) (pl : List Byte) : (s.finishObj o st pl).tuns = s.tuns := by
  obtain ⟨_, _, _, _, h⟩ := State.finishObj_eq s o st pl; rw [h]

@[simp] theorem State.finishObj_tray (s : State) (o : WinObj) (st : Half) (pl : List Byte) : (s.finishObj o st pl).tray = s.tray := by
  obtain ⟨_, _, _, _, h⟩ := State.finishObj_eq s o st pl; rw [h]

@[simp] theorem State.finishObj_bays (s : State) (o : WinObj) (st : Half) (pl : List Byte) : (s.finishObj o st pl).bays = s.bays := by
  obtain ⟨_, _, _, _, h⟩ := State.finishObj_eq s o st pl; rw [h]

@[simp] theorem State.finishObj_fw (s : State) (o : WinObj) (st : Half) (pl : List Byte) : (s.finishObj o st pl).fw = s.fw := by
  obtain ⟨_, _, _, _, h⟩ := State.finishObj_eq s o st pl; rw [h]

@[simp] theorem State.finishObj_fresh (s : State) (o : WinObj) (st : Half) (pl : List Byte) : (s.finishObj o st pl).fresh = s.fresh := by
  obtain ⟨_, _, _, _, h⟩ := State.finishObj_eq s o st pl; rw [h]

@[simp] theorem State.finishObj_pending (s : State) (o : WinObj) (st : Half) (pl : List Byte) : (s.finishObj o st pl).pending = s.pending := by
  obtain ⟨_, _, _, _, h⟩ := State.finishObj_eq s o st pl; rw [h]

@[simp] theorem State.finishObj_alive (s : State) (o : WinObj) (st : Half) (pl : List Byte) : (s.finishObj o st pl).malt.alive = s.malt.alive := by
  obtain ⟨_, _, _, _, h⟩ := State.finishObj_eq s o st pl; rw [h]

@[simp] theorem State.finishObj_log (s : State) (o : WinObj) (st : Half) (pl : List Byte) : (s.finishObj o st pl).malt.log = s.malt.log := by
  obtain ⟨_, _, _, _, h⟩ := State.finishObj_eq s o st pl; rw [h]

@[simp] theorem State.finishObj_logNext (s : State) (o : WinObj) (st : Half) (pl : List Byte) : (s.finishObj o st pl).malt.logNext = s.malt.logNext := by
  obtain ⟨_, _, _, _, h⟩ := State.finishObj_eq s o st pl; rw [h]

@[simp] theorem State.finishObj_mtun (s : State) (o : WinObj) (st : Half) (pl : List Byte) : (s.finishObj o st pl).malt.mtun = s.malt.mtun := by
  obtain ⟨_, _, _, _, h⟩ := State.finishObj_eq s o st pl; rw [h]

@[simp] theorem State.finishObj_buses (s : State) (o : WinObj) (st : Half) (pl : List Byte) : (s.finishObj o st pl).malt.buses = s.malt.buses := by
  obtain ⟨_, _, _, _, h⟩ := State.finishObj_eq s o st pl; rw [h]

@[simp] theorem State.finishObj_restarts (s : State) (o : WinObj) (st : Half) (pl : List Byte) : (s.finishObj o st pl).malt.restarts = s.malt.restarts := by
  obtain ⟨_, _, _, _, h⟩ := State.finishObj_eq s o st pl; rw [h]

@[simp] theorem State.finishObj_windows (s : State) (o : WinObj) (st : Half) (pl : List Byte) : (s.finishObj o st pl).malt.windows = s.malt.windows := by
  obtain ⟨_, _, _, _, h⟩ := State.finishObj_eq s o st pl; rw [h]

@[simp] theorem State.finishObj_locBays (s : State) (o : WinObj) (st : Half) (pl : List Byte) : (s.finishObj o st pl).malt.locBays = s.malt.locBays := by
  obtain ⟨_, _, _, _, h⟩ := State.finishObj_eq s o st pl; rw [h]

@[simp] theorem State.finishObj_locTray (s : State) (o : WinObj) (st : Half) (pl : List Byte) : (s.finishObj o st pl).malt.locTray = s.malt.locTray := by
  obtain ⟨_, _, _, _, h⟩ := State.finishObj_eq s o st pl; rw [h]

@[simp] theorem State.finishObj_locSeconds (s : State) (o : WinObj) (st : Half) (pl : List Byte) : (s.finishObj o st pl).malt.locSeconds = s.malt.locSeconds := by
  obtain ⟨_, _, _, _, h⟩ := State.finishObj_eq s o st pl; rw [h]

@[simp] theorem State.finishObj_imageOk (s : State) (o : WinObj) (st : Half) (pl : List Byte) : (s.finishObj o st pl).malt.imageOk = s.malt.imageOk := by
  obtain ⟨_, _, _, _, h⟩ := State.finishObj_eq s o st pl; rw [h]

@[simp] theorem State.finishObj_alertHeld (s : State) (o : WinObj) (st : Half) (pl : List Byte) : (s.finishObj o st pl).malt.alertHeld = s.malt.alertHeld := by
  obtain ⟨_, _, _, _, h⟩ := State.finishObj_eq s o st pl; rw [h]

@[simp] theorem State.finishObj_alertMask (s : State) (o : WinObj) (st : Half) (pl : List Byte) : (s.finishObj o st pl).malt.alertMask = s.malt.alertMask := by
  obtain ⟨_, _, _, _, h⟩ := State.finishObj_eq s o st pl; rw [h]

@[simp] theorem State.finishObj_alertStatus (s : State) (o : WinObj) (st : Half) (pl : List Byte) : (s.finishObj o st pl).malt.alertStatus = s.malt.alertStatus := by
  obtain ⟨_, _, _, _, h⟩ := State.finishObj_eq s o st pl; rw [h]

@[simp] theorem State.finishObj_alertAck (s : State) (o : WinObj) (st : Half) (pl : List Byte) : (s.finishObj o st pl).malt.alertAck = s.malt.alertAck := by
  obtain ⟨_, _, _, _, h⟩ := State.finishObj_eq s o st pl; rw [h]

@[simp] theorem State.finishObj_reeval (s : State) (o : WinObj) (st : Half) (pl : List Byte) : (s.finishObj o st pl).malt.reeval = s.malt.reeval := by
  obtain ⟨_, _, _, _, h⟩ := State.finishObj_eq s o st pl; rw [h]

@[simp] theorem State.finishObj_bootTime (s : State) (o : WinObj) (st : Half) (pl : List Byte) : (s.finishObj o st pl).malt.bootTime = s.malt.bootTime := by
  obtain ⟨_, _, _, _, h⟩ := State.finishObj_eq s o st pl; rw [h]

@[simp] theorem State.finishObj_row (s : State) (o : WinObj) (st : Half) (pl : List Byte) : (s.finishObj o st pl).malt.row = s.malt.row := by
  obtain ⟨_, _, _, _, h⟩ := State.finishObj_eq s o st pl; rw [h]

@[simp] theorem State.finishObj_bank (s : State) (o : WinObj) (st : Half) (pl : List Byte) : (s.finishObj o st pl).malt.bank = s.malt.bank := by
  obtain ⟨_, _, _, _, h⟩ := State.finishObj_eq s o st pl; rw [h]

@[simp] theorem State.finishObj_eventReceiver (s : State) (o : WinObj) (st : Half) (pl : List Byte) : (s.finishObj o st pl).malt.eventReceiver = s.malt.eventReceiver := by
  obtain ⟨_, _, _, _, h⟩ := State.finishObj_eq s o st pl; rw [h]

@[simp] theorem State.finishObj_events (s : State) (o : WinObj) (st : Half) (pl : List Byte) : (s.finishObj o st pl).malt.events = s.malt.events := by
  obtain ⟨_, _, _, _, h⟩ := State.finishObj_eq s o st pl; rw [h]

@[simp] theorem State.finishObj_tid (s : State) (o : WinObj) (st : Half) (pl : List Byte) : (s.finishObj o st pl).malt.tid = s.malt.tid := by
  obtain ⟨_, _, _, _, h⟩ := State.finishObj_eq s o st pl; rw [h]

@[simp] theorem State.tun_finishObj (s : State) (o : WinObj) (st : Half) (pl : List Byte) (x : TunId) : (s.finishObj o st pl).tun x = s.tun x := by
  simp [State.tun]

@[simp] theorem State.mtun_finishObj (s : State) (o : WinObj) (st : Half) (pl : List Byte) (x : TunId) : (s.finishObj o st pl).mtun x = s.mtun x := by
  simp [State.mtun]

@[simp] theorem State.bay_finishObj (s : State) (o : WinObj) (st : Half) (pl : List Byte) (x : Nat) : (s.finishObj o st pl).bay x = s.bay x := by
  simp [State.bay]

@[simp] theorem State.bus_finishObj (s : State) (o : WinObj) (st : Half) (pl : List Byte) (x : Bus) : (s.finishObj o st pl).bus x = s.bus x := by
  simp [State.bus]

@[simp] theorem State.finish_now (s : State) (o : Byte) (st : Half) (pl : List Byte) : (s.finish o st pl).now = s.now := by
  obtain ⟨_, _, _, _, h⟩ := State.finish_eq s o st pl; rw [h]

@[simp] theorem State.finish_tuns (s : State) (o : Byte) (st : Half) (pl : List Byte) : (s.finish o st pl).tuns = s.tuns := by
  obtain ⟨_, _, _, _, h⟩ := State.finish_eq s o st pl; rw [h]

@[simp] theorem State.finish_tray (s : State) (o : Byte) (st : Half) (pl : List Byte) : (s.finish o st pl).tray = s.tray := by
  obtain ⟨_, _, _, _, h⟩ := State.finish_eq s o st pl; rw [h]

@[simp] theorem State.finish_bays (s : State) (o : Byte) (st : Half) (pl : List Byte) : (s.finish o st pl).bays = s.bays := by
  obtain ⟨_, _, _, _, h⟩ := State.finish_eq s o st pl; rw [h]

@[simp] theorem State.finish_fw (s : State) (o : Byte) (st : Half) (pl : List Byte) : (s.finish o st pl).fw = s.fw := by
  obtain ⟨_, _, _, _, h⟩ := State.finish_eq s o st pl; rw [h]

@[simp] theorem State.finish_fresh (s : State) (o : Byte) (st : Half) (pl : List Byte) : (s.finish o st pl).fresh = s.fresh := by
  obtain ⟨_, _, _, _, h⟩ := State.finish_eq s o st pl; rw [h]

@[simp] theorem State.finish_pending (s : State) (o : Byte) (st : Half) (pl : List Byte) : (s.finish o st pl).pending = s.pending := by
  obtain ⟨_, _, _, _, h⟩ := State.finish_eq s o st pl; rw [h]

@[simp] theorem State.finish_alive (s : State) (o : Byte) (st : Half) (pl : List Byte) : (s.finish o st pl).malt.alive = s.malt.alive := by
  obtain ⟨_, _, _, _, h⟩ := State.finish_eq s o st pl; rw [h]

@[simp] theorem State.finish_log (s : State) (o : Byte) (st : Half) (pl : List Byte) : (s.finish o st pl).malt.log = s.malt.log := by
  obtain ⟨_, _, _, _, h⟩ := State.finish_eq s o st pl; rw [h]

@[simp] theorem State.finish_logNext (s : State) (o : Byte) (st : Half) (pl : List Byte) : (s.finish o st pl).malt.logNext = s.malt.logNext := by
  obtain ⟨_, _, _, _, h⟩ := State.finish_eq s o st pl; rw [h]

@[simp] theorem State.finish_mtun (s : State) (o : Byte) (st : Half) (pl : List Byte) : (s.finish o st pl).malt.mtun = s.malt.mtun := by
  obtain ⟨_, _, _, _, h⟩ := State.finish_eq s o st pl; rw [h]

@[simp] theorem State.finish_buses (s : State) (o : Byte) (st : Half) (pl : List Byte) : (s.finish o st pl).malt.buses = s.malt.buses := by
  obtain ⟨_, _, _, _, h⟩ := State.finish_eq s o st pl; rw [h]

@[simp] theorem State.finish_restarts (s : State) (o : Byte) (st : Half) (pl : List Byte) : (s.finish o st pl).malt.restarts = s.malt.restarts := by
  obtain ⟨_, _, _, _, h⟩ := State.finish_eq s o st pl; rw [h]

@[simp] theorem State.finish_windows (s : State) (o : Byte) (st : Half) (pl : List Byte) : (s.finish o st pl).malt.windows = s.malt.windows := by
  obtain ⟨_, _, _, _, h⟩ := State.finish_eq s o st pl; rw [h]

@[simp] theorem State.finish_locBays (s : State) (o : Byte) (st : Half) (pl : List Byte) : (s.finish o st pl).malt.locBays = s.malt.locBays := by
  obtain ⟨_, _, _, _, h⟩ := State.finish_eq s o st pl; rw [h]

@[simp] theorem State.finish_locTray (s : State) (o : Byte) (st : Half) (pl : List Byte) : (s.finish o st pl).malt.locTray = s.malt.locTray := by
  obtain ⟨_, _, _, _, h⟩ := State.finish_eq s o st pl; rw [h]

@[simp] theorem State.finish_locSeconds (s : State) (o : Byte) (st : Half) (pl : List Byte) : (s.finish o st pl).malt.locSeconds = s.malt.locSeconds := by
  obtain ⟨_, _, _, _, h⟩ := State.finish_eq s o st pl; rw [h]

@[simp] theorem State.finish_imageOk (s : State) (o : Byte) (st : Half) (pl : List Byte) : (s.finish o st pl).malt.imageOk = s.malt.imageOk := by
  obtain ⟨_, _, _, _, h⟩ := State.finish_eq s o st pl; rw [h]

@[simp] theorem State.finish_alertHeld (s : State) (o : Byte) (st : Half) (pl : List Byte) : (s.finish o st pl).malt.alertHeld = s.malt.alertHeld := by
  obtain ⟨_, _, _, _, h⟩ := State.finish_eq s o st pl; rw [h]

@[simp] theorem State.finish_alertMask (s : State) (o : Byte) (st : Half) (pl : List Byte) : (s.finish o st pl).malt.alertMask = s.malt.alertMask := by
  obtain ⟨_, _, _, _, h⟩ := State.finish_eq s o st pl; rw [h]

@[simp] theorem State.finish_alertStatus (s : State) (o : Byte) (st : Half) (pl : List Byte) : (s.finish o st pl).malt.alertStatus = s.malt.alertStatus := by
  obtain ⟨_, _, _, _, h⟩ := State.finish_eq s o st pl; rw [h]

@[simp] theorem State.finish_alertAck (s : State) (o : Byte) (st : Half) (pl : List Byte) : (s.finish o st pl).malt.alertAck = s.malt.alertAck := by
  obtain ⟨_, _, _, _, h⟩ := State.finish_eq s o st pl; rw [h]

@[simp] theorem State.finish_reeval (s : State) (o : Byte) (st : Half) (pl : List Byte) : (s.finish o st pl).malt.reeval = s.malt.reeval := by
  obtain ⟨_, _, _, _, h⟩ := State.finish_eq s o st pl; rw [h]

@[simp] theorem State.finish_bootTime (s : State) (o : Byte) (st : Half) (pl : List Byte) : (s.finish o st pl).malt.bootTime = s.malt.bootTime := by
  obtain ⟨_, _, _, _, h⟩ := State.finish_eq s o st pl; rw [h]

@[simp] theorem State.finish_row (s : State) (o : Byte) (st : Half) (pl : List Byte) : (s.finish o st pl).malt.row = s.malt.row := by
  obtain ⟨_, _, _, _, h⟩ := State.finish_eq s o st pl; rw [h]

@[simp] theorem State.finish_bank (s : State) (o : Byte) (st : Half) (pl : List Byte) : (s.finish o st pl).malt.bank = s.malt.bank := by
  obtain ⟨_, _, _, _, h⟩ := State.finish_eq s o st pl; rw [h]

@[simp] theorem State.finish_eventReceiver (s : State) (o : Byte) (st : Half) (pl : List Byte) : (s.finish o st pl).malt.eventReceiver = s.malt.eventReceiver := by
  obtain ⟨_, _, _, _, h⟩ := State.finish_eq s o st pl; rw [h]

@[simp] theorem State.finish_events (s : State) (o : Byte) (st : Half) (pl : List Byte) : (s.finish o st pl).malt.events = s.malt.events := by
  obtain ⟨_, _, _, _, h⟩ := State.finish_eq s o st pl; rw [h]

@[simp] theorem State.finish_tid (s : State) (o : Byte) (st : Half) (pl : List Byte) : (s.finish o st pl).malt.tid = s.malt.tid := by
  obtain ⟨_, _, _, _, h⟩ := State.finish_eq s o st pl; rw [h]

@[simp] theorem State.tun_finish (s : State) (o : Byte) (st : Half) (pl : List Byte) (x : TunId) : (s.finish o st pl).tun x = s.tun x := by
  simp [State.tun]

@[simp] theorem State.mtun_finish (s : State) (o : Byte) (st : Half) (pl : List Byte) (x : TunId) : (s.finish o st pl).mtun x = s.mtun x := by
  simp [State.mtun]

@[simp] theorem State.bay_finish (s : State) (o : Byte) (st : Half) (pl : List Byte) (x : Nat) : (s.finish o st pl).bay x = s.bay x := by
  simp [State.bay]

@[simp] theorem State.bus_finish (s : State) (o : Byte) (st : Half) (pl : List Byte) (x : Bus) : (s.finish o st pl).bus x = s.bus x := by
  simp [State.bus]

/-! ### Power -/

/-- Reporting a Tun's power changes its Maltster record, the alert registers and the Maltster's outputs only. -/
theorem State.setPower_eq (s : State) (t : TunId) (p : BitVec 3) : ∃ m a k o,
    s.setPower t p = { s with malt := { s.malt with mtun := m, alertStatus := a, alertAck := k, out := o } } := by
  unfold State.setPower
  dsimp only
  split
  · exact ⟨_, _, _, _, rfl⟩
  · obtain ⟨a, k, o, h⟩ := State.raise_eq (s.modMTun t fun m => { m with power := p }) 5
    rw [h]; exact ⟨_, _, _, _, rfl⟩

@[simp] theorem State.setPower_now (s : State) (t : TunId) (p : BitVec 3) : (s.setPower t p).now = s.now := by
  obtain ⟨_, _, _, _, h⟩ := State.setPower_eq s t p; rw [h]

@[simp] theorem State.setPower_tuns (s : State) (t : TunId) (p : BitVec 3) : (s.setPower t p).tuns = s.tuns := by
  obtain ⟨_, _, _, _, h⟩ := State.setPower_eq s t p; rw [h]

@[simp] theorem State.setPower_tray (s : State) (t : TunId) (p : BitVec 3) : (s.setPower t p).tray = s.tray := by
  obtain ⟨_, _, _, _, h⟩ := State.setPower_eq s t p; rw [h]

@[simp] theorem State.setPower_bays (s : State) (t : TunId) (p : BitVec 3) : (s.setPower t p).bays = s.bays := by
  obtain ⟨_, _, _, _, h⟩ := State.setPower_eq s t p; rw [h]

@[simp] theorem State.setPower_fw (s : State) (t : TunId) (p : BitVec 3) : (s.setPower t p).fw = s.fw := by
  obtain ⟨_, _, _, _, h⟩ := State.setPower_eq s t p; rw [h]

@[simp] theorem State.setPower_fresh (s : State) (t : TunId) (p : BitVec 3) : (s.setPower t p).fresh = s.fresh := by
  obtain ⟨_, _, _, _, h⟩ := State.setPower_eq s t p; rw [h]

@[simp] theorem State.setPower_pending (s : State) (t : TunId) (p : BitVec 3) : (s.setPower t p).pending = s.pending := by
  obtain ⟨_, _, _, _, h⟩ := State.setPower_eq s t p; rw [h]

@[simp] theorem State.setPower_alive (s : State) (t : TunId) (p : BitVec 3) : (s.setPower t p).malt.alive = s.malt.alive := by
  obtain ⟨_, _, _, _, h⟩ := State.setPower_eq s t p; rw [h]

@[simp] theorem State.setPower_log (s : State) (t : TunId) (p : BitVec 3) : (s.setPower t p).malt.log = s.malt.log := by
  obtain ⟨_, _, _, _, h⟩ := State.setPower_eq s t p; rw [h]

@[simp] theorem State.setPower_logNext (s : State) (t : TunId) (p : BitVec 3) : (s.setPower t p).malt.logNext = s.malt.logNext := by
  obtain ⟨_, _, _, _, h⟩ := State.setPower_eq s t p; rw [h]

@[simp] theorem State.setPower_buses (s : State) (t : TunId) (p : BitVec 3) : (s.setPower t p).malt.buses = s.malt.buses := by
  obtain ⟨_, _, _, _, h⟩ := State.setPower_eq s t p; rw [h]

@[simp] theorem State.setPower_executing (s : State) (t : TunId) (p : BitVec 3) : (s.setPower t p).malt.executing = s.malt.executing := by
  obtain ⟨_, _, _, _, h⟩ := State.setPower_eq s t p; rw [h]

@[simp] theorem State.setPower_raws (s : State) (t : TunId) (p : BitVec 3) : (s.setPower t p).malt.raws = s.malt.raws := by
  obtain ⟨_, _, _, _, h⟩ := State.setPower_eq s t p; rw [h]

@[simp] theorem State.setPower_restarts (s : State) (t : TunId) (p : BitVec 3) : (s.setPower t p).malt.restarts = s.malt.restarts := by
  obtain ⟨_, _, _, _, h⟩ := State.setPower_eq s t p; rw [h]

@[simp] theorem State.setPower_mctpBusy (s : State) (t : TunId) (p : BitVec 3) : (s.setPower t p).malt.mctpBusy = s.malt.mctpBusy := by
  obtain ⟨_, _, _, _, h⟩ := State.setPower_eq s t p; rw [h]

@[simp] theorem State.setPower_windows (s : State) (t : TunId) (p : BitVec 3) : (s.setPower t p).malt.windows = s.malt.windows := by
  obtain ⟨_, _, _, _, h⟩ := State.setPower_eq s t p; rw [h]

@[simp] theorem State.setPower_locBays (s : State) (t : TunId) (p : BitVec 3) : (s.setPower t p).malt.locBays = s.malt.locBays := by
  obtain ⟨_, _, _, _, h⟩ := State.setPower_eq s t p; rw [h]

@[simp] theorem State.setPower_locTray (s : State) (t : TunId) (p : BitVec 3) : (s.setPower t p).malt.locTray = s.malt.locTray := by
  obtain ⟨_, _, _, _, h⟩ := State.setPower_eq s t p; rw [h]

@[simp] theorem State.setPower_locSeconds (s : State) (t : TunId) (p : BitVec 3) : (s.setPower t p).malt.locSeconds = s.malt.locSeconds := by
  obtain ⟨_, _, _, _, h⟩ := State.setPower_eq s t p; rw [h]

@[simp] theorem State.setPower_imageOk (s : State) (t : TunId) (p : BitVec 3) : (s.setPower t p).malt.imageOk = s.malt.imageOk := by
  obtain ⟨_, _, _, _, h⟩ := State.setPower_eq s t p; rw [h]

@[simp] theorem State.setPower_alertHeld (s : State) (t : TunId) (p : BitVec 3) : (s.setPower t p).malt.alertHeld = s.malt.alertHeld := by
  obtain ⟨_, _, _, _, h⟩ := State.setPower_eq s t p; rw [h]

@[simp] theorem State.setPower_alertMask (s : State) (t : TunId) (p : BitVec 3) : (s.setPower t p).malt.alertMask = s.malt.alertMask := by
  obtain ⟨_, _, _, _, h⟩ := State.setPower_eq s t p; rw [h]

@[simp] theorem State.setPower_reeval (s : State) (t : TunId) (p : BitVec 3) : (s.setPower t p).malt.reeval = s.malt.reeval := by
  obtain ⟨_, _, _, _, h⟩ := State.setPower_eq s t p; rw [h]

@[simp] theorem State.setPower_bootTime (s : State) (t : TunId) (p : BitVec 3) : (s.setPower t p).malt.bootTime = s.malt.bootTime := by
  obtain ⟨_, _, _, _, h⟩ := State.setPower_eq s t p; rw [h]

@[simp] theorem State.setPower_row (s : State) (t : TunId) (p : BitVec 3) : (s.setPower t p).malt.row = s.malt.row := by
  obtain ⟨_, _, _, _, h⟩ := State.setPower_eq s t p; rw [h]

@[simp] theorem State.setPower_bank (s : State) (t : TunId) (p : BitVec 3) : (s.setPower t p).malt.bank = s.malt.bank := by
  obtain ⟨_, _, _, _, h⟩ := State.setPower_eq s t p; rw [h]

@[simp] theorem State.setPower_eventReceiver (s : State) (t : TunId) (p : BitVec 3) : (s.setPower t p).malt.eventReceiver = s.malt.eventReceiver := by
  obtain ⟨_, _, _, _, h⟩ := State.setPower_eq s t p; rw [h]

@[simp] theorem State.setPower_events (s : State) (t : TunId) (p : BitVec 3) : (s.setPower t p).malt.events = s.malt.events := by
  obtain ⟨_, _, _, _, h⟩ := State.setPower_eq s t p; rw [h]

@[simp] theorem State.setPower_tid (s : State) (t : TunId) (p : BitVec 3) : (s.setPower t p).malt.tid = s.malt.tid := by
  obtain ⟨_, _, _, _, h⟩ := State.setPower_eq s t p; rw [h]

@[simp] theorem State.tun_setPower (s : State) (t : TunId) (p : BitVec 3) (x : TunId) : (s.setPower t p).tun x = s.tun x := by
  simp [State.tun]

@[simp] theorem State.bay_setPower (s : State) (t : TunId) (p : BitVec 3) (x : Nat) : (s.setPower t p).bay x = s.bay x := by
  simp [State.bay]

@[simp] theorem State.bus_setPower (s : State) (t : TunId) (p : BitVec 3) (x : Bus) : (s.setPower t p).bus x = s.bus x := by
  simp [State.bus]

@[simp] theorem State.raw_setPower (s : State) (t : TunId) (p : BitVec 3) (x : RawPath) : (s.setPower t p).raw x = s.raw x := by
  simp [State.raw]

/-- The Tun's record after its power is reported: a 4 stays until a power-on sets 1. -/
theorem State.mtun_setPower_same (s : State) (t : TunId) (p : BitVec 3) (h : (s.mtun t).power ≠ 4 ∨ p = 1) :
    (s.setPower t p).mtun t = { s.mtun t with power := p } := by
  unfold State.setPower
  dsimp only
  split
  · next k => rw [← k.resolve_right (by rcases h with h | h <;> simp_all)]
  · simp

theorem State.setPower_keeps (s : State) (t : TunId) (p : BitVec 3) (h : (s.mtun t).power = 4) (k : p ≠ 1) : s.setPower t p = s := by
  unfold State.setPower
  exact if_pos (Or.inr ⟨h, k⟩)

theorem State.mtun_setPower_other (s : State) {t x : TunId} (p : BitVec 3) (h : x ≠ t) :
    (s.setPower t p).mtun x = s.mtun x := by
  unfold State.setPower
  dsimp only
  split
  · rfl
  · simp [State.mtun_modMTun_other _ _ _ h]

end Sys2Proof.Machine
end

