-- ==== Sys2Proof/Laws/Answers.lean ====
section
/-! SUPPORT. How a statement about a command's answer is reached: from the state it answers; and what a record logged says. -/

namespace Sys2Proof.Machine
open Sys2Proof

theorem Answers.of_next {c : Instr} {s t : State} {P : State → Prop} (h : exec c s = .next t) (p : P t) : Answers c s P :=
  ⟨t, h, p⟩

/-- The outcome is a next state of which `P` holds. -/
def Sat (o : Res) (P : State → Prop) : Prop := match o with | .next t => P t | .fault _ => False | .refused _ => False

@[simp] theorem Sat_next (t : State) (P : State → Prop) : Sat (.next t) P ↔ P t := Iff.rfl

@[simp] theorem Sat_ite (c : Prop) [Decidable c] (a b : Res) (P : State → Prop) :
    Sat (if c then a else b) P ↔ if c then Sat a P else Sat b P := by split <;> rfl

@[simp] theorem Sat_onTun (x : TunId) (s : State) (f : Tun → Tun) (P : State → Prop) : Sat (onTun x s f) P ↔ P (s.modTun x f) :=
  Iff.rfl

/-- A command's answer read off its meaning. -/
theorem answers_iff (c : Instr) (s : State) (P : State → Prop) : Answers c s P ↔ Sat (exec c s) P := by
  unfold Answers Sat
  rcases exec c s with t | r | r
  · simp
  · simp
  · simp

/-- The record of the event just logged is held. -/
theorem State.log_logged (s : State) (sev src ev : Nat) (d : List Byte) :
    Logged s (s.log sev src ev d) (BitVec.ofNat 16 ev) (BitVec.ofNat 8 sev) (BitVec.ofNat 8 src) d := by
  obtain ⟨r, h, a, b, c, e, f⟩ := State.log_mem s sev src ev d
  exact ⟨r, h, f, a, b, c, e⟩

/-- The same, numbered by any state with the same next number. -/
theorem State.logged_log {s s' : State} {sev src ev : Nat} {d : List Byte} (h : s'.malt.logNext = s.malt.logNext) :
    Logged s (s'.log sev src ev d) (BitVec.ofNat 16 ev) (BitVec.ofNat 8 sev) (BitVec.ofNat 8 src) d := by
  have k := State.log_logged s' sev src ev d
  unfold Logged at *
  rw [← h]
  exact k

/-- A record held in `t` is held in any state with the same log, and it is numbered by any state with the same next number. -/
theorem Logged.congr {s s' t t' : State} {ev : Half} {sev src : Byte} {d : List Byte} (h : Logged s' t' ev sev src d)
    (hn : s'.malt.logNext = s.malt.logNext) (hl : t'.malt.log = t.malt.log) : Logged s t ev sev src d := by
  unfold Logged at *
  rw [← hn, ← hl]
  exact h

/-- A path whose new state holds a reply reads it back. -/
theorem State.raw_modRaw_reply (s : State) (p : RawPath) (f : RawState → RawState) (h : (f (s.raw p)).reply ≠ none) :
    (s.modRaw p f).raw p = f (s.raw p) := by
  refine Tab.get_set_listed _ _ _ ?_
  intro e
  rw [e] at h
  exact h rfl

/-- The reply is delivered. -/
theorem State.reply_replied (s : State) (src : Src) (q : Req) (st : Half) (pl : List Byte) :
    Replied (s.reply src q st pl) src ⟨q.seq, q.op, st, if st = 0 ∨ st = 1 then pl else []⟩ := by
  cases src with
  | raw p =>
    simp only [Replied, State.reply]
    rw [State.raw_modRaw_reply _ _ _ (by simp)]
    exact ⟨rfl, rfl⟩
  | mctp b tag =>
    simp only [Replied, State.reply]
    exact ⟨_, List.mem_append_right _ (List.mem_singleton.mpr rfl)⟩

theorem State.raise_alerted (s : State) (n : Nat) : Alerted (s.raise n) n := State.raise_bit s n

end Sys2Proof.Machine
end

