-- ==== Sys2Proof/Laws/Tun.lean ====
section
/-! SUPPORT. What each update of one part of a Tun leaves alone, the read back of a port that was written, and the frames of the
operations that send on a link: they change the ports, the counters and what was sent, and nothing else. -/

namespace Sys2Proof.Machine
open Sys2Proof

variable (t : Tun)
@[simp] theorem Tun.modPort_col (id : Nat) (f : Port → Port) : (t.modPort id f).col = t.col := rfl
@[simp] theorem Tun.modPort_asm (id : Nat) (f : Port → Port) : (t.modPort id f).asm = t.asm := rfl
@[simp] theorem Tun.modPort_stepping (id : Nat) (f : Port → Port) : (t.modPort id f).stepping = t.stepping := rfl
@[simp] theorem Tun.modPort_svc (id : Nat) (f : Port → Port) : (t.modPort id f).svc = t.svc := rfl
@[simp] theorem Tun.modPort_clk (id : Nat) (f : Port → Port) : (t.modPort id f).clk = t.clk := rfl
@[simp] theorem Tun.modPort_rack (id : Nat) (f : Port → Port) : (t.modPort id f).rack = t.rack := rfl
@[simp] theorem Tun.modPort_conflict (id : Nat) (f : Port → Port) : (t.modPort id f).conflict = t.conflict := rfl
@[simp] theorem Tun.modPort_proxy (id : Nat) (f : Port → Port) : (t.modPort id f).proxy = t.proxy := rfl
@[simp] theorem Tun.modPort_plane (id : Nat) (f : Port → Port) : (t.modPort id f).plane = t.plane := rfl
@[simp] theorem Tun.modPort_hyd (id : Nat) (f : Port → Port) : (t.modPort id f).hyd = t.hyd := rfl
@[simp] theorem Tun.modPort_sched (id : Nat) (f : Port → Port) : (t.modPort id f).sched = t.sched := rfl
@[simp] theorem Tun.modPort_bm (id : Nat) (f : Port → Port) : (t.modPort id f).bm = t.bm := rfl
@[simp] theorem Tun.modPort_mash (id : Nat) (f : Port → Port) : (t.modPort id f).mash = t.mash := rfl
@[simp] theorem Tun.modPort_cellar (id : Nat) (f : Port → Port) : (t.modPort id f).cellar = t.cellar := rfl
@[simp] theorem Tun.modPort_token (id : Nat) (f : Port → Port) : (t.modPort id f).token = t.token := rfl
@[simp] theorem Tun.modPort_host (id : Nat) (f : Port → Port) : (t.modPort id f).host = t.host := rfl
@[simp] theorem Tun.modPort_err (id : Nat) (f : Port → Port) : (t.modPort id f).err = t.err := rfl
@[simp] theorem Tun.modPort_rel (id : Nat) (f : Port → Port) : (t.modPort id f).rel = t.rel := rfl
@[simp] theorem Tun.modPort_junction (id : Nat) (f : Port → Port) : (t.modPort id f).junction = t.junction := rfl
@[simp] theorem Tun.modPort_out (id : Nat) (f : Port → Port) : (t.modPort id f).out = t.out := rfl

@[simp] theorem Tun.bumpBy_col (g c i n : Nat) : (t.bumpBy g c i n).col = t.col := rfl
@[simp] theorem Tun.bumpBy_asm (g c i n : Nat) : (t.bumpBy g c i n).asm = t.asm := rfl
@[simp] theorem Tun.bumpBy_stepping (g c i n : Nat) : (t.bumpBy g c i n).stepping = t.stepping := rfl
@[simp] theorem Tun.bumpBy_svc (g c i n : Nat) : (t.bumpBy g c i n).svc = t.svc := rfl
@[simp] theorem Tun.bumpBy_clk (g c i n : Nat) : (t.bumpBy g c i n).clk = t.clk := rfl
@[simp] theorem Tun.bumpBy_rack (g c i n : Nat) : (t.bumpBy g c i n).rack = t.rack := rfl
@[simp] theorem Tun.bumpBy_conflict (g c i n : Nat) : (t.bumpBy g c i n).conflict = t.conflict := rfl
@[simp] theorem Tun.bumpBy_proxy (g c i n : Nat) : (t.bumpBy g c i n).proxy = t.proxy := rfl
@[simp] theorem Tun.bumpBy_ports (g c i n : Nat) : (t.bumpBy g c i n).ports = t.ports := rfl
@[simp] theorem Tun.bumpBy_plane (g c i n : Nat) : (t.bumpBy g c i n).plane = t.plane := rfl
@[simp] theorem Tun.bumpBy_sched (g c i n : Nat) : (t.bumpBy g c i n).sched = t.sched := rfl
@[simp] theorem Tun.bumpBy_bm (g c i n : Nat) : (t.bumpBy g c i n).bm = t.bm := rfl
@[simp] theorem Tun.bumpBy_mash (g c i n : Nat) : (t.bumpBy g c i n).mash = t.mash := rfl
@[simp] theorem Tun.bumpBy_cellar (g c i n : Nat) : (t.bumpBy g c i n).cellar = t.cellar := rfl
@[simp] theorem Tun.bumpBy_token (g c i n : Nat) : (t.bumpBy g c i n).token = t.token := rfl
@[simp] theorem Tun.bumpBy_host (g c i n : Nat) : (t.bumpBy g c i n).host = t.host := rfl
@[simp] theorem Tun.bumpBy_err (g c i n : Nat) : (t.bumpBy g c i n).err = t.err := rfl
@[simp] theorem Tun.bumpBy_rel (g c i n : Nat) : (t.bumpBy g c i n).rel = t.rel := rfl
@[simp] theorem Tun.bumpBy_junction (g c i n : Nat) : (t.bumpBy g c i n).junction = t.junction := rfl
@[simp] theorem Tun.bumpBy_out (g c i n : Nat) : (t.bumpBy g c i n).out = t.out := rfl

@[simp] theorem Tun.bump_col (g c i : Nat) : (t.bump g c i).col = t.col := rfl
@[simp] theorem Tun.bump_asm (g c i : Nat) : (t.bump g c i).asm = t.asm := rfl
@[simp] theorem Tun.bump_stepping (g c i : Nat) : (t.bump g c i).stepping = t.stepping := rfl
@[simp] theorem Tun.bump_svc (g c i : Nat) : (t.bump g c i).svc = t.svc := rfl
@[simp] theorem Tun.bump_clk (g c i : Nat) : (t.bump g c i).clk = t.clk := rfl
@[simp] theorem Tun.bump_rack (g c i : Nat) : (t.bump g c i).rack = t.rack := rfl
@[simp] theorem Tun.bump_conflict (g c i : Nat) : (t.bump g c i).conflict = t.conflict := rfl
@[simp] theorem Tun.bump_proxy (g c i : Nat) : (t.bump g c i).proxy = t.proxy := rfl
@[simp] theorem Tun.bump_ports (g c i : Nat) : (t.bump g c i).ports = t.ports := rfl
@[simp] theorem Tun.bump_plane (g c i : Nat) : (t.bump g c i).plane = t.plane := rfl
@[simp] theorem Tun.bump_sched (g c i : Nat) : (t.bump g c i).sched = t.sched := rfl
@[simp] theorem Tun.bump_bm (g c i : Nat) : (t.bump g c i).bm = t.bm := rfl
@[simp] theorem Tun.bump_mash (g c i : Nat) : (t.bump g c i).mash = t.mash := rfl
@[simp] theorem Tun.bump_cellar (g c i : Nat) : (t.bump g c i).cellar = t.cellar := rfl
@[simp] theorem Tun.bump_token (g c i : Nat) : (t.bump g c i).token = t.token := rfl
@[simp] theorem Tun.bump_host (g c i : Nat) : (t.bump g c i).host = t.host := rfl
@[simp] theorem Tun.bump_err (g c i : Nat) : (t.bump g c i).err = t.err := rfl
@[simp] theorem Tun.bump_rel (g c i : Nat) : (t.bump g c i).rel = t.rel := rfl
@[simp] theorem Tun.bump_junction (g c i : Nat) : (t.bump g c i).junction = t.junction := rfl
@[simp] theorem Tun.bump_out (g c i : Nat) : (t.bump g c i).out = t.out := rfl

@[simp] theorem Tun.emit_col (e : TunEmit) : (t.emit e).col = t.col := rfl
@[simp] theorem Tun.emit_asm (e : TunEmit) : (t.emit e).asm = t.asm := rfl
@[simp] theorem Tun.emit_stepping (e : TunEmit) : (t.emit e).stepping = t.stepping := rfl
@[simp] theorem Tun.emit_svc (e : TunEmit) : (t.emit e).svc = t.svc := rfl
@[simp] theorem Tun.emit_clk (e : TunEmit) : (t.emit e).clk = t.clk := rfl
@[simp] theorem Tun.emit_rack (e : TunEmit) : (t.emit e).rack = t.rack := rfl
@[simp] theorem Tun.emit_conflict (e : TunEmit) : (t.emit e).conflict = t.conflict := rfl
@[simp] theorem Tun.emit_proxy (e : TunEmit) : (t.emit e).proxy = t.proxy := rfl
@[simp] theorem Tun.emit_ports (e : TunEmit) : (t.emit e).ports = t.ports := rfl
@[simp] theorem Tun.emit_plane (e : TunEmit) : (t.emit e).plane = t.plane := rfl
@[simp] theorem Tun.emit_hyd (e : TunEmit) : (t.emit e).hyd = t.hyd := rfl
@[simp] theorem Tun.emit_sched (e : TunEmit) : (t.emit e).sched = t.sched := rfl
@[simp] theorem Tun.emit_bm (e : TunEmit) : (t.emit e).bm = t.bm := rfl
@[simp] theorem Tun.emit_mash (e : TunEmit) : (t.emit e).mash = t.mash := rfl
@[simp] theorem Tun.emit_cellar (e : TunEmit) : (t.emit e).cellar = t.cellar := rfl
@[simp] theorem Tun.emit_token (e : TunEmit) : (t.emit e).token = t.token := rfl
@[simp] theorem Tun.emit_host (e : TunEmit) : (t.emit e).host = t.host := rfl
@[simp] theorem Tun.emit_err (e : TunEmit) : (t.emit e).err = t.err := rfl
@[simp] theorem Tun.emit_rel (e : TunEmit) : (t.emit e).rel = t.rel := rfl
@[simp] theorem Tun.emit_junction (e : TunEmit) : (t.emit e).junction = t.junction := rfl

@[simp] theorem Tun.modBm_col (f : Bm → Bm) : (t.modBm f).col = t.col := rfl
@[simp] theorem Tun.modBm_asm (f : Bm → Bm) : (t.modBm f).asm = t.asm := rfl
@[simp] theorem Tun.modBm_stepping (f : Bm → Bm) : (t.modBm f).stepping = t.stepping := rfl
@[simp] theorem Tun.modBm_svc (f : Bm → Bm) : (t.modBm f).svc = t.svc := rfl
@[simp] theorem Tun.modBm_clk (f : Bm → Bm) : (t.modBm f).clk = t.clk := rfl
@[simp] theorem Tun.modBm_rack (f : Bm → Bm) : (t.modBm f).rack = t.rack := rfl
@[simp] theorem Tun.modBm_conflict (f : Bm → Bm) : (t.modBm f).conflict = t.conflict := rfl
@[simp] theorem Tun.modBm_proxy (f : Bm → Bm) : (t.modBm f).proxy = t.proxy := rfl
@[simp] theorem Tun.modBm_ports (f : Bm → Bm) : (t.modBm f).ports = t.ports := rfl
@[simp] theorem Tun.modBm_plane (f : Bm → Bm) : (t.modBm f).plane = t.plane := rfl
@[simp] theorem Tun.modBm_hyd (f : Bm → Bm) : (t.modBm f).hyd = t.hyd := rfl
@[simp] theorem Tun.modBm_sched (f : Bm → Bm) : (t.modBm f).sched = t.sched := rfl
@[simp] theorem Tun.modBm_mash (f : Bm → Bm) : (t.modBm f).mash = t.mash := rfl
@[simp] theorem Tun.modBm_cellar (f : Bm → Bm) : (t.modBm f).cellar = t.cellar := rfl
@[simp] theorem Tun.modBm_token (f : Bm → Bm) : (t.modBm f).token = t.token := rfl
@[simp] theorem Tun.modBm_host (f : Bm → Bm) : (t.modBm f).host = t.host := rfl
@[simp] theorem Tun.modBm_err (f : Bm → Bm) : (t.modBm f).err = t.err := rfl
@[simp] theorem Tun.modBm_rel (f : Bm → Bm) : (t.modBm f).rel = t.rel := rfl
@[simp] theorem Tun.modBm_junction (f : Bm → Bm) : (t.modBm f).junction = t.junction := rfl
@[simp] theorem Tun.modBm_out (f : Bm → Bm) : (t.modBm f).out = t.out := rfl

@[simp] theorem Tun.modQueue_col (q : Nat) (f : Queue → Queue) : (t.modQueue q f).col = t.col := rfl
@[simp] theorem Tun.modQueue_asm (q : Nat) (f : Queue → Queue) : (t.modQueue q f).asm = t.asm := rfl
@[simp] theorem Tun.modQueue_stepping (q : Nat) (f : Queue → Queue) : (t.modQueue q f).stepping = t.stepping := rfl
@[simp] theorem Tun.modQueue_svc (q : Nat) (f : Queue → Queue) : (t.modQueue q f).svc = t.svc := rfl
@[simp] theorem Tun.modQueue_clk (q : Nat) (f : Queue → Queue) : (t.modQueue q f).clk = t.clk := rfl
@[simp] theorem Tun.modQueue_rack (q : Nat) (f : Queue → Queue) : (t.modQueue q f).rack = t.rack := rfl
@[simp] theorem Tun.modQueue_conflict (q : Nat) (f : Queue → Queue) : (t.modQueue q f).conflict = t.conflict := rfl
@[simp] theorem Tun.modQueue_proxy (q : Nat) (f : Queue → Queue) : (t.modQueue q f).proxy = t.proxy := rfl
@[simp] theorem Tun.modQueue_ports (q : Nat) (f : Queue → Queue) : (t.modQueue q f).ports = t.ports := rfl
@[simp] theorem Tun.modQueue_plane (q : Nat) (f : Queue → Queue) : (t.modQueue q f).plane = t.plane := rfl
@[simp] theorem Tun.modQueue_hyd (q : Nat) (f : Queue → Queue) : (t.modQueue q f).hyd = t.hyd := rfl
@[simp] theorem Tun.modQueue_sched (q : Nat) (f : Queue → Queue) : (t.modQueue q f).sched = t.sched := rfl
@[simp] theorem Tun.modQueue_mash (q : Nat) (f : Queue → Queue) : (t.modQueue q f).mash = t.mash := rfl
@[simp] theorem Tun.modQueue_cellar (q : Nat) (f : Queue → Queue) : (t.modQueue q f).cellar = t.cellar := rfl
@[simp] theorem Tun.modQueue_token (q : Nat) (f : Queue → Queue) : (t.modQueue q f).token = t.token := rfl
@[simp] theorem Tun.modQueue_host (q : Nat) (f : Queue → Queue) : (t.modQueue q f).host = t.host := rfl
@[simp] theorem Tun.modQueue_err (q : Nat) (f : Queue → Queue) : (t.modQueue q f).err = t.err := rfl
@[simp] theorem Tun.modQueue_rel (q : Nat) (f : Queue → Queue) : (t.modQueue q f).rel = t.rel := rfl
@[simp] theorem Tun.modQueue_junction (q : Nat) (f : Queue → Queue) : (t.modQueue q f).junction = t.junction := rfl
@[simp] theorem Tun.modQueue_out (q : Nat) (f : Queue → Queue) : (t.modQueue q f).out = t.out := rfl

@[simp] theorem Tun.modRing_col (r : Nat) (f : Ring → Ring) : (t.modRing r f).col = t.col := rfl
@[simp] theorem Tun.modRing_asm (r : Nat) (f : Ring → Ring) : (t.modRing r f).asm = t.asm := rfl
@[simp] theorem Tun.modRing_stepping (r : Nat) (f : Ring → Ring) : (t.modRing r f).stepping = t.stepping := rfl
@[simp] theorem Tun.modRing_svc (r : Nat) (f : Ring → Ring) : (t.modRing r f).svc = t.svc := rfl
@[simp] theorem Tun.modRing_clk (r : Nat) (f : Ring → Ring) : (t.modRing r f).clk = t.clk := rfl
@[simp] theorem Tun.modRing_rack (r : Nat) (f : Ring → Ring) : (t.modRing r f).rack = t.rack := rfl
@[simp] theorem Tun.modRing_conflict (r : Nat) (f : Ring → Ring) : (t.modRing r f).conflict = t.conflict := rfl
@[simp] theorem Tun.modRing_proxy (r : Nat) (f : Ring → Ring) : (t.modRing r f).proxy = t.proxy := rfl
@[simp] theorem Tun.modRing_ports (r : Nat) (f : Ring → Ring) : (t.modRing r f).ports = t.ports := rfl
@[simp] theorem Tun.modRing_plane (r : Nat) (f : Ring → Ring) : (t.modRing r f).plane = t.plane := rfl
@[simp] theorem Tun.modRing_hyd (r : Nat) (f : Ring → Ring) : (t.modRing r f).hyd = t.hyd := rfl
@[simp] theorem Tun.modRing_sched (r : Nat) (f : Ring → Ring) : (t.modRing r f).sched = t.sched := rfl
@[simp] theorem Tun.modRing_mash (r : Nat) (f : Ring → Ring) : (t.modRing r f).mash = t.mash := rfl
@[simp] theorem Tun.modRing_cellar (r : Nat) (f : Ring → Ring) : (t.modRing r f).cellar = t.cellar := rfl
@[simp] theorem Tun.modRing_token (r : Nat) (f : Ring → Ring) : (t.modRing r f).token = t.token := rfl
@[simp] theorem Tun.modRing_host (r : Nat) (f : Ring → Ring) : (t.modRing r f).host = t.host := rfl
@[simp] theorem Tun.modRing_err (r : Nat) (f : Ring → Ring) : (t.modRing r f).err = t.err := rfl
@[simp] theorem Tun.modRing_rel (r : Nat) (f : Ring → Ring) : (t.modRing r f).rel = t.rel := rfl
@[simp] theorem Tun.modRing_junction (r : Nat) (f : Ring → Ring) : (t.modRing r f).junction = t.junction := rfl
@[simp] theorem Tun.modRing_out (r : Nat) (f : Ring → Ring) : (t.modRing r f).out = t.out := rfl

@[simp] theorem Tun.modCtx_col (c : Nat) (f : Ctx → Ctx) : (t.modCtx c f).col = t.col := rfl
@[simp] theorem Tun.modCtx_asm (c : Nat) (f : Ctx → Ctx) : (t.modCtx c f).asm = t.asm := rfl
@[simp] theorem Tun.modCtx_stepping (c : Nat) (f : Ctx → Ctx) : (t.modCtx c f).stepping = t.stepping := rfl
@[simp] theorem Tun.modCtx_svc (c : Nat) (f : Ctx → Ctx) : (t.modCtx c f).svc = t.svc := rfl
@[simp] theorem Tun.modCtx_clk (c : Nat) (f : Ctx → Ctx) : (t.modCtx c f).clk = t.clk := rfl
@[simp] theorem Tun.modCtx_rack (c : Nat) (f : Ctx → Ctx) : (t.modCtx c f).rack = t.rack := rfl
@[simp] theorem Tun.modCtx_conflict (c : Nat) (f : Ctx → Ctx) : (t.modCtx c f).conflict = t.conflict := rfl
@[simp] theorem Tun.modCtx_proxy (c : Nat) (f : Ctx → Ctx) : (t.modCtx c f).proxy = t.proxy := rfl
@[simp] theorem Tun.modCtx_ports (c : Nat) (f : Ctx → Ctx) : (t.modCtx c f).ports = t.ports := rfl
@[simp] theorem Tun.modCtx_plane (c : Nat) (f : Ctx → Ctx) : (t.modCtx c f).plane = t.plane := rfl
@[simp] theorem Tun.modCtx_hyd (c : Nat) (f : Ctx → Ctx) : (t.modCtx c f).hyd = t.hyd := rfl
@[simp] theorem Tun.modCtx_sched (c : Nat) (f : Ctx → Ctx) : (t.modCtx c f).sched = t.sched := rfl
@[simp] theorem Tun.modCtx_mash (c : Nat) (f : Ctx → Ctx) : (t.modCtx c f).mash = t.mash := rfl
@[simp] theorem Tun.modCtx_cellar (c : Nat) (f : Ctx → Ctx) : (t.modCtx c f).cellar = t.cellar := rfl
@[simp] theorem Tun.modCtx_token (c : Nat) (f : Ctx → Ctx) : (t.modCtx c f).token = t.token := rfl
@[simp] theorem Tun.modCtx_host (c : Nat) (f : Ctx → Ctx) : (t.modCtx c f).host = t.host := rfl
@[simp] theorem Tun.modCtx_err (c : Nat) (f : Ctx → Ctx) : (t.modCtx c f).err = t.err := rfl
@[simp] theorem Tun.modCtx_rel (c : Nat) (f : Ctx → Ctx) : (t.modCtx c f).rel = t.rel := rfl
@[simp] theorem Tun.modCtx_junction (c : Nat) (f : Ctx → Ctx) : (t.modCtx c f).junction = t.junction := rfl
@[simp] theorem Tun.modCtx_out (c : Nat) (f : Ctx → Ctx) : (t.modCtx c f).out = t.out := rfl

@[simp] theorem Tun.modSem_col (n : Nat) (f : Sem → Sem) : (t.modSem n f).col = t.col := rfl
@[simp] theorem Tun.modSem_asm (n : Nat) (f : Sem → Sem) : (t.modSem n f).asm = t.asm := rfl
@[simp] theorem Tun.modSem_stepping (n : Nat) (f : Sem → Sem) : (t.modSem n f).stepping = t.stepping := rfl
@[simp] theorem Tun.modSem_svc (n : Nat) (f : Sem → Sem) : (t.modSem n f).svc = t.svc := rfl
@[simp] theorem Tun.modSem_clk (n : Nat) (f : Sem → Sem) : (t.modSem n f).clk = t.clk := rfl
@[simp] theorem Tun.modSem_rack (n : Nat) (f : Sem → Sem) : (t.modSem n f).rack = t.rack := rfl
@[simp] theorem Tun.modSem_conflict (n : Nat) (f : Sem → Sem) : (t.modSem n f).conflict = t.conflict := rfl
@[simp] theorem Tun.modSem_proxy (n : Nat) (f : Sem → Sem) : (t.modSem n f).proxy = t.proxy := rfl
@[simp] theorem Tun.modSem_ports (n : Nat) (f : Sem → Sem) : (t.modSem n f).ports = t.ports := rfl
@[simp] theorem Tun.modSem_plane (n : Nat) (f : Sem → Sem) : (t.modSem n f).plane = t.plane := rfl
@[simp] theorem Tun.modSem_hyd (n : Nat) (f : Sem → Sem) : (t.modSem n f).hyd = t.hyd := rfl
@[simp] theorem Tun.modSem_sched (n : Nat) (f : Sem → Sem) : (t.modSem n f).sched = t.sched := rfl
@[simp] theorem Tun.modSem_mash (n : Nat) (f : Sem → Sem) : (t.modSem n f).mash = t.mash := rfl
@[simp] theorem Tun.modSem_cellar (n : Nat) (f : Sem → Sem) : (t.modSem n f).cellar = t.cellar := rfl
@[simp] theorem Tun.modSem_token (n : Nat) (f : Sem → Sem) : (t.modSem n f).token = t.token := rfl
@[simp] theorem Tun.modSem_host (n : Nat) (f : Sem → Sem) : (t.modSem n f).host = t.host := rfl
@[simp] theorem Tun.modSem_err (n : Nat) (f : Sem → Sem) : (t.modSem n f).err = t.err := rfl
@[simp] theorem Tun.modSem_rel (n : Nat) (f : Sem → Sem) : (t.modSem n f).rel = t.rel := rfl
@[simp] theorem Tun.modSem_junction (n : Nat) (f : Sem → Sem) : (t.modSem n f).junction = t.junction := rfl
@[simp] theorem Tun.modSem_out (n : Nat) (f : Sem → Sem) : (t.modSem n f).out = t.out := rfl

@[simp] theorem Tun.modCmd_col (id : Nat) (f : Cmd → Cmd) : (t.modCmd id f).col = t.col := rfl
@[simp] theorem Tun.modCmd_asm (id : Nat) (f : Cmd → Cmd) : (t.modCmd id f).asm = t.asm := rfl
@[simp] theorem Tun.modCmd_stepping (id : Nat) (f : Cmd → Cmd) : (t.modCmd id f).stepping = t.stepping := rfl
@[simp] theorem Tun.modCmd_svc (id : Nat) (f : Cmd → Cmd) : (t.modCmd id f).svc = t.svc := rfl
@[simp] theorem Tun.modCmd_clk (id : Nat) (f : Cmd → Cmd) : (t.modCmd id f).clk = t.clk := rfl
@[simp] theorem Tun.modCmd_rack (id : Nat) (f : Cmd → Cmd) : (t.modCmd id f).rack = t.rack := rfl
@[simp] theorem Tun.modCmd_conflict (id : Nat) (f : Cmd → Cmd) : (t.modCmd id f).conflict = t.conflict := rfl
@[simp] theorem Tun.modCmd_proxy (id : Nat) (f : Cmd → Cmd) : (t.modCmd id f).proxy = t.proxy := rfl
@[simp] theorem Tun.modCmd_ports (id : Nat) (f : Cmd → Cmd) : (t.modCmd id f).ports = t.ports := rfl
@[simp] theorem Tun.modCmd_plane (id : Nat) (f : Cmd → Cmd) : (t.modCmd id f).plane = t.plane := rfl
@[simp] theorem Tun.modCmd_hyd (id : Nat) (f : Cmd → Cmd) : (t.modCmd id f).hyd = t.hyd := rfl
@[simp] theorem Tun.modCmd_sched (id : Nat) (f : Cmd → Cmd) : (t.modCmd id f).sched = t.sched := rfl
@[simp] theorem Tun.modCmd_mash (id : Nat) (f : Cmd → Cmd) : (t.modCmd id f).mash = t.mash := rfl
@[simp] theorem Tun.modCmd_cellar (id : Nat) (f : Cmd → Cmd) : (t.modCmd id f).cellar = t.cellar := rfl
@[simp] theorem Tun.modCmd_token (id : Nat) (f : Cmd → Cmd) : (t.modCmd id f).token = t.token := rfl
@[simp] theorem Tun.modCmd_host (id : Nat) (f : Cmd → Cmd) : (t.modCmd id f).host = t.host := rfl
@[simp] theorem Tun.modCmd_err (id : Nat) (f : Cmd → Cmd) : (t.modCmd id f).err = t.err := rfl
@[simp] theorem Tun.modCmd_rel (id : Nat) (f : Cmd → Cmd) : (t.modCmd id f).rel = t.rel := rfl
@[simp] theorem Tun.modCmd_junction (id : Nat) (f : Cmd → Cmd) : (t.modCmd id f).junction = t.junction := rfl
@[simp] theorem Tun.modCmd_out (id : Nat) (f : Cmd → Cmd) : (t.modCmd id f).out = t.out := rfl

@[simp] theorem Tun.modCellar_col (f : Cellar → Cellar) : (t.modCellar f).col = t.col := rfl
@[simp] theorem Tun.modCellar_asm (f : Cellar → Cellar) : (t.modCellar f).asm = t.asm := rfl
@[simp] theorem Tun.modCellar_stepping (f : Cellar → Cellar) : (t.modCellar f).stepping = t.stepping := rfl
@[simp] theorem Tun.modCellar_svc (f : Cellar → Cellar) : (t.modCellar f).svc = t.svc := rfl
@[simp] theorem Tun.modCellar_clk (f : Cellar → Cellar) : (t.modCellar f).clk = t.clk := rfl
@[simp] theorem Tun.modCellar_rack (f : Cellar → Cellar) : (t.modCellar f).rack = t.rack := rfl
@[simp] theorem Tun.modCellar_conflict (f : Cellar → Cellar) : (t.modCellar f).conflict = t.conflict := rfl
@[simp] theorem Tun.modCellar_proxy (f : Cellar → Cellar) : (t.modCellar f).proxy = t.proxy := rfl
@[simp] theorem Tun.modCellar_ports (f : Cellar → Cellar) : (t.modCellar f).ports = t.ports := rfl
@[simp] theorem Tun.modCellar_plane (f : Cellar → Cellar) : (t.modCellar f).plane = t.plane := rfl
@[simp] theorem Tun.modCellar_hyd (f : Cellar → Cellar) : (t.modCellar f).hyd = t.hyd := rfl
@[simp] theorem Tun.modCellar_sched (f : Cellar → Cellar) : (t.modCellar f).sched = t.sched := rfl
@[simp] theorem Tun.modCellar_bm (f : Cellar → Cellar) : (t.modCellar f).bm = t.bm := rfl
@[simp] theorem Tun.modCellar_mash (f : Cellar → Cellar) : (t.modCellar f).mash = t.mash := rfl
@[simp] theorem Tun.modCellar_token (f : Cellar → Cellar) : (t.modCellar f).token = t.token := rfl
@[simp] theorem Tun.modCellar_host (f : Cellar → Cellar) : (t.modCellar f).host = t.host := rfl
@[simp] theorem Tun.modCellar_err (f : Cellar → Cellar) : (t.modCellar f).err = t.err := rfl
@[simp] theorem Tun.modCellar_rel (f : Cellar → Cellar) : (t.modCellar f).rel = t.rel := rfl
@[simp] theorem Tun.modCellar_junction (f : Cellar → Cellar) : (t.modCellar f).junction = t.junction := rfl
@[simp] theorem Tun.modCellar_out (f : Cellar → Cellar) : (t.modCellar f).out = t.out := rfl

@[simp] theorem Tun.modErr_col (f : Err → Err) : (t.modErr f).col = t.col := rfl
@[simp] theorem Tun.modErr_asm (f : Err → Err) : (t.modErr f).asm = t.asm := rfl
@[simp] theorem Tun.modErr_stepping (f : Err → Err) : (t.modErr f).stepping = t.stepping := rfl
@[simp] theorem Tun.modErr_svc (f : Err → Err) : (t.modErr f).svc = t.svc := rfl
@[simp] theorem Tun.modErr_clk (f : Err → Err) : (t.modErr f).clk = t.clk := rfl
@[simp] theorem Tun.modErr_rack (f : Err → Err) : (t.modErr f).rack = t.rack := rfl
@[simp] theorem Tun.modErr_conflict (f : Err → Err) : (t.modErr f).conflict = t.conflict := rfl
@[simp] theorem Tun.modErr_proxy (f : Err → Err) : (t.modErr f).proxy = t.proxy := rfl
@[simp] theorem Tun.modErr_ports (f : Err → Err) : (t.modErr f).ports = t.ports := rfl
@[simp] theorem Tun.modErr_plane (f : Err → Err) : (t.modErr f).plane = t.plane := rfl
@[simp] theorem Tun.modErr_hyd (f : Err → Err) : (t.modErr f).hyd = t.hyd := rfl
@[simp] theorem Tun.modErr_sched (f : Err → Err) : (t.modErr f).sched = t.sched := rfl
@[simp] theorem Tun.modErr_bm (f : Err → Err) : (t.modErr f).bm = t.bm := rfl
@[simp] theorem Tun.modErr_mash (f : Err → Err) : (t.modErr f).mash = t.mash := rfl
@[simp] theorem Tun.modErr_cellar (f : Err → Err) : (t.modErr f).cellar = t.cellar := rfl
@[simp] theorem Tun.modErr_token (f : Err → Err) : (t.modErr f).token = t.token := rfl
@[simp] theorem Tun.modErr_host (f : Err → Err) : (t.modErr f).host = t.host := rfl
@[simp] theorem Tun.modErr_rel (f : Err → Err) : (t.modErr f).rel = t.rel := rfl
@[simp] theorem Tun.modErr_junction (f : Err → Err) : (t.modErr f).junction = t.junction := rfl
@[simp] theorem Tun.modErr_out (f : Err → Err) : (t.modErr f).out = t.out := rfl

@[simp] theorem Tun.modRel_col (f : Rel → Rel) : (t.modRel f).col = t.col := rfl
@[simp] theorem Tun.modRel_asm (f : Rel → Rel) : (t.modRel f).asm = t.asm := rfl
@[simp] theorem Tun.modRel_stepping (f : Rel → Rel) : (t.modRel f).stepping = t.stepping := rfl
@[simp] theorem Tun.modRel_svc (f : Rel → Rel) : (t.modRel f).svc = t.svc := rfl
@[simp] theorem Tun.modRel_clk (f : Rel → Rel) : (t.modRel f).clk = t.clk := rfl
@[simp] theorem Tun.modRel_rack (f : Rel → Rel) : (t.modRel f).rack = t.rack := rfl
@[simp] theorem Tun.modRel_conflict (f : Rel → Rel) : (t.modRel f).conflict = t.conflict := rfl
@[simp] theorem Tun.modRel_proxy (f : Rel → Rel) : (t.modRel f).proxy = t.proxy := rfl
@[simp] theorem Tun.modRel_ports (f : Rel → Rel) : (t.modRel f).ports = t.ports := rfl
@[simp] theorem Tun.modRel_plane (f : Rel → Rel) : (t.modRel f).plane = t.plane := rfl
@[simp] theorem Tun.modRel_hyd (f : Rel → Rel) : (t.modRel f).hyd = t.hyd := rfl
@[simp] theorem Tun.modRel_sched (f : Rel → Rel) : (t.modRel f).sched = t.sched := rfl
@[simp] theorem Tun.modRel_bm (f : Rel → Rel) : (t.modRel f).bm = t.bm := rfl
@[simp] theorem Tun.modRel_mash (f : Rel → Rel) : (t.modRel f).mash = t.mash := rfl
@[simp] theorem Tun.modRel_cellar (f : Rel → Rel) : (t.modRel f).cellar = t.cellar := rfl
@[simp] theorem Tun.modRel_token (f : Rel → Rel) : (t.modRel f).token = t.token := rfl
@[simp] theorem Tun.modRel_host (f : Rel → Rel) : (t.modRel f).host = t.host := rfl
@[simp] theorem Tun.modRel_err (f : Rel → Rel) : (t.modRel f).err = t.err := rfl
@[simp] theorem Tun.modRel_junction (f : Rel → Rel) : (t.modRel f).junction = t.junction := rfl
@[simp] theorem Tun.modRel_out (f : Rel → Rel) : (t.modRel f).out = t.out := rfl

@[simp] theorem Tun.modHost_col (f : HPort → HPort) : (t.modHost f).col = t.col := rfl
@[simp] theorem Tun.modHost_asm (f : HPort → HPort) : (t.modHost f).asm = t.asm := rfl
@[simp] theorem Tun.modHost_stepping (f : HPort → HPort) : (t.modHost f).stepping = t.stepping := rfl
@[simp] theorem Tun.modHost_svc (f : HPort → HPort) : (t.modHost f).svc = t.svc := rfl
@[simp] theorem Tun.modHost_clk (f : HPort → HPort) : (t.modHost f).clk = t.clk := rfl
@[simp] theorem Tun.modHost_rack (f : HPort → HPort) : (t.modHost f).rack = t.rack := rfl
@[simp] theorem Tun.modHost_conflict (f : HPort → HPort) : (t.modHost f).conflict = t.conflict := rfl
@[simp] theorem Tun.modHost_proxy (f : HPort → HPort) : (t.modHost f).proxy = t.proxy := rfl
@[simp] theorem Tun.modHost_ports (f : HPort → HPort) : (t.modHost f).ports = t.ports := rfl
@[simp] theorem Tun.modHost_plane (f : HPort → HPort) : (t.modHost f).plane = t.plane := rfl
@[simp] theorem Tun.modHost_hyd (f : HPort → HPort) : (t.modHost f).hyd = t.hyd := rfl
@[simp] theorem Tun.modHost_sched (f : HPort → HPort) : (t.modHost f).sched = t.sched := rfl
@[simp] theorem Tun.modHost_bm (f : HPort → HPort) : (t.modHost f).bm = t.bm := rfl
@[simp] theorem Tun.modHost_mash (f : HPort → HPort) : (t.modHost f).mash = t.mash := rfl
@[simp] theorem Tun.modHost_cellar (f : HPort → HPort) : (t.modHost f).cellar = t.cellar := rfl
@[simp] theorem Tun.modHost_token (f : HPort → HPort) : (t.modHost f).token = t.token := rfl
@[simp] theorem Tun.modHost_err (f : HPort → HPort) : (t.modHost f).err = t.err := rfl
@[simp] theorem Tun.modHost_rel (f : HPort → HPort) : (t.modHost f).rel = t.rel := rfl
@[simp] theorem Tun.modHost_junction (f : HPort → HPort) : (t.modHost f).junction = t.junction := rfl
@[simp] theorem Tun.modHost_out (f : HPort → HPort) : (t.modHost f).out = t.out := rfl

@[simp] theorem Tun.modPlane_col (f : Plane → Plane) : (t.modPlane f).col = t.col := rfl
@[simp] theorem Tun.modPlane_asm (f : Plane → Plane) : (t.modPlane f).asm = t.asm := rfl
@[simp] theorem Tun.modPlane_stepping (f : Plane → Plane) : (t.modPlane f).stepping = t.stepping := rfl
@[simp] theorem Tun.modPlane_svc (f : Plane → Plane) : (t.modPlane f).svc = t.svc := rfl
@[simp] theorem Tun.modPlane_clk (f : Plane → Plane) : (t.modPlane f).clk = t.clk := rfl
@[simp] theorem Tun.modPlane_rack (f : Plane → Plane) : (t.modPlane f).rack = t.rack := rfl
@[simp] theorem Tun.modPlane_conflict (f : Plane → Plane) : (t.modPlane f).conflict = t.conflict := rfl
@[simp] theorem Tun.modPlane_proxy (f : Plane → Plane) : (t.modPlane f).proxy = t.proxy := rfl
@[simp] theorem Tun.modPlane_ports (f : Plane → Plane) : (t.modPlane f).ports = t.ports := rfl
@[simp] theorem Tun.modPlane_hyd (f : Plane → Plane) : (t.modPlane f).hyd = t.hyd := rfl
@[simp] theorem Tun.modPlane_sched (f : Plane → Plane) : (t.modPlane f).sched = t.sched := rfl
@[simp] theorem Tun.modPlane_bm (f : Plane → Plane) : (t.modPlane f).bm = t.bm := rfl
@[simp] theorem Tun.modPlane_mash (f : Plane → Plane) : (t.modPlane f).mash = t.mash := rfl
@[simp] theorem Tun.modPlane_cellar (f : Plane → Plane) : (t.modPlane f).cellar = t.cellar := rfl
@[simp] theorem Tun.modPlane_token (f : Plane → Plane) : (t.modPlane f).token = t.token := rfl
@[simp] theorem Tun.modPlane_host (f : Plane → Plane) : (t.modPlane f).host = t.host := rfl
@[simp] theorem Tun.modPlane_err (f : Plane → Plane) : (t.modPlane f).err = t.err := rfl
@[simp] theorem Tun.modPlane_rel (f : Plane → Plane) : (t.modPlane f).rel = t.rel := rfl
@[simp] theorem Tun.modPlane_junction (f : Plane → Plane) : (t.modPlane f).junction = t.junction := rfl
@[simp] theorem Tun.modPlane_out (f : Plane → Plane) : (t.modPlane f).out = t.out := rfl

@[simp] theorem Tun.modSched_col (f : Sched → Sched) : (t.modSched f).col = t.col := rfl
@[simp] theorem Tun.modSched_asm (f : Sched → Sched) : (t.modSched f).asm = t.asm := rfl
@[simp] theorem Tun.modSched_stepping (f : Sched → Sched) : (t.modSched f).stepping = t.stepping := rfl
@[simp] theorem Tun.modSched_svc (f : Sched → Sched) : (t.modSched f).svc = t.svc := rfl
@[simp] theorem Tun.modSched_clk (f : Sched → Sched) : (t.modSched f).clk = t.clk := rfl
@[simp] theorem Tun.modSched_rack (f : Sched → Sched) : (t.modSched f).rack = t.rack := rfl
@[simp] theorem Tun.modSched_conflict (f : Sched → Sched) : (t.modSched f).conflict = t.conflict := rfl
@[simp] theorem Tun.modSched_proxy (f : Sched → Sched) : (t.modSched f).proxy = t.proxy := rfl
@[simp] theorem Tun.modSched_ports (f : Sched → Sched) : (t.modSched f).ports = t.ports := rfl
@[simp] theorem Tun.modSched_plane (f : Sched → Sched) : (t.modSched f).plane = t.plane := rfl
@[simp] theorem Tun.modSched_hyd (f : Sched → Sched) : (t.modSched f).hyd = t.hyd := rfl
@[simp] theorem Tun.modSched_bm (f : Sched → Sched) : (t.modSched f).bm = t.bm := rfl
@[simp] theorem Tun.modSched_mash (f : Sched → Sched) : (t.modSched f).mash = t.mash := rfl
@[simp] theorem Tun.modSched_cellar (f : Sched → Sched) : (t.modSched f).cellar = t.cellar := rfl
@[simp] theorem Tun.modSched_token (f : Sched → Sched) : (t.modSched f).token = t.token := rfl
@[simp] theorem Tun.modSched_host (f : Sched → Sched) : (t.modSched f).host = t.host := rfl
@[simp] theorem Tun.modSched_err (f : Sched → Sched) : (t.modSched f).err = t.err := rfl
@[simp] theorem Tun.modSched_rel (f : Sched → Sched) : (t.modSched f).rel = t.rel := rfl
@[simp] theorem Tun.modSched_junction (f : Sched → Sched) : (t.modSched f).junction = t.junction := rfl
@[simp] theorem Tun.modSched_out (f : Sched → Sched) : (t.modSched f).out = t.out := rfl

@[simp] theorem Tun.modHyd_col (f : Hyd → Hyd) : (t.modHyd f).col = t.col := rfl
@[simp] theorem Tun.modHyd_asm (f : Hyd → Hyd) : (t.modHyd f).asm = t.asm := rfl
@[simp] theorem Tun.modHyd_stepping (f : Hyd → Hyd) : (t.modHyd f).stepping = t.stepping := rfl
@[simp] theorem Tun.modHyd_svc (f : Hyd → Hyd) : (t.modHyd f).svc = t.svc := rfl
@[simp] theorem Tun.modHyd_clk (f : Hyd → Hyd) : (t.modHyd f).clk = t.clk := rfl
@[simp] theorem Tun.modHyd_rack (f : Hyd → Hyd) : (t.modHyd f).rack = t.rack := rfl
@[simp] theorem Tun.modHyd_conflict (f : Hyd → Hyd) : (t.modHyd f).conflict = t.conflict := rfl
@[simp] theorem Tun.modHyd_proxy (f : Hyd → Hyd) : (t.modHyd f).proxy = t.proxy := rfl
@[simp] theorem Tun.modHyd_ports (f : Hyd → Hyd) : (t.modHyd f).ports = t.ports := rfl
@[simp] theorem Tun.modHyd_plane (f : Hyd → Hyd) : (t.modHyd f).plane = t.plane := rfl
@[simp] theorem Tun.modHyd_sched (f : Hyd → Hyd) : (t.modHyd f).sched = t.sched := rfl
@[simp] theorem Tun.modHyd_bm (f : Hyd → Hyd) : (t.modHyd f).bm = t.bm := rfl
@[simp] theorem Tun.modHyd_mash (f : Hyd → Hyd) : (t.modHyd f).mash = t.mash := rfl
@[simp] theorem Tun.modHyd_cellar (f : Hyd → Hyd) : (t.modHyd f).cellar = t.cellar := rfl
@[simp] theorem Tun.modHyd_token (f : Hyd → Hyd) : (t.modHyd f).token = t.token := rfl
@[simp] theorem Tun.modHyd_host (f : Hyd → Hyd) : (t.modHyd f).host = t.host := rfl
@[simp] theorem Tun.modHyd_err (f : Hyd → Hyd) : (t.modHyd f).err = t.err := rfl
@[simp] theorem Tun.modHyd_rel (f : Hyd → Hyd) : (t.modHyd f).rel = t.rel := rfl
@[simp] theorem Tun.modHyd_junction (f : Hyd → Hyd) : (t.modHyd f).junction = t.junction := rfl
@[simp] theorem Tun.modHyd_out (f : Hyd → Hyd) : (t.modHyd f).out = t.out := rfl

@[simp] theorem Tun.modToken_col (f : Token → Token) : (t.modToken f).col = t.col := rfl
@[simp] theorem Tun.modToken_asm (f : Token → Token) : (t.modToken f).asm = t.asm := rfl
@[simp] theorem Tun.modToken_stepping (f : Token → Token) : (t.modToken f).stepping = t.stepping := rfl
@[simp] theorem Tun.modToken_svc (f : Token → Token) : (t.modToken f).svc = t.svc := rfl
@[simp] theorem Tun.modToken_clk (f : Token → Token) : (t.modToken f).clk = t.clk := rfl
@[simp] theorem Tun.modToken_rack (f : Token → Token) : (t.modToken f).rack = t.rack := rfl
@[simp] theorem Tun.modToken_conflict (f : Token → Token) : (t.modToken f).conflict = t.conflict := rfl
@[simp] theorem Tun.modToken_proxy (f : Token → Token) : (t.modToken f).proxy = t.proxy := rfl
@[simp] theorem Tun.modToken_ports (f : Token → Token) : (t.modToken f).ports = t.ports := rfl
@[simp] theorem Tun.modToken_plane (f : Token → Token) : (t.modToken f).plane = t.plane := rfl
@[simp] theorem Tun.modToken_hyd (f : Token → Token) : (t.modToken f).hyd = t.hyd := rfl
@[simp] theorem Tun.modToken_sched (f : Token → Token) : (t.modToken f).sched = t.sched := rfl
@[simp] theorem Tun.modToken_bm (f : Token → Token) : (t.modToken f).bm = t.bm := rfl
@[simp] theorem Tun.modToken_mash (f : Token → Token) : (t.modToken f).mash = t.mash := rfl
@[simp] theorem Tun.modToken_cellar (f : Token → Token) : (t.modToken f).cellar = t.cellar := rfl
@[simp] theorem Tun.modToken_host (f : Token → Token) : (t.modToken f).host = t.host := rfl
@[simp] theorem Tun.modToken_err (f : Token → Token) : (t.modToken f).err = t.err := rfl
@[simp] theorem Tun.modToken_rel (f : Token → Token) : (t.modToken f).rel = t.rel := rfl
@[simp] theorem Tun.modToken_junction (f : Token → Token) : (t.modToken f).junction = t.junction := rfl
@[simp] theorem Tun.modToken_out (f : Token → Token) : (t.modToken f).out = t.out := rfl

@[simp] theorem Tun.modMash_col (f : Mash → Mash) : (t.modMash f).col = t.col := rfl
@[simp] theorem Tun.modMash_asm (f : Mash → Mash) : (t.modMash f).asm = t.asm := rfl
@[simp] theorem Tun.modMash_stepping (f : Mash → Mash) : (t.modMash f).stepping = t.stepping := rfl
@[simp] theorem Tun.modMash_svc (f : Mash → Mash) : (t.modMash f).svc = t.svc := rfl
@[simp] theorem Tun.modMash_clk (f : Mash → Mash) : (t.modMash f).clk = t.clk := rfl
@[simp] theorem Tun.modMash_rack (f : Mash → Mash) : (t.modMash f).rack = t.rack := rfl
@[simp] theorem Tun.modMash_conflict (f : Mash → Mash) : (t.modMash f).conflict = t.conflict := rfl
@[simp] theorem Tun.modMash_proxy (f : Mash → Mash) : (t.modMash f).proxy = t.proxy := rfl
@[simp] theorem Tun.modMash_ports (f : Mash → Mash) : (t.modMash f).ports = t.ports := rfl
@[simp] theorem Tun.modMash_plane (f : Mash → Mash) : (t.modMash f).plane = t.plane := rfl
@[simp] theorem Tun.modMash_hyd (f : Mash → Mash) : (t.modMash f).hyd = t.hyd := rfl
@[simp] theorem Tun.modMash_sched (f : Mash → Mash) : (t.modMash f).sched = t.sched := rfl
@[simp] theorem Tun.modMash_bm (f : Mash → Mash) : (t.modMash f).bm = t.bm := rfl
@[simp] theorem Tun.modMash_cellar (f : Mash → Mash) : (t.modMash f).cellar = t.cellar := rfl
@[simp] theorem Tun.modMash_token (f : Mash → Mash) : (t.modMash f).token = t.token := rfl
@[simp] theorem Tun.modMash_host (f : Mash → Mash) : (t.modMash f).host = t.host := rfl
@[simp] theorem Tun.modMash_err (f : Mash → Mash) : (t.modMash f).err = t.err := rfl
@[simp] theorem Tun.modMash_rel (f : Mash → Mash) : (t.modMash f).rel = t.rel := rfl
@[simp] theorem Tun.modMash_junction (f : Mash → Mash) : (t.modMash f).junction = t.junction := rfl
@[simp] theorem Tun.modMash_out (f : Mash → Mash) : (t.modMash f).out = t.out := rfl

@[simp] theorem Tun.peak_col (g c i v : Nat) : (t.peak g c i v).col = t.col := by
  unfold Tun.peak; dsimp only; split <;> rfl
@[simp] theorem Tun.peak_asm (g c i v : Nat) : (t.peak g c i v).asm = t.asm := by
  unfold Tun.peak; dsimp only; split <;> rfl
@[simp] theorem Tun.peak_stepping (g c i v : Nat) : (t.peak g c i v).stepping = t.stepping := by
  unfold Tun.peak; dsimp only; split <;> rfl
@[simp] theorem Tun.peak_svc (g c i v : Nat) : (t.peak g c i v).svc = t.svc := by
  unfold Tun.peak; dsimp only; split <;> rfl
@[simp] theorem Tun.peak_clk (g c i v : Nat) : (t.peak g c i v).clk = t.clk := by
  unfold Tun.peak; dsimp only; split <;> rfl
@[simp] theorem Tun.peak_rack (g c i v : Nat) : (t.peak g c i v).rack = t.rack := by
  unfold Tun.peak; dsimp only; split <;> rfl
@[simp] theorem Tun.peak_conflict (g c i v : Nat) : (t.peak g c i v).conflict = t.conflict := by
  unfold Tun.peak; dsimp only; split <;> rfl
@[simp] theorem Tun.peak_proxy (g c i v : Nat) : (t.peak g c i v).proxy = t.proxy := by
  unfold Tun.peak; dsimp only; split <;> rfl
@[simp] theorem Tun.peak_ports (g c i v : Nat) : (t.peak g c i v).ports = t.ports := by
  unfold Tun.peak; dsimp only; split <;> rfl
@[simp] theorem Tun.peak_plane (g c i v : Nat) : (t.peak g c i v).plane = t.plane := by
  unfold Tun.peak; dsimp only; split <;> rfl
@[simp] theorem Tun.peak_sched (g c i v : Nat) : (t.peak g c i v).sched = t.sched := by
  unfold Tun.peak; dsimp only; split <;> rfl
@[simp] theorem Tun.peak_bm (g c i v : Nat) : (t.peak g c i v).bm = t.bm := by
  unfold Tun.peak; dsimp only; split <;> rfl
@[simp] theorem Tun.peak_mash (g c i v : Nat) : (t.peak g c i v).mash = t.mash := by
  unfold Tun.peak; dsimp only; split <;> rfl
@[simp] theorem Tun.peak_cellar (g c i v : Nat) : (t.peak g c i v).cellar = t.cellar := by
  unfold Tun.peak; dsimp only; split <;> rfl
@[simp] theorem Tun.peak_token (g c i v : Nat) : (t.peak g c i v).token = t.token := by
  unfold Tun.peak; dsimp only; split <;> rfl
@[simp] theorem Tun.peak_host (g c i v : Nat) : (t.peak g c i v).host = t.host := by
  unfold Tun.peak; dsimp only; split <;> rfl
@[simp] theorem Tun.peak_err (g c i v : Nat) : (t.peak g c i v).err = t.err := by
  unfold Tun.peak; dsimp only; split <;> rfl
@[simp] theorem Tun.peak_rel (g c i v : Nat) : (t.peak g c i v).rel = t.rel := by
  unfold Tun.peak; dsimp only; split <;> rfl
@[simp] theorem Tun.peak_junction (g c i v : Nat) : (t.peak g c i v).junction = t.junction := by
  unfold Tun.peak; dsimp only; split <;> rfl
@[simp] theorem Tun.peak_out (g c i v : Nat) : (t.peak g c i v).out = t.out := by
  unfold Tun.peak; dsimp only; split <;> rfl

/-- A port written with anything but the reset state reads it back. -/
theorem Tun.port_modPort_listed (id : Nat) (f : Port → Port) (h : f (t.port id) ≠ {}) : (t.modPort id f).port id = f (t.port id) :=
  Tab.get_set_listed _ _ _ h

theorem Tun.port_modPort_other {id k : Nat} (f : Port → Port) (h : k ≠ id) : (t.modPort id f).port k = t.port k :=
  Tab.get_set_other _ _ _ h

@[simp] theorem Tun.port_bumpBy (g c i n k : Nat) : (t.bumpBy g c i n).port k = t.port k := rfl
@[simp] theorem Tun.port_bump (g c i k : Nat) : (t.bump g c i).port k = t.port k := rfl
@[simp] theorem Tun.port_emit (e : TunEmit) (k : Nat) : (t.emit e).port k = t.port k := rfl

theorem foldl_keeps {α β γ : Type} (g : α → γ) (f : α → β → α) (l : List β) (a : α) (h : ∀ a b, g (f a b) = g a) :
    g (l.foldl f a) = g a := by
  induction l generalizing a with
  | nil => rfl
  | cons b l ih => rw [List.foldl, ih, h]

/-! ### What sending on the links leaves alone -/

/-- All of a Tun but its ports and links, its counters and what it sent. -/
def Tun.rest (t : Tun) : Tun := { t with ports := .empty, hyd := {}, out := [] }

/-- Equal rests are equal in every other part. -/
theorem Tun.same_of_rest {t u : Tun} (h : u.rest = t.rest) :
    u.col = t.col ∧ u.asm = t.asm ∧ u.stepping = t.stepping ∧ u.svc = t.svc ∧ u.clk = t.clk ∧ u.rack = t.rack ∧
    u.conflict = t.conflict ∧ u.proxy = t.proxy ∧ u.plane = t.plane ∧ u.sched = t.sched ∧ u.bm = t.bm ∧ u.mash = t.mash ∧
    u.cellar = t.cellar ∧ u.token = t.token ∧ u.host = t.host ∧ u.err = t.err ∧ u.rel = t.rel ∧ u.junction = t.junction := by
  refine ⟨(congrArg Tun.col h :), (congrArg Tun.asm h :), (congrArg Tun.stepping h :), (congrArg Tun.svc h :), (congrArg Tun.clk h :), (congrArg Tun.rack h :), (congrArg Tun.conflict h :), (congrArg Tun.proxy h :), (congrArg Tun.plane h :), (congrArg Tun.sched h :), (congrArg Tun.bm h :), (congrArg Tun.mash h :), (congrArg Tun.cellar h :), (congrArg Tun.token h :), (congrArg Tun.host h :), (congrArg Tun.err h :), (congrArg Tun.rel h :), (congrArg Tun.junction h :)⟩

@[simp] theorem Tun.modPort_rest (id : Nat) (f : Port → Port) : (t.modPort id f).rest = t.rest := rfl
@[simp] theorem Tun.bump_rest (g c i : Nat) : (t.bump g c i).rest = t.rest := rfl
@[simp] theorem Tun.bumpBy_rest (g c i n : Nat) : (t.bumpBy g c i n).rest = t.rest := rfl
@[simp] theorem Tun.emit_rest (e : TunEmit) : (t.emit e).rest = t.rest := rfl
@[simp] theorem Tun.modHyd_rest (f : Hyd → Hyd) : (t.modHyd f).rest = t.rest := rfl
@[simp] theorem Tun.peak_rest (g c i v : Nat) : (t.peak g c i v).rest = t.rest := by
  unfold Tun.peak; dsimp only; split <;> rfl
@[simp] theorem Tun.wakeTx_rest (now id : Nat) : (t.wakeTx now id).rest = t.rest := by
  unfold Tun.wakeTx; dsimp only; split <;> rfl
@[simp] theorem Tun.putFlit_rest (now id : Nat) (h : HeldFlit) : (t.putFlit now id h).rest = t.rest := by
  unfold Tun.putFlit; dsimp only; repeat' split
  all_goals simp
@[simp] theorem Tun.putOrdered_rest (now id : Nat) (ft : BitVec 4) (p : List Byte) : (t.putOrdered now id ft p).rest = t.rest := by
  simp [Tun.putOrdered]
@[simp] theorem Tun.putOrderedN_rest (now id : Nat) (ft : BitVec 4) (p : List Byte) (n : Nat) :
    (t.putOrderedN now id ft p n).rest = t.rest := by
  induction n generalizing t with
  | zero => rfl
  | succ n ih => simp [Tun.putOrderedN, ih]
@[simp] theorem Tun.fencePort_rest (now scope id : Nat) (b : Bool) : (t.fencePort now scope b id).rest = t.rest := by simp [Tun.fencePort]
@[simp] theorem Tun.fencePorts_rest (now : Nat) (ids : List Nat) (scope : Nat) (b : Bool) : (t.fencePorts now ids scope b).rest = t.rest :=
  foldl_keeps Tun.rest _ _ _ fun _ _ => by simp
@[simp] theorem Tun.fenceLinks_rest (now scope : Nat) (b : Bool) : (t.fenceLinks now scope b).rest = t.rest := by simp [Tun.fenceLinks]
@[simp] theorem Tun.announceState_rest (now : Nat) : (t.announceState now).rest = t.rest :=
  foldl_keeps Tun.rest _ _ _ fun _ _ => by simp
@[simp] theorem Tun.idleFlit_rest (now id : Nat) : (t.idleFlit now id).rest = t.rest := by
  unfold Tun.idleFlit; dsimp only; repeat' split
  all_goals simp
@[simp] theorem Tun.idleFlits_rest (now : Nat) : (t.idleFlits now).rest = t.rest :=
  foldl_keeps Tun.rest _ _ _ fun _ _ => by simp
@[simp] theorem Tun.resend_rest (now id : Nat) (hs : List HeldFlit) : (t.resend now id hs).rest = t.rest :=
  foldl_keeps Tun.rest _ _ _ fun _ _ => by simp
@[simp] theorem Tun.pumpN_rest (now id n : Nat) : (t.pumpN now id n).rest = t.rest := by
  induction n generalizing t with
  | zero => rfl
  | succ n ih =>
    unfold Tun.pumpN; dsimp only
    split
    · rfl
    · split
      · rfl
      · rw [ih]; split <;> simp
@[simp] theorem Tun.pump_rest (now id : Nat) : (t.pump now id).rest = t.rest := by simp [Tun.pump]
@[simp] theorem Tun.wantNak_rest (now id : Nat) : (t.wantNak now id).rest = t.rest := by
  unfold Tun.wantNak; dsimp only; split <;> simp
@[simp] theorem Tun.sendRate_rest (id : Nat) : (t.sendRate id).rest = t.rest :=
  foldl_keeps Tun.rest _ _ _ fun _ _ => by simp
@[simp] theorem Tun.trainAnew_rest (id : Nat) : (t.trainAnew id).rest = t.rest := by
  unfold Tun.trainAnew Tun.latchTraining; dsimp only; split <;> simp
@[simp] theorem Tun.sendIdentity_rest (now id : Nat) : (t.sendIdentity now id).rest = t.rest := by simp [Tun.sendIdentity]

/-- A ring link that goes down changes the Hefe Plane; another port does not. -/
theorem Tun.ringLinkDown_eq (now id : Nat) :
    ∃ p, t.ringLinkDown now id = { t with plane := p } ∧ (isRingId id = false → p = t.plane) := by
  unfold Tun.ringLinkDown
  split
  · exact ⟨t.plane, rfl, fun _ => rfl⟩
  · next h => exact ⟨_, rfl, fun k => absurd k (by simpa using h)⟩
theorem Tun.portDown_rest (now id : Nat) (c : BitVec 4) (w : Bool) :
    ∃ p, (t.portDown now id c w).rest = { t.rest with plane := p } ∧ (isRingId id = false → p = t.plane) := by
  unfold Tun.portDown
  obtain ⟨p, e, k⟩ := Tun.ringLinkDown_eq ((t.modPort id (Port.toDetect c w)).trainAnew id) now id
  have key : ((t.modPort id (Port.toDetect c w)).trainAnew id).rest = t.rest := by simp
  refine ⟨p, ?_, fun h => (k h).trans (congrArg Tun.plane key :)⟩
  rw [e]
  exact (congrArg (fun u : Tun => { u with plane := p }) key :)

/-! ### What a flit sent leaves of the ports -/

@[simp] theorem Tun.port_peak (g c i v k : Nat) : (t.peak g c i v).port k = t.port k := by
  unfold Tun.peak; dsimp only; split <;> rfl

/-- All of a port but the marks of the headers it sends and its nap. -/
def Port.rest (p : Port) : Port := { p with txNapped := false, nakOwed := false, nakHold := false, injectCrc := false, drainAt := none }

/-- A change of one port that keeps its rest keeps every port's. -/
theorem Tun.modPort_port_rest (id k : Nat) (f : Port → Port) (hl : (t.port id).link = .linked) (h : (f (t.port id)).rest = (t.port id).rest) :
    ((t.modPort id f).port k).rest = (t.port k).rest := by
  by_cases hk : k = id
  · subst hk
    rw [Tun.port_modPort_listed _ _ _ fun he => ?_, h]
    have := congrArg Port.link h
    simp [he, Port.rest, hl] at this
  · rw [Tun.port_modPort_other _ _ hk]

@[simp] theorem Tun.wakeTx_port_rest (now id k : Nat) (hl : (t.port id).link = .linked) :
    ((t.wakeTx now id).port k).rest = (t.port k).rest := by
  unfold Tun.wakeTx
  dsimp only
  split
  · rfl
  · rw [Tun.modPort_port_rest _ _ _ _ (by simpa using hl) rfl]; rfl

@[simp] theorem Tun.putFlit_port_rest (now id k : Nat) (h : HeldFlit) : ((t.putFlit now id h).port k).rest = (t.port k).rest := by
  unfold Tun.putFlit
  dsimp only
  split
  · rfl
  · rename_i hl
    have hl : (t.port id).link = .linked := by simpa using hl
    have hw : ((t.wakeTx now id).port id).link = .linked :=
      (congrArg Port.link (t.wakeTx_port_rest now id id hl) :).trans hl
    generalize hw' : t.wakeTx now id = w at *
    have hk := t.wakeTx_port_rest now id k hl
    rw [hw'] at hk
    refine Eq.trans (Tun.modPort_port_rest _ _ _ _ ?_ ?_) ?_
    · split <;> simpa using hw
    · rfl
    · split <;> simpa using hk
@[simp] theorem Tun.putOrdered_port_rest (now id k : Nat) (ft : BitVec 4) (p : List Byte) :
    ((t.putOrdered now id ft p).port k).rest = (t.port k).rest := by simp [Tun.putOrdered]
@[simp] theorem Tun.putOrderedN_port_rest (now id k : Nat) (ft : BitVec 4) (p : List Byte) (n : Nat) :
    ((t.putOrderedN now id ft p n).port k).rest = (t.port k).rest := by
  induction n generalizing t with
  | zero => rfl
  | succ n ih => simp [Tun.putOrderedN, ih]
@[simp] theorem Tun.fencePort_port_rest (now scope id k : Nat) (b : Bool) :
    ((t.fencePort now scope b id).port k).rest = (t.port k).rest := by simp [Tun.fencePort]

/-- A link that stands sends the flit, after the WAKE that a nap calls for. -/
theorem Tun.putFlit_sent (now id : Nat) (h : HeldFlit) (hl : (t.port id).link = .linked) :
    ∃ new f c, (t.putFlit now id h).out = t.out ++ new ∧ TunEmit.flit id f c ∈ new ∧ f.ftype = h.ftype ∧ f.payload = h.payload := by
  have hw : ∃ pre, (t.wakeTx now id).out = t.out ++ pre := by
    unfold Tun.wakeTx
    dsimp only
    split
    · exact ⟨[], (List.append_nil _).symm⟩
    · exact ⟨[_], rfl⟩
  obtain ⟨pre, hp⟩ := hw
  unfold Tun.putFlit
  simp only [hl, ne_eq, not_true_eq_false, if_false]
  split <;> simp only [Tun.emit, Tun.modPort, Tun.bump, Tun.bumpBy, hp] <;>
    exact ⟨pre ++ [_], _, _, by rw [List.append_assoc], List.mem_append_right _ (List.mem_singleton.mpr rfl), rfl, rfl⟩

@[simp] theorem Tun.port_ringLinkDown (now id k : Nat) : (t.ringLinkDown now id).port k = t.port k := by
  unfold Tun.ringLinkDown Tun.port; split <;> rfl

end Sys2Proof.Machine
end

