-- ==== Sys2Proof/Laws/Cmd.lean ====
section
/-! SUPPORT. How a command of Brewmaster ends when it is alone, how it is staged, and how packets join the engine hold. -/

namespace Sys2Proof.Machine
open Sys2Proof

variable (t : Tun)

@[simp] theorem onlyTun_mod (s : State) (x : TunId) (f : Tun → Tun) : OnlyTun x s (s.modTun x f) := by simp [OnlyTun, State.modTun]

/-! ### Finding and changing a command -/

theorem find?_map_id (l : List Cmd) (id : Nat) (f : Cmd → Cmd) (h : ∀ c, c.id = id → (f c).id = id) :
    (l.map fun c => if c.id = id then f c else c).find? (·.id == id) = (l.find? (·.id == id)).map f := by
  induction l with
  | nil => rfl
  | cons c l ih =>
    by_cases e : c.id = id
    · simp [e, h c e]
    · simp [e, ih]

/-- The command read back after a change of it that keeps its number. -/
theorem Tun.cmd_modCmd (id : Nat) (f : Cmd → Cmd) (h : ∀ c, c.id = id → (f c).id = id) :
    (t.modCmd id f).cmd id = (t.cmd id).map f := by
  simp only [Tun.cmd, Tun.modCmd, Tun.modBm]
  exact find?_map_id _ _ _ h

theorem Tun.cmd_id {t : Tun} {id : Nat} {c : Cmd} (h : t.cmd id = some c) : c.id = id := by
  have := List.find?_some h
  simpa using this

/-- A command found by its number is staged. -/
theorem Tun.stage_staged {t : Tun} {c : Cmd} (st : Half) (r0 : Dword) (r1 : BitVec 48) (es : List Effect) (h : t.cmd c.id = some c) :
    Staged (t.stage c.id st r0 r1 es) c st r0 r1 es := by
  unfold Staged Tun.stage
  refine (Tun.cmd_modCmd t c.id (fun c => { c with phase := .staged, status := st, result0 := r0, result1 := r1, effects := es }) ?_).trans ?_
  · exact fun _ k => k
  · rw [h]; rfl

theorem Alone.cmd {u : Tun} {c : Cmd} (h : Alone u c) : u.cmd c.id = some c := by simp [Tun.cmd, h.1]

/-! ### The end of a command that is alone -/

theorem Tun.arbitrate_empty (now : Nat) (h : t.bm.cmds = []) : t.arbitrate now = t := by
  simp [Tun.arbitrate, h, Tun.arbitrateN]

theorem Tun.foldl_bump (g k : Nat) (us : List Nat) : ∃ h, us.foldl (fun t u => t.bump g k u) t = { t with hyd := h } := by
  induction us generalizing t with
  | nil => exact ⟨t.hyd, rfl⟩
  | cons u us ih =>
    obtain ⟨h, e⟩ := ih (t.bump g k u)
    exact ⟨h, by rw [List.foldl_cons, e]; rfl⟩

theorem Tun.instDone_eq (c : Cmd) : ∃ m, t.instDone c = { t with mash := m } ∧ (pullOp c.op = false → m = t.mash) := by
  unfold Tun.instDone
  split
  · next h => exact ⟨_, rfl, by simp_all⟩
  · exact ⟨t.mash, rfl, fun _ => rfl⟩

/-- The record of a command on a ring that the physical function writes whole, in host memory it reaches. -/
theorem Tun.writeRecord_eq (now : Nat) (c : Cmd) (st : Half) (r0 : Dword) (r1 : BitVec 48) (hi : c.interrupt = false)
    (ht : c.timed = false) (he : (t.ring (t.queue c.queue).cring.toNat).endpoint = false)
    (hs : (t.ring (t.queue c.queue).cring.toNat).split = false) (hf : (t.ring (t.queue c.queue).cring.toNat).function = 0)
    (hr : t.hostReach 0 = true) (hl : t.host.lost = false) :
    ∃ hy rg, t.writeRecord now c st r0 r1 [] = { t with
      hyd := hy, bm := { t.bm with rings := rg },
      out := t.out ++ [.hostWrite 0
        ((t.ring (t.queue c.queue).cring.toNat).addr.toNat + 32 * ((t.ring (t.queue c.queue).cring.toNat).tail.toNat % (t.ring (t.queue c.queue).cring.toNat).depth))
        (withPhase (recordBytes (descTag c.desc) st (t.queue c.queue).c c.queue c.op r0 r1 false)
          ((t.ring (t.queue c.queue).cring.toNat).phase (t.ring (t.queue c.queue).cring.toNat).tail.toNat)) false] } := by
  have hb : t.host.busMaster.getLsbD 0 = true ∧ t.host.d3hot.getLsbD 0 = false := by simpa [Tun.hostReach] using hr
  unfold Tun.writeRecord
  simp only [ht, hi, Bool.false_and, Bool.false_eq_true, ↓reduceIte, List.isEmpty_nil, Bool.not_true]
  simp only [Tun.putRecord, List.isEmpty_nil, ↓reduceIte]
  unfold Tun.putSlot Tun.putAt
  simp only [Tun.bump, Tun.ring, Tun.bumpBy, Tun.modRing, Tun.modBm, Tun.hostWrite, Tun.ringFn, Tun.queue] at *
  simp only [he, hs, hf, Bool.false_eq_true, ↓reduceIte]
  simp only [Tun.hostReach, hb.1, hb.2, hl, Bool.not_false, Bool.and_self, beq_self_eq_true, Bool.true_or, ↓reduceIte]
  exact ⟨_, _, rfl⟩

/-- What is left of the Tun when a command that is alone ends: its record has been written, and only the command list, its ring, its
group's instance, its request entries, the counters and the running steps have changed. -/
theorem Alone.finish {u : Tun} {c : Cmd} (h : Alone u c) (now : Nat) (st : Half) (r0 : Dword) (r1 : BitVec 48) :
    Recorded u (u.finishCmd now c st r0 r1 []) c st r0 r1 ∧
    ∃ (m : Mash) (hy : Hyd) (sc : Sched) (o : List TunEmit) (ou : List OutReq) (re : List Nat) (rg : Tab Ring),
      u.finishCmd now c st r0 r1 [] = { u with
        mash := m, hyd := hy, sched := sc, out := o, bm := { u.bm with cmds := [], outstanding := ou, released := re, rings := rg } } ∧
      (pullOp c.op = false → m = u.mash) := by
  obtain ⟨hc, -, -, -, hq, hi, ht, -, -, -, -, ⟨he, hs, hf⟩, hr, hl⟩ := h
  obtain ⟨m, hm, hmm⟩ := Tun.instDone_eq u c
  have h0 : ((u.instDone c).releaseEntries c.id).removeCmd c.id =
      { u with mash := m, bm := { u.bm with
        cmds := [], outstanding := u.bm.outstanding.filter (fun o => o.cmd != some c.id),
        released := u.bm.released ++ (u.bm.outstanding.filter fun o => o.cmd == some c.id).map (·.entry) } } := by
    rw [hm]
    simp [Tun.releaseEntries, Tun.removeCmd, Tun.modBm, hc]
  obtain ⟨hy, hb⟩ := Tun.foldl_bump (((u.instDone c).releaseEntries c.id).removeCmd c.id) 4 1 c.units
  unfold Tun.finishCmd
  simp only [hb, hq, Bool.false_and, Bool.false_eq_true, ↓reduceIte]
  rw [h0]
  dsimp only
  generalize hsc : ({ u.sched with runSteps := _, runBinds := _ } : Sched) = sc
  generalize hu : ({ u with mash := m, hyd := hy, sched := sc, bm := _ } : Tun) = v
  have hv : v.bm.cmds = [] := by rw [← hu]
  obtain ⟨hy', rg, e⟩ := Tun.writeRecord_eq v now c st r0 r1 hi ht (by rw [← hu]; exact he) (by rw [← hu]; exact hs)
    (by rw [← hu]; exact hf) (by rw [← hu]; simpa [Tun.hostReach] using hr) (by rw [← hu]; exact hl)
  rw [e, Tun.arbitrate_empty _ _ (by exact hv)]
  refine ⟨⟨?_, ?_⟩, ?_⟩
  · simp [Tun.cmd, hv]
  · rw [← hu]; rfl
  · rw [← hu]
    exact ⟨m, _, _, _, _, _, _, rfl, hmm⟩

/-- What keeps Brewmaster's commands, queues and rings and the host port keeps a command alone. -/
theorem Alone.congr {u v : Tun} {c : Cmd} (h : Alone u c) (hc : v.bm.cmds = u.bm.cmds) (hq : v.bm.queues = u.bm.queues)
    (hr : v.bm.rings = u.bm.rings) (hh : v.host = u.host) : Alone v c := by
  simpa [Alone, Tun.ring, Tun.queue, Tun.hostReach, hc, hq, hr, hh] using h

theorem Recorded.congr {u v w : Tun} {c : Cmd} {st : Half} {r0 : Dword} {r1 : BitVec 48} (h : Recorded v w c st r0 r1)
    (hq : v.bm.queues = u.bm.queues) (hr : v.bm.rings = u.bm.rings) (ho : v.out = u.out) : Recorded u w c st r0 r1 := by
  simpa [Recorded, Tun.ring, Tun.queue, hq, hr, ho] using h

/-- A command that is alone completes with its own status. -/
theorem Alone.completeNow_eq {u : Tun} {c : Cmd} (h : Alone u c) (now : Nat) (st : Half) (r0 : Dword) (r1 : BitVec 48) :
    u.completeNow now c st r0 r1 = u.finishCmd now c st r0 r1 [] := by
  obtain ⟨-, -, hs, -, -, -, -, hf, ho, hp, hn, -⟩ := h
  unfold Tun.completeNow Tun.completeExt
  rw [hs]
  simp [Cmd.okStatus, hf, ho, hp, hn]

theorem Alone.failCmd_eq {u : Tun} {c : Cmd} (h : Alone u c) (now : Nat) (st : Half) :
    u.failCmd now c st = u.finishCmd now c st 0 0 [] := by
  obtain ⟨-, -, -, hs, -⟩ := h
  simp [Tun.failCmd, Tun.failWith, Tun.semGiveBack, hs]

/-! ### The engine hold -/

theorem fillEngine_all (now n : Nat) (h : List Waiting) (q : List Packet) :
    (fillEngine now n h q).1.map (·.pkt) ++ (fillEngine now n h q).2 = h.map (·.pkt) ++ q := by
  induction n generalizing h q with
  | zero => simp [fillEngine]
  | succ n ih =>
    cases q with
    | nil => simp [fillEngine]
    | cons p q =>
      unfold fillEngine
      split
      · rw [ih]; simp
      · rfl

/-- Packets queued for the engine hold join it last. -/
theorem Tun.queueOut_queued (now : Nat) (ps : List Packet) : Queued t (t.queueOut now ps) ps := by
  unfold Queued Tun.queueOut Tun.refillEngine
  simp only [Tun.peak_plane]
  rw [fillEngine_all]
  simp

end Sys2Proof.Machine
end

