-- ==== Sys2Proof/Laws/Memory.lean ====
section
/-! SUPPORT. What each operation on Wort and Cask can do: which bytes it may change, that it changes nothing beside its memory and its
poison marks, and that both keep their canonical form. -/

namespace Sys2Proof.Machine
open Sys2Proof

variable {t : Tun}

/-! ### Wort -/

@[simp] theorem Tun.wortSet_bm (a : Nat) (b : Byte) : (t.wortSet a b).bm = { t.bm with wort := t.bm.wort.set 0 a b } := rfl

theorem Tun.wortByte_wortSet_other {a n : Nat} (b : Byte) (h : n ≠ a) : (t.wortSet a b).wortByte n = t.wortByte n :=
  Tab.get_set_other 0 _ b h

theorem Tun.wortByte_wortSet_same (a : Nat) (b : Byte) (w : t.bm.wort.wf 0 = true) : (t.wortSet a b).wortByte a = b :=
  Tab.get_set_same 0 a b w

/-- Bytes set one after the other at addresses `g i`, those that `skip` takes out excepted. -/
theorem Tun.wortSets_eq (g : Nat → Nat) (b : Nat → Byte) (skip : Nat → Bool) : ∀ (l : List Nat) (t : Tun), ∃ w,
    l.foldl (fun t i => if skip i then t else t.wortSet (g i) (b i)) t = { t with bm := { t.bm with wort := w } } ∧
    (t.bm.wort.wf 0 = true → w.wf 0 = true) ∧ ∀ a, (∀ i ∈ l, skip i = false → a ≠ g i) → Tab.get 0 w a = Tab.get 0 t.bm.wort a
  | [], t => ⟨t.bm.wort, rfl, id, fun _ _ => rfl⟩
  | i :: l, t => by
    simp only [List.foldl_cons]
    by_cases hs : skip i = true
    · obtain ⟨w, h1, h2, h3⟩ := Tun.wortSets_eq g b skip l t
      exact ⟨w, by simpa [hs] using h1, h2, fun a h => h3 a fun j hj => h j (List.mem_cons_of_mem _ hj)⟩
    · obtain ⟨w, h1, h2, h3⟩ := Tun.wortSets_eq g b skip l (t.wortSet (g i) (b i))
      refine ⟨w, ?_, fun hw => h2 (Tab.set_wf 0 _ _ hw), fun a h => ?_⟩
      · rw [if_neg hs]; exact h1
      · rw [h3 a fun j hj => h j (List.mem_cons_of_mem _ hj)]
        exact Tab.get_set_other 0 _ _ (h i List.mem_cons_self (by simpa using hs))

/-- A write to a share changes the bytes it covers, at the addresses the share's map gives, and nothing else. -/
theorem Tun.shareWrite_eq (c off : Nat) (bs : List Byte) (t : Tun) : ∃ w,
    t.shareWrite c off bs = { t with bm := { t.bm with wort := w } } ∧ (t.bm.wort.wf 0 = true → w.wf 0 = true) ∧
    ∀ a, (∀ i, i < bs.length → a ≠ (t.ctx c).wortAddr (off + i)) → Tab.get 0 w a = Tab.get 0 t.bm.wort a := by
  obtain ⟨w, h1, h2, h3⟩ :=
    Tun.wortSets_eq (fun i => (t.ctx c).wortAddr (off + i)) (byteAt bs) (fun _ => false) (List.range bs.length) t
  exact ⟨w, by simpa [Tun.shareWrite] using h1, h2, fun a h => h3 a fun i hi _ => h i (List.mem_range.mp hi)⟩

/-- Poison marks set one after the other. -/
theorem Tun.marks_eq (g : Nat → Nat) (p : Nat → Bool) (on : Nat → Bool) : ∀ (l : List Nat) (t : Tun), ∃ m,
    l.foldl (fun t u => if on u then t.modBm fun b => { b with poison := b.poison.set false (g u) (p u) } else t) t =
      { t with bm := { t.bm with poison := m } } ∧ (t.bm.poison.wf false = true → m.wf false = true)
  | [], t => ⟨t.bm.poison, rfl, id⟩
  | u :: l, t => by
    simp only [List.foldl_cons]
    by_cases hs : on u = true
    · obtain ⟨m, h1, h2⟩ := Tun.marks_eq g p on l (t.modBm fun b => { b with poison := b.poison.set false (g u) (p u) })
      exact ⟨m, by simpa [hs, Tun.modBm] using h1, fun hw => h2 (Tab.set_wf false _ _ hw)⟩
    · obtain ⟨m, h1, h2⟩ := Tun.marks_eq g p on l t
      exact ⟨m, by simpa [hs] using h1, h2⟩

theorem Tun.shareMark_eq (c off len : Nat) (p : Bool) (t : Tun) : ∃ m,
    t.shareMark c off len p = { t with bm := { t.bm with poison := m } } ∧ (t.bm.poison.wf false = true → m.wf false = true) :=
  Tun.marks_eq (fun u => (t.ctx c).wortAddr (64 * u) / 64) (fun _ => p)
    (fun u => p || (decide (off ≤ 64 * u) && decide (64 * u + 64 ≤ off + len))) _ t

/-- A store to a share changes the bytes it covers and poison marks, keeps both tables' form, and changes nothing else. -/
theorem Tun.shareStore_eq (c off : Nat) (bs : List Byte) (p : Bool) (t : Tun) : ∃ w m,
    t.shareStore c off bs p = { t with bm := { t.bm with wort := w, poison := m } } ∧
    (t.bm.wort.wf 0 = true → w.wf 0 = true) ∧ (t.bm.poison.wf false = true → m.wf false = true) ∧
    ∀ a, (∀ i, i < bs.length → a ≠ (t.ctx c).wortAddr (off + i)) → Tab.get 0 w a = Tab.get 0 t.bm.wort a := by
  obtain ⟨w, h1, h2, h3⟩ := t.shareWrite_eq c off bs
  obtain ⟨m, h4, h5⟩ := (t.shareWrite c off bs).shareMark_eq c off bs.length p
  refine ⟨w, m, ?_, h2, ?_, h3⟩
  · rw [Tun.shareStore, h4, h1]
  · rw [h1] at h5; exact h5

/-- A write to the PF's Wort window changes the bytes it covers above block 31 and poison marks, and nothing else. -/
theorem Tun.wortWindow_eq (off : Nat) (bs : List Byte) (t : Tun) : ∃ w m,
    t.wortWindow off bs = { t with bm := { t.bm with wort := w, poison := m } } ∧
    (t.bm.wort.wf 0 = true → w.wf 0 = true) ∧ (t.bm.poison.wf false = true → m.wf false = true) ∧
    ∀ a, (∀ i, i < bs.length → 32 * blockSize ≤ off + i → a ≠ off + i) → Tab.get 0 w a = Tab.get 0 t.bm.wort a := by
  obtain ⟨w, h1, h2, h3⟩ :=
    Tun.wortSets_eq (fun i => off + i) (byteAt bs) (fun i => decide (off + i < 32 * blockSize)) (List.range bs.length) t
  obtain ⟨m, h4, h5⟩ := Tun.marks_eq id (fun _ => false)
    (fun u => decide (32 * blockSize ≤ 64 * u) && decide (off ≤ 64 * u) && decide (64 * u + 64 ≤ off + bs.length))
    ((List.range ((off + bs.length + 63) / 64 - off / 64)).map (off / 64 + ·)) { t with bm := { t.bm with wort := w } }
  refine ⟨w, m, ?_, h2, h5, fun a h => h3 a fun i hi hs => h i (List.mem_range.mp hi) (by simpa using hs)⟩
  simp only [decide_eq_true_eq] at h1
  simp only [Tun.wortWindow, h1]
  exact h4

theorem risingFrom_filter {α : Type} (p : Nat × α → Bool) {lo : Nat} : ∀ es : List (Nat × α), risingFrom lo es = true →
    risingFrom lo (es.filter p) = true
  | [], _ => rfl
  | (j, v) :: es, h => by
    simp only [risingFrom, Bool.and_eq_true, decide_eq_true_eq] at h
    have ih := risingFrom_filter p es h.2
    by_cases hp : p (j, v) = true
    · simp [hp, risingFrom, h.1, ih]
    · simp only [List.filter_cons, hp, Bool.false_eq_true, if_false]
      exact risingFrom_le (by omega) _ ih

theorem Tab.filter_wf {α : Type} [DecidableEq α] (d : α) (p : Nat × α → Bool) {m : Tab α} (w : m.wf d = true) :
    (⟨m.entries.filter p⟩ : Tab α).wf d = true := by
  simp only [Tab.wf, Bool.and_eq_true, List.all_eq_true] at w ⊢
  exact ⟨risingFrom_filter p _ w.1, fun e he => w.2 e (List.mem_filter.mp he).1⟩

/-- Zeroing blocks keeps both tables' form. -/
theorem Tun.zeroBlocks_eq (bs : List Nat) (t : Tun) : ∃ w m,
    t.zeroBlocks bs = { t with bm := { t.bm with wort := w, poison := m } } ∧
    (t.bm.wort.wf 0 = true → w.wf 0 = true) ∧ (t.bm.poison.wf false = true → m.wf false = true) :=
  ⟨_, _, rfl, Tab.filter_wf 0 _, Tab.filter_wf false _⟩

/-! ### Cask -/

theorem foldl_set_wf {α : Type} [DecidableEq α] (d : α) (g : Nat → Nat) (v : Nat → α) : ∀ (l : List Nat) (m : Tab α), m.wf d = true →
    (l.foldl (fun m i => m.set d (g i) (v i)) m).wf d = true
  | [], _, h => h
  | i :: l, _, h => foldl_set_wf d g v l _ (Tab.set_wf d (g i) (v i) h)

theorem foldl_set_other {α : Type} [DecidableEq α] (d : α) (g : Nat → Nat) (v : Nat → α) {a : Nat} : ∀ (l : List Nat) (m : Tab α),
    (∀ i ∈ l, a ≠ g i) → Tab.get d (l.foldl (fun m i => m.set d (g i) (v i)) m) a = Tab.get d m a
  | [], _, _ => rfl
  | i :: l, m, h => by
    rw [List.foldl_cons, foldl_set_other d g v l _ fun j hj => h j (List.mem_cons_of_mem _ hj)]
    exact Tab.get_set_other d m (v i) (h i List.mem_cons_self)

theorem caskMarks_wf (bad whole : Nat → Bool) : ∀ (l : List Nat) (m : Tab Bool), m.wf false = true →
    (l.foldl (fun m u => if bad u then m.set false u true else if whole u then m.set false u false else m) m).wf false = true
  | [], _, h => h
  | u :: l, m, h => by
    simp only [List.foldl_cons]
    split
    · exact caskMarks_wf bad whole l _ (Tab.set_wf false u true h)
    · split
      · exact caskMarks_wf bad whole l _ (Tab.set_wf false u false h)
      · exact caskMarks_wf bad whole l m h

/-- A write to Cask changes the bytes it covers, poison marks, counters and what the stack's self-refresh keeps; both tables keep their
form. -/
theorem Tun.caskWriteP_eq (now a : Nat) (ps : List PByte) (t : Tun) : ∃ w m r h,
    t.caskWriteP now a ps = { t with cellar := { t.cellar with cask := w, poison := m }, rel := r, hyd := h } ∧
    (t.cellar.cask.wf 0 = true → w.wf 0 = true) ∧ (t.cellar.poison.wf false = true → m.wf false = true) ∧
    ∀ n, (∀ i, i < ps.length → n ≠ a + i) → Tab.get 0 w n = Tab.get 0 t.cellar.cask n := by
  simp only [Tun.caskWriteP]
  split
  · exact ⟨_, _, _, _, rfl, id, id, fun _ _ => rfl⟩
  · simp only [Tun.modCellar, Tun.caskTxn]
    split
    · refine ⟨_, _, _, _, rfl, foldl_set_wf _ _ _ _ _, caskMarks_wf _ _ _ _, fun n h => ?_⟩
      exact foldl_set_other 0 (fun i => a + i) _ _ _ fun i hi => h i (List.mem_range.mp hi)
    · refine ⟨_, _, _, _, rfl, foldl_set_wf _ _ _ _ _, caskMarks_wf _ _ _ _, fun n h => ?_⟩
      exact foldl_set_other 0 (fun i => a + i) _ _ _ fun i hi => h i (List.mem_range.mp hi)

/-- An error's poison keeps both tables' form and touches only the poison marks. -/
theorem Tun.poisonUnit_eq (src addr : Nat) (t : Tun) : ∃ w c,
    t.poisonUnit src addr = { t with bm := { t.bm with poison := w }, cellar := { t.cellar with poison := c } } ∧
    (t.bm.poison.wf false = true → w.wf false = true) ∧ (t.cellar.poison.wf false = true → c.wf false = true) := by
  simp only [Tun.poisonUnit]
  split
  · exact ⟨_, _, rfl, id, Tab.set_wf false _ _⟩
  · exact ⟨_, _, rfl, Tab.set_wf false _ _, id⟩

end Sys2Proof.Machine
end

