-- ==== Sys2Proof/WellFormed.lean ====
section
/-! DEFINITION. The operand ranges of the commands: which terms the tray, its hosts and its neighbours can present. The bounds a check of the
manual answers for itself (a status code, a counted and discarded write) are no part of it: the machine takes such a command and answers. -/

namespace Sys2Proof

/-- A bay of the tray (03 R81). -/
def bayOk (n : Nat) : Bool := decide (n < 6)

/-- A rail of the power-on sequence (07 R214). -/
def railOk (k : Nat) : Bool := decide (1 ≤ k) && decide (k ≤ 7)

/-- A cartridge EEPROM's image, at most 4 KiB of it, or no answer (03 R82). -/
def romOk : Option (List Byte) → Bool
  | some b => decide (b.length ≤ 4096)
  | none => true

/-- Bytes of the Tun management window (18 Table 18-2). -/
def regSpace : Nat := 2 ^ 24

/-- A register access of any size and alignment a path can carry, inside the space: the machine itself discards the ones of 00 R7. -/
def accessOk (w : RegWrite) : Bool := decide (1 ≤ w.bytes) && decide (w.bytes ≤ 8) && decide (w.off + w.bytes ≤ regSpace)

/-- An ID of a port or link: an endpoint port, a link of an annex, a mesh or a ring link (02 R36-R45). -/
def idOk (id : BitVec 9) : Bool :=
  decide (id.toNat < 230) || (decide (256 ≤ id.toNat) && decide (id.toNat ≤ 260))

/-- Speed code and width a host link trains to (18 R712). -/
def linkOk (speed : BitVec 4) (width : BitVec 6) : Bool :=
  decide (1 ≤ speed.toNat) && decide (speed.toNat ≤ 6) && (width == 1 || width == 2 || width == 4 || width == 8 || width == 16)

/-- A virtual function (18 R712). -/
def vfOk (vf : BitVec 5) : Bool := decide (1 ≤ vf.toNat) && decide (vf.toNat ≤ 16)

/-- Bytes of one PCIe write to a register page (18 R715). -/
def sizeOk (n : Nat) : Bool := n == 1 || n == 2 || n == 4 || n == 8

/-- A PCIe write to a Wort window: 1 to 512 bytes inside its 512 MiB (18 R713, R716). -/
def wortOk (off : Nat) (bs : List Byte) : Bool := decide (1 ≤ bs.length) && decide (bs.length ≤ 512) && decide (off + bs.length ≤ 2 ^ 29)

/-- The command's operands are in the ranges its carrier can present. -/
def Instr.wf : Instr → Bool
  | .registerWrite _ ws => !ws.isEmpty && ws.all accessOk
  | .railPowerGood _ k => railOk k
  | .railTimeout _ k _ => railOk k
  | .railFault _ k _ => railOk k
  | .pmbusPoll _ _ reads _ => reads.all fun x => railOk x.rail
  | .kegPresenceAsserted n rom => bayOk n && romOk rom
  | .kegEepromRetry n rom => bayOk n && romOk rom
  | .kegLatched n => bayOk n
  | .kegPowerReady n => bayOk n
  | .kegUnlatched n => bayOk n
  | .kegPresenceDeasserted n => bayOk n
  | .kegOvercurrent n => bayOk n
  | .maltsterReevaluate f => f.bays.length == 6 && f.bays.all fun b => romOk b.rom
  | .caskTrainingDone _ codes => decide (codes.length ≤ 8)
  | .rawFrameReceive _ frame _ => decide (frame.length ≤ 256)
  | .tunRegRead _ _ _ off _ => decide (off < regSpace) && off % 4 == 0
  | .tunRegWrite _ _ _ off _ => decide (off < regSpace) && off % 4 == 0
  | .kegStatus _ _ n => bayOk n
  | .kegEepromRead _ _ n _ _ => bayOk n
  | .requestUpdate _ n => decide (n < 2 ^ 32)
  | .updateComponent _ comp size => decide (comp < 2 ^ 16) && decide (size < 2 ^ 32)
  | .portEnable _ id => idOk id
  | .detectLock _ id _ => idOk id
  | .detectTimeout _ id => idOk id
  | .trainEqualizeReceive _ id _ _ => idOk id
  | .equalizeDone _ id => idOk id
  | .deskewDone _ id => idOk id
  | .attemptLimit _ id => idOk id
  | .coldAttemptRetry _ id => idOk id
  | .trainIdentityReceive _ id _ => idOk id
  | .identifyComplete _ id => idOk id
  | .identifyTimeout _ id => idOk id
  | .retrainNotice _ id _ => idOk id
  | .lossOfSignal _ id => idOk id
  | .flitReceive _ id bs _ _ => idOk id && bs.length == 256
  | .replayTimeout _ id => idOk id
  | .replayBufferDiscard _ id => idOk id
  | .replayWindowEnd _ id _ => idOk id
  | .fenceReceive _ id _ leaving => idOk id && decide (leaving.toNat ≤ 1)
  | .fenceRepeat _ id => idOk id
  | .portReset _ id => idOk id
  | .portDisable _ id _ => idOk id
  | .injectCrc _ id => idOk id
  | .delayMeasureStart _ id => idOk id
  | .delayEchoReceive _ id probe _ _ _ _ => idOk id && decide (probe.toNat < 8)
  | .delayProbeReceive _ id probe _ => idOk id && decide (probe.toNat < 8)
  | .napEntry _ id => idOk id
  | .napReceive _ id => idOk id
  | .wake _ id => idOk id
  | .packetIngress _ port _ _ => idOk port
  | .multicastCopy _ port => idOk port
  | .outputAward _ free => free.all fun id => decide (id < 512)
  | .packetDeliverStream _ port _ => idOk port
  | .rowLandingRelease _ link _ => idOk link
  | .peerDeparture _ id _ _ => idOk id
  | .fenceNoticeReceive _ port _ => idOk port
  | .mgmtRequest _ port _ => idOk port
  | .readReqServe _ port _ => idOk port
  | .atomicExecute _ port _ => idOk port
  | .shareWrite _ port _ => idOk port
  | .responseReceive _ port _ => idOk port
  | .brewMarkReceive _ id _ => idOk id
  | .circuitPacketArrive _ port _ first last => idOk port && decide (first ≤ last)
  | .cmdPacket _ port _ => idOk port
  | .doorbellPacket _ port _ => idOk port
  | .descriptorFetch _ _ d => d.isEmpty || d.length == 64
  | .cringCfgWrite _ reg _ => decide (reg.toNat ≤ 2)
  | .stackOffline _ _ cause => decide (1 ≤ cause.toNat) && decide (cause.toNat ≤ 4)
  | .hostLinkTrain _ _ speed width _ => linkOk speed width
  | .hostDirectedRetrain _ _ speed width _ => linkOk speed width
  | .vfFlr _ vf => vfOk vf
  | .vfDoorbellWrite _ vf _ n _ => vfOk vf && sizeOk n
  | .vfBar2Write _ vf off bs => vfOk vf && wortOk off bs
  | .msixUnmask _ fn _ _ => decide (fn.toNat ≤ 16)
  | .errorDetect _ src _ _ => decide (1 ≤ src.toNat) && decide (src.toNat ≤ 9)
  | .spargeScrub _ _ n found => found.all fun f => decide (f.1 < n)
  | .serdesRecal _ id => idOk id
  | .junctionTempSample _ rs => rs.length == 8
  | .delayEchoTimeout _ id => idOk id
  | .pfWortWindowWrite _ off bs => wortOk off bs
  | .rackConfigWrite _ _ | .conflictClear _ | .pwrEnChange _ | .mainPathClose | .mainPathTrip _ _ | .mainPathReclose | .partialSeating
  | .prsntSNBreak | .tunSequenceStart _ | .tunColdResetRelease _ | .powerDownRailStep _ | .thermtripLatch _ | .thermalTripReport _
  | .errNEdge _ _ | .errNRearm _ | .errStormWindow _ | .warnNChange _ _ | .pinFaultSet _ | .pinFaultClear _ | .heartbeatWindow _ _
  | .leakAsserted | .leakDeasserted | .sdaStuck _ _ | .busRecoveryPulse _ | .busServedAgain _ | .smbusTimeout _ _ | .alertNHeld
  | .tunPoll _ _ _ | .maltsterWatchdogExpiry | .maltsterRestart | .locateSecondTick | .locateButtonPress | .refclkMissing _
  | .holdoverExpiry _ | .slewComplete _ | .refclkPresent _ | .corePllLock _ _ | .caskPllLoss _ _ | .tunColdReset _ _ | .tunWarmReset _ _
  | .warmResetRelease _ | .paleWindowClose _ | .rateStepRound _ | .alignmentTimeout _ | .enterFull _ | .serviceFence _ _
  | .serviceDrain _ | .serviceResume _ | .retryCask _ | .stayPale _ _ | .drainDone _ | .drainTimeout _ | .rawReplyRead _
  | .alertResponseRead _ | .i3cCcc _ _ | .mctpControl _ _ _ | .mctpVendorMessage _ _ _ | .pldmCommand _ _ _ _ | .platformEventSend _
  | .platformEventRetry _ | .sbModeApply _ | .windowClose _ | .getInfo _ _ | .regRead _ _ _ _ _ | .regWrite _ _ _ _ _ _
  | .logRead _ _ _ _ | .logClear _ _ | .maltRestart _ _ _ | .tunPowerOn _ _ _ | .tunPowerOff _ _ _ | .tunPowerCycle _ _ _ _
  | .powerCycleWaitEnd _ | .tunReset _ _ _ _ | .tunFence _ _ _ | .tunStatus _ _ _ | .alertRead _ _ _ | .locate _ _ _ _ _ | .proxySend _
  | .proxyReplyCollect _ | .proxyTimeout _ | .maltsterBootVerify | .tunHeaderCheck _ | .tunBootLoad _ _ | .bootResultPoll _
  | .goldenReflashDone _ | .stageBegin _ _ _ _ | .stageData _ _ _ _ | .stageCommit _ _ _ | .stageAbort _ _ | .stageStatus _ _
  | .stageEraseDone | .stageVerifyDone | .stageCopyDone _ | .stageRestartRecovery | .activation | .queryDeviceIdentifiers _
  | .getFirmwareParameters _ | .passComponentTable _ | .firmwareDataReceive _ | .firmwareDataRetry | .activateFirmware _ _ | .getStatus _
  | .cancelUpdateComponent _ | .cancelUpdate _ | .holeTimeout _ _ _ | .injectAgeGild _ _ _ | .pkeyTableWrite _ _ _ | .rankDataWrite _ _
  | .rankDescWrite _ _ _ | .routeDataWrite _ _ | .vorlaufModeApply _ | .brewBoundary _ | .keeperMarkSend _ | .brewMarkTake _
  | .alignLoss _ | .timedStepStart _ _ | .stepBudgetEnd _ _ | .engineCircuitSend _ _ | .bindingStart _ _ | .recipeLoad _ _
  | .recipeLoadDone _ _ | .brewStart _ _ | .brewStop _ _ | .shadowDiscard _ _ | .armCheck _ _ | .armRecheck _ _ | .armedBrewBegin _
  | .planeRelease _ | .queueDoorbell _ _ _ | .cringHead _ _ _ | .commandStart _ _ | .racking _ _ | .remoteTimeout _ _
  | .heldRecordWrite _ | .queueCfgWrite _ _ _ | .nop _ _ | .writeImm _ _ | .copy _ _ | .timestamp _ _ | .ctxDefine _ _ | .ctxUndefine _ _
  | .ctxReside _ _ | .resideTurn _ | .resideStreamDone _ | .resideReadFail _ | .ctxEvict _ _ | .ctxSetPriority _ _ | .ctxKill _ _
  | .semInit _ _ | .leaseExpiry _ _ | .groupForm _ _ | .groupReform _ _ | .groupDisband _ _ | .allReduce _ _ | .reduceScatter _ _
  | .allGather _ _ | .broadcast _ _ | .allToAll _ _ | .pushCollective _ _ | .contribDataReceive _ _ _ | .contribSignalReceive _ _ _
  | .chunkReady _ _ | .chunkRacking _ _ | .pushTileReceive _ _ _ _ | .pushSpanEnd _ _ | .tapGroupSet _ _ | .tapContribution _
  | .seqOpen _ _ | .seqClose _ _ | .seqLock _ _ | .seqUnlock _ _ | .kvAppend _ _ | .kvFetch _ _ | .batchStep _ _ | .pageRelease _
  | .steepDecode _ _ | .tableLoad _ _ | .gristEncode _ _ | .gristDecode _ _ | .streamOpen _ _ | .streamClose _ _ | .streamHead _ _ _
  | .lauterState _ _ | .pourParams _ _ | .sampleStep _ _ | .hostPerst _ _ | .hostLinkLoss _ | .pfFlr _ | .sriovNumvfsWrite _ _ _
  | .hostReadCompletion _ _ _ | .caskCalibration _ _ | .caskTemperatureRead _ _ _ | .caskSelfRefreshEntry _ _ | .exportRound _
  | .exportContinue _ | .snap _ | .hydRingHead _ _ | .hydValueLoRead _ _ | .hydConfigWrite _ _ _ | .coldResetHoldEnd _ | .alertNReleased
  | .standbyPowerLoss | .releasedEntryReuse _ _ => true

end Sys2Proof
end

