-- ==== Sys2Proof/Tests/Slice0.lean ====
section
/-! SUPPORT. For every statement with hypotheses, states and operands that meet them, clause by clause; the manual's worked examples; terms
outside the operand ranges. -/

namespace Sys2Proof.Tests
open Sys2Proof Sys2Proof.Machine

set_option Elab.async false
set_option maxRecDepth 20000
set_option synthInstance.maxSize 4096

theorem ok_of {ε α : Type} {e : Except ε α} {a : α} (h : (match e with | .ok b => some b | .error _ => none) = some a) : e = .ok a := by
  cases e <;> simp_all

theorem error_of {ε α : Type} {e : Except ε α} {a : ε} (h : (match e with | .error b => some b | .ok _ => none) = some a) : e = .error a := by
  cases e <;> simp_all

/-! ### Small states -/

def at0 (u : Tun) : State := State.reset.setTun .t0 u
def up : State := { malt := { alive := true } }
def trayUp (y : Tray) : State := { malt := { alive := true }, tray := y }
def mtS (m : MTun) : State := { malt := { alive := true, mtun := ⟨m, {}, {}, {}⟩ } }
def mtT (m : MTun) (u : Tun) : State := (mtS m).setTun .t0 u
/-- Tun T0 in FULL, its pins watched for long. -/
def watchS (m : MTun) : State := { mtT { m with releasedAt := some 0 } { col := .t0, svc := { state := .full } } with now := 0x1000000000 }
/-- A cartridge image of a kind with no lane records. -/
def romOf (kind : Byte) : List Byte :=
  let h := [0, kind] ++ List.replicate 60 0
  h ++ halfBytes (crc16 h) ++ [0xFF, 0xFF]
def bayS (n : Nat) (b : Bay) : State := { trayUp { mainClosed := true } with bays := State.reset.bays.set n b }
def clkS (c : Clk) (v : Svc) : State := at0 { col := .t0, clk := c, svc := v }
def frameOf (op obj : Byte) (pl : List Byte) : List Byte :=
  let b := [0x11, 7, op, obj] ++ bytesLE 2 pl.length ++ [0, 0] ++ pl
  b ++ halfBytes (crc16 b)
def busS (b : SbBus) (m : Malt) : State := { malt := { m with alive := true, buses := ⟨b, b⟩ } }
def fwS (f : Fw) : State := { malt := { alive := true }, fw := f }
def fullTun : Tun := { col := .t0, svc := { state := .full, mgmtUp := true, fwRunning := true }, clk := { coreLock := true, refPresent := true } }
/-- Link 256 of a Tun in FULL. -/
def portS (p : Port) : State := at0 { fullTun with ports := ⟨[(256, p)]⟩ }
def hostUp : HPort := { lost := false, perst := false, linkUp := true, busMaster := 1 }
def tunS (b : Bm) : Tun := { fullTun with host := hostUp, bm := b }
def bmS (b : Bm) : State := at0 (tunS b)
/-- The only command, started, of queue 0. -/
def cmdOf (op : Nat) (desc : List Byte) : Cmd := { id := 3, queue := 0, ctx := 0, op := op, desc := desc ++ List.replicate (64 - desc.length) 0, index := 0, phase := .started }
def cmdS (c : Cmd) (b : Bm) : State := bmS { b with cmds := [c] }
/-- A descriptor: the opcode's word, then the operand bytes from byte 16. -/
def descOf (op : Byte) (w0 : List Byte) (ops : List Byte) : List Byte :=
  let h := [op] ++ w0
  let d := h ++ List.replicate (16 - h.length) 0 ++ ops
  d ++ List.replicate (64 - d.length) 0
/-- Context 5, resident in block 9 of slot 2 under key 7. -/
def ctx5 : Ctx := { state := .resident, pkey := 7, share := 1, slot := some 2, blocks := [9] }
def q1 : Queue := { valid := true, endpointSubmit := true, log2 := 6, ctx := 5, cring := 1, p := 0xFFF0, c := 0xFFC0 }
def r1 : Ring := { valid := true, log2 := 6, ctx := 5, addr := 0x10000, tail := 3, head := 0xFFFF }
def bm1 : Bm := { queues := ⟨[(1, q1)]⟩, rings := ⟨[(1, r1)]⟩, ctxs := ⟨[(5, ctx5)]⟩ }
def pktOf (ty : BitVec 6) (addr : Dword) (pl : List Byte) : Packet :=
  { type := ty, dst := 192, ctx := 5, pkey := 7, srcEp := 3, addr := addr, len := BitVec.ofNat 13 pl.length, payload := pl }
def grp : Group := { gen := 2, ctx := 5, queue := 1, channel := 0, tunMask := 1, members := [⟨false, 3⟩, ⟨false, 4⟩], pipes := 1, hint := 0, window := 0, windowLen := 4096, landOff := 0x1000, landBytes := 1024 }
/-- A collective of 2,048 elements in chunks of one granule on group 1, instance 0, with CAP 64; byte 62 holds a push operation. -/
def collDesc (op pushOp : Byte) : List Byte :=
  descOf op [] ([1, 0, 2, 0, 0, 0, 0x10, 0, 0, 0, 0, 0, 1] ++ List.replicate 20 0 ++ [8] ++ List.replicate 6 0 ++ [64, 0, 0, 0, 0, 0, pushOp])
def collCmd (op pushOp : Byte) : Cmd := { cmdOf op.toNat (collDesc op pushOp) with queue := 1, ctx := 5 }
/-- Context 5 with group 1, a rank table of one rank, and some commands. -/
def collT (cs : List Cmd) (g : Group) : Tun :=
  { tunS { bm1 with cmds := cs, rings := ⟨[]⟩ } with mash := { groups := [(1, g)] }, plane := { pkeys := ⟨[(0, 0x0000003F80800007)]⟩, ranks := ⟨[(0, 0x8003)]⟩, rankDesc := ⟨[(0, 1)]⟩ } }

theorem witness_StepRunsTheFront :
  (let s : State := { State.reset with pending := [.snap .t0, .locateSecondTick] };
    let c : Instr := (.snap .t0 : Instr);
    let rest : List Instr := ([.locateSecondTick] : List Instr);
    (s.pending = c :: rest)) :=
  by decide +kernel


theorem witness_IdleStepOnlyCounts :
  (let s : State := State.reset;
    (s.pending = [])) :=
  by decide +kernel

/-- The last clause of IdleStepOnlyCounts: at reset no port is linked and no core cycle ends. -/
theorem witness_IdleStepOnlyCounts_quiet : (State.reset.now + 1) % 16 ≠ 0 ∧ ∀ x id, ((State.reset.tun x).port id).link ≠ .linked :=
  ⟨by decide, fun x _ => by cases x <;> exact nofun⟩


theorem witness_StepKeepsInvariant :
  (let s : State := State.reset;
    let t : State := { State.reset with now := 1 };
    (TrayInv s) ∧
    (step s = .next t)) :=
  by delta TrayInv; and_intros <;> first
    | decide +kernel
    | rfl
    | exact fun x => by cases x <;> decide +kernel


theorem witness_StepKeepsMemoryForm :
  (let s : State := State.reset;
    let t : State := { State.reset with now := 1 };
    (MemInv s) ∧
    (step s = .next t)) :=
  by delta MemInv; and_intros <;> first
    | decide +kernel
    | rfl
    | exact fun x => by cases x <;> decide +kernel


theorem witness_CommandsKeepQueueAndClock :
  (let c : Instr := (.exportRound .t0 : Instr);
    let s : State := State.reset;
    let t : State := State.reset;
    (exec c s = .next t)) :=
  by rfl


theorem witness_TunCommandsStayInTheirTun :
  (let c : Instr := (.snap .t0 : Instr);
    let x : TunId := TunId.t0;
    (tunOf c = some x)) :=
  by decide +kernel


theorem witness_WatchCommandsChangeNoTun :
  (let c : Instr := (.locateSecondTick : Instr);
    (watches c = true)) :=
  by decide +kernel


theorem witness_MemoryFrame :
  (let c : Instr := (.snap .t0 : Instr);
    (writesMemory c = false)) :=
  by decide +kernel


theorem witness_FrameOfService :
  (let c : Instr := (.snap .t0 : Instr);
    let x : TunId := TunId.t0;
    let p : Part := Part.svc;
    (tunOf c = some x) ∧
    (p ∈ [Part.svc, Part.clk, Part.rack, Part.conflict, Part.proxy, Part.junction]) ∧
    (p ∉ footprint c)) :=
  by decide +kernel


theorem witness_FrameOfFabric :
  (let c : Instr := (.snap .t0 : Instr);
    let x : TunId := TunId.t0;
    let p : Part := Part.ports;
    (tunOf c = some x) ∧
    (p ∈ [Part.ports, Part.plane, Part.out]) ∧
    (p ∉ footprint c)) :=
  by decide +kernel


theorem witness_FrameOfEngines :
  (let c : Instr := (.snap .t0 : Instr);
    let x : TunId := TunId.t0;
    let p : Part := Part.sched;
    (tunOf c = some x) ∧
    (p ∈ [Part.sched, Part.mash, Part.cellar, Part.token]) ∧
    (p ∉ footprint c)) :=
  by decide +kernel


theorem witness_FrameOfBrewmaster :
  (let c : Instr := (.snap .t0 : Instr);
    let x : TunId := TunId.t0;
    let p : Part := Part.bm;
    (tunOf c = some x) ∧
    (p ∈ [Part.hyd, Part.bm, Part.host, Part.err, Part.rel]) ∧
    (p ∉ footprint c)) :=
  by decide +kernel


theorem witness_StoresStayInTheirBytes :
  (let s : State := bmS bm1;
    let x : TunId := TunId.t0;
    let u := s.tun x;
    let p : Packet := pktOf 0x01 0x1FFFFE [1, 2];
    (Reaches u 0x01 p)) ∧
  (let s : State := bmS bm1;
    let x : TunId := TunId.t0;
    let u := s.tun x;
    let p : Packet := pktOf 0x04 0x1FFFF8 ([1, 8, 0, 0, 0, 0, 0, 0] ++ List.replicate 16 0xFF);
    (Reaches u 0x04 p)) ∧
  (let s : State := bmS { bm1 with cmds := [{ cmdOf 1 (descOf 1 [] []) with phase := .staged, ctx := 5, queue := 1, effects := [.wort 5 40 [1, 2] false] }] };
    let x : TunId := TunId.t0;
    let u := s.tun x;
    let c : Cmd := { cmdOf 1 (descOf 1 [] []) with phase := .staged, ctx := 5, queue := 1, effects := [.wort 5 40 [1, 2] false] };
    let cx : Nat := 5;
    let o : Nat := 40;
    let data : List Byte := [1, 2];
    let poison : Bool := false;
    (u.cmd c.id = some c) ∧
    (c.phase = .staged) ∧
    (u.serving = true) ∧
    (c.op = 0x01) ∧
    (c.effects = [.wort cx o data poison])) :=
  by delta Reaches; decide +kernel


theorem witness_MainPathCommandsComplete :
  (let s : State := up;
    (s.malt.alive = true) ∧
    (s.tray.pwrEn = false)) ∧
  (let s : State := trayUp { pwrEn := true, mainClosed := true };
    (s.malt.alive = true) ∧
    (s.tray.pwrEn = true) ∧
    ((∀ x, running s x = false ∧ (s.mtun x).seq = .idle))) ∧
  (let s : State := { trayUp { prsntL := true, pwrEn := true } with malt := { alive := true, imageOk := true } };
    (s.malt.alive = true) ∧
    (mayClose s = true) ∧
    (s.tray.tripped = false)) ∧
  (let s : State := trayUp { mainClosed := true };
    (s.malt.alive = true) ∧
    (s.tray.mainClosed = true)) ∧
  (let s : State := { trayUp { prsntL := true, prsntS := true, pwrEn := true, tripped := true } with malt := { alive := true, imageOk := true } };
    (s.malt.alive = true) ∧
    (s.tray.tripped = true) ∧
    (s.tray.prsntS = true) ∧
    (mayClose s = true)) ∧
  (let s : State := up;
    (s.malt.alive = true) ∧
    (s.tray.mainClosed = false)) ∧
  (let s : State := { trayUp { mainClosed := true, prsntS := true } with malt := { alive := true, mtun := ⟨{ power := 2, enables := 0x7F, rails := 0x7F, coldRstHeld := false }, {}, {}, {}⟩ } };
    (s.malt.alive = true) ∧
    (s.tray.mainClosed = true)) :=
  by and_intros <;> first
    | decide +kernel
    | exact fun x => by cases x <;> decide +kernel


theorem witness_RailCommandsComplete :
  (let s : State := { trayUp { prsntL := true, prsntS := true, pwrEn := true, mainClosed := true, inputV := 12000 } with malt := { alive := true, imageOk := true, mtun := ⟨{ startDue := true }, {}, {}, {}⟩ } };
    let x : TunId := .t0;
    (s.malt.alive = true) ∧
    ((s.mtun x).startDue = true) ∧
    (running s x = false) ∧
    ((s.mtun x).seq = .idle) ∧
    (powerRefusal s x = none) ∧
    ((s.mtun x).headerBad = false)) ∧
  (let s : State := mtS { power := 1, seq := .up 6, rails := 0x1F, enables := 0x3F };
    let x : TunId := .t0;
    let k := 6;
    (s.malt.alive = true) ∧
    ((s.mtun x).seq = .up k) ∧
    ((s.mtun x).thermLatch = false) ∧
    (k < 7)) ∧
  (let s : State := mtS { power := 1, seq := .up 7, rails := 0x3F, enables := 0x7F };
    let x : TunId := .t0;
    (s.malt.alive = true) ∧
    ((s.mtun x).seq = .up 7) ∧
    ((s.mtun x).thermLatch = false)) ∧
  (let s : State := mtS { power := 1, seq := .up 7, rails := 0x3F, enables := 0x7F };
    let x : TunId := .t0;
    let k := 7;
    (s.malt.alive = true) ∧
    ((s.mtun x).seq = .up k)) ∧
  (let s : State := mtS { power := 1, seq := .release, rails := 0x7F, enables := 0x7F };
    let x : TunId := .t0;
    (s.malt.alive = true) ∧
    ((s.mtun x).seq = .release) ∧
    ((s.mtun x).power = 1)) ∧
  (let s : State := mtS { seq := .down 1, rails := 0x01, enables := 0x01 };
    let x : TunId := .t0;
    let k := 0;
    (s.malt.alive = true) ∧
    ((s.mtun x).seq = .down (k + 1))) ∧
  (let s : State := mtS { seq := .down 0 };
    let x : TunId := .t0;
    (s.malt.alive = true) ∧
    ((s.mtun x).seq = .down 0)) ∧
  (let s : State := mtS { power := 2, rails := 0x7F, enables := 0x7F };
    let x : TunId := .t0;
    (s.malt.alive = true) ∧
    ((s.mtun x).power = 2) ∧
    ((s.mtun x).enables ≠ 0)) ∧
  (let s : State := mtS { power := 2 };
    let reads := ([⟨1, 0, 5, 6, 7, 8⟩] : List RailRead);
    (s.malt.alive = true) ∧
    ((∀ e ∈ reads, e.status = 0))) :=
  by decide +kernel


theorem witness_PinCommandsComplete :
  (let s : State := mtT { rails := 0x40, enables := 0x7F, power := 2 } { col := .t0, svc := { state := .full } };
    let x : TunId := .t0;
    ((s.mtun x).rails.getLsbD 6 = true)) ∧
  (let s : State := mtS { thermLatch := true, power := 2 };
    let x : TunId := .t0;
    (s.malt.alive = true) ∧
    ((s.mtun x).thermLatch = true) ∧
    ((s.mtun x).offCause ≠ 7) ∧
    ((s.mtun x).power ≠ 4)) ∧
  (let s : State := watchS { errArmed := true, errEdges := 0xFFFF };
    let x : TunId := .t0;
    (watched s x 50 = true) ∧
    ((s.mtun x).errArmed = true)) ∧
  (let s : State := watchS { errEdges := 0xFFFE };
    let x : TunId := .t0;
    (watched s x 50 = true)) ∧
  (let s : State := watchS { errLatched := true };
    let x : TunId := .t0;
    (watched s x 50 = true) ∧
    ((s.mtun x).errArmed = false)) ∧
  (let s : State := watchS { errWindow := 101 };
    let x : TunId := .t0;
    (watched s x 50 = true) ∧
    (100 < (s.mtun x).errWindow) ∧
    ((s.mtun x).errWindow ≤ 65535)) ∧
  (let s : State := watchS { errWindow := 100, errStorm := true };
    let x : TunId := .t0;
    (watched s x 50 = true) ∧
    ((s.mtun x).errWindow ≤ 100)) ∧
  (let s : State := watchS { temp := 0x3FF };
    let x : TunId := .t0;
    (watched s x 50 = true) ∧
    ((s.mtun x).warn = false)) ∧
  (let s : State := watchS { warn := true };
    let x : TunId := .t0;
    (watched s x 50 = true) ∧
    ((s.mtun x).warn = true)) ∧
  (let s : State := mtS {};
    let x : TunId := .t0;
    (s.malt.alive = true) ∧
    (tunOff s x = true) ∧
    ((s.mtun x).seq = .idle) ∧
    ((s.mtun x).pinFault = false)) ∧
  (let s : State := mtS { pinFault := true };
    let x : TunId := .t0;
    (s.malt.alive = true) ∧
    (tunOff s x = true) ∧
    ((s.mtun x).pinFault = true)) ∧
  (let s : State := watchS { hbBad := 4 };
    let x : TunId := .t0;
    let n := 4;
    (watched s x 500 = true) ∧
    ((s.mtun x).hbLost = false) ∧
    ((s.mtun x).hbBad = 4) ∧
    (n < 5)) :=
  by decide +kernel


theorem witness_WatchCommandsComplete :
  (let s : State := { mtT { power := 2, enables := 0x7F } { col := .t0, svc := { state := .full } } with tray := { mainClosed := true } };
    (s.malt.alive = true)) ∧
  (let s : State := trayUp { leakLow := true, leakSeen := true };
    (s.malt.alive = true) ∧
    (s.tray.leakLow = true)) ∧
  (let s : State := up;
    let b := Bus.sb1;
    (s.malt.alive = true) ∧
    ((s.bus b).stuck = false)) ∧
  (let s : State := up;
    (s.malt.alive = true)) ∧
  (let s : State := { malt := { alive := true, buses := ⟨{}, { recovering := true }⟩ } };
    let b := Bus.sb1;
    (s.malt.alive = true) ∧
    ((s.bus b).recovering = true)) ∧
  (let s : State := { malt := { alive := true, buses := ⟨{}, { stuck := true, recovering := true }⟩ } };
    let b := Bus.sb1;
    (s.malt.alive = true) ∧
    ((s.bus b).stuck = true)) ∧
  (let s : State := up;
    (s.malt.alive = true) ∧
    (s.malt.alertHeld = false) ∧
    (s.alertDriven = false)) ∧
  (let s : State := { malt := { alive := true, alertHeld := true } };
    (s.malt.alive = true) ∧
    (s.malt.alertHeld = true)) ∧
  (let s : State := mtT { noAnswer := 2 } { col := .t0, svc := { state := .full, mgmtUp := true } };
    let x := TunId.t0;
    let took := 25600000;
    (s.malt.alive = true) ∧
    ((s.tun x).reachable = true) ∧
    (took ≤ 25600000)) ∧
  (let s : State := mtT { noAnswer := 2 } { col := .t0, svc := { state := .cold } };
    let x := TunId.t0;
    let answers := false;
    let took := 0;
    (s.malt.alive = true) ∧
    (tunOff s x = false) ∧
    ((s.mtun x).noAnswer = 2) ∧
    ((answers = true → 25600000 < took))) :=
  by decide +kernel


theorem witness_KegCommandsComplete :
  (let s : State := bayS 5 {};
    let n : Nat := 5;
    let rom := romOf 0x03;
    (s.malt.alive = true) ∧
    (s.bays.length = 6) ∧
    (n < 6) ∧
    ((s.bay n).present = false) ∧
    (refusalOf n rom = 0)) ∧
  (let s : State := bayS 5 {};
    let n : Nat := 5;
    let rom := romOf 0x02;
    (s.malt.alive = true) ∧
    (s.bays.length = 6) ∧
    (n < 6) ∧
    ((s.bay n).present = false) ∧
    (refusalOf n rom ≠ 0)) ∧
  (let s : State := bayS 5 { present := true, retries := 2 };
    let n : Nat := 5;
    (s.malt.alive = true) ∧
    (s.bays.length = 6) ∧
    (n < 6) ∧
    ((s.bay n).present = true) ∧
    ((s.bay n).rom = []) ∧
    ((s.bay n).readFail = false) ∧
    ((s.bay n).retries = 2)) ∧
  (let s : State := bayS 3 { present := true, accepted := true };
    let n : Nat := 3;
    (s.malt.alive = true) ∧
    (s.bays.length = 6) ∧
    (n < 6) ∧
    ((s.bay n).present = true) ∧
    ((s.bay n).latched = false) ∧
    ((s.bay n).accepted = true) ∧
    ((s.bay n).ready = false) ∧
    (n < 4)) ∧
  (let s : State := bayS 4 { present := true, accepted := true };
    let n : Nat := 4;
    (s.malt.alive = true) ∧
    (s.bays.length = 6) ∧
    (n < 6) ∧
    ((s.bay n).present = true) ∧
    ((s.bay n).latched = false) ∧
    ((s.bay n).accepted = true) ∧
    ((s.bay n).ready = false) ∧
    (4 ≤ n) ∧
    (s.tray.mainClosed = true) ∧
    (s.tray.leakSeen = false)) ∧
  (let s : State := bayS 5 { present := true, latched := true, accepted := true, powered := true };
    let n : Nat := 5;
    (s.malt.alive = true) ∧
    (s.bays.length = 6) ∧
    (n < 6) ∧
    (4 ≤ n) ∧
    ((s.bay n).powered = true) ∧
    ((s.bay n).latched = true) ∧
    ((s.bay n).accepted = true) ∧
    ((s.bay n).ready = false)) ∧
  (let s : State := bayS 5 { present := true, latched := true, accepted := true, powered := true, ready := true };
    let n : Nat := 5;
    (s.malt.alive = true) ∧
    (s.bays.length = 6) ∧
    (n < 6) ∧
    ((s.bay n).latched = true)) ∧
  (let s : State := bayS 5 { present := true, latched := true, accepted := true, powered := true, ready := true };
    let n : Nat := 5;
    (s.malt.alive = true) ∧
    (s.bays.length = 6) ∧
    (n < 6) ∧
    ((s.bay n).present = true) ∧
    ((s.bay n).latched = true)) ∧
  (let s : State := bayS 4 { present := true, powered := true };
    let n : Nat := 4;
    (s.malt.alive = true) ∧
    (s.bays.length = 6) ∧
    (n < 6) ∧
    (4 ≤ n) ∧
    ((s.bay n).powered = true)) :=
  by decide +kernel


theorem witness_MaltsterCommandsComplete :
  (let s : State := up;
    (s.malt.alive = true)) ∧
  (let s : State := { malt := { reeval := true, imageOk := true } };
    (s.malt.reeval = true) ∧
    (s.malt.imageOk = true) ∧
    (s.tray.pwrPin = s.tray.pwrEn) ∧
    ((s.tray.pwrEn = true ∨ s.tray.mainClosed = false)) ∧
    ((∀ x, (s.mtun x).thermLatch = false ∧ (s.mtun x).enables = 0 ∧ (s.mtun x).power = 0))) ∧
  (let s : State := { malt := { alive := true, locSeconds := 1, locBays := 0x3F } };
    (s.malt.alive = true) ∧
    (s.malt.locSeconds = 1)) ∧
  (let s : State := { malt := { alive := true, locSeconds := 2, locBays := 1 } };
    (s.malt.alive = true) ∧
    (1 < s.malt.locSeconds)) ∧
  (let s : State := up;
    (s.malt.alive = true) ∧
    (s.malt.btnTime = none) ∧
    (s.malt.locating = false)) ∧
  (let s : State := { malt := { alive := true, locBays := 0x20, locSeconds := 0xFFFF } };
    (s.malt.alive = true) ∧
    (s.malt.btnTime = none) ∧
    (s.malt.locating = true)) :=
  by and_intros <;> first
    | decide +kernel
    | exact fun x => by cases x <;> decide +kernel


theorem witness_ClockAndResetCommandsComplete :
  (let s : State := clkS { refPresent := true, coreLock := true } { state := .full, mgmtUp := true };
    let x : TunId := TunId.t0;
    ((s.tun x).clk.refPresent = true) ∧
    ((s.tun x).clk.coreRef = .rack)) ∧
  (let s : State := clkS { coreRef := .holdover } { state := .full };
    let x : TunId := TunId.t0;
    ((s.tun x).clk.coreRef = .holdover) ∧
    ((s.tun x).clk.slewing = false)) ∧
  (let s : State := clkS { slewing := true, coreRef := .holdover, slewTo := .localOsc } { state := .full };
    let x : TunId := TunId.t0;
    ((s.tun x).clk.slewing = true) ∧
    ((s.tun x).clk.returnPending = false)) ∧
  (let s : State := clkS { coreLock := true, coreRef := .holdover } { state := .full };
    let x : TunId := TunId.t0;
    ((s.tun x).clk.coreLock = true) ∧
    ((s.tun x).clk.refPresent = false) ∧
    ((s.tun x).clk.slewing = false)) ∧
  (let s : State := clkS {} { state := .cold };
    let x : TunId := TunId.t0;
    ((s.tun x).svc.state = .cold) ∧
    ((s.tun x).svc.hold = .none_) ∧
    ((s.tun x).clk.coreLock = false)) ∧
  (let s : State := clkS {} { state := .full, mgmtUp := true, hold := .warm };
    let x : TunId := TunId.t0;
    ((s.tun x).svc.state ≠ .off) ∧
    ((s.tun x).svc.hold ≠ .cold) ∧
    ((s.tun x).svc.mgmtUp = true)) ∧
  (let s : State := clkS {} { state := .cold, mgmtUp := true };
    let x : TunId := TunId.t0;
    ((s.tun x).svc.state ≠ .off) ∧
    ((s.tun x).svc.hold = .none_) ∧
    ((s.tun x).svc.mgmtUp = true)) ∧
  (let s : State := clkS {} { state := .cold, mgmtUp := true, hold := .warm };
    let x : TunId := TunId.t0;
    ((s.tun x).svc.hold = .warm)) ∧
  (let s : State := clkS {} { state := .cold, hold := .cold, coldPowered := true, pendCause := 2 };
    let x : TunId := TunId.t0;
    ((s.tun x).svc.hold = .cold) ∧
    ((s.tun x).svc.coldPowered = true) ∧
    ((s.mtun x).seq = .idle)) :=
  by decide +kernel


theorem witness_ServiceCommandsComplete :
  (let s : State := at0 { col := .t0, svc := { mgmtUp := true, state := .cold, fwRunning := true } };
    let x : TunId := TunId.t0;
    ((s.tun x).svc.hold = .none_) ∧
    ((s.tun x).svc.mgmtUp = true) ∧
    ((s.tun x).svc.state = .cold) ∧
    ((s.tun x).svc.fwRunning = true)) ∧
  (let s : State := at0 { col := .t0, asm := .x, svc := { mgmtUp := true, state := .cold, caskTraining := true } };
    let x : TunId := TunId.t0;
    let codes := (8 :: List.replicate 3 3);
    ((s.tun x).svc.hold = .none_) ∧
    ((s.tun x).svc.mgmtUp = true) ∧
    ((s.tun x).svc.caskTraining = true) ∧
    (codes.length = (s.tun x).asm.casks) ∧
    (codes.all trainCode = true) ∧
    (failMask codes ≠ 0)) ∧
  (let s : State := at0 { col := .t0, svc := { mgmtUp := true, state := .pale, caskCodes := List.replicate 8 3, stepRound := 0xC } };
    let x : TunId := TunId.t0;
    ((s.tun x).svc.hold = .none_) ∧
    ((s.tun x).svc.mgmtUp = true) ∧
    ((s.tun x).svc.state = .pale) ∧
    ((s.tun x).casksPassed = true) ∧
    ((s.tun x).svc.caskTraining = false) ∧
    ((s.tun x).roundSettled = true) ∧
    ((s.tun x).svc.stepRound.toNat < 0xD) ∧
    (((s.tun x).svc.stepRound ≠ 0 ∨ (s.tun x).svc.stayPale = false))) ∧
  (let s : State := at0 { col := .t0, svc := { mgmtUp := true, state := .pale, aligning := true } };
    let x : TunId := TunId.t0;
    ((s.tun x).svc.hold = .none_) ∧
    ((s.tun x).svc.mgmtUp = true) ∧
    ((s.tun x).svc.aligning = true)) ∧
  (let s : State := at0 { col := .t0, svc := { mgmtUp := true, state := .pale, alignDone := true, caskCodes := List.replicate 8 3, stepRound := 0xE } };
    let x : TunId := TunId.t0;
    ((s.tun x).svc.hold = .none_) ∧
    ((s.tun x).svc.mgmtUp = true) ∧
    ((s.tun x).fullReady = true)) ∧
  (let s : State := at0 { col := .t0, svc := { mgmtUp := true, state := .draining } };
    let x : TunId := TunId.t0;
    ((s.tun x).svc.hold = .none_) ∧
    ((s.tun x).svc.mgmtUp = true) ∧
    ((s.tun x).svc.state = .cold ∨ (s.tun x).svc.state = .pale ∨ (s.tun x).svc.state = .full ∨ (s.tun x).svc.state = .draining)) ∧
  (let s : State := at0 { col := .t0, svc := { mgmtUp := true, state := .full } };
    let x : TunId := TunId.t0;
    ((s.tun x).svc.hold = .none_) ∧
    ((s.tun x).svc.mgmtUp = true) ∧
    ((s.tun x).svc.state = .full)) ∧
  (let s : State := at0 { col := .t0, svc := { mgmtUp := true, state := .pale, fwRunning := true } };
    let x : TunId := TunId.t0;
    ((s.tun x).svc.hold = .none_) ∧
    ((s.tun x).svc.mgmtUp = true) ∧
    ((s.tun x).svc.state = .pale)) ∧
  (let s : State := at0 { col := .t0, svc := { mgmtUp := true, state := .draining, resumeTo := 3 } };
    let x : TunId := TunId.t0;
    ((s.tun x).svc.hold = .none_) ∧
    ((s.tun x).svc.mgmtUp = true) ∧
    ((s.tun x).svc.state = .draining) ∧
    ((s.tun x).svc.resumeTo = 3)) ∧
  (let s : State := at0 { col := .t0, svc := { mgmtUp := true, state := .pale, fwRunning := true } };
    let x : TunId := TunId.t0;
    ((s.tun x).svc.hold = .none_) ∧
    ((s.tun x).svc.mgmtUp = true) ∧
    ((s.tun x).svc.state = .pale) ∧
    ((s.tun x).svc.caskTraining = false)) ∧
  (let s : State := at0 { col := .t0, svc := { mgmtUp := true, state := .fenced } };
    let x : TunId := TunId.t0;
    ((s.tun x).svc.hold = .none_) ∧
    ((s.tun x).svc.mgmtUp = true) ∧
    ((s.tun x).svc.state ≠ .off)) ∧
  (let s : State := at0 { col := .t0, svc := { mgmtUp := true, state := .draining } };
    let x : TunId := TunId.t0;
    ((s.tun x).svc.hold = .none_) ∧
    ((s.tun x).svc.mgmtUp = true) ∧
    ((s.tun x).svc.state = .draining) ∧
    ((s.tun x).isEmpty = true)) ∧
  (let s : State := at0 { col := .t0, svc := { mgmtUp := true, state := .draining }, bm := { cmds := [] }, plane := { engineWait := [{}] } };
    let x : TunId := TunId.t0;
    ((s.tun x).svc.hold = .none_) ∧
    ((s.tun x).svc.mgmtUp = true) ∧
    ((s.tun x).svc.state = .draining) ∧
    ((s.tun x).isEmpty = false)) :=
  by decide +kernel


theorem witness_TransportCommandsComplete :
  (let s : State := busS { serving := true } {};
    let p := RawPath.proxy .t3;
    let a := 0x38;
    let frame := [0x11, 9, 1];
    (s.malt.alive = true) ∧
    (s.serves p a = true) ∧
    ((s.raw p).busy = false) ∧
    (parseReq frame = none)) ∧
  (let s : State := busS { serving := true } {};
    let p := RawPath.sb .sb1;
    let a := 0x38;
    let frame := frameOf 0x99 0 [];
    let q := rawReq frame;
    (s.malt.alive = true) ∧
    (s.serves p a = true) ∧
    ((s.raw p).busy = false) ∧
    (parseReq frame = some q) ∧
    (objectOk q.op q.obj = none)) ∧
  (let s : State := busS { serving := true } {};
    let p := RawPath.sb .sb1;
    let a := 0x38;
    let frame := frameOf 0x05 0x30 [];
    let q := rawReq frame;
    (s.malt.alive = true) ∧
    (s.serves p a = true) ∧
    ((s.raw p).busy = false) ∧
    (parseReq frame = some q) ∧
    (q.op = 0x05) ∧
    (q.obj = 0x30) ∧
    (s.malt.windows = [])) ∧
  (let s : State := busS { serving := true } { raws := ⟨[(1, { accepted := true, reply := some ⟨1, 2, 0, []⟩ })]⟩ };
    let p := RawPath.sb .sb1;
    let a := 0x38;
    (s.malt.alive = true) ∧
    (s.serves p a = true) ∧
    (s.malt.restartDue = false)) ∧
  (let s : State := busS { serving := true } { restartDue := true, raws := ⟨[(1, { accepted := true, reply := some ⟨1, 6, 0, []⟩ })]⟩ };
    let p := RawPath.sb .sb1;
    let a := 0x38;
    let r := (⟨1, 6, 0, []⟩ : Reply);
    (s.malt.alive = true) ∧
    (s.serves p a = true) ∧
    ((s.raw p).accepted = true) ∧
    (s.malt.restartDue = true) ∧
    ((s.raw p).reply = some r) ∧
    (r.op = 0x06) ∧
    (r.status = 0)) ∧
  (let s : State := busS { serving := true } { windows := [⟨.object 0x30, [⟨.raw (.sb .sb1), ⟨1, 5, 0x30, []⟩, 0⟩]⟩], logNext := 3 };
    let o := WinObj.object 0x30;
    let h := (⟨.raw (.sb .sb1), ⟨1, 5, 0x30, []⟩, 0⟩ : Held);
    (s.malt.alive = true) ∧
    (s.malt.windows = [⟨o, [h]⟩]) ∧
    (s.malt.executing = []) ∧
    (h.req.op = 0x05)) ∧
  (let s : State := busS { serving := true } { alertStatus := 0x80 };
    let b := Bus.sb1;
    (s.malt.alive = true) ∧
    ((s.bus b).serving = true) ∧
    ((s.bus b).modeNow = false) ∧
    (s.malt.alertPending = true)) ∧
  (let s : State := busS { serving := true, modeNow := true, ibiEnabled := true } {};
    let b := Bus.sb1;
    (s.malt.alive = true) ∧
    ((s.bus b).serving = true) ∧
    ((s.bus b).modeNow = true) ∧
    ((s.bus b).dynAddr = none)) ∧
  (let s : State := busS { serving := true, modeNow := true, ibiEnabled := true } {};
    let b := Bus.sb1;
    (s.malt.alive = true) ∧
    ((s.bus b).serving = true) ∧
    ((s.bus b).modeNow = true)) ∧
  (let s : State := busS { serving := true, modeNow := true, dynAddr := some 9 } { alertStatus := 0x80 };
    let b := Bus.sb1;
    (s.malt.alive = true) ∧
    ((s.bus b).serving = true) ∧
    ((s.bus b).modeNow = true) ∧
    ((s.bus b).dynAddr ≠ none)) ∧
  (let s : State := busS { serving := true, eid := 4 } {};
    let b := Bus.sb1;
    let dst := 4;
    let data := [1, 9];
    (s.malt.alive = true) ∧
    (s.busServes b = true) ∧
    ((dst = 0 ∨ dst = (s.bus b).eid)) ∧
    ((byteAt data 0).toNat ≤ 1) ∧
    (byteAt data 1 ≠ 0) ∧
    (byteAt data 1 ≠ 0xFF)) ∧
  (let s : State := busS { serving := true, eid := 4 } {};
    let b := Bus.sb1;
    let dst := 0;
    (s.malt.alive = true) ∧
    (s.busServes b = true) ∧
    ((dst = 0 ∨ dst = (s.bus b).eid))) ∧
  (let s : State := busS { serving := true, eid := 9 } { mctpBusy := List.replicate 7 (.raw (.sb .sb0)) };
    let b := Bus.sb1;
    let frame := frameOf 0x99 0 [];
    let q := rawReq frame;
    (s.malt.alive = true) ∧
    (s.busServes b = true) ∧
    ((s.bus b).eid ≠ 0) ∧
    (5 + frame.length ≤ 1024) ∧
    (s.malt.mctpBusy.length < 8) ∧
    (parseReq frame = some q) ∧
    (objectOk q.op q.obj = none)) ∧
  (let s : State := busS { serving := true, eid := 9 } {};
    let b := Bus.sb1;
    (s.malt.alive = true) ∧
    (s.busServes b = true) ∧
    ((s.bus b).eid ≠ 0) ∧
    (s.malt.mctpBusy.length < 8)) ∧
  (let s : State := { busS { serving := true } { eventReceiver := some (.sb0, 8) } with tray := { leakLow := true } };
    let n := 0x40;
    let p := ({ id := 0x40, numeric := false, entity := 0x00, stateSet := 0x8002 } : Config.SensorPdr);
    (s.malt.alive = true) ∧
    (sensorPdr n = some p) ∧
    (s.malt.eventReceiver.isSome = true) ∧
    (s.sensorState p ≠ 0) ∧
    (s.sensorState p ≠ Tab.get 0 s.malt.sensorSeen n)) ∧
  (let s : State := busS { serving := true } { events := [⟨0x40, 1, none, 2⟩] };
    let e := (⟨0x40, 1, none, 2⟩ : PendEvent);
    (s.malt.alive = true) ∧
    (s.malt.events = [e]) ∧
    (e.tries < 3)) ∧
  (let s : State := busS { serving := true } { events := [⟨0x40, 1, none, 3⟩] };
    let e := (⟨0x40, 1, none, 3⟩ : PendEvent);
    (s.malt.alive = true) ∧
    (s.malt.events = [e]) ∧
    (e.tries = 3)) ∧
  (let s : State := busS { modeStored := true } {};
    (s.malt.alive = true)) :=
  by decide +kernel


theorem witness_ReadOpcodesAnswer :
  (let s : State := up;
    (s.malt.alive = true)) ∧
  (let s : State := up;
    let page : Byte := 0;
    let off : Byte := 0;
    let count : Byte := 4;
    (s.malt.alive = true) ∧
    (off.toNat % 4 = 0) ∧
    (1 ≤ count.toNat) ∧
    (count.toNat ≤ 16) ∧
    ((∀ k, k < count.toNat → (s.maltReg page.toNat (off.toNat + 4 * k)).isSome = true))) ∧
  (let s : State := { malt := { alive := true, log := [⟨5, 0, 0, 0x10, 0, 0, List.replicate 8 0⟩], logNext := 6 } };
    let first : Half := 5;
    let count : Byte := 7;
    (s.malt.alive = true) ∧
    (1 ≤ count.toNat) ∧
    (count.toNat ≤ 7) ∧
    ((first - s.malt.logFirst).toNat < s.malt.log.length)) ∧
  (let s : State := { malt := { alive := true, alertStatus := 0xFF } };
    (s.malt.alive = true)) ∧
  (let s : State := bayS 5 { present := true, rom := romOf 3 };
    let n := 5;
    (s.malt.alive = true) ∧
    (n < 6)) ∧
  (let s : State := bayS 5 { present := true, rom := romOf 3 };
    let n := 5;
    let addr : Half := 0xFFF;
    let count : Byte := 128;
    (s.malt.alive = true) ∧
    (n < 6) ∧
    (addr.toNat < 0x1000) ∧
    (1 ≤ count.toNat) ∧
    (count.toNat ≤ 128)) ∧
  (let s : State := mtT { power := 2 } { col := .t0, svc := { state := .full, mgmtUp := true } };
    let x := TunId.t0;
    let off := 0xFFFFFC;
    let count : Byte := 1;
    (s.malt.alive = true) ∧
    (off % 4 = 0) ∧
    (1 ≤ count.toNat) ∧
    (count.toNat ≤ 16) ∧
    (off + 4 * count.toNat ≤ 0x1000000) ∧
    ((s.tun x).reachable = true)) ∧
  (let s : State := up;
    let x := TunId.t0;
    let off := 0xFFFFC0;
    let count : Byte := 16;
    (s.malt.alive = true) ∧
    (off % 4 = 0) ∧
    (1 ≤ count.toNat) ∧
    (count.toNat ≤ 16) ∧
    (off + 4 * count.toNat ≤ 0x1000000) ∧
    (tunOff s x = true)) ∧
  (let s : State := mtT { power := 2 } { col := .t0, svc := { state := .cold } };
    let x := TunId.t0;
    let off := 0xFFFFFC;
    let count : Byte := (1 : Byte);
    (s.malt.alive = true) ∧
    (off % 4 = 0) ∧
    (1 ≤ count.toNat) ∧
    (count.toNat ≤ 16) ∧
    (off + 4 * count.toNat ≤ 0x1000000) ∧
    (tunOff s x = false) ∧
    ((s.tun x).reachable = false)) :=
  by decide +kernel


theorem witness_WriteOpcodesAct :
  (let s : State := { malt := { alive := true, alertMask := 0x3C } };
    let mask : Word := 0xF0;
    (s.malt.alive = true) ∧
    (mask &&& 0xFF ≠ 0)) ∧
  (let s : State := { malt := { alive := true, log := [⟨5, 0, 0, 0x10, 0, 0, List.replicate 8 0⟩], logNext := 6 } };
    (s.malt.alive = true)) ∧
  (let s : State := { malt := { alive := true, restarts := 0xFFFF } };
    (s.malt.alive = true)) ∧
  (let s : State := up;
    (s.malt.alive = true)) ∧
  (let s : State := up;
    let key := (1 : Half);
    (s.malt.alive = true) ∧
    (key ≠ 0x3A17)) ∧
  (let s : State := { trayUp { pwrEn := true, mainClosed := true } with malt := { alive := true } };
    let x := TunId.t0;
    (s.malt.alive = true) ∧
    (running s x = false) ∧
    ((s.mtun x).seq = .idle) ∧
    ((s.mtun x).onAfterReflash = false) ∧
    (powerRefusal s x = none) ∧
    ((s.mtun x).headerBad = false)) ∧
  (let s : State := mtT { power := 2, enables := 0x7F, rails := 0x7F, coldRstHeld := false } { col := .t0, svc := { state := .full, mgmtUp := true } };
    let x := TunId.t0;
    (s.malt.alive = true) ∧
    (running s x = true) ∧
    ((∀ k, (s.mtun x).seq ≠ .down k)) ∧
    ((s.mtun x).power ≠ 4)) ∧
  (let s : State := up;
    let x := TunId.t0;
    (s.malt.alive = true) ∧
    (running s x = false) ∧
    ((s.mtun x).seq = .idle) ∧
    ((s.mtun x).onAfterReflash = false)) ∧
  (let s : State := { mtT { power := 2, enables := 0x7F, rails := 0x7F } { col := .t0, svc := { state := .full, mgmtUp := true } } with tray := { pwrEn := true, mainClosed := true } };
    let x := TunId.t0;
    let ms : Half := 10000;
    (s.malt.alive = true) ∧
    (100 ≤ ms.toNat) ∧
    (ms.toNat ≤ 10000) ∧
    (powerRefusal s x = none) ∧
    (running s x = true) ∧
    ((∀ k, (s.mtun x).seq ≠ .down k)) ∧
    ((s.mtun x).power ≠ 4)) ∧
  (let s : State := { mtS { seq := .cycleWait, cycleAfter := some 100 } with tray := { pwrEn := true, mainClosed := true } };
    let x := TunId.t0;
    (s.malt.alive = true) ∧
    ((s.mtun x).seq = .cycleWait) ∧
    (powerRefusal s x = none) ∧
    ((s.mtun x).headerBad = false)) ∧
  (let s : State := mtT { power := 2, enables := 0x7F } { col := .t0, svc := { state := .full, mgmtUp := true } };
    let x := TunId.t0;
    (s.malt.alive = true) ∧
    ((s.tun x).reachable = true) ∧
    ((s.tun x).svc.hold = .none_)) ∧
  (let s : State := mtT { power := 2, enables := 0x7F } { col := .t0, svc := { state := .full, mgmtUp := true } };
    let x := TunId.t0;
    let off := 0xFFFFFC;
    (s.malt.alive = true) ∧
    (off < 0x1000000) ∧
    ((s.tun x).reachable = true)) ∧
  (let s : State := up;
    let x := TunId.t0;
    (s.malt.alive = true) ∧
    (tunOff s x = true)) ∧
  (let s : State := mtT { power := 2 } { col := .t0, svc := { state := .cold } };
    let x := TunId.t0;
    (s.malt.alive = true) ∧
    (tunOff s x = false) ∧
    ((s.tun x).reachable = false)) ∧
  (let s : State := up;
    let n := 5;
    (s.malt.alive = true) ∧
    (n < 6)) :=
  by and_intros <;> first
    | decide +kernel
    | exact fun _ h => SeqPos.noConfusion h


theorem witness_FirmwareCommandsComplete :
  (let s : State := {};
    (s.malt.alive = false) ∧
    (s.malt.imageOk = false) ∧
    (s.fw.maltSfdp = true)) ∧
  (let s : State := { fw := { maltSfdp := false } };
    (s.malt.alive = false) ∧
    (s.malt.imageOk = false) ∧
    (s.fw.maltSfdp = false)) ∧
  (let s : State := up;
    let x := TunId.t0;
    (s.malt.alive = true) ∧
    ((s.mtun x).reflashing = false) ∧
    ((s.flash x).sfdp = true)) ∧
  (let s : State := { malt := { alive := true }, fw := { flash := ⟨{ sfdp := false }, {}, {}, {}⟩ } };
    let x := TunId.t0;
    (s.malt.alive = true) ∧
    ((s.mtun x).reflashing = false) ∧
    ((s.flash x).sfdp = false)) ∧
  (let s : State := mtT {} { col := .t0, svc := { state := .cold } };
    let x := TunId.t0;
    ((s.tun x).svc.state = .cold) ∧
    ((s.tun x).svc.hold = .none_) ∧
    ((s.tun x).svc.bootResult = 0) ∧
    ((s.flash x).sfdp = true)) ∧
  (let s : State := mtT {} { col := .t0, svc := { state := .cold } };
    let x := TunId.t0;
    let ok := false;
    ((s.tun x).svc.state = .cold) ∧
    ((s.tun x).svc.hold = .none_) ∧
    ((s.tun x).svc.bootResult = 0) ∧
    ((ok && (s.flash x).sfdp) = false)) ∧
  (let s : State := { mtT { power := 2 } { col := .t0, svc := { state := .cold, mgmtUp := true, bootResult := 1 } } with malt := { alive := true, mtun := ⟨{ power := 2 }, {}, {}, {}⟩, executing := [⟨.object (tunByte .t0), ⟨1, 0x10, 0x10, []⟩, [⟨.raw (.sb .sb0), ⟨1, 0x10, 0x10, []⟩, 0⟩]⟩] } };
    let x := TunId.t0;
    let q := (⟨1, 0x10, 0x10, []⟩ : Req);
    let h := (⟨.raw (.sb .sb0), ⟨1, 0x10, 0x10, []⟩, 0⟩ : Held);
    (s.malt.alive = true) ∧
    ((s.mtun x).power = 2) ∧
    ((s.tun x).reachable = true) ∧
    ((s.tun x).svc.bootResult = 1) ∧
    (s.malt.executing = [⟨.object (tunByte x), q, [h]⟩]) ∧
    (q.op ≠ 0x11)) ∧
  (let s : State := mtT { power := 2 } { col := .t0, svc := { state := .cold, mgmtUp := true, bootResult := 2 } };
    let x := TunId.t0;
    (s.malt.alive = true) ∧
    ((s.mtun x).power = 2) ∧
    ((s.tun x).reachable = true) ∧
    (2 ≤ (s.tun x).svc.bootResult.toNat) ∧
    ((s.mtun x).reflashed = false)) ∧
  (let s : State := mtS { reflashing := true, headerBad := true };
    let x := TunId.t0;
    (s.malt.alive = true) ∧
    ((s.mtun x).reflashing = true) ∧
    (tunOwns s x = false) ∧
    ((s.mtun x).onAfterReflash = false)) ∧
  (let s : State := fwS { stage := .erasing };
    (s.malt.alive = true) ∧
    (s.fw.stage = .erasing)) ∧
  (let s : State := fwS { stage := .verifying, kind := 1 };
    (s.malt.alive = true) ∧
    (s.fw.stage = .verifying) ∧
    (s.fw.kind = 1)) ∧
  (let s : State := fwS { stage := .verifying, kind := 2 };
    (s.malt.alive = true) ∧
    (s.fw.stage = .verifying) ∧
    (s.fw.kind = 2)) ∧
  (let s : State := fwS { stage := .copying, kind := 2 };
    (s.malt.alive = true) ∧
    (s.fw.stage = .copying) ∧
    ((∀ x, tunOwns s x = false))) ∧
  (let s : State := fwS { stage := .receiving, recover := true };
    (s.malt.alive = true) ∧
    (s.fw.recover = true) ∧
    (s.fw.stage = .receiving)) ∧
  (let s : State := fwS { stage := .armed, armedTun := true, flash := ⟨{ b := { state := .pending } }, {}, {}, {}⟩ };
    (s.malt.alive = true) ∧
    (s.tray.mainClosed = false) ∧
    (allOff s = true) ∧
    (s.fw.journal = false) ∧
    (s.fw.stage = .armed) ∧
    (s.fw.armedTun = true) ∧
    (s.fw.armedMalt = false) ∧
    ((∀ x, (s.flash x).hdr.d0.seq + 1 < 2 ^ 32 ∧ (s.flash x).hdr.d1.seq + 1 < 2 ^ 32))) :=
  by and_intros <;> first
    | decide +kernel
    | exact fun x => by cases x <;> decide +kernel


theorem witness_StagingCommandsComplete :
  (let s : State := fwS {};
    let kind : Byte := 2;
    let len : Word := BitVec.ofNat 32 (maxImage 2);
    (s.malt.alive = true) ∧
    (kind = 1 ∨ kind = 2) ∧
    (0x200 ≤ len.toNat) ∧
    (len.toNat ≤ maxImage kind.toNat) ∧
    (s.fw.stage = .idle)) ∧
  (let s : State := fwS { stage := .receiving, owner := .raw (.sb .sb0), kind := 2, length := 2 };
    let src : Src := Src.raw (.sb .sb0);
    let off : Word := 0;
    let data := [1, 2];
    (s.malt.alive = true) ∧
    (0 < data.length) ∧
    (data.length ≤ 236) ∧
    (s.fw.stage = .receiving) ∧
    (s.fw.owner = ownerOf src) ∧
    (s.fw.kind = 2) ∧
    (off.toNat = s.fw.progress) ∧
    (off.toNat + data.length ≤ s.fw.length)) ∧
  (let s : State := fwS {};
    let data := [1];
    (s.malt.alive = true) ∧
    (0 < data.length) ∧
    (data.length ≤ 236) ∧
    (s.fw.stage = .idle)) ∧
  (let s : State := fwS { stage := .receiving, owner := .raw (.sb .sb0), kind := 2, length := 2, progress := 2 };
    let src : Src := Src.raw (.sb .sb0);
    let kind : Byte := 2;
    (s.malt.alive = true) ∧
    (s.fw.stage = .receiving) ∧
    (s.fw.owner = ownerOf src) ∧
    (s.fw.kind = kind.toNat) ∧
    (s.fw.progress = s.fw.length)) ∧
  (let s : State := fwS { stage := .armed, armedMalt := true };
    (s.malt.alive = true) ∧
    (s.fw.stage = .armed) ∧
    (s.fw.replyDue = false)) ∧
  (let s : State := busS { serving := true, eid := 9 } {};
    let b : Bus := Bus.sb1;
    (s.malt.alive = true) ∧
    (s.busServes b = true) ∧
    ((s.bus b).eid ≠ 0) ∧
    (s.malt.mctpBusy.length < 8)) ∧
  (let s : State := busS { serving := true, eid := 9 } {};
    let b : Bus := Bus.sb1;
    (s.malt.alive = true) ∧
    (s.busServes b = true) ∧
    ((s.bus b).eid ≠ 0) ∧
    (s.malt.mctpBusy.length < 8) ∧
    (s.fw.updateMode = false) ∧
    (s.fw.stage = .idle)) ∧
  (let s : State := { busS { serving := true, eid := 9 } {} with fw := { updateMode := true } };
    let b : Bus := Bus.sb1;
    (s.malt.alive = true) ∧
    (s.busServes b = true) ∧
    ((s.bus b).eid ≠ 0) ∧
    (s.malt.mctpBusy.length < 8) ∧
    (s.fw.updateMode = true)) ∧
  (let s : State := { busS { serving := true, eid := 9 } {} with fw := { updateMode := true } };
    let b : Bus := Bus.sb1;
    let comp := 1;
    let size := 0x200;
    (s.malt.alive = true) ∧
    (s.busServes b = true) ∧
    ((s.bus b).eid ≠ 0) ∧
    (s.malt.mctpBusy.length < 8) ∧
    (comp = 1 ∨ comp = 2) ∧
    (0x200 ≤ size) ∧
    (size ≤ maxImage comp) ∧
    (s.fw.updateMode = true) ∧
    (s.fw.stage = .idle)) ∧
  (let s : State := { busS { serving := true, eid := 9 } {} with fw := { owner := .pldm, stage := .receiving, updateMode := true } };
    let b : Bus := Bus.sb1;
    (s.malt.alive = true) ∧
    (s.busServes b = true) ∧
    ((s.bus b).eid ≠ 0) ∧
    (s.malt.mctpBusy.length < 8) ∧
    (s.fw.owner = .pldm)) ∧
  (let s : State := { busS { serving := true, eid := 9 } {} with fw := { owner := .pldm, stage := .receiving, updateMode := true } };
    let b : Bus := Bus.sb1;
    (s.malt.alive = true) ∧
    (s.busServes b = true) ∧
    ((s.bus b).eid ≠ 0) ∧
    (s.malt.mctpBusy.length < 8) ∧
    (s.fw.owner = .pldm) ∧
    (s.fw.stage = .receiving) ∧
    (s.fw.replyDue = false)) ∧
  (let s : State := fwS { request := some (0, 2), stage := .receiving, owner := .pldm, kind := 2, length := 2, updateMode := true };
    let off := 0;
    let n := 2;
    let data := [1, 2];
    (s.malt.alive = true) ∧
    (s.fw.request = some (off, n)) ∧
    (s.fw.stage = .receiving) ∧
    (s.fw.owner = .pldm) ∧
    (data.length = n) ∧
    (s.fw.kind = 2) ∧
    (s.fw.progress + n = s.fw.length)) ∧
  (let s : State := fwS { request := some (0, 2), requestTries := 2 };
    let off := 0;
    let n := 2;
    (s.malt.alive = true) ∧
    (s.fw.request = some (off, n)) ∧
    (s.fw.requestTries < 3)) ∧
  (let s : State := fwS { request := some (0, 2), requestTries := 3 };
    let off := 0;
    let n := 2;
    (s.malt.alive = true) ∧
    (s.fw.request = some (off, n)) ∧
    (s.fw.requestTries = 3)) :=
  by decide +kernel


theorem witness_LinkTrainingCommandsComplete :
  (let s : State := at0 fullTun;
    let x : TunId := .t0;
    let id : BitVec 9 := 256;
    let u := s.tun x;
    let p := u.port id.toNat;
    (s.lanesReady x id.toNat = true) ∧
    (u.hasPort id.toNat = true) ∧
    (u.trains = true) ∧
    (u.heldDown id.toNat = false) ∧
    (p.disable = false) ∧
    (p.link = .disabled) ∧
    (p.state = .down)) ∧
  (let s : State := portS { link := .detect };
    let x : TunId := .t0;
    let id : BitVec 9 := 256;
    let u := s.tun x;
    let p := u.port id.toNat;
    (p.link = .detect) ∧
    (p.waiting = false) ∧
    (u.trains = true)) ∧
  (let s : State := portS { link := .detect };
    let x : TunId := .t0;
    let id : BitVec 9 := 256;
    let u := s.tun x;
    let p := u.port id.toNat;
    (p.link = .detect) ∧
    (p.waiting = false)) ∧
  (let s : State := portS { link := .equalize, widthNow := 8, lanes := List.replicate 8 {} };
    let x : TunId := .t0;
    let id : BitVec 9 := 256;
    let u := s.tun x;
    let p := u.port id.toNat;
    let lane := (0 : BitVec 3);
    (p.link = .equalize) ∧
    (lane.toNat < p.widthNow)) ∧
  (let s : State := portS { link := .equalize };
    let x : TunId := .t0;
    let id : BitVec 9 := 256;
    let u := s.tun x;
    let p := u.port id.toNat;
    (p.link = .equalize)) ∧
  (let s : State := portS { link := .deskew };
    let x : TunId := .t0;
    let id : BitVec 9 := 256;
    let u := s.tun x;
    let p := u.port id.toNat;
    (p.link = .deskew) ∧
    (p.state = .down)) ∧
  (let s : State := portS { link := .equalize };
    let x : TunId := .t0;
    let id : BitVec 9 := 256;
    let u := s.tun x;
    let p := u.port id.toNat;
    (p.link = .equalize) ∧
    (p.waiting = false) ∧
    (p.stepping = false) ∧
    (p.state ≠ .fenced)) ∧
  (let s : State := portS { link := .detect, waiting := true };
    let x : TunId := .t0;
    let id : BitVec 9 := 256;
    let u := s.tun x;
    let p := u.port id.toNat;
    (p.link = .detect) ∧
    (p.waiting = true)) ∧
  (let s : State := portS { link := .linked, state := .identify, widthNow := 8 };
    let x : TunId := .t0;
    let id : BitVec 9 := 256;
    let u := s.tun x;
    let p := u.port id.toNat;
    let pl := [2, 0, 2, 4, 0, 1, 2, 1, 0xFF, 0xFF, 0, 5, 6];
    (p.state = .identify) ∧
    (u.identCause id.toNat pl = none)) ∧
  (let s : State := portS { link := .linked, state := .identify, widthNow := 4 };
    let x : TunId := .t0;
    let id : BitVec 9 := 256;
    let u := s.tun x;
    let p := u.port id.toNat;
    let pl := [2, 0, 2, 4, 0, 1, 2, 1, 0xFF, 0xFF, 0, 5, 6];
    let c := 7;
    (p.state = .identify) ∧
    (p.stepping = false) ∧
    (u.identCause id.toNat pl = some c)) ∧
  (let s : State := portS { link := .linked, state := .identify, widthNow := 8, incarn := 6, nextSeq := 9, peerIncarn := some 5, ident := some ⟨0, true, true, 0, 1, 258, 0xFFFF, 5, 6, 9, 0⟩ };
    let x : TunId := .t0;
    let id : BitVec 9 := 256;
    let u := s.tun x;
    let p := u.port id.toNat;
    let i := (⟨0, true, true, 0, 1, 258, 0xFFFF, 5, 6, 9, 0⟩ : Ident);
    (p.state = .identify) ∧
    (p.ident = some i) ∧
    (i.seen = true) ∧
    (p.resumes i = true) ∧
    (p.replay = []) ∧
    (p.txq = [])) ∧
  (let s : State := portS { link := .linked, state := .identify };
    let x : TunId := .t0;
    let id : BitVec 9 := 256;
    let u := s.tun x;
    let p := u.port id.toNat;
    (p.state = .identify) ∧
    (p.stepping = false)) ∧
  (let s : State := portS { link := .linked, state := .degraded, replay := [⟨3, 1, 0, false, [1]⟩] };
    let x : TunId := .t0;
    let id : BitVec 9 := 256;
    let u := s.tun x;
    let p := u.port id.toNat;
    (p.link = .linked) ∧
    (p.up = true)) ∧
  (let s : State := portS { link := .linked, state := .active, replay := [⟨3, 1, 0, false, [1]⟩] };
    let x : TunId := .t0;
    let id : BitVec 9 := 256;
    let u := s.tun x;
    let p := u.port id.toNat;
    (p.link = .linked) ∧
    (p.rxNapped = false) ∧
    (p.up = true)) :=
  by decide +kernel


theorem witness_LinkControlCommandsComplete :
  (let s : State := portS { link := .linked, state := .active, replay := [⟨0xFFF, 1, 0, false, [1]⟩] };
    let x : TunId := .t0;
    let id : BitVec 9 := 256;
    let u := s.tun x;
    let p := u.port id.toNat;
    let h := (⟨0xFFF, 1, 0, false, [1]⟩ : HeldFlit);
    (p.replay = [h]) ∧
    (p.up = true) ∧
    (p.link = .linked) ∧
    (p.replayRun = none) ∧
    (p.holdFrom = none)) ∧
  (let s : State := portS { link := .detect, waiting := true, replay := [⟨0xFFF, 1, 0, false, [1]⟩] };
    let x : TunId := .t0;
    let id : BitVec 9 := 256;
    let u := s.tun x;
    let p := u.port id.toNat;
    (p.state = .down) ∧
    (p.link = .detect) ∧
    (p.replay ≠ [])) ∧
  (let s : State := portS { link := .linked, state := .degraded, replayEvents1s := 4 };
    let x : TunId := .t0;
    let id : BitVec 9 := 256;
    let u := s.tun x;
    let p := u.port id.toNat;
    (p.state = .degraded) ∧
    (p.replayEvents1s ≤ 4)) ∧
  (let s : State := portS { link := .linked, state := .active, replayEvents := 65 };
    let x : TunId := .t0;
    let id : BitVec 9 := 256;
    let u := s.tun x;
    let p := u.port id.toNat;
    (p.state = .active) ∧
    (64 < p.replayEvents)) ∧
  (let s : State := portS { link := .linked, state := .degraded, replay := [⟨0xFFF, 1, 0, false, [1]⟩] };
    let x : TunId := .t0;
    let id : BitVec 9 := 256;
    let u := s.tun x;
    let p := u.port id.toNat;
    (p.up = true)) ∧
  (let s : State := portS { link := .linked, state := .fenced, incarn := 3 };
    let x : TunId := .t0;
    let id : BitVec 9 := 256;
    let u := s.tun x;
    let p := u.port id.toNat;
    (p.state = .fenced) ∧
    (p.link = .linked)) ∧
  (let s : State := portS { link := .linked, state := .active, incarn := 0xFF, replay := [⟨0xFFF, 1, 0, false, [1]⟩] };
    let x : TunId := .t0;
    let id : BitVec 9 := 256;
    let u := s.tun x;
    (u.hasPort id.toNat = true) ∧
    (u.portsAnswer = true)) ∧
  (let s : State := portS { link := .linked, state := .active };
    let x : TunId := .t0;
    let id : BitVec 9 := 256;
    let u := s.tun x;
    let p := u.port id.toNat;
    (u.hasPort id.toNat = true) ∧
    (u.portsAnswer = true) ∧
    (p.disable = false)) ∧
  (let s : State := portS { disable := true, downCause := 1, incarn := 0xFF };
    let x : TunId := .t0;
    let id : BitVec 9 := 256;
    let u := s.tun x;
    let p := u.port id.toNat;
    (u.hasPort id.toNat = true) ∧
    (u.portsAnswer = true) ∧
    (p.disable = true)) ∧
  (let s : State := portS { link := .linked, state := .active };
    let x : TunId := .t0;
    let id : BitVec 9 := 256;
    let u := s.tun x;
    (u.hasPort id.toNat = true) ∧
    (u.portsAnswer = true)) ∧
  (let s : State := portS { link := .linked, state := .active };
    let x : TunId := .t0;
    let id : BitVec 9 := 256;
    let u := s.tun x;
    let p := u.port id.toNat;
    (p.up = true) ∧
    (p.link = .linked) ∧
    (p.genNow = false)) ∧
  (let s : State := portS { link := .linked, state := .active, probes := [(7, 10)] };
    let x : TunId := .t0;
    let id : BitVec 9 := 256;
    let u := s.tun x;
    let p := u.port id.toNat;
    let k : Byte := 7;
    let t1 := 10;
    (p.probes.contains (k.toNat, t1) = true) ∧
    (p.delays = [])) ∧
  (let s : State := portS { link := .linked, state := .active, probes := [(7, 10)] };
    let x : TunId := .t0;
    let id : BitVec 9 := 256;
    let u := s.tun x;
    let p := u.port id.toNat;
    (p.probes ≠ [])) ∧
  (let s : State := portS { link := .linked, state := .active };
    let x : TunId := .t0;
    let id : BitVec 9 := 256;
    let u := s.tun x;
    let p := u.port id.toNat;
    (u.mayNap id.toNat = true) ∧
    (p.link = .linked)) ∧
  (let s : State := portS { link := .linked, state := .active };
    let x : TunId := .t0;
    let id : BitVec 9 := 256;
    let u := s.tun x;
    let p := u.port id.toNat;
    (p.up = true) ∧
    (p.genNow = false)) ∧
  (let s : State := portS { link := .linked, state := .active, txNapped := true };
    let x : TunId := .t0;
    let id : BitVec 9 := 256;
    let u := s.tun x;
    let p := u.port id.toNat;
    (p.txNapped = true)) :=
  by decide +kernel


theorem witness_RegisterRowsComplete :
  (let s : State := at0 fullTun;
    let x : TunId := .t0;
    ((s.tun x).svc.hold = .none_) ∧
    ((s.tun x).svc.state ≠ .off)) ∧
  (let s : State := at0 { fullTun with plane := { ringDrain := true, modeStored := true } };
    let x : TunId := .t0;
    ((s.tun x).svc.hold = .none_) ∧
    ((s.tun x).svc.state ≠ .off) ∧
    ((s.tun x).plane.ringDrain = true) ∧
    ((s.tun x).plane.holdsEmpty = true)) ∧
  (let s : State := at0 fullTun;
    let x : TunId := .t0;
    let p := Path.sideband;
    ((s.tun x).svc.hold = .none_) ∧
    ((s.tun x).svc.state ≠ .off) ∧
    ((s.tun x).svc.state ≠ .cold) ∧
    ((s.tun x).pathAnswers p = true)) ∧
  (let s : State := at0 fullTun;
    let x : TunId := .t0;
    let v := (0xFFFFFFFF8000FFFE : Dword);
    ((s.tun x).svc.hold = .none_) ∧
    ((s.tun x).svc.state ≠ .off) ∧
    ((s.tun x).svc.state ≠ .cold) ∧
    (v.getLsbD 31 = true) ∧
    (v.extractLsb' 0 16 ≠ (0 : Half)) ∧
    (v.extractLsb' 0 16 ≠ (0xFFFF : Half))) ∧
  (let s : State := at0 fullTun;
    let x : TunId := .t0;
    let v := (0x000000008000FFFF : Dword);
    ((s.tun x).svc.hold = .none_) ∧
    ((s.tun x).svc.state ≠ .off) ∧
    ((s.tun x).svc.state ≠ .cold) ∧
    (v.getLsbD 31 = true) ∧
    (v.extractLsb' 0 16 = (0xFFFF : Half))) ∧
  (let s : State := at0 fullTun;
    let x : TunId := .t0;
    ((s.tun x).svc.hold = .none_) ∧
    ((s.tun x).svc.state ≠ .off) ∧
    ((s.tun x).svc.state ≠ .cold)) ∧
  (let s : State := at0 fullTun;
    let x : TunId := .t0;
    let v := (0x80BF : Word);
    ((s.tun x).svc.hold = .none_) ∧
    ((s.tun x).svc.state ≠ .off) ∧
    ((s.tun x).svc.state ≠ .cold) ∧
    (v.getLsbD 15 = true) ∧
    ((bitsOf v 0 10).toNat < 192)) ∧
  (let s : State := at0 fullTun;
    let x : TunId := .t0;
    let v := (0x80C0 : Word);
    ((s.tun x).svc.hold = .none_) ∧
    ((s.tun x).svc.state ≠ .off) ∧
    ((s.tun x).svc.state ≠ .cold) ∧
    (v.getLsbD 15 = true) ∧
    (192 ≤ (bitsOf v 0 10).toNat) ∧
    ((bitsOf v 0 10).toNat ≤ 255)) ∧
  (let s : State := at0 fullTun;
    let x : TunId := .t0;
    let v := (0x80000000 : Word);
    ((s.tun x).svc.hold = .none_) ∧
    ((s.tun x).svc.state ≠ .off) ∧
    ((s.tun x).svc.state ≠ .cold) ∧
    (v.getLsbD 31 = true) ∧
    ((s.tun x).routeOk (s.tun x).plane.routeIndex.toNat v = true)) ∧
  (let s : State := at0 fullTun;
    let x : TunId := .t0;
    let v := (0xFFFFFFFF : Word);
    ((s.tun x).svc.hold = .none_) ∧
    ((s.tun x).svc.state ≠ .off) ∧
    ((s.tun x).svc.state ≠ .cold) ∧
    (v.getLsbD 31 = true) ∧
    ((s.tun x).routeOk (s.tun x).plane.routeIndex.toNat v = false)) :=
  by decide +kernel


theorem witness_QueueCommandsComplete :
  (let s : State := bmS bm1;
    let x : TunId := .t0;
    let u := s.tun x;
    let open_ := u.svc.hold = .none_ ∧ u.svc.state = .full;
    let q : BitVec 10 := 1;
    let i : Half := 0xFFFF;
    (open_) ∧
    (u.bm.cmds = []) ∧
    ((u.queue q.toNat).valid = true) ∧
    (i ≠ (u.queue q.toNat).p) ∧
    ((i - (u.queue q.toNat).p).toNat ≤ queueFree q.toNat (u.queue q.toNat))) ∧
  (let s : State := bmS bm1;
    let x : TunId := .t0;
    let u := s.tun x;
    let open_ := u.svc.hold = .none_ ∧ u.svc.state = .full;
    let r : BitVec 10 := 1;
    let i : Half := 3;
    (open_) ∧
    ((u.ring r.toNat).valid = true) ∧
    ((i - (u.ring r.toNat).head).toNat ≤ (u.ring r.toNat).unconsumed)) ∧
  (let s : State := bmS bm1;
    let x : TunId := .t0;
    let u := s.tun x;
    let p : Packet := pktOf 0x08 1 (List.replicate 64 0);
    let q := (p.addr.extractLsb' 0 10).toNat;
    (Reaches u 0x08 p) ∧
    (p.poison = false) ∧
    (u.bm.cmds = []) ∧
    (q ≠ 0) ∧
    ((u.queue q).valid = true) ∧
    ((u.queue q).endpointSubmit = true) ∧
    ((u.queue q).ctx = p.ctx) ∧
    (p.payload.length = 64) ∧
    (1 ≤ queueFree q (u.queue q))) ∧
  (let s : State := bmS bm1;
    let x : TunId := .t0;
    let u := s.tun x;
    let p : Packet := pktOf 0x09 0 [1, 0, 0xFF, 0xFF];
    let w : Word := BitVec.ofNat 32 (leAt p.payload 0 4);
    let q := (w.extractLsb' 0 10).toNat;
    (Reaches u 0x09 p) ∧
    (p.poison = false) ∧
    (u.bm.cmds = []) ∧
    (p.payload.length = 4) ∧
    (w.getLsbD 15 = false) ∧
    (q ≠ 0) ∧
    ((u.queue q).valid = true) ∧
    ((u.queue q).endpointSubmit = true) ∧
    ((u.queue q).ctx = p.ctx) ∧
    (w.extractLsb' 16 16 ≠ (u.queue q).p) ∧
    ((w.extractLsb' 16 16 - (u.queue q).p).toNat ≤ queueFree q (u.queue q))) ∧
  (let s : State := bmS bm1;
    let x : TunId := .t0;
    let u := s.tun x;
    let open_ := u.svc.hold = .none_ ∧ u.svc.state = .full;
    let q : BitVec 10 := 1;
    (open_) ∧
    ((u.queue q.toNat).valid = true) ∧
    ((u.queue q.toNat).p ≠ (u.queue q.toNat).c) ∧
    (u.headWaiting q.toNat = false) ∧
    (u.sched.stepQueues.contains q.toNat = false)) ∧
  (let s : State := bmS { bm1 with cmds := [{ id := 3, queue := 1, ctx := 5, op := 0, desc := descOf 0 [] [], index := 0xFFC0 }] };
    let x : TunId := .t0;
    let u := s.tun x;
    let open_ := u.svc.hold = .none_ ∧ u.svc.state = .full;
    let q : BitVec 10 := 1;
    let c : Cmd := ({ id := 3, queue := 1, ctx := 5, op := 0, desc := descOf 0 [] [], index := 0xFFC0 } : Cmd);
    (open_) ∧
    (u.bm.cmds = [c]) ∧
    (c.queue = q.toNat) ∧
    (c.phase = .fetched) ∧
    (extOp c.op = false) ∧
    (c.op ≠ 0x32) ∧
    (c.waitSem = none) ∧
    (c.order = false) ∧
    (u.ringFree (u.queue q.toNat).cring.toNat ≠ 0) ∧
    (u.checks c = .ok {})) ∧
  (let s : State := bmS { cmds := [cmdOf 2 []], outstanding := [⟨4095, 5, 0, some 3, 200, false⟩] };
    let x : TunId := .t0;
    let u := s.tun x;
    let e : BitVec 12 := 4095;
    let c : Cmd := cmdOf 2 [];
    let o : OutReq := (⟨4095, 5, 0, some 3, 200, false⟩ : OutReq);
    (Alone u c) ∧
    (u.bm.outstanding = [o]) ∧
    (o.entry = e.toNat) ∧
    (o.cmd = some c.id) ∧
    (c.op < 0x43)) ∧
  (let s : State := bmS { bm1 with held := [⟨1, false, List.replicate 32 1, []⟩] };
    let x : TunId := .t0;
    let u := s.tun x;
    let h : HeldRec := (⟨1, false, List.replicate 32 1, []⟩ : HeldRec);
    (u.serving = true) ∧
    (u.bm.held = [h]) ∧
    (h.ext = []) ∧
    (h.interrupt = false) ∧
    (u.ringFree h.ring ≠ 0) ∧
    ((u.ring h.ring).endpoint = false) ∧
    ((u.ring h.ring).split = false) ∧
    ((u.ring h.ring).function = 0) ∧
    (u.hostReach 0 = true) ∧
    (u.host.lost = false)) ∧
  (let s : State := bmS { bm1 with queueSel := 2, queues := ⟨[(2, { ring := 0x1000 })]⟩ };
    let x : TunId := .t0;
    let u := s.tun x;
    let open_ := u.svc.hold = .none_ ∧ u.svc.state = .full;
    let v : Word := 0xC0160500;
    let q := u.bm.queueSel.toNat;
    let n : Queue := { u.queue q with valid := true, endpointSubmit := v.getLsbD 30, cring := v.extractLsb' 20 10, log2 := v.extractLsb' 16 4, ctx := v.extractLsb' 8 8 };
    (open_) ∧
    (q ≠ 0) ∧
    (u.bm.cmds = []) ∧
    ((u.queue q).valid = false) ∧
    (v.getLsbD 31 = true) ∧
    (u.queueOk q n = true)) ∧
  (let s : State := bmS { bm1 with cringSel := 1023 };
    let x : TunId := .t0;
    let u := s.tun x;
    let open_ := u.svc.hold = .none_ ∧ u.svc.state = .full;
    let v : Word := 0x860003FF;
    let r := u.bm.cringSel.toNat;
    let n : Ring := { u.ring r with valid := true, endpoint := v.getLsbD 30, split := v.getLsbD 29, intEn := v.getLsbD 28, log2 := v.extractLsb' 24 4, ctx := v.extractLsb' 16 8, vector := v.extractLsb' 0 11 };
    (open_) ∧
    ((u.ring r).valid = false) ∧
    (v.getLsbD 31 = true) ∧
    (u.ringOk n = true)) ∧
  (let s : State := cmdS (cmdOf 0 []) {};
    let x : TunId := .t0;
    let u := s.tun x;
    let c : Cmd := cmdOf 0 [];
    (u.serving = true) ∧
    (u.cmd c.id = some c) ∧
    (c.phase = .started) ∧
    (c.op = 0x00)) ∧
  (let s : State := cmdS (cmdOf 1 (descOf 1 [] ([0, 0, 0, 0, 0, 0, 0, 0, 0, 0, 0, 0, 0, 0, 0, 0] ++ [8]))) {};
    let x : TunId := .t0;
    let u := s.tun x;
    let c : Cmd := cmdOf 1 (descOf 1 [] ([0, 0, 0, 0, 0, 0, 0, 0, 0, 0, 0, 0, 0, 0, 0, 0] ++ [8]));
    (u.serving = true) ∧
    (u.cmd c.id = some c) ∧
    (c.phase = .started) ∧
    (c.op = 0x01)) ∧
  (let s : State := cmdS { cmdOf 2 (descOf 2 [] []) with planned := true } {};
    let x : TunId := .t0;
    let u := s.tun x;
    let c : Cmd := ({ cmdOf 2 (descOf 2 [] []) with planned := true } : Cmd);
    (u.serving = true) ∧
    (u.cmd c.id = some c) ∧
    (c.phase = .started) ∧
    (c.op = 0x02) ∧
    (c.fetched = true) ∧
    (anyPoison c.fetchedP = false)) ∧
  (let s : State := cmdS (cmdOf 4 []) {};
    let x : TunId := .t0;
    let u := s.tun x;
    let c : Cmd := cmdOf 4 [];
    (u.serving = true) ∧
    (u.cmd c.id = some c) ∧
    (c.phase = .started) ∧
    (c.op = 0x04)) ∧
  (let s : State := at0 { col := .t0, svc := { state := .fenced } };
    let x : TunId := .t0;
    let u := s.tun x;
    (u.serving = false)) ∧
  (let s : State := at0 { col := .t0, svc := { state := .fenced } };
    let x : TunId := .t0;
    let u := s.tun x;
    let k := (Instr.nop .t0 3);
    (u.serving = false) ∧
    (engineWork x k = true)) :=
  by delta Alone; delta Reaches; and_intros <;> first
    | decide +kernel
    | exact ok_of (by decide +kernel)


theorem witness_ContextCommandsComplete :
  (let s : State := cmdS (cmdOf 0x10 (descOf 0x10 [] [5, 3, 7, 0, 1, 1, 1])) {};
    let x : TunId := .t0;
    let c : Cmd := cmdOf 0x10 (descOf 0x10 [] [5, 3, 7, 0, 1, 1, 1]);
    let u := s.tun x;
    let n := (byteAt c.desc 16).toNat;
    (Alone u c) ∧
    (c.queue = 0) ∧
    (c.phase = .started) ∧
    (u.serving = true) ∧
    (c.op = 0x10) ∧
    ((u.ctx n).state = .undefined)) ∧
  (let s : State := cmdS (cmdOf 0x11 (descOf 0x11 [] [5])) { ctxs := ⟨[(5, { state := .defined, gen := 3 })]⟩ };
    let x : TunId := .t0;
    let c : Cmd := cmdOf 0x11 (descOf 0x11 [] [5]);
    let u := s.tun x;
    let n := (byteAt c.desc 16).toNat;
    (Alone u c) ∧
    (c.queue = 0) ∧
    (c.phase = .started) ∧
    (u.serving = true) ∧
    (c.op = 0x11) ∧
    ((u.ctx n).state = .defined) ∧
    (u.ctxNamed n = false) ∧
    (u.bm.ctxs.wf {} = true)) ∧
  (let s : State := cmdS (cmdOf 0x12 (descOf 0x12 [] [5, 0, 2, 0, 0, 0, 0, 0, 0, 0x40])) { ctxs := ⟨[(5, { state := .defined, share := 1 })]⟩ };
    let x : TunId := .t0;
    let c : Cmd := cmdOf 0x12 (descOf 0x12 [] [5, 0, 2, 0, 0, 0, 0, 0, 0, 0x40]);
    let u := s.tun x;
    let n := (byteAt c.desc 16).toNat;
    let k := leAt c.desc 18 2;
    (Alone u c) ∧
    (c.queue = 0) ∧
    (c.phase = .started) ∧
    (u.serving = true) ∧
    (c.op = 0x12) ∧
    ((u.ctx n).state = .defined) ∧
    (c.id ∉ u.bm.resideWait) ∧
    (u.bm.streaming = none) ∧
    (c.planned = false) ∧
    (k ≠ 0) ∧
    (u.hostReach 0 = true) ∧
    (u.host.linkUp = true)) ∧
  (let s : State := cmdS { cmdOf 0x12 (descOf 0x12 [] [5, 0, 1]) with planned := true, plan := [{ len := 16 }], fetches := [{ entry := 1, host := true, dst := 0, data := some ([0, 0, 1, 0, 0, 0, 0, 0, 0, 0, 0, 0, 0x40, 0, 0, 0]) }] } { ctxs := ⟨[(5, { state := .defined, share := 1 })]⟩ };
    let x : TunId := .t0;
    let c : Cmd := ({ cmdOf 0x12 (descOf 0x12 [] [5, 0, 1]) with planned := true, plan := [{ len := 16 }], fetches := [{ entry := 1, host := true, dst := 0, data := some ([0, 0, 1, 0, 0, 0, 0, 0, 0, 0, 0, 0, 0x40, 0, 0, 0]) }] } : Cmd);
    let u := s.tun x;
    let n := (byteAt c.desc 16).toNat;
    let k := leAt c.desc 18 2;
    (Alone u c) ∧
    (c.queue = 0) ∧
    (c.phase = .started) ∧
    (u.serving = true) ∧
    (c.op = 0x12) ∧
    ((u.ctx n).state = .defined) ∧
    (c.id ∉ u.bm.resideWait) ∧
    (u.bm.streaming = none) ∧
    (c.fetched = true) ∧
    ((preloads k (pbytes c.fetchedP)).all (preloadOk (u.ctx n)) = true)) ∧
  (let s : State := cmdS (cmdOf 0x12 (descOf 0x12 [] [5])) { ctxs := ⟨[(5, { state := .defined, share := 1 })]⟩, resideWait := [3] };
    let x : TunId := .t0;
    let c : Cmd := cmdOf 0x12 (descOf 0x12 [] [5]);
    let u := s.tun x;
    let n := (byteAt c.desc 16).toNat;
    let k := leAt c.desc 18 2;
    (Alone u c) ∧
    (c.queue = 0) ∧
    (c.phase = .started) ∧
    (c.op = 0x12) ∧
    (u.svc.state = .full) ∧
    (u.bm.resideWait = [c.id]) ∧
    (u.bm.streaming = none) ∧
    ((u.ctx n).state = .defined) ∧
    (k = 0) ∧
    (u.victimsFor (u.ctx n).priority.toNat (u.ctx n).share.toNat = some [])) ∧
  (let s : State := cmdS { cmdOf 0x12 (descOf 0x12 [] [5]) with planned := true } { ctxs := ⟨[(5, { ctx5 with state := .streaming })]⟩, streaming := some (3, 5) };
    let x : TunId := .t0;
    let c : Cmd := ({ cmdOf 0x12 (descOf 0x12 [] [5]) with planned := true } : Cmd);
    let u := s.tun x;
    let n := (byteAt c.desc 16).toNat;
    let k := leAt c.desc 18 2;
    (Alone u c) ∧
    (c.queue = 0) ∧
    (c.phase = .started) ∧
    (u.bm.streaming = some (c.id, n)) ∧
    (c.fetched = true) ∧
    (k = 0)) ∧
  (let s : State := cmdS (cmdOf 0x12 (descOf 0x12 [] [5])) { ctxs := ⟨[(5, { ctx5 with state := .streaming })]⟩, streaming := some (3, 5) };
    let x : TunId := .t0;
    let c : Cmd := cmdOf 0x12 (descOf 0x12 [] [5]);
    let u := s.tun x;
    let n := (byteAt c.desc 16).toNat;
    (Alone u c) ∧
    (c.queue = 0) ∧
    (c.phase = .started) ∧
    (u.bm.streaming = some (c.id, n)) ∧
    (c.op < 0x43)) ∧
  (let s : State := cmdS (cmdOf 0x13 (descOf 0x13 [] [5])) bm1;
    let x : TunId := .t0;
    let c : Cmd := cmdOf 0x13 (descOf 0x13 [] [5]);
    let u := s.tun x;
    let n := (byteAt c.desc 16).toNat;
    (Alone u c) ∧
    (c.queue = 0) ∧
    (c.phase = .started) ∧
    (u.serving = true) ∧
    (c.op = 0x13) ∧
    (u.ctxLive n = true) ∧
    ((u.ctx n).pin = false)) ∧
  (let s : State := cmdS (cmdOf 0x14 (descOf 0x14 [] [5, 7])) bm1;
    let x : TunId := .t0;
    let c : Cmd := cmdOf 0x14 (descOf 0x14 [] [5, 7]);
    let u := s.tun x;
    let n := (byteAt c.desc 16).toNat;
    (Alone u c) ∧
    (c.queue = 0) ∧
    (c.phase = .started) ∧
    (u.serving = true) ∧
    (c.op = 0x14) ∧
    ((u.ctx n).state ≠ .undefined) ∧
    (byteAt c.desc 18 = 0)) ∧
  (let s : State := cmdS (cmdOf 0x15 (descOf 0x15 [] [5, 1])) { ctxs := ⟨[(5, { ctx5 with state := .faulted })]⟩ };
    let x : TunId := .t0;
    let c : Cmd := cmdOf 0x15 (descOf 0x15 [] [5, 1]);
    let u := s.tun x;
    let n := (byteAt c.desc 16).toNat;
    (Alone u c) ∧
    (c.queue = 0) ∧
    (c.phase = .started) ∧
    (u.serving = true) ∧
    (c.op = 0x15) ∧
    ((u.ctx n).state = .faulted) ∧
    (byteAt c.desc 17 = 1)) ∧
  (let s : State := cmdS (cmdOf 0x16 (descOf 0x16 [] [0xFF, 0xF, 1])) { ctxs := ⟨[(0, { state := .defined })]⟩ };
    let x : TunId := .t0;
    let c : Cmd := cmdOf 0x16 (descOf 0x16 [] [0xFF, 0xF, 1]);
    let u := s.tun x;
    (Alone u c) ∧
    (c.queue = 0) ∧
    (c.phase = .started) ∧
    (u.serving = true) ∧
    (c.op = 0x16) ∧
    (byteAt c.desc 18 = 1) ∧
    ((u.sem (leAt c.desc 16 2)).holder = none)) ∧
  (let s : State := at0 { tunS { ctxs := ⟨[(5, { ctx5 with priority := 3 }), (6, { state := .defined })]⟩, sems := ⟨[(4, { mode := 1, holder := some 6 })]⟩, cmds := [{ id := 3, queue := 1, ctx := 5, op := 0, desc := descOf 0 [0, 1, 0, 0, 4] [], index := 0, phase := .waitSem }] } with svc := { state := .draining } };
    let x : TunId := .t0;
    let c : Cmd := ({ id := 3, queue := 1, ctx := 5, op := 0, desc := descOf 0 [0, 1, 0, 0, 4] [], index := 0, phase := .waitSem } : Cmd);
    let u := s.tun x;
    let m : BitVec 12 := 4;
    (u.leaseActive m.toNat = true) ∧
    (u.svc.state = .draining) ∧
    ((u.sem m.toNat).mode = 1) ∧
    (u.semWaiters m.toNat = [c]) ∧
    (u.cmd c.id = some c) ∧
    ((∀ h, (u.sem m.toNat).holder = some h → (u.ctx h).state ≠ .resident))) :=
  by delta Alone; decide +kernel


namespace B3

def pt : Port := { link := .linked, state := .active, widthNow := 4 }
def planeT : Tun := { tunS bm1 with ports := ⟨[(3, pt), (7, pt), (256, pt)]⟩, plane := { pkeys := ⟨[(0, 0x0000003F80000007)]⟩, pkeyMap := ⟨[(24, 1), (56, 1)]⟩, routes := ⟨[(7, 0x80000000)]⟩ } }
def inPkt0 : Packet := { pktOf 0x01 0x40 [1, 2, 3, 4] with dst := 7, cls := 1, seq := 0 }
def inPkt : Packet := inPkt0.sealed
def outPkt0 : Packet := { inPkt0 with dst := 7 }
def outPkt : Packet := ({ outPkt0 with gild := true } : Packet).sealed
def seqPkt : Packet := { pktOf 0x01 0x40 [1, 2, 3, 4] with seq := 1 }
def streamKeyOf (p : Packet) : Nat := p.srcEp.toNat * 16 + p.channel.toNat
def cirPkt : Packet := ({ inPkt0 with circuit := true, slot := 70 } : Packet).sealed
def cirOk : Packet := match planeT.checkIngress 0 3 cirPkt with | .ok q => q | .lost _ q => q

theorem witness_PacketPlaneCommandsComplete :
  (let s : State := at0 { fullTun with ports := ⟨[(3, { link := .linked, state := .active, peerIncarn := some 5, expected := 0xFFF })]⟩ };
    let x : TunId := .t0;
    let u := s.tun x;
    let id : BitVec 9 := 3;
    let bytes := Flit.bytes { incarn := 5, fseq := 0xFFF, ftype := 2, payload := List.replicate 244 1 } false;
    let f : Flit := ({ incarn := 5, fseq := 0xFFF, ftype := 2, payload := List.replicate 244 1 } : Flit);
    let p := u.port id.toNat;
    (u.hasPort id.toNat = true) ∧
    (u.svc.hold = .none_) ∧
    (u.svc.state = .full) ∧
    (p.link = .linked) ∧
    (p.state = .active) ∧
    (p.genNow = false) ∧
    (p.peerIncarn = some f.incarn) ∧
    (Flit.ofBytes bytes = some f) ∧
    (f.ftype = 0x2) ∧
    (f.fseq = p.expected) ∧
    (f.nak = false) ∧
    (f.ackValid = false) ∧
    (u.holdRoom id.toNat (Packet.ofFlits [f.payload]).circuit = true)) ∧
  (let s : State := at0 { fullTun with ports := ⟨[(3, { link := .linked, state := .active })]⟩ };
    let x : TunId := .t0;
    let u := s.tun x;
    let id : BitVec 9 := 3;
    (u.hasPort id.toNat = true) ∧
    (u.svc.hold = .none_) ∧
    (u.svc.state = .full) ∧
    ((u.port id.toNat).link = .linked) ∧
    ((u.port id.toNat).state = .active) ∧
    ((u.port id.toNat).nakOut = false)) ∧
  (let s : State := at0 planeT;
    let x : TunId := .t0;
    let u := s.tun x;
    let id : BitVec 9 := 3;
    let p : Packet := inPkt;
    let q : Packet := (match (planeT.checkIngress 0 3 inPkt) with | .ok q => q | .lost _ q => q);
    (u.portUp id.toNat = true) ∧
    (isFabricId id.toNat = false) ∧
    (p.circuit = false) ∧
    (u.injRoom id.toNat = true) ∧
    (u.checkIngress s.now id.toNat p = .ok q) ∧
    (q.axis = 0)) ∧
  (let s : State := at0 planeT;
    let x : TunId := .t0;
    let u := s.tun x;
    let id : BitVec 9 := 3;
    let p : Packet := { inPkt with hcrc := 1 };
    let q : Packet := { inPkt with hcrc := 1 };
    let code := 3;
    (u.portUp id.toNat = true) ∧
    (isFabricId id.toNat = false) ∧
    (p.circuit = false) ∧
    (u.injRoom id.toNat = true) ∧
    (u.checkIngress s.now id.toNat p = .lost code q) ∧
    (q.type = 0x01)) ∧
  (let s : State := at0 { fullTun with plane := { inj := ⟨[(3, [{ pkt := inPkt, input := 3, since := 0, copies := some [1, 2] }])]⟩ } };
    let x : TunId := .t0;
    let u := s.tun x;
    let id : BitVec 9 := 3;
    let w : Waiting := ({ pkt := inPkt, input := 3, since := 0, copies := some [1, 2] } : Waiting);
    let m := 1;
    let m' := 2;
    let ms := ([] : List Nat);
    (Tab.get [] u.plane.inj id.toNat = [w]) ∧
    (w.copies = some (m :: m' :: ms)) ∧
    (u.plane.engine.length < 32)) ∧
  (let s : State := at0 { planeT with plane := { planeT.plane with inj := ⟨[(3, [{ pkt := outPkt, input := 3, since := 0 }])]⟩ } };
    let x : TunId := .t0;
    let u := s.tun x;
    let o : Nat := 7;
    let i : Nat := 3;
    let w : Waiting := ({ pkt := outPkt, input := 3, since := 0 } : Waiting);
    (u.receives = true) ∧
    (o < 192) ∧
    (u.bidders = [(.inj i, w)]) ∧
    (w.pkt.gild = true) ∧
    (u.targets w.pkt.dst.toNat = [o]) ∧
    (u.portUp o = true) ∧
    ((u.port o).link = .linked) ∧
    ((u.port o).txq = []) ∧
    ((u.port o).replayFull = false) ∧
    ((u.port o).genNow = false) ∧
    (u.circuitHolds s.now (u.wireUnits o w.pkt) o = false) ∧
    (u.pkeyEgress o w.pkt = true) ∧
    (w.pkt.payload.length ≤ 212)) ∧
  (let s : State := at0 { planeT with plane := { planeT.plane with streams := ⟨[(streamKeyOf seqPkt, { valid := true, expected := 0xFFFF })]⟩ } };
    let x : TunId := .t0;
    let u := s.tun x;
    let p : Packet := seqPkt;
    (u.receives = true) ∧
    (u.addressed p = true) ∧
    (u.engineTakes p = true) ∧
    (u.ctxOk p = true) ∧
    ((u.stream p).valid = true) ∧
    ((u.stream p).incarn = p.incarn) ∧
    (sequenced p = true) ∧
    (p.seq ≠ (u.stream p).expected) ∧
    ((p.seq - (u.stream p).expected).toNat < 32768) ∧
    ((u.stream p).held.any (fun h => h.1 == p.seq) = false)) ∧
  (let s : State := at0 { fullTun with plane := { streams := ⟨[(50, { valid := true, expected := 2, held := [(4, 0, 3, { type := 0x11 })] })]⟩ } };
    let x : TunId := .t0;
    let u := s.tun x;
    let src : BitVec 10 := 3;
    let ch : BitVec 4 := 2;
    let q := 4;
    let at_ := 0;
    let port := 3;
    let p : Packet := ({ type := 0x11 } : Packet);
    let k := src.toNat * 16 + ch.toNat;
    let z : Stream := Tab.get {} u.plane.streams k;
    (z.valid = true) ∧
    (z.held = [(q, at_, port, p)]) ∧
    (p.type = 0x11)) ∧
  (let s : State := at0 { fullTun with plane := { inj := ⟨[(3, [{ pkt := outPkt0, input := 3, since := 0 }])]⟩ } };
    let x : TunId := .t0;
    let u := s.tun x;
    let i : Nat := 3;
    let w : Waiting := ({ pkt := outPkt0, input := 3, since := 0 } : Waiting);
    (Tab.get [] u.plane.inj i = [w]) ∧
    (w.pkt.gild = false)) ∧
  (let s : State := at0 { fullTun with plane := { landing := ⟨[(258, [{ pkt := outPkt0, input := 257, since := 0 }])]⟩ } };
    let x : TunId := .t0;
    let u := s.tun x;
    let l : BitVec 9 := 258;
    let w : Waiting := ({ pkt := outPkt0, input := 257, since := 0 } : Waiting);
    (isMeshId l.toNat = true) ∧
    (Tab.get [] u.plane.landing l.toNat = [w])) ∧
  (let s : State := at0 planeT;
    let x : TunId := .t0;
    let u := s.tun x;
    let id : BitVec 9 := 3;
    let p : Packet := cirPkt;
    let q : Packet := cirOk;
    let first := 0;
    let last := 0;
    let cause := (match planeT.circuitMatch 3 (cirOk) 0 0 with | .error c => c | .ok _ => 0);
    (u.portUp id.toNat = true) ∧
    (isFabricId id.toNat = false) ∧
    (p.circuit = true) ∧
    (u.forfeitRoom id.toNat = true) ∧
    (u.checkIngress s.now id.toNat p = .ok q) ∧
    (u.circuitMatch id.toNat q first last = .error cause)) ∧
  (let s : State := at0 planeT;
    let x : TunId := .t0;
    let u := s.tun x;
    let id : BitVec 9 := 3;
    let scope : Byte := 6;
    let n := 3;
    (u.svc.state = .full) ∧
    (u.svc.hold = .none_) ∧
    (u.hasPort id.toNat = true) ∧
    (u.subjectOf id.toNat = some n) ∧
    (2 ≤ scope.toNat) ∧
    (scope.toNat ≤ 6) ∧
    (u.departedLately s.now n = false) ∧
    (u.bm.cmds = []) ∧
    (u.bm.outstanding = [])) ∧
  (let s : State := at0 planeT;
    let x : TunId := .t0;
    let u := s.tun x;
    let p : Packet := { pktOf 0x21 0 [193, 0, 2] with srcEp := 193 };
    (Reaches u 0x21 p) ∧
    (192 ≤ p.srcEp.toNat) ∧
    (p.srcEp.toNat < 224) ∧
    (p.srcEp.toNat ≠ u.number) ∧
    (p.poison = false) ∧
    (2 ≤ (byteAt p.payload 2).toNat) ∧
    ((byteAt p.payload 2).toNat ≤ 6) ∧
    (u.departedLately s.now (leAt p.payload 0 2) = false) ∧
    (u.bm.cmds = []) ∧
    (u.bm.outstanding = [])) :=
  by delta Reaches; and_intros <;> first
    | decide +kernel
    | exact error_of (by decide +kernel)


end B3

theorem witness_TunConsumersComplete :
  (let s : State := bmS bm1;
    let x : TunId := .t0;
    let u := s.tun x;
    let p : Packet := { pktOf 0x20 0 [] with channel := 15, pkey := 0xFFFF, addr := 0x0001000000051004 };
    let off := (p.addr.extractLsb' 0 48).toNat;
    (Reaches u 0x20 p) ∧
    (p.poison = false) ∧
    ((mgmtOp p).toNat = 1) ∧
    (p.len = 0) ∧
    (off < 0x1000000) ∧
    (off ≠ 0x0D0014)) ∧
  (let s : State := bmS bm1;
    let x : TunId := .t0;
    let u := s.tun x;
    let p : Packet := { pktOf 0x02 0x40 [] with len := 4 };
    (Reaches u 0x02 p) ∧
    (p.addr.getLsbD 63 = false) ∧
    (u.shareStatus p.ctx.toNat p.addr.toNat p.len.toNat = 0)) ∧
  (let s : State := bmS bm1;
    let x : TunId := .t0;
    let u := s.tun x;
    let p : Packet := pktOf 0x04 0x1FFFF8 ([1, 8, 0, 0, 0, 0, 0, 0] ++ List.replicate 16 0xFF);
    (Reaches u 0x04 p) ∧
    (p.poison = false) ∧
    (byteAt p.payload 0 = 1) ∧
    (byteAt p.payload 1 = 8) ∧
    (p.addr.toNat % 8 = 0) ∧
    (u.shareStatus p.ctx.toNat p.addr.toNat 8 = 0) ∧
    (u.sharePoison p.ctx.toNat p.addr.toNat 8 = false) ∧
    (u.bm.wort.wf 0 = true)) ∧
  (let s : State := bmS bm1;
    let x : TunId := .t0;
    let u := s.tun x;
    let p : Packet := pktOf 0x01 0x1FFFFE [1, 2];
    (Reaches u 0x01 p) ∧
    (u.shareStatus p.ctx.toNat p.addr.toNat p.payload.length = 0) ∧
    (u.bm.wort.wf 0 = true) ∧
    (p.addr.toNat % blockSize + p.payload.length ≤ blockSize)) ∧
  (let s : State := bmS { bm1 with cmds := [{ cmdOf 2 [] with planned := true, plan := [{ len := 4 }], fetches := [⟨1, false, 3, none, false, 0⟩] }], outstanding := [⟨1, 5, 0, some 3, 200, false⟩] };
    let x : TunId := .t0;
    let u := s.tun x;
    let p : Packet := { pktOf 0x03 0 [1, 2, 3, 4] with tag := 0x0001 };
    let c : Cmd := ({ cmdOf 2 [] with planned := true, plan := [{ len := 4 }], fetches := [⟨1, false, 3, none, false, 0⟩] } : Cmd);
    let o : OutReq := (⟨1, 5, 0, some 3, 200, false⟩ : OutReq);
    let f : Fetch := (⟨1, false, 3, none, false, 0⟩ : Fetch);
    let l : Piece := ({ len := 4 } : Piece);
    (Reaches u 0x03 p) ∧
    (u.bm.cmds = [c]) ∧
    (u.bm.outstanding = [o]) ∧
    (o.entry = (p.tag.extractLsb' 0 12).toNat) ∧
    (o.ctx = p.ctx.toNat) ∧
    (o.gen = p.tag.extractLsb' 12 4) ∧
    (o.cmd = some c.id) ∧
    (p.addr.setWidth 16 = (0 : Half)) ∧
    (c.plan = [l]) ∧
    (c.fetches = [f]) ∧
    (f.entry = o.entry) ∧
    (f.host = false) ∧
    (f.data = none) ∧
    (l.len = p.payload.length)) ∧
  (let s : State := at0 (collT [] grp);
    let x : TunId := .t0;
    let u := s.tun x;
    let p : Packet := pktOf 0x10 0x0010200000000000 [1, 2, 3, 4];
    let g : Group := grp;
    let a := p.addr;
    let gn := (a.extractLsb' 52 12).toNat;
    let inst := (a.extractLsb' 32 10).toNat;
    let m := g.members.findIdx fun y => y.id == p.srcEp.toNat;
    (Reaches u 0x10 p) ∧
    (u.group gn = some g) ∧
    ((u.ctx g.ctx).state = .resident) ∧
    (p.ctx.toNat = g.ctx) ∧
    (m < g.members.length) ∧
    (a.extractLsb' 44 8 = g.gen) ∧
    (g.owns inst = true) ∧
    (a.extractLsb' 42 2 = 0) ∧
    (u.bm.cmds = []) ∧
    ((g.place inst).cmd = none) ∧
    ((g.advance g.done.length).oldest = inst)) ∧
  (let s : State := at0 (collT [] grp);
    let x : TunId := .t0;
    let u := s.tun x;
    let p : Packet := pktOf 0x10 0x0010240000000000 [1, 0, 0, 0, 0, 0, 0, 0];
    let g : Group := grp;
    let a := p.addr;
    let gn := (a.extractLsb' 52 12).toNat;
    let inst := (a.extractLsb' 32 10).toNat;
    let m := g.members.findIdx fun y => y.id == p.srcEp.toNat;
    (Reaches u 0x10 p) ∧
    (u.group gn = some g) ∧
    ((u.ctx g.ctx).state = .resident) ∧
    (p.ctx.toNat = g.ctx) ∧
    (m < g.members.length) ∧
    (a.extractLsb' 44 8 = g.gen) ∧
    (g.owns inst = true) ∧
    (a.extractLsb' 42 2 = 1) ∧
    (p.len = 8) ∧
    (p.poison = false) ∧
    ((g.place inst).ready = [])) ∧
  (let s : State := at0 (collT [collCmd 0x48 0x43] grp);
    let x : TunId := .t0;
    let u := s.tun x;
    let p : Packet := pktOf 0x10 0x0010200000000000 (List.replicate 64 1);
    let g : Group := grp;
    let a := p.addr;
    let gn := (a.extractLsb' 52 12).toNat;
    let inst := (a.extractLsb' 32 10).toNat;
    let m := g.members.findIdx fun y => y.id == p.srcEp.toNat;
    let c : Cmd := collCmd 0x48 0x43;
    let f := collOf c.desc;
    let r := f.tileElems 0x43 2 m (a.extractLsb' 0 32).toNat p.payload.length;
    let own := u.ownElems g f 0x43;
    (Reaches u 0x10 p) ∧
    (u.group gn = some g) ∧
    ((u.ctx g.ctx).state = .resident) ∧
    (p.ctx.toNat = g.ctx) ∧
    (m < g.members.length) ∧
    (a.extractLsb' 44 8 = g.gen) ∧
    (g.owns inst = true) ∧
    (a.extractLsb' 42 2 = 0) ∧
    (u.bm.cmds = [c]) ∧
    (c.phase = .started) ∧
    (c.op = 0x48) ∧
    (c.groupNo = gn) ∧
    (c.instanceNo = inst) ∧
    ((collOf c.desc).pushOp = 0x43) ∧
    (g.members.length = 2) ∧
    (c.produced = []) ∧
    (u.mash.tiles = []) ∧
    (r.1 < r.2) ∧
    (own.1 ≤ r.1) ∧
    (r.2 ≤ own.2)) ∧
  (let s : State := at0 fullTun;
    let x : TunId := .t0;
    let u := s.tun x;
    (u.reachable = true) ∧
    (u.proxy.busy = false) ∧
    (s.malt.alive = false)) ∧
  (let s : State := (mtS {}).setTun .t0 fullTun;
    let x : TunId := .t0;
    let u := s.tun x;
    (u.reachable = true) ∧
    (u.proxy.busy = false) ∧
    (s.malt.alive = true) ∧
    ((s.raw (.proxy x)).busy = false) ∧
    (parseReq u.proxyFrame = none)) ∧
  (let s : State := ({ malt := { alive := true, raws := ⟨[(2, { accepted := true, reply := some ⟨1, 2, 0, []⟩ })]⟩ } } : State).setTun .t0 { fullTun with proxy := { busy := true } };
    let x : TunId := .t0;
    let u := s.tun x;
    let r := (⟨1, 2, 0, []⟩ : Reply);
    (u.proxy.busy = true) ∧
    (s.malt.alive = true) ∧
    ((s.raw (.proxy x)).reply = some r)) ∧
  (let s : State := at0 { fullTun with proxy := { busy := true } };
    let x : TunId := .t0;
    let u := s.tun x;
    (u.proxy.busy = true)) :=
  by delta Reaches; decide +kernel


theorem witness_CollectiveCommandsComplete :
  (let s : State := at0 (collT [{ cmdOf 0x40 (descOf 0x40 [] [2, 0, 7, 0, 1, 0, 0, 0, 1, 0]) with queue := 1, ctx := 5 }] grp);
    let x : TunId := .t0;
    let c : Cmd := ({ cmdOf 0x40 (descOf 0x40 [] [2, 0, 7, 0, 1, 0, 0, 0, 1, 0]) with queue := 1, ctx := 5 } : Cmd);
    let u := s.tun x;
    let d := c.desc;
    let n := c.groupNo;
    let ms := [(⟨false, 3⟩ : Member)];
    (Alone u c) ∧
    (u.serving = true) ∧
    (c.phase = .started) ∧
    (c.op = 0x40) ∧
    (u.groupList c (leAt d 56 4) (leAt d 60 4) = .ok ms) ∧
    (u.group n = none) ∧
    (u.mash.groups.length < 256)) ∧
  (let s : State := at0 (collT [{ cmdOf 0x41 (descOf 0x41 [] [1, 0, 7, 0, 1, 0, 0, 0, 1, 0]) with queue := 1, ctx := 5 }] grp);
    let x : TunId := .t0;
    let c : Cmd := ({ cmdOf 0x41 (descOf 0x41 [] [1, 0, 7, 0, 1, 0, 0, 0, 1, 0]) with queue := 1, ctx := 5 } : Cmd);
    let u := s.tun x;
    let d := c.desc;
    let g := grp;
    let ms := [(⟨false, 3⟩ : Member)];
    (Alone u c) ∧
    (u.serving = true) ∧
    (c.phase = .started) ∧
    (c.op = 0x41) ∧
    (u.ownGroup c = some g) ∧
    (byteAt d 18 ≠ g.gen) ∧
    (u.groupList c g.landOff g.landBytes = .ok ms)) ∧
  (let s : State := at0 (collT [{ cmdOf 0x42 (descOf 0x42 [] [1, 0, 2]) with queue := 1, ctx := 5 }] grp);
    let x : TunId := .t0;
    let c : Cmd := ({ cmdOf 0x42 (descOf 0x42 [] [1, 0, 2]) with queue := 1, ctx := 5 } : Cmd);
    let u := s.tun x;
    let g := grp;
    (Alone u c) ∧
    (u.serving = true) ∧
    (c.phase = .started) ∧
    (c.op = 0x42) ∧
    (u.ownGroup c = some g)) ∧
  (let s : State := at0 (collT [collCmd 0x43 0] grp);
    let x : TunId := .t0;
    let c : Cmd := collCmd 0x43 0;
    let u := s.tun x;
    let d := c.desc;
    let n := c.groupNo;
    let f := collOf d;
    let g := grp;
    (u.serving = true) ∧
    (u.cmd c.id = some c) ∧
    (c.phase = .started) ∧
    (u.group n = some g) ∧
    (u.holdsInstance c = false) ∧
    (0 < u.chunksOwned g f c.op) ∧
    (c.op = 0x43)) ∧
  (let s : State := at0 (collT [collCmd 0x44 0] grp);
    let x : TunId := .t0;
    let c : Cmd := collCmd 0x44 0;
    let u := s.tun x;
    let d := c.desc;
    let n := c.groupNo;
    let f := collOf d;
    let g := grp;
    (u.serving = true) ∧
    (u.cmd c.id = some c) ∧
    (c.phase = .started) ∧
    (u.group n = some g) ∧
    (u.holdsInstance c = false) ∧
    (0 < u.chunksOwned g f c.op) ∧
    (c.op = 0x44)) ∧
  (let s : State := at0 (collT [collCmd 0x45 0] grp);
    let x : TunId := .t0;
    let c : Cmd := collCmd 0x45 0;
    let u := s.tun x;
    let d := c.desc;
    let n := c.groupNo;
    let f := collOf d;
    let g := grp;
    (u.serving = true) ∧
    (u.cmd c.id = some c) ∧
    (c.phase = .started) ∧
    (u.group n = some g) ∧
    (u.holdsInstance c = false) ∧
    (0 < u.chunksOwned g f c.op) ∧
    (c.op = 0x45)) ∧
  (let s : State := at0 (collT [collCmd 0x46 0] grp);
    let x : TunId := .t0;
    let c : Cmd := collCmd 0x46 0;
    let u := s.tun x;
    let d := c.desc;
    let n := c.groupNo;
    let f := collOf d;
    let g := grp;
    (u.serving = true) ∧
    (u.cmd c.id = some c) ∧
    (c.phase = .started) ∧
    (u.group n = some g) ∧
    (u.holdsInstance c = false) ∧
    (0 < u.chunksOwned g f c.op) ∧
    (c.op = 0x46)) ∧
  (let s : State := at0 (collT [collCmd 0x47 0] grp);
    let x : TunId := .t0;
    let c : Cmd := collCmd 0x47 0;
    let u := s.tun x;
    let d := c.desc;
    let n := c.groupNo;
    let f := collOf d;
    let g := grp;
    (u.serving = true) ∧
    (u.cmd c.id = some c) ∧
    (c.phase = .started) ∧
    (u.group n = some g) ∧
    (u.holdsInstance c = false) ∧
    (0 < u.chunksOwned g f c.op) ∧
    (c.op = 0x47)) ∧
  (let s : State := at0 (collT [collCmd 0x48 0x43] grp);
    let x : TunId := .t0;
    let c : Cmd := collCmd 0x48 0x43;
    let u := s.tun x;
    let n := c.groupNo;
    let g := grp;
    (u.serving = true) ∧
    (u.cmd c.id = some c) ∧
    (c.phase = .started) ∧
    (c.op = 0x48) ∧
    (u.group n = some g)) ∧
  (let s : State := at0 (collT [collCmd 0x43 0] { grp with places := [{ inst := 0, ready := [(0, 0xFFFFFFFF), (1, 0)], cmd := some 3 }] });
    let x : TunId := .t0;
    let c : Cmd := collCmd 0x43 0;
    let u := s.tun x;
    let n := c.groupNo;
    let i := c.instanceNo;
    let g := { grp with places := [{ inst := 0, ready := [(0, 0xFFFFFFFF), (1, 0)], cmd := some 3 }] };
    (u.serving = true) ∧
    (u.cmd c.id = some c) ∧
    (c.phase = .started) ∧
    (c.op = 0x43) ∧
    (u.group n = some g) ∧
    (u.holdsInstance c = true) ∧
    (c.planned = false) ∧
    (((u.chunkNeeds g c).all fun k => g.ready i c.progress k.1 k.2.1 k.2.2.1) = true)) ∧
  (let s : State := at0 (collT [{ collCmd 0x43 0 with planned := true }] { grp with places := [{ inst := 0, cmd := some 3 }] });
    let x : TunId := .t0;
    let c : Cmd := ({ collCmd 0x43 0 with planned := true } : Cmd);
    let u := s.tun x;
    let d := c.desc;
    let n := c.groupNo;
    let f := collOf d;
    let g := { grp with places := [{ inst := 0, cmd := some 3 }] };
    (u.cmd c.id = some c) ∧
    (c.phase = .started) ∧
    (c.op = 0x43) ∧
    (u.group n = some g) ∧
    (u.holdsInstance c = true) ∧
    (c.fetched = true) ∧
    (u.serving = true) ∧
    (c.progress + 1 < u.chunksOwned g f c.op)) ∧
  (let s : State := at0 (collT [collCmd 0x48 0x43] grp);
    let x : TunId := .t0;
    let c : Cmd := collCmd 0x48 0x43;
    let u := s.tun x;
    let d := c.desc;
    let f := collOf d;
    (Alone u c) ∧
    (u.serving = true) ∧
    (c.phase = .started) ∧
    (c.op = 0x48) ∧
    (c.abort = none) ∧
    (f.notify = 0) ∧
    (u.sched.outputs = [])) ∧
  (let s : State := at0 (collT [{ cmdOf 0x49 (descOf 0x49 [] [4, 1, 0, 0, 4, 1, 1, 0]) with queue := 1, ctx := 5 }] grp);
    let x : TunId := .t0;
    let c : Cmd := ({ cmdOf 0x49 (descOf 0x49 [] [4, 1, 0, 0, 4, 1, 1, 0]) with queue := 1, ctx := 5 } : Cmd);
    let u := s.tun x;
    let d := c.desc;
    let ms := [(⟨false, 3⟩ : Member)];
    (Alone u c) ∧
    (u.serving = true) ∧
    (c.phase = .started) ∧
    (c.op = 0x49) ∧
    (byteAt d 21 = 1) ∧
    (u.memberList c.ctx (leAt d 32 8) (leAt d 22 2) = .ok ms) ∧
    (ms.any (fun (m : Member) => m.tun) = false) ∧
    (u.mash.taps = [])) ∧
  (let s : State := at0 { fullTun with mash := { tapQueue := [pktOf 0x12 0x0401000000000000 [1, 2, 3, 4]], taps := [(4, { gen := 1, ctx := 5, op := 0, type := 0, size := 4, members := [3, 4], root := 0 })] } };
    let x : TunId := .t0;
    let u := s.tun x;
    let p : Packet := pktOf 0x12 0x0401000000000000 [1, 2, 3, 4];
    let k : TapSlot := ({ gen := 1, ctx := 5, op := 0, type := 0, size := 4, members := [3, 4], root := 0 } : TapSlot);
    (u.serving = true) ∧
    (u.mash.tapQueue = [p]) ∧
    (u.mash.taps = [((p.addr.extractLsb' 56 8).toNat, k)]) ∧
    (p.addr.extractLsb' 48 8 = k.gen) ∧
    (k.members.idxOf p.srcEp.toNat < k.members.length) ∧
    (p.len.toNat = k.size) ∧
    (p.ctx.toNat = k.ctx) ∧
    (p.poison = false) ∧
    (p.addr.extractLsb' 32 16 = k.step) ∧
    (k.cur.any (fun e => e.1 == k.members.idxOf p.srcEp.toNat) = false) ∧
    (k.cur.length + 1 < k.members.length)) :=
  by delta Alone; and_intros <;> first
    | decide +kernel
    | exact ok_of (by decide +kernel)


namespace B6

def sq : CSeq := { pkey := 7, id := 2, kind := 0, fmt := 2, heads := 0, dim := 5, stripe := 0, ctx := some 5, lens := [0, 0] }
def sqHeld : CSeq := { sq with lens := [1, 0], pages := [{ mirror := false, layer := 0, page := 0, stack := 0, loc := 0 }] }
def cellT (c : Cmd) (qs : List CSeq) : Tun :=
  { tunS { bm1 with cmds := [c], rings := ⟨[]⟩ } with cellar := { opened := true, seqs := qs } }
def ctxCmd (op : Nat) (d : List Byte) : Cmd := { cmdOf op d with queue := 1, ctx := 5 }
def openCmd : Cmd := ctxCmd 0x30 (descOf 0x30 [] [2, 0, 0, 0, 0, 2, 0, 5, 2, 0, 0])
def seqCmd (op : Byte) : Cmd := ctxCmd op.toNat (descOf op [] [2, 0, 0, 0])
def appendCmd : Cmd := ctxCmd 0x34 (descOf 0x34 [] [2, 0, 0, 0, 1, 0, 0, 0, 1, 0])
def batchCmd : Cmd := ctxCmd 0x36 (descOf 0x36 [] [])
def fetchCmd : Cmd := ctxCmd 0x35 (descOf 0x35 [] ([2, 0, 0, 0, 0, 0, 0, 0, 0, 0, 0, 0, 1] ++ List.replicate 19 0))
def steepCmd : Cmd := ctxCmd 0x50 (descOf 0x50 [] [])

theorem witness_CellarCommandsComplete :
  (let s : State := at0 (cellT openCmd []);
    let x : TunId := .t0;
    let u := s.tun x;
    let c : Cmd := openCmd;
    let d := c.desc;
    let k := (u.ctx c.ctx).pkey;
    (u.serving = true) ∧
    (u.cmd c.id = some c) ∧
    (c.phase = .started) ∧
    (c.op = 0x30) ∧
    (u.cseq k (leAt d 16 4) = none) ∧
    (u.seqRoles (byteAt d 26) ≤ 65536 - u.seqEntries)) ∧
  (let s : State := at0 (cellT (seqCmd 0x31) [sq]);
    let x : TunId := .t0;
    let u := s.tun x;
    let c : Cmd := seqCmd 0x31;
    let d := c.desc;
    let k := (u.ctx c.ctx).pkey;
    let q := sq;
    (u.serving = true) ∧
    (u.cmd c.id = some c) ∧
    (c.phase = .started) ∧
    (c.op = 0x31) ∧
    (u.cseq k (leAt d 16 4) = some q) ∧
    (q.lockedTo c.ctx = true)) ∧
  (let s : State := at0 (cellT appendCmd [sq]);
    let x : TunId := .t0;
    let u := s.tun x;
    let c : Cmd := appendCmd;
    let k := (u.ctx c.ctx).pkey;
    let es := (match u.entriesStart c (u.batchOf c) with | .ok e => e | .error _ => []);
    (u.serving = true) ∧
    (u.cmd c.id = some c) ∧
    (c.phase = .started) ∧
    (c.op = 0x34) ∧
    (u.entriesStart c (u.batchOf c) = .ok es) ∧
    (u.grant c.ctx k (es.filter fun e => !e.skip && e.action != 2) u.freePages [] (65536 - u.seqEntries) = [])) ∧
  (let s : State := at0 (cellT batchCmd [sq]);
    let x : TunId := .t0;
    let u := s.tun x;
    let c : Cmd := batchCmd;
    let k := (u.ctx c.ctx).pkey;
    let es := (match u.entriesStart c (u.batchOf c) with | .ok e => e | .error _ => []);
    (u.serving = true) ∧
    (u.cmd c.id = some c) ∧
    (c.phase = .started) ∧
    (c.op = 0x36) ∧
    (u.entriesStart c (u.batchOf c) = .ok es) ∧
    (u.grant c.ctx k (es.filter fun e => !e.skip && e.action != 2) u.freePages [] (65536 - u.seqEntries) = [])) ∧
  (let s : State := at0 (cellT (seqCmd 0x32) [sq]);
    let x : TunId := .t0;
    let u := s.tun x;
    let c : Cmd := seqCmd 0x32;
    let d := c.desc;
    let k := (u.ctx c.ctx).pkey;
    let q := sq;
    (u.serving = true) ∧
    (u.cmd c.id = some c) ∧
    (c.phase = .started) ∧
    (c.op = 0x32) ∧
    (u.cseq k (leAt d 16 4) = some q) ∧
    (q.lost = false) ∧
    (q.holder = none)) ∧
  (let s : State := at0 (cellT (seqCmd 0x33) [{ sq with holder := some 5 }]);
    let x : TunId := .t0;
    let u := s.tun x;
    let c : Cmd := seqCmd 0x33;
    let d := c.desc;
    let k := (u.ctx c.ctx).pkey;
    let q := { sq with holder := some 5 };
    (u.serving = true) ∧
    (u.cmd c.id = some c) ∧
    (c.phase = .started) ∧
    (c.op = 0x33) ∧
    (u.cseq k (leAt d 16 4) = some q) ∧
    (q.lost = false) ∧
    (q.holder = some c.ctx)) ∧
  (let s : State := at0 (cellT fetchCmd [sqHeld]);
    let x : TunId := .t0;
    let u := s.tun x;
    let c : Cmd := fetchCmd;
    let d := c.desc;
    let k := (u.ctx c.ctx).pkey;
    let q := sqHeld;
    let rows := u.fetchRows q (byteAt d 20 == 1) (leAt d 22 2) (leAt d 24 4) (leAt d 28 4);
    (u.serving = true) ∧
    (u.cmd c.id = some c) ∧
    (c.phase = .started) ∧
    (c.op = 0x35) ∧
    (u.cseq k (leAt d 16 4) = some q) ∧
    (q.lost = false) ∧
    (rows.any (fun r => anyPoison r.2) = false)) ∧
  (let s : State := at0 (cellT steepCmd []);
    let x : TunId := .t0;
    let u := s.tun x;
    let c : Cmd := steepCmd;
    let d := c.desc;
    (u.serving = true) ∧
    (u.cmd c.id = some c) ∧
    (c.phase = .started) ∧
    (c.op = 0x50) ∧
    (u.readsLost c = false) ∧
    ((steepOf d).merge = false)) ∧
  (let s : State := at0 { fullTun with cellar := { freeing := [([(0, 5)], [9])] } };
    let x : TunId := .t0;
    let u := s.tun x;
    (u.steepsRunning = [])) ∧
  (let s : State := at0 { fullTun with cellar := { opened := true, seqs := [{ sqHeld with pages := [{ mirror := false, layer := 0, page := 0, stack := 1, loc := 0 }] }] } };
    let x : TunId := .t0;
    let u := s.tun x;
    let n : BitVec 3 := 1;
    let cause : BitVec 4 := 2;
    (n.toNat < u.asm.casks) ∧
    (u.cellar.lostStacks.getLsbD n.toNat = false) ∧
    (1 ≤ cause.toNat) ∧
    (cause.toNat ≤ 4) ∧
    (u.svc.state = .full) ∧
    (u.svc.hold = .none_) ∧
    (u.bm.cmds = [])) ∧
  (let s : State := at0 { fullTun with clk := { coreLock := true, refPresent := true, caskLock := 0xFF } };
    let x : TunId := .t0;
    let u := s.tun x;
    let n : BitVec 3 := 0;
    (n.toNat < u.asm.casks) ∧
    (u.cellar.lostStacks.getLsbD n.toNat = false) ∧
    (u.clk.caskLock.getLsbD n.toNat = true) ∧
    (u.bm.cmds = [])) :=
  by and_intros <;> first
    | decide +kernel
    | exact ok_of (by decide +kernel)


end B6

namespace B7

def ctxCmd (op : Nat) (d : List Byte) : Cmd := { cmdOf op d with queue := 1, ctx := 5 }
def tokT (c : Cmd) : Tun := tunS { bm1 with cmds := [c], rings := ⟨[]⟩ }
def stagedCmd (op : Byte) (ops : List Byte) : Cmd := { ctxCmd op.toNat (descOf op [] ops) with phase := .staged }
def started (op : Byte) (ops : List Byte) : Cmd := ctxCmd op.toNat (descOf op [] ops)
def sq : CSeq := { pkey := 7, id := 2, kind := 0, fmt := 2, heads := 0, dim := 5, stripe := 0, ctx := some 5, lens := [0, 0] }
def withSeq (u : Tun) : Tun := { u with cellar := { opened := true, seqs := [sq] } }
/-- A DECODE image of one token of 2 bytes. -/
def decIm : List Byte :=
  let h := [0x47, 0x54, 0x42, 0x4C, 3, 1, 0, 0] ++ bytesLE 4 192 ++ bytesLE 4 1 ++ bytesLE 4 1 ++ bytesLE 4 2 ++ bytesLE 4 0 ++ bytesLE 4 2 ++ List.replicate 28 0
  let b := bytesLE 4 0 ++ bytesLE 4 2 ++ List.replicate 56 0 ++ [0x68, 0x69] ++ List.replicate 62 0
  h ++ bytesLE 4 (crc32c (h ++ [0, 0, 0, 0] ++ b)).toNat ++ b
/-- A TRIE image: the root with one edge for byte 0x68 to node 1, token 5; single bytes from token 0. -/
def shareOf (l : List (Nat × Byte)) (u : Tun) : Tun := { u with bm := { u.bm with wort := l.foldl (fun m p => m.set 0 (ctx5.wortAddr p.1) p.2) u.bm.wort } }
def imAt (im : List Byte) (u : Tun) : Tun := shareOf ((List.range im.length).map fun i => (i, im.getD i 0)) u
def grpT (g : Group) (c : Cmd) : Tun := { tokT c with mash := { groups := [(1, g)] }, plane := { pkeys := ⟨[(0, 0x0000003F80800007)]⟩, ranks := ⟨[(0, 0x8003)]⟩, rankDesc := ⟨[(0, 1)]⟩ } }
def sampleOps (n : Byte) : List Byte :=
  [1, 0, 2, 1, n, 0, 0, 0, 4, 0, 0, 0, 4, 0, 0, 0] ++ List.replicate 16 0 ++ [0xFF, 0xFF, 0xFF] ++ List.replicate 13 0
def entryBytes (u : Tun) : Tun := shareOf [(8, 0xFF), (9, 0xFF), (10, 0xFF), (11, 0xFF)] u
def sampCmd : Cmd := started 0x66 (sampleOps 1)
def sampCmd2 : Cmd := { sampCmd with planned := true, plan := [{ tag := 0, len := 16 }], fetches := [{ entry := 0, host := false, dst := 0, data := some [0, 0, 128, 63, 0, 0, 0, 64, 0, 0, 0, 0, 0, 0, 0, 0] }] }
/-- A TRIE image: the root has one edge, for byte 0x68, to a node of token 300. -/
def trieIm : List Byte :=
  let h := [0x47, 0x54, 0x42, 0x4C, 1, 1, 0, 0] ++ bytesLE 4 192 ++ bytesLE 4 400 ++ bytesLE 4 2 ++ bytesLE 4 1 ++ bytesLE 4 0 ++ bytesLE 4 0 ++ List.replicate 28 0
  let b := bytesLE 8 (2 ^ 36) ++ bytesLE 8 (2 ^ 63 + 300 * 2 ^ 45) ++ List.replicate 48 0 ++ bytesLE 4 (1 + 0x68 * 2 ^ 24) ++ List.replicate 60 0
  h ++ bytesLE 4 (crc32c (h ++ [0, 0, 0, 0] ++ b)).toNat ++ b
def gotCmd : Cmd := { started 0x60 (List.replicate 24 0 ++ [8, 0, 0, 0, 0, 0xFF, 0]) with planned := true, plan := [{ len := 2 }], fetches := [{ entry := 0, host := true, dst := 0, data := some [0x68, 0x21] }], binds := [(0, 1, 0, 192)] }

theorem witness_TokenCommandsComplete :
  (let s : State := at0 (tokT (stagedCmd 0 []));
    let x : TunId := .t0;
    let c : Cmd := stagedCmd 0 [];
    let u := s.tun x;
    (Alone u c) ∧
    (c.phase = .staged) ∧
    (u.serving = true) ∧
    (c.ext = []) ∧
    (c.op = 0x00) ∧
    (c.effects = [])) ∧
  (let s : State := at0 (tokT (stagedCmd 4 []));
    let x : TunId := .t0;
    let c : Cmd := stagedCmd 4 [];
    let u := s.tun x;
    (Alone u c) ∧
    (c.phase = .staged) ∧
    (u.serving = true) ∧
    (c.ext = []) ∧
    (c.op = 0x04)) ∧
  (let s : State := at0 (tokT { stagedCmd 1 [] with effects := [.wort 5 40 [1, 2, 3] false] });
    let x : TunId := .t0;
    let c : Cmd := { stagedCmd 1 [] with effects := [.wort 5 40 [1, 2, 3] false] };
    let u := s.tun x;
    let off := 40;
    let bs := [1, 2, 3];
    (Alone u c) ∧
    (c.phase = .staged) ∧
    (u.serving = true) ∧
    (c.ext = []) ∧
    (c.op = 0x01) ∧
    (c.effects = [.wort c.ctx off bs false]) ∧
    (u.bm.wort.wf 0 = true) ∧
    (off % blockSize + bs.length ≤ blockSize)) ∧
  (let s : State := at0 (withSeq (tokT (stagedCmd 0x32 [2])));
    let x : TunId := .t0;
    let c : Cmd := stagedCmd 0x32 [2];
    let u := s.tun x;
    let d := c.desc;
    let q := sq;
    (Alone u c) ∧
    (c.phase = .staged) ∧
    (u.serving = true) ∧
    (c.ext = []) ∧
    (c.op = 0x32) ∧
    (u.cseq (u.ctx c.ctx).pkey (leAt d 16 4) = some q) ∧
    (q.holder = none) ∧
    (q.orphaned = false)) ∧
  (let s : State := at0 (tokT (stagedCmd 0x62 [3, 0, 4, 1]));
    let x : TunId := .t0;
    let c : Cmd := stagedCmd 0x62 [3, 0, 4, 1];
    let u := s.tun x;
    let d := c.desc;
    (Alone u c) ∧
    (c.phase = .staged) ∧
    (u.serving = true) ∧
    (c.ext = []) ∧
    (c.op = 0x62) ∧
    ((u.tstream (leAt d 16 2)).isOpen = false)) ∧
  (let s : State := at0 { tokT (stagedCmd 0x63 [3]) with token := { streams := ⟨[(3, { ctx := 5, isOpen := true })]⟩ } };
    let x : TunId := .t0;
    let c : Cmd := stagedCmd 0x63 [3];
    let u := s.tun x;
    let d := c.desc;
    (Alone u c) ∧
    (c.phase = .staged) ∧
    (u.serving = true) ∧
    (c.ext = []) ∧
    (c.op = 0x63) ∧
    ((u.tstream (leAt d 16 2)).isOpen = true) ∧
    ((u.tstream (leAt d 16 2)).held = []) ∧
    (u.token.streams.wf {} = true)) ∧
  (let s : State := at0 (tokT { stagedCmd 0x64 [2] with binds := [(2, 3, 0, 192)] });
    let x : TunId := .t0;
    let c : Cmd := { stagedCmd 0x64 [2] with binds := [(2, 3, 0, 192)] };
    let u := s.tun x;
    let d := c.desc;
    let b : Nat × Nat × Nat × Nat := (2, 3, 0, 192);
    (Alone u c) ∧
    (c.phase = .staged) ∧
    (u.serving = true) ∧
    (c.ext = []) ∧
    (c.op = 0x64) ∧
    (byteAt d 17 ≠ 1) ∧
    (c.binds = [b]) ∧
    (b.2.1 ≠ 0)) ∧
  (let s : State := at0 (tokT (stagedCmd 0x67 [2, 1, 5, 0, 9]));
    let x : TunId := .t0;
    let c : Cmd := stagedCmd 0x67 [2, 1, 5, 0, 9];
    let u := s.tun x;
    (Alone u c) ∧
    (c.phase = .staged) ∧
    (u.serving = true) ∧
    (c.ext = []) ∧
    (c.op = 0x67)) ∧
  (let s : State := at0 (tokT (started 0x64 [2, 1]));
    let x : TunId := .t0;
    let c : Cmd := started 0x64 [2, 1];
    let u := s.tun x;
    let d := c.desc;
    (u.serving = true) ∧
    (u.cmd c.id = some c) ∧
    (c.phase = .started) ∧
    (c.op = 0x64) ∧
    (byteAt d 17 = 1)) ∧
  (let s : State := at0 (imAt decIm (tokT (started 0x64 [2, 0])));
    let x : TunId := .t0;
    let c : Cmd := started 0x64 [2, 0];
    let u := s.tun x;
    let d := c.desc;
    let off := leAt d 20 4;
    let len := leAt (u.shareRead c.ctx (off + 8) 4) 0 4;
    let im := u.shareRead c.ctx off len;
    (u.serving = true) ∧
    (u.cmd c.id = some c) ∧
    (c.phase = .started) ∧
    (c.op = 0x64) ∧
    (byteAt d 17 ≠ 1) ∧
    ((u.ctx c.ctx).inUsable off 64 = true) ∧
    ((u.ctx c.ctx).inUsable off len = true) ∧
    (u.sharePoison c.ctx off (max 64 len) = false) ∧
    (tableReason im = none) ∧
    (imgKind im ≠ 5) ∧
    (u.bindOverlaps c.ctx (byteAt d 16).toNat off len = false)) ∧
  (let s : State := at0 (imAt trieIm (tokT gotCmd));
    let x : TunId := .t0;
    let c : Cmd := gotCmd;
    let u := s.tun x;
    let d := c.desc;
    let trie := trieIm;
    let bs := pbytes c.fetchedP;
    let r := utf8All (byteAt d 46).toNat bs.length 0 bs;
    let toks := encodeItems trie (if byteAt d 45 = 0xFF then none else u.boundImage c (byteAt d 45).toNat) [] r.items;
    (u.serving = true) ∧
    (u.cmd c.id = some c) ∧
    (c.phase = .started) ∧
    (c.op = 0x60) ∧
    (c.fetched = true) ∧
    (anyPoison c.fetchedP = false) ∧
    (u.tablePoison c [(byteAt d 44).toNat, (byteAt d 45).toNat] = false) ∧
    (u.boundImage c (byteAt d 44).toNat = some trie) ∧
    (byteAt d 46 ≠ 2) ∧
    (toks.length ≤ leAt d 40 4)) ∧
  (let s : State := at0 (imAt decIm (tokT { started 0x61 (0 :: 1 :: List.replicate 2 0 ++ [1, 0, 0, 0, 0, 0, 0, 0, 0, 8, 0, 0, 8, 0, 0]) with binds := [(0, 3, 0, 192)] }));
    let x : TunId := .t0;
    let c : Cmd := { started 0x61 (0 :: 1 :: List.replicate 2 0 ++ [1, 0, 0, 0, 0, 0, 0, 0, 0, 8, 0, 0, 8, 0, 0]) with binds := [(0, 3, 0, 192)] };
    let u := s.tun x;
    let d := c.desc;
    let im := decIm;
    let bs := u.shareRead c.ctx (leAt d 16 4) (4 * leAt d 20 4);
    let toks := (List.range (leAt d 20 4)).map fun i => leAt bs (4 * i) 4;
    let text := toks.flatMap (tokenBytes im);
    (u.serving = true) ∧
    (u.cmd c.id = some c) ∧
    (c.phase = .started) ∧
    (c.op = 0x61) ∧
    (u.boundImage c (byteAt d 24).toNat = some im) ∧
    (u.sharePoison c.ctx (leAt d 16 4) (4 * leAt d 20 4) = false) ∧
    (u.tablePoison c [(byteAt d 24).toNat] = false) ∧
    ((∀ k ∈ toks, k < imgVocab im)) ∧
    (text.length ≤ leAt d 32 4)) ∧
  (let s : State := at0 (tokT (started 0x62 [3, 0, 4, 1]));
    let x : TunId := .t0;
    let c : Cmd := started 0x62 [3, 0, 4, 1];
    let u := s.tun x;
    let d := c.desc;
    (u.serving = true) ∧
    (u.cmd c.id = some c) ∧
    (c.phase = .started) ∧
    (c.op = 0x62) ∧
    ((u.tstream (leAt d 16 2)).isOpen = false)) ∧
  (let s : State := at0 (tokT (started 0x63 [3]));
    let x : TunId := .t0;
    let c : Cmd := started 0x63 [3];
    let u := s.tun x;
    (u.serving = true) ∧
    (u.cmd c.id = some c) ∧
    (c.phase = .started) ∧
    (c.op = 0x63)) ∧
  (let s : State := at0 (tokT (started 0x65 [0, 0, 0, 0, 1, 0, 1, 0xFF]));
    let x : TunId := .t0;
    let c : Cmd := started 0x65 [0, 0, 0, 0, 1, 0, 1, 0xFF];
    let u := s.tun x;
    let d := c.desc;
    let off := leAt d 16 4 + 64 * leAt d 20 2;
    (u.serving = true) ∧
    (u.cmd c.id = some c) ∧
    (c.phase = .started) ∧
    (c.op = 0x65) ∧
    (byteAt d 23 = 0xFF) ∧
    (u.sharePoison c.ctx off 64 = false)) ∧
  (let s : State := at0 (tokT (started 0x67 [2]));
    let x : TunId := .t0;
    let c : Cmd := started 0x67 [2];
    let u := s.tun x;
    (u.serving = true) ∧
    (u.cmd c.id = some c) ∧
    (c.phase = .started) ∧
    (c.op = 0x67)) ∧
  (let s : State := at0 (entryBytes (grpT grp sampCmd));
    let x : TunId := .t0;
    let c : Cmd := sampCmd;
    let u := s.tun x;
    let g := grp;
    (u.serving = true) ∧
    (u.cmd c.id = some c) ∧
    (c.phase = .started) ∧
    (c.op = 0x66) ∧
    (u.group c.groupNo = some g) ∧
    (g.places = []) ∧
    (g.oldest = c.instanceNo) ∧
    (u.sampleOwn c g ≠ [])) ∧
  (let s : State := at0 (entryBytes (grpT { grp with places := [{ inst := 0, cmd := some 3 }] } sampCmd2));
    let x : TunId := .t0;
    let c : Cmd := sampCmd2;
    let u := s.tun x;
    let g := { grp with places := [{ inst := 0, cmd := some 3 }] };
    (u.serving = true) ∧
    (u.cmd c.id = some c) ∧
    (c.phase = .started) ∧
    (c.op = 0x66) ∧
    (u.group c.groupNo = some g) ∧
    ((g.place c.instanceNo).cmd = some c.id) ∧
    (c.fetched = true) ∧
    (u.tablePoison c ((sampleDecode c).toList ++ (sampleList c).toList ++ (sampleAuto c).toList) = false) ∧
    (anyPoison c.fetchedP = false) ∧
    (c.fetches.any (·.poison) = false) ∧
    ((∀ e ∈ u.sampleOwn c g, e.lslot = 0xFFFF))) ∧
  (let s : State := at0 { tunS bm1 with token := { streams := ⟨[(3, { ctx := 5, isOpen := true, tail := 5 })]⟩ } };
    let x : TunId := .t0;
    let u := s.tun x;
    let n : Byte := 3;
    let i : Word := 2;
    (u.svc.hold = .none_) ∧
    (u.svc.state = .full) ∧
    ((u.tstream n.toNat).isOpen = true) ∧
    ((i - (u.tstream n.toNat).head).toNat ≤ ((u.tstream n.toNat).tail - (u.tstream n.toNat).head).toNat)) :=
  by delta Alone; decide +kernel


end B7

namespace B8

def pt : Port := { link := .linked, state := .active, widthNow := 4 }
def schT (sc : Sched) : Tun := { fullTun with ports := ⟨[(256, pt)]⟩, sched := sc }
def awayT (sc : Sched) : Tun := { schT sc with rack := { row := 1 } }
def cw : Dword := BitVec.ofNat 64 (70 * 2 ^ 50 + 2 * 2 ^ 48 + 64 * 2 ^ 39 + 3 * 2 ^ 30 + 7 * 2 ^ 20 + 2 ^ 18)
def sw : Dword := BitVec.ofNat 64 (70 * 2 ^ 50 + 3 * 2 ^ 42 + 5 * 2 ^ 34 + 2 ^ 24 + 4 * 2 ^ 10)
def bw : Dword := BitVec.ofNat 64 (70 * 2 ^ 50 + 80 * 2 ^ 36 + 3 * 2 ^ 28 + 5 * 2 ^ 20 + 1 * 2 ^ 8)
def cirRec : Recipe := { circuits := [cw] }
def stepRec : Recipe := { steps := [sw] }
def bindRec : Recipe := { bindings := [bw] }
def runSched (r : Recipe) : Sched := { counting := true, aligned := true, plane := .running, loaded := some r }
def outP : Packet := { pktOf 0x01 0x40 [1, 2, 3, 4] with dst := 7, cls := 1, gild := true }
def eo : EngineOut := ⟨64, 3, 70, outP, 9⟩
def planeT (sc : Sched) : Tun := { tunS bm1 with ports := ⟨[(3, pt), (7, pt), (256, pt)]⟩, plane := { pkeys := ⟨[(0, 0x0000003F80000007)]⟩, pkeyMap := ⟨[(24, 1), (56, 1)]⟩, routes := ⟨[(7, 0x80000000)]⟩ }, sched := sc }
def bindC : Cmd := { collCmd 0x48 0x43 with phase := .fetched, desc := ((collDesc 0x48 0x43).set 49 1).set 56 0 }
def bindT : Tun := { collT [bindC] grp with sched := runSched bindRec, bm := { bm1 with cmds := [bindC], rings := ⟨[]⟩, ctxs := ⟨[(5, { ctx5 with pin := true })]⟩ } }
/-- A Recipe image with no records, for row 0 and column 0 under plan 3. -/
def recIm : List Byte :=
  let h := [0x45, 0x50, 0x43, 0x52, 1, 0, 3, 0] ++ bytesLE 4 64 ++ List.replicate 48 0
  h ++ bytesLE 4 (crc32c (h ++ [0, 0, 0, 0])).toNat
def started8 (op : Byte) (ops : List Byte) : Cmd := cmdOf op.toNat (descOf op [] ops)

theorem witness_BrewEventsComplete :
  (let s : State := at0 (schT { counting := true, brew := 4 });
    let x : TunId := .t0;
    let u := s.tun x;
    (u.sched.counting = true) ∧
    (u.sched.plane = .stopped) ∧
    (u.sched.releaseDue = none)) ∧
  (let s : State := at0 (schT { counting := true });
    let x : TunId := .t0;
    let u := s.tun x;
    let id := 256;
    (u.serving = true) ∧
    (u.isKeeper = true) ∧
    (u.refOk = true) ∧
    (u.sched.counting = true) ∧
    (u.markPorts = [id]) ∧
    ((u.port id).link = .linked)) ∧
  (let s : State := at0 (awayT { counting := true });
    let x : TunId := .t0;
    let u := s.tun x;
    let id : BitVec 9 := 256;
    let b := [0, 0, 0, 0, 0, 0, 0, 0, 0, 0, 1, 0, 5, 0, 0, 0];
    (u.serving = true) ∧
    (u.portUp id.toNat = true) ∧
    ((u.port id.toNat).genNow = false) ∧
    (u.sched.counting = true) ∧
    (u.markNative (markOf s.now id.toNat b) = true) ∧
    (u.isKeeper = false) ∧
    (u.sched.taken = false) ∧
    (u.sched.best = none)) ∧
  (let s : State := at0 (awayT { counting := true, brew := 7, best := some ⟨7, 0, 0, 1, 5, 256, 9⟩ });
    let x : TunId := .t0;
    let u := s.tun x;
    let m := (⟨7, 0, 0, 1, 5, 256, 9⟩ : Marker);
    (u.serving = true) ∧
    (u.sched.best = some m) ∧
    (u.isKeeper = false)) ∧
  (let s : State := at0 (awayT (runSched {}));
    let x : TunId := .t0;
    let u := s.tun x;
    (u.sched.aligned = true) ∧
    (u.isKeeper = false)) ∧
  (let s : State := at0 (planeT { runSched cirRec with outputs := [eo] });
    let x : TunId := .t0;
    let u := s.tun x;
    let n : Nat := 0;
    let r : Recipe := cirRec;
    let w : Dword := cw;
    let o : EngineOut := eo;
    let q := ({ o.pkt with circuit := true, slot := BitVec.ofNat 14 (cirSlot w) } : Packet).sealed;
    (u.sched.inForce = some r) ∧
    (r.circuits[n]? = some w) ∧
    (cirKind w = 2) ∧
    (cirPackets w = 1) ∧
    (u.suspended w = false) ∧
    (u.sched.outputs = [o]) ∧
    (o.unit = cirIn w) ∧
    (o.port = cirOut w) ∧
    (o.pkt.dst.toNat = cirPeer w) ∧
    (u.pkeyEgress (cirOut w) q = true) ∧
    ((u.port (cirOut w)).genNow = false) ∧
    ((u.port (cirOut w)).link = .linked) ∧
    ((u.port (cirOut w)).up = true) ∧
    ((u.port (cirOut w)).txq = []) ∧
    ((u.port (cirOut w)).replayFull = false) ∧
    (q.payload.length ≤ 212)) ∧
  (let s : State := at0 { tunS bm1 with sched := runSched stepRec };
    let x : TunId := .t0;
    let u := s.tun x;
    let n : Nat := 0;
    let r : Recipe := stepRec;
    let w : Dword := sw;
    let p := (match ((u.fetchNext (stepQueue w) [] false).2.modCmd (u.fetchNext (stepQueue w) [] false).1.id fun k => { k with timed := true }).timedChecks { (u.fetchNext (stepQueue w) [] false).1 with timed := true } with | Except.ok p => p | Except.error _ => {});
    let f := u.fetchNext (stepQueue w) [] false;
    (u.startsCommands = true) ∧
    (u.sched.inForce = some r) ∧
    (r.steps[n]? = some w) ∧
    ((u.ctx (stepCtx w)).state = .resident) ∧
    ((u.queue (stepQueue w)).valid = true) ∧
    ((u.queue (stepQueue w)).held ≠ 0) ∧
    (u.sched.runSteps = []) ∧
    (u.bm.held = []) ∧
    (u.bm.cmds = []) ∧
    ((f.2.modCmd f.1.id fun k => { k with timed := true }).timedChecks { f.1 with timed := true } = .ok p)) ∧
  (let s : State := bmS {} |>.modTun .t0 fun u => { u with sched := { runSched {} with runSteps := [⟨3, 9, false⟩] } };
    let x : TunId := .t0;
    let u := s.tun x;
    let id : Nat := 9;
    let un : Nat := 3;
    (u.sched.runSteps = [⟨un, id, false⟩]) ∧
    (u.sched.outputs = [])) ∧
  (let s : State := at0 bindT;
    let x : TunId := .t0;
    let u := s.tun x;
    let n : Nat := 0;
    let r : Recipe := bindRec;
    let w : Dword := bw;
    let g : Group := grp;
    let c : Cmd := bindC;
    let p := (match (u.modCmd c.id fun k => { k with timed := true }).timedChecks { c with timed := true } with | Except.ok p => p | Except.error _ => {});
    (u.startsCommands = true) ∧
    (u.sched.inForce = some r) ∧
    (r.bindings[n]? = some w) ∧
    (u.group (bindGroup w) = some g) ∧
    (u.bm.cmds = [c]) ∧
    (c.queue = g.queue) ∧
    (c.running = false) ∧
    (c.op = 0x48) ∧
    ((u.ctx (bindCtx w)).pin = true) ∧
    ((u.modCmd c.id fun k => { k with timed := true }).timedChecks { c with timed := true } = .ok p)) :=
  by and_intros <;> first
    | decide +kernel
    | exact ok_of (by decide +kernel)


theorem witness_PlaneCommandsComplete :
  (let s : State := bmS {} |>.modTun .t0 fun u => { u with sched := { recipeSrc := 0x4000 } };
    let x : TunId := .t0;
    let u := s.tun x;
    (u.svc.hold = .none_) ∧
    (u.svc.state = .full) ∧
    (u.rack.gensel = true) ∧
    (u.sched.loading = none) ∧
    (u.sched.startBrew = none) ∧
    (u.hostReads (some 0) = true)) ∧
  (let s : State := bmS {} |>.modTun .t0 fun u => { u with sched := { counting := true, aligned := true, brewTarget := 100, shadowValid := true, shadow := some {} } };
    let x : TunId := .t0;
    let u := s.tun x;
    (u.svc.hold = .none_) ∧
    (u.svc.state = .full) ∧
    (u.rack.gensel = true) ∧
    (u.startRefusal u.sched.brewTarget = none) ∧
    (u.sched.plane = .stopped)) ∧
  (let s : State := bmS {} |>.modTun .t0 fun u => { u with sched := { runSched {} with brewTarget := 100 } };
    let x : TunId := .t0;
    let u := s.tun x;
    (u.svc.hold = .none_) ∧
    (u.svc.state = .full) ∧
    (u.rack.gensel = true) ∧
    (u.sched.plane = .running)) ∧
  (let s : State := bmS {} |>.modTun .t0 fun u => { u with sched := { shadowValid := true, shadow := some {} } };
    let x : TunId := .t0;
    let u := s.tun x;
    (u.svc.hold = .none_) ∧
    (u.svc.state = .full) ∧
    (u.rack.gensel = true) ∧
    (u.sched.startBrew = none)) ∧
  (let s : State := cmdS (started8 0x20 [0, 0x40]) {};
    let x : TunId := .t0;
    let u := s.tun x;
    let c : Cmd := started8 0x20 [0, 0x40];
    (Alone u c) ∧
    (u.serving = true) ∧
    (c.phase = .started) ∧
    (c.op = 0x20) ∧
    (u.sched.loading = none) ∧
    (u.sched.startBrew = none) ∧
    (u.hostReads (some 0) = true)) ∧
  (let s : State := cmdS (started8 0x23 []) {} |>.modTun .t0 fun u => { u with sched := { shadowValid := true, shadow := some {} } };
    let x : TunId := .t0;
    let u := s.tun x;
    let c : Cmd := started8 0x23 [];
    (Alone u c) ∧
    (u.serving = true) ∧
    (c.phase = .started) ∧
    (c.op = 0x23) ∧
    (u.sched.loading = none) ∧
    (u.sched.startBrew = none) ∧
    (u.sched.shadowValid = true)) ∧
  (let s : State := bmS {} |>.modTun .t0 fun u => { u with sched := { loading := some .reg } };
    let x : TunId := .t0;
    let u := s.tun x;
    (u.sched.loading = some .reg)) ∧
  (let s : State := bmS {} |>.modTun .t0 fun u => { u with sched := { loading := some .reg } };
    let x : TunId := .t0;
    let u := s.tun x;
    let im := recIm;
    (u.sched.loading = some .reg) ∧
    (u.headerCheck im = none) ∧
    (u.recordCheck im (Recipe.ofImage im) = none)) ∧
  (let s : State := at0 (schT { counting := true, aligned := true, plane := .armed, startBrew := some 100, armState := 1, shadowValid := true, shadow := some {} });
    let x : TunId := .t0;
    let u := s.tun x;
    let f : BitVec 48 := 100;
    let as : List ArmAnswer := [];
    let id := 256;
    (u.sched.startBrew = some f) ∧
    (id ∈ u.armPeers) ∧
    (as.find? (fun a => a.port == id) = none)) ∧
  (let s : State := at0 (schT { counting := true, aligned := true, plane := .armed, startBrew := some 100, armState := 1, shadowValid := true, shadow := some {} });
    let x : TunId := .t0;
    let u := s.tun x;
    let f : BitVec 48 := 100;
    let as : List ArmAnswer := [(⟨256, [], 100, 2⟩ : ArmAnswer)];
    let id := 256;
    let a := (⟨256, [], 100, 2⟩ : ArmAnswer);
    (u.sched.startBrew = some f) ∧
    (id ∈ u.armPeers) ∧
    (a ∈ as) ∧
    (a.port = id) ∧
    (a.state = 2)) ∧
  (let s : State := at0 (schT { counting := true, aligned := true, plane := .armed, startBrew := some 100, brew := 100, armState := 1, shadowValid := true, shadow := some {} });
    let x : TunId := .t0;
    let u := s.tun x;
    let r := ({} : Recipe);
    (u.sched.plane = .armed) ∧
    (u.sched.startBrew = some u.sched.brew) ∧
    (u.sched.armState = 1) ∧
    (u.sched.starter = .reg) ∧
    (u.sched.toArm = some r) ∧
    (u.bindingsReady r = true)) ∧
  (let s : State := at0 (schT { runSched {} with releaseDue := some 0x0709 });
    let x : TunId := .t0;
    let u := s.tun x;
    let st := 0x0709;
    (u.sched.startBrew = none) ∧
    (u.sched.runBinds = []) ∧
    (u.bm.cmds = []) ∧
    (u.sched.releaseDue = some st) ∧
    (u.sched.plane = .running)) ∧
  (let s : State := at0 (schT { runSched {} with plane := .stopping, brew := 100, stopBrew := some 100 });
    let x : TunId := .t0;
    let u := s.tun x;
    let b := (100 : BitVec 48);
    (u.sched.startBrew = none) ∧
    (u.sched.runBinds = []) ∧
    (u.bm.cmds = []) ∧
    (u.sched.releaseDue = none) ∧
    (u.sched.plane = .stopping) ∧
    (u.sched.stopBrew = some b) ∧
    (b.toNat ≤ u.sched.brew.toNat)) :=
  by delta Alone; decide +kernel


end B8

namespace B9

def vfHost : HPort := { hostUp with vfEnable := true, numVfs := 16, busMaster := 0x1FFFF, msixEnable := 0x1FFFF }
def vfT (b : Bm) : Tun := { tunS b with host := vfHost }
def cfg1 : HostCfg := ⟨1, 0, 1⟩
def readCmd : Cmd := { cmdOf 2 [] with planned := true, plan := [{ host := true, len := 4 }], fetches := [⟨1, true, 0, none, false, 0⟩] }

theorem witness_HostPortEventsComplete :
  (let s : State := at0 { fullTun with host := { perst := false } };
    let x : TunId := TunId.t0;
    let u := s.tun x;
    let speed : BitVec 4 := 6;
    let width : BitVec 6 := 16;
    (speedOk speed = true) ∧
    (widthOk width = true) ∧
    (u.svc.state ≠ .off) ∧
    (u.svc.hold ≠ .cold) ∧
    (u.host.perst = false) ∧
    (u.host.linkUp = false)) ∧
  (let s : State := bmS bm1;
    let x : TunId := TunId.t0;
    let u := s.tun x;
    let speed : BitVec 4 := 5;
    let width : BitVec 6 := 8;
    (speedOk speed = true) ∧
    (widthOk width = true) ∧
    (u.host.linkUp = true)) ∧
  (let s : State := bmS bm1;
    let x : TunId := TunId.t0;
    let u := s.tun x;
    (u.host.linkUp = true) ∧
    (u.sched.loading = none) ∧
    (u.bm.streaming = none) ∧
    (u.bm.cmds = [])) ∧
  (let s : State := at0 (vfT { bm1 with ctxs := ⟨[(5, { ctx5 with state := .faulted })]⟩ });
    let x : TunId := TunId.t0;
    let u := s.tun x;
    let n : BitVec 5 := 3;
    let c := (5 : Nat);
    (u.vfExists n.toNat = true) ∧
    (u.slotCtx (n.toNat - 1) = some c) ∧
    ((u.ctx c).state = .faulted) ∧
    (u.bm.cmds = [])) ∧
  (let s : State := at0 (vfT bm1);
    let x : TunId := TunId.t0;
    let u := s.tun x;
    (u.host.linkUp = true) ∧
    (u.svc.state ≠ .off) ∧
    (u.svc.hold = .none_) ∧
    (u.svc.mgmtUp = true)) ∧
  (let s : State := bmS bm1;
    let x : TunId := TunId.t0;
    let u := s.tun x;
    (u.host.linkUp = true)) ∧
  (let s : State := at0 (vfT bm1);
    let x : TunId := TunId.t0;
    let u := s.tun x;
    let vf : BitVec 5 := 3;
    let off : Half := 8;
    let v : Dword := 0xFFF4;
    let k := off.toNat / 8;
    let i : Half := v.setWidth 16;
    let own (c : Nat) : Prop := some c = u.slotCtx (vf.toNat - 1);
    (u.vfExists vf.toNat = true) ∧
    (u.windowsOpen = true) ∧
    (off.toNat % 8 = 0) ∧
    (0 < k) ∧
    (k < 1024) ∧
    ((u.queue k).valid = true) ∧
    (own (u.queue k).ctx.toNat) ∧
    (i ≠ (u.queue k).p) ∧
    ((i - (u.queue k).p).toNat ≤ queueFree k (u.queue k)) ∧
    (u.bm.cmds = [])) ∧
  (let s : State := at0 (vfT bm1);
    let x : TunId := TunId.t0;
    let u := s.tun x;
    let vf : BitVec 5 := 3;
    let off : Half := 8200;
    let v : Dword := 1;
    let k := off.toNat / 8;
    let i : Half := v.setWidth 16;
    let own (c : Nat) : Prop := some c = u.slotCtx (vf.toNat - 1);
    (u.vfExists vf.toNat = true) ∧
    (u.windowsOpen = true) ∧
    (off.toNat % 8 = 0) ∧
    (1024 ≤ k) ∧
    (k < 2048) ∧
    ((u.ring (k - 1024)).valid = true) ∧
    (own (u.ring (k - 1024)).ctx.toNat) ∧
    ((i - (u.ring (k - 1024)).head).toNat ≤ (u.ring (k - 1024)).unconsumed)) ∧
  (let s : State := at0 { vfT bm1 with token := { streams := ⟨[(3, { ctx := 5, isOpen := true, tail := 5 })]⟩ } };
    let x : TunId := TunId.t0;
    let u := s.tun x;
    let vf : BitVec 5 := 3;
    let off : Half := 16408;
    let v : Dword := 4;
    let k := off.toNat / 8;
    let own (c : Nat) : Prop := some c = u.slotCtx (vf.toNat - 1);
    (u.vfExists vf.toNat = true) ∧
    (u.windowsOpen = true) ∧
    (off.toNat % 8 = 0) ∧
    (2048 ≤ k) ∧
    (k < 2304) ∧
    ((u.tstream (k - 2048)).isOpen = true) ∧
    (own (u.tstream (k - 2048)).ctx) ∧
    ((v.setWidth 32 - (u.tstream (k - 2048)).head).toNat ≤ ((u.tstream (k - 2048)).tail - (u.tstream (k - 2048)).head).toNat)) ∧
  (let s : State := at0 (vfT bm1);
    let x : TunId := TunId.t0;
    let u := s.tun x;
    let vf : BitVec 5 := 3;
    let off : Half := 24;
    let k := off.toNat / 8;
    let own (c : Nat) : Prop := some c = u.slotCtx (vf.toNat - 1);
    (u.vfExists vf.toNat = true) ∧
    (u.windowsOpen = true) ∧
    (off.toNat % 8 = 0) ∧
    (0 < k) ∧
    (k < 1024) ∧
    ((¬ ((u.queue k).valid = true ∧ own (u.queue k).ctx.toNat)))) ∧
  (let s : State := at0 (vfT bm1);
    let x : TunId := TunId.t0;
    let u := s.tun x;
    let vf : BitVec 5 := 3;
    let off : Nat := 64;
    let bs : List Byte := [1, 2, 3];
    let c := (5 : Nat);
    (u.vfExists vf.toNat = true) ∧
    (u.windowsOpen = true) ∧
    (off + bs.length ≤ 2 ^ 29) ∧
    (bs.length ≤ 512) ∧
    (u.slotCtx (vf.toNat - 1) = some c) ∧
    ((u.ctx c).inUsable off bs.length = true) ∧
    (u.bm.wort.wf 0 = true) ∧
    (off % blockSize + bs.length ≤ blockSize)) ∧
  (let s : State := at0 (vfT bm1);
    let x : TunId := TunId.t0;
    let u := s.tun x;
    let vf : BitVec 5 := 3;
    let off : Nat := 16777216;
    let bs : List Byte := [1, 2, 3];
    let c := (5 : Nat);
    (u.vfExists vf.toNat = true) ∧
    (u.windowsOpen = true) ∧
    (off + bs.length ≤ 2 ^ 29) ∧
    (bs.length ≤ 512) ∧
    (u.slotCtx (vf.toNat - 1) = some c) ∧
    ((u.ctx c).inUsable off bs.length = false)) ∧
  (let s : State := bmS bm1;
    let x : TunId := TunId.t0;
    let u := s.tun x;
    let off : Nat := 536870909;
    let bs : List Byte := [1, 2, 3];
    (u.host.linkUp = true) ∧
    (u.windowsOpen = true) ∧
    (off + bs.length ≤ 2 ^ 29) ∧
    (bs.length ≤ 512) ∧
    (u.bm.wort.wf 0 = true)) ∧
  (let s : State := bmS { cmds := [readCmd] };
    let x : TunId := TunId.t0;
    let u := s.tun x;
    let c : Cmd := readCmd;
    let f : Fetch := (⟨1, true, 0, none, false, 0⟩ : Fetch);
    let p : Piece := ({ host := true, len := 4 } : Piece);
    let bs := [1, 2, 3, 4];
    (u.bm.cmds = [c]) ∧
    (c.plan = [p]) ∧
    (c.fetches = [f]) ∧
    (f.host = true) ∧
    (f.data = none) ∧
    (u.hostReads (u.cmdFn c) = true) ∧
    (bs.length = p.len)) ∧
  (let s : State := at0 { vfT bm1 with host := { vfHost with pendingBits := [2053], masked := [2053] } };
    let x : TunId := TunId.t0;
    let u := s.tun x;
    let fn : BitVec 5 := 2;
    let vec : BitVec 10 := 5;
    let k := fn.toNat * 1024 + vec.toNat;
    (fn.toNat ≤ 16) ∧
    ((fn ≠ 0 → vec.toNat < 64 ∧ u.host.vfEnable = true)) ∧
    (u.host.linkUp = true) ∧
    (u.host.lost = false) ∧
    (u.host.pendingBits.contains k = true) ∧
    (u.host.msixEnable.getLsbD fn.toNat = true) ∧
    (u.host.d3hot.getLsbD fn.toNat = false)) ∧
  (let s : State := at0 (vfT bm1);
    let x : TunId := TunId.t0;
    let u := s.tun x;
    let fn : BitVec 5 := 2;
    let vec : BitVec 10 := 5;
    (fn.toNat ≤ 16) ∧
    ((fn ≠ 0 → vec.toNat < 64 ∧ u.host.vfEnable = true)) ∧
    (u.host.linkUp = true) ∧
    (u.host.lost = false)) :=
  by decide +kernel


end B9

namespace B10

def relT (r : Rel) : Tun := { fullTun with rel := r, cellar := { opened := true }, ports := ⟨[(256, { link := .linked, state := .active, widthNow := 4 })]⟩ }
def hydT (h : Hyd) : Tun := { tunS bm1 with hyd := h, sched := { counting := true, brew := 100 } }
def rec1 : List Byte := List.replicate 32 7

theorem witness_ReliabilityEventsComplete :
  (let s : State := at0 (relT {});
    let x : TunId := TunId.t0;
    let u := s.tun x;
    let src : Byte := 3;
    let cls : BitVec 3 := 0;
    (errClassOk src.toNat cls.toNat = true) ∧
    (u.reachable = true) ∧
    (u.svc.hold = .none_) ∧
    (cls = 0)) ∧
  (let s : State := at0 (relT {});
    let x : TunId := TunId.t0;
    let u := s.tun x;
    let src : Byte := 3;
    let cls : BitVec 3 := 1;
    let a : ErrAt := ⟨0, 0xFF, 9, 128⟩;
    (errClassOk src.toNat cls.toNat = true) ∧
    (u.reachable = true) ∧
    (u.svc.hold = .none_) ∧
    (cls = 1) ∧
    (u.unitPoisoned src.toNat a.addr.toNat = false)) ∧
  (let s : State := at0 { relT {} with sched := { counting := true, plane := .running, loaded := some {} } };
    let x : TunId := TunId.t0;
    let u := s.tun x;
    let src : Byte := 6;
    let cls : BitVec 3 := 2;
    (errClassOk src.toNat cls.toNat = true) ∧
    (u.reachable = true) ∧
    (u.svc.hold = .none_) ∧
    (cls = 2) ∧
    (src = 6)) ∧
  (let s : State := at0 (relT {});
    let x : TunId := TunId.t0;
    let u := s.tun x;
    let src : Byte := 8;
    let cls : BitVec 3 := 4;
    (errClassOk src.toNat cls.toNat = true) ∧
    (u.reachable = true) ∧
    (u.svc.hold = .none_) ∧
    (cls = 4) ∧
    (u.svc.state ≠ .fenced)) ∧
  (let s : State := at0 (relT {});
    let x : TunId := TunId.t0;
    let u := s.tun x;
    let src : Byte := 9;
    let cls : BitVec 3 := 5;
    (errClassOk src.toNat cls.toNat = true) ∧
    (u.reachable = true) ∧
    (u.svc.hold = .none_) ∧
    (cls = 5) ∧
    (u.svc.fatalEnd = none)) ∧
  (let s : State := at0 (relT {});
    let x : TunId := TunId.t0;
    let u := s.tun x;
    let runs := u.backgroundRuns = true;
    let n : BitVec 3 := 1;
    let k : Nat := 10;
    (runs) ∧
    (u.cellar.opened = true) ∧
    (n.toNat < u.asm.casks) ∧
    (u.cellar.lostStacks.getLsbD n.toNat = false) ∧
    (u.rel.selfRefresh.getLsbD n.toNat = false) ∧
    (u.rel.scrubOff = false) ∧
    (0 < k) ∧
    (Tab.get 0 u.rel.scrubPos n.toNat + k < stackUnits)) ∧
  (let s : State := at0 (relT {});
    let x : TunId := TunId.t0;
    let u := s.tun x;
    let runs := u.backgroundRuns = true;
    let k : Nat := 10;
    (runs) ∧
    (0 < k) ∧
    (Tab.get 0 u.rel.scrubPos 8 + k < wortUnits)) ∧
  (let s : State := at0 (relT { selfRefresh := 2 });
    let x : TunId := TunId.t0;
    let u := s.tun x;
    let runs := u.backgroundRuns = true;
    let n : BitVec 3 := 1;
    (runs) ∧
    (u.cellar.opened = true) ∧
    (n.toNat < u.asm.casks) ∧
    (u.cellar.lostStacks.getLsbD n.toNat = false)) ∧
  (let s : State := at0 (relT {});
    let x : TunId := TunId.t0;
    let u := s.tun x;
    let n : BitVec 3 := 1;
    let v : Half := 840;
    (u.svc.state ≠ .off) ∧
    (u.svc.hold = .none_) ∧
    (n.toNat < u.asm.casks) ∧
    (u.cellar.lostStacks.getLsbD n.toNat = false) ∧
    (v ≠ 0) ∧
    (v.toInt ≤ 840)) ∧
  (let s : State := at0 (relT {});
    let x : TunId := TunId.t0;
    let u := s.tun x;
    let n : BitVec 3 := 1;
    let v : Half := 841;
    (u.svc.state ≠ .off) ∧
    (u.svc.hold = .none_) ∧
    (n.toNat < u.asm.casks) ∧
    (u.cellar.lostStacks.getLsbD n.toNat = false) ∧
    (v ≠ 0) ∧
    (840 < v.toInt)) ∧
  (let s : State := at0 (relT {});
    let x : TunId := TunId.t0;
    let u := s.tun x;
    let runs := u.backgroundRuns = true;
    let n : BitVec 3 := 1;
    (runs) ∧
    (u.cellar.opened = true) ∧
    (n.toNat < u.asm.casks) ∧
    (u.cellar.lostStacks.getLsbD n.toNat = false) ∧
    (u.stackReserved n.toNat = false)) ∧
  (let s : State := at0 (relT {});
    let x : TunId := TunId.t0;
    let u := s.tun x;
    let id : BitVec 9 := 256;
    (u.svc.state ≠ .off) ∧
    (u.svc.hold = .none_) ∧
    (u.hasPort id.toNat = true) ∧
    ((u.port id.toNat).link = .linked)) ∧
  (let s : State := at0 (relT {});
    let x : TunId := TunId.t0;
    let u := s.tun x;
    let rs := [1, 2, 3, 4, 5, 6, 7, 8];
    (u.svc.state ≠ .off) ∧
    (u.svc.hold ≠ .cold) ∧
    (rs.length = 8)) :=
  by decide +kernel


theorem witness_HydrometerCommandsComplete :
  (let s : State := at0 (hydT {});
    let x : TunId := TunId.t0;
    let u := s.tun x;
    (u.svc.hold = .none_) ∧
    (u.svc.state ≠ .off) ∧
    (u.hyd.left = [])) ∧
  (let s : State := at0 (hydT { selGroup := 1 });
    let x : TunId := TunId.t0;
    let u := s.tun x;
    (u.svc.hold = .none_) ∧
    (u.svc.state ≠ .off)) ∧
  (let s : State := at0 (hydT { ringValid := true, ringLog2 := 8, tail := 5 });
    let x : TunId := TunId.t0;
    let u := s.tun x;
    let i : Half := 3;
    (u.svc.hold = .none_) ∧
    (u.svc.state ≠ .off) ∧
    (u.hyd.ringValid = true) ∧
    ((i - u.hyd.head).toNat ≤ (u.hyd.tail - u.hyd.head).toNat)) ∧
  (let s : State := at0 (hydT {});
    let x : TunId := TunId.t0;
    let u := s.tun x;
    (u.svc.hold = .none_) ∧
    (u.svc.state ≠ .off) ∧
    (u.hyd.ringValid = false)) ∧
  (let s : State := at0 (hydT {});
    let x : TunId := TunId.t0;
    let u := s.tun x;
    let v : Word := 0x88000003;
    (u.svc.hold = .none_) ∧
    (u.svc.state ≠ .off) ∧
    (u.hyd.ringValid = false) ∧
    (v.getLsbD 31 = true) ∧
    (ringRange u.hyd.ringAddr (v.extractLsb' 24 5) (v.extractLsb' 0 11) = true)) ∧
  (let s : State := at0 (hydT {});
    let x : TunId := TunId.t0;
    let u := s.tun x;
    let v : Word := 0x800000BF;
    (u.svc.hold = .none_) ∧
    (u.svc.state ≠ .off) ∧
    ((v.extractLsb' 0 10).toNat < 192)) ∧
  (let s : State := at0 (hydT { ringEn := true, ringValid := true, ringLog2 := 8, left := [rec1] });
    let x : TunId := TunId.t0;
    let u := s.tun x;
    (u.counts = true) ∧
    (u.roundDue = true) ∧
    (u.hyd.left ≠ [])) ∧
  (let s : State := at0 (hydT { ringEn := true, ringValid := true, ringLog2 := 8 });
    let x : TunId := TunId.t0;
    let u := s.tun x;
    (u.counts = true) ∧
    (u.roundDue = true) ∧
    (u.hyd.left = []) ∧
    (u.hyd.exportEn = false) ∧
    (u.hyd.ringEn = true) ∧
    (u.hyd.ringValid = true) ∧
    (u.hyd.ringInt = false)) ∧
  (let s : State := at0 (hydT { ringEn := true, ringValid := true, ringLog2 := 8, left := [rec1], onRing := true, tail := 5 });
    let x : TunId := TunId.t0;
    let u := s.tun x;
    let r := rec1;
    (u.counts = true) ∧
    (u.hyd.left = [r]) ∧
    (u.hyd.onInband = false) ∧
    (u.hyd.onRing = true) ∧
    (u.hyd.ringInt = false) ∧
    (u.hyd.dropping = false) ∧
    ((u.hyd.tail - u.hyd.head).toNat ≠ u.hyd.ringDepth - 1) ∧
    (u.hostReach 0 = true) ∧
    (u.host.lost = false)) :=
  by decide +kernel


end B10

namespace C2

def gl : Packet → Packet := id
def dbQ : Packet := pktOf 0x09 0 [1, 0, 0xF4, 0xFF]
def epRing : Ring := { r1 with endpoint := true, dest := 3 }
def bmR : Bm := { queues := ⟨[(1, q1)]⟩, rings := ⟨[(1, epRing)]⟩, ctxs := ⟨[(5, ctx5)]⟩ }
def dbR : Packet := pktOf 0x09 0 [1, 0x80, 2, 0]
def strT : Tun := { tunS bm1 with token := { streams := ⟨[(3, { ctx := 5, isOpen := true, head := 0xFFFFFFFE, tail := 3 })]⟩ } }
def adm (op : Byte) (ops : List Byte) : Cmd := cmdOf op.toNat (descOf op [] ops)
def schOf (sc : Sched) (cs : List Cmd) : State := at0 { tunS { cmds := cs } with sched := sc }
def pend : Sched := { loading := some .reg, loadSrc := 0x4000 }
def armd : Sched := { plane := .armed, startBrew := some 100, shadowValid := true, shadow := some {} }

theorem witness_ProducerDoorbellTable :
  (let s : State := bmS bm1;
    let x : TunId := TunId.t0;
    let u := s.tun x;
    let q : BitVec 10 := 1;
    (WindowOpen u) ∧
    ((u.queue q.toNat).valid = true)) ∧
  (let s : State := bmS bm1;
    let x : TunId := TunId.t0;
    let u := s.tun x;
    let p : Packet := dbQ;
    let w : Word := BitVec.ofNat 32 (leAt p.payload 0 4);
    let q := (w.extractLsb' 0 10).toNat;
    (Reaches u 0x09 p) ∧
    (p.poison = false) ∧
    (p.payload.length = 4) ∧
    (w.getLsbD 15 = false) ∧
    (q ≠ 0) ∧
    ((u.queue q).valid = true) ∧
    ((u.queue q).endpointSubmit = true) ∧
    ((u.queue q).ctx = p.ctx)) :=
  by delta Reaches; delta WindowOpen; decide +kernel


theorem witness_HeadDoorbellRule :
  (let s : State := bmS bm1;
    let x : TunId := TunId.t0;
    let u := s.tun x;
    let r : BitVec 10 := 1;
    (WindowOpen u) ∧
    ((u.ring r.toNat).valid = true)) ∧
  (let s : State := bmS bmR;
    let x : TunId := TunId.t0;
    let u := s.tun x;
    let p : Packet := dbR;
    let w : Word := BitVec.ofNat 32 (leAt p.payload 0 4);
    let r := (w.extractLsb' 0 10).toNat;
    (Reaches u 0x09 p) ∧
    (p.poison = false) ∧
    (u.bm.cmds = []) ∧
    (p.payload.length = 4) ∧
    (w.getLsbD 15 = true) ∧
    ((u.ring r).valid = true) ∧
    ((u.ring r).endpoint = true) ∧
    ((u.ring r).dest = p.srcEp)) :=
  by delta Reaches; delta WindowOpen; decide +kernel


theorem witness_StreamHeadRule :
  (let s : State := at0 strT;
    let x : TunId := TunId.t0;
    let n : BitVec 8 := 3;
    let i : Word := 3;
    let u := s.tun x;
    let k := u.tstream n.toNat;
    let d := (i - k.head).toNat;
    let a := (k.tail - k.head).toNat;
    (WindowOpen u) ∧
    (k.isOpen = true) ∧
    (1 ≤ d) ∧
    (d ≤ a)) ∧
  (let s : State := at0 strT;
    let x : TunId := TunId.t0;
    let n : BitVec 8 := 3;
    let i : Word := 4;
    let u := s.tun x;
    let k := u.tstream n.toNat;
    let d := (i - k.head).toNat;
    let a := (k.tail - k.head).toNat;
    (WindowOpen u) ∧
    (k.isOpen = true) ∧
    (a + 1 ≤ d) ∧
    (d ≤ 2 ^ 31 - 1)) ∧
  (let s : State := at0 strT;
    let x : TunId := TunId.t0;
    let n : BitVec 8 := 3;
    let i : Word := 0x7FFFFFFE;
    let u := s.tun x;
    let k := u.tstream n.toNat;
    let d := (i - k.head).toNat;
    let a := (k.tail - k.head).toNat;
    (WindowOpen u) ∧
    (k.isOpen = true) ∧
    (a + 1 ≤ d) ∧
    (2 ^ 31 ≤ d)) ∧
  (let s : State := at0 strT;
    let x : TunId := TunId.t0;
    let n : BitVec 8 := 3;
    let i : Word := 0xFFFFFFFE;
    let u := s.tun x;
    let k := u.tstream n.toNat;
    let d := (i - k.head).toNat;
    (WindowOpen u) ∧
    (k.isOpen = true) ∧
    (d = 0)) ∧
  (let s : State := at0 strT;
    let x : TunId := TunId.t0;
    let n : BitVec 8 := 3;
    let u := s.tun x;
    let k := u.tstream n.toNat;
    let f : TStream → TStream := (fun k : TStream => { k with head := 3 });
    (WindowOpen u) ∧
    (k.isOpen = true) ∧
    (f k ≠ {})) ∧
  (let s : State := at0 strT;
    let x : TunId := TunId.t0;
    let n : BitVec 8 := 3;
    let u := s.tun x;
    let k := u.tstream n.toNat;
    let f : TStream → TStream := (fun k : TStream => { k with head := 3 });
    let m := 4;
    (WindowOpen u) ∧
    (k.isOpen = true) ∧
    (f k ≠ {}) ∧
    (m ≠ n.toNat)) :=
  by delta WindowOpen; decide +kernel


theorem witness_ContextConflicts :
  (let s : State := cmdS (adm 0x11 [5]) { ctxs := ⟨[(5, ctx5)]⟩ };
    let x : TunId := TunId.t0;
    let c : Cmd := adm 0x11 [5];
    let u := s.tun x;
    let n := (byteAt c.desc 16).toNat;
    (Alone u c) ∧
    (u.serving = true) ∧
    (c.phase = .started) ∧
    (c.op = 0x11) ∧
    ((u.ctx n).state ≠ .defined ∨ u.ctxNamed n = true)) ∧
  (let s : State := cmdS (adm 0x11 [5]) { ctxs := ⟨[(5, { state := .defined, pkey := 7, share := 1 })]⟩ };
    let x : TunId := TunId.t0;
    let c : Cmd := adm 0x11 [5];
    let u := s.tun x;
    let n := (byteAt c.desc 16).toNat;
    (Alone u c) ∧
    (u.serving = true) ∧
    (c.phase = .started) ∧
    (c.op = 0x11) ∧
    ((u.ctx n).state = .defined) ∧
    (u.ctxNamed n = false) ∧
    (u.bm.ctxs.wf {} = true)) ∧
  (let s : State := cmdS (adm 0x14 [6]) bm1;
    let x : TunId := TunId.t0;
    let c : Cmd := adm 0x14 [6];
    (Alone (s.tun x) c) ∧
    ((s.tun x).serving = true) ∧
    (c.phase = .started) ∧
    (c.op = 0x14) ∧
    (((s.tun x).ctx (byteAt c.desc 16).toNat).state = .undefined)) :=
  by delta Alone; decide +kernel


theorem witness_PlaneRefusals :
  (let s : State := schOf pend [];
    let x : TunId := TunId.t0;
    let u := s.tun x;
    let pending := u.sched.loading.isSome = true;
    (WindowOpen u) ∧
    (u.svc.state ≠ .fenced) ∧
    (u.rack.gensel = true) ∧
    (pending)) ∧
  (let s : State := schOf armd [];
    let x : TunId := TunId.t0;
    let u := s.tun x;
    let armed := (u.sched.plane = .armed ∨ u.sched.plane = .stopping) ∧ u.sched.startBrew.isSome = true;
    (WindowOpen u) ∧
    (u.svc.state ≠ .fenced) ∧
    (u.rack.gensel = true) ∧
    (u.sched.loading = none) ∧
    (armed)) ∧
  (let s : State := schOf pend [adm 0x20 [0, 1]];
    let x : TunId := TunId.t0;
    let u := s.tun x;
    let pending := u.sched.loading.isSome = true;
    let c : Cmd := adm 0x20 [0, 1];
    (Alone u c) ∧
    (u.serving = true) ∧
    (c.phase = .started) ∧
    (c.op = 0x20) ∧
    (u.sched.loading ≠ some (.cmd c.id)) ∧
    (u.sched.starter ≠ .cmd c.id) ∧
    (pending)) ∧
  (let s : State := schOf armd [adm 0x20 [0, 1]];
    let x : TunId := TunId.t0;
    let u := s.tun x;
    let armed := (u.sched.plane = .armed ∨ u.sched.plane = .stopping) ∧ u.sched.startBrew.isSome = true;
    let c : Cmd := adm 0x20 [0, 1];
    (Alone u c) ∧
    (u.serving = true) ∧
    (c.phase = .started) ∧
    (c.op = 0x20) ∧
    (u.sched.loading ≠ some (.cmd c.id)) ∧
    (u.sched.starter ≠ .cmd c.id) ∧
    (u.sched.loading = none) ∧
    (armed)) ∧
  (let s : State := schOf { shadowValid := true, shadow := some {} } [];
    let x : TunId := TunId.t0;
    let u := s.tun x;
    (WindowOpen u) ∧
    (u.rack.gensel = true) ∧
    (u.sched.startBrew = none)) ∧
  (let s : State := schOf armd [];
    let x : TunId := TunId.t0;
    let u := s.tun x;
    let armed := (u.sched.plane = .armed ∨ u.sched.plane = .stopping) ∧ u.sched.startBrew.isSome = true;
    (WindowOpen u) ∧
    (u.rack.gensel = true) ∧
    (armed)) ∧
  (let s : State := schOf { shadowValid := true, shadow := some {} } [adm 0x23 []];
    let x : TunId := TunId.t0;
    let u := s.tun x;
    let c : Cmd := adm 0x23 [];
    (Alone u c) ∧
    (u.serving = true) ∧
    (c.phase = .started) ∧
    (c.op = 0x23) ∧
    (u.sched.loading ≠ some (.cmd c.id)) ∧
    (u.sched.starter ≠ .cmd c.id) ∧
    (u.sched.startBrew = none)) ∧
  (let s : State := schOf armd [adm 0x23 []];
    let x : TunId := TunId.t0;
    let u := s.tun x;
    let armed := (u.sched.plane = .armed ∨ u.sched.plane = .stopping) ∧ u.sched.startBrew.isSome = true;
    let c : Cmd := adm 0x23 [];
    (Alone u c) ∧
    (u.serving = true) ∧
    (c.phase = .started) ∧
    (c.op = 0x23) ∧
    (u.sched.loading ≠ some (.cmd c.id)) ∧
    (u.sched.starter ≠ .cmd c.id) ∧
    (armed)) :=
  by delta Alone; delta WindowOpen; decide +kernel


theorem witness_RoundSkipped :
  (let s : State := at0 { fullTun with hyd := { ringEn := true, ringValid := true, ringLog2 := 8, left := [List.replicate 32 7], roundSkipped := 0xFF }, sched := { counting := true, brew := 100 } };
    let x : TunId := TunId.t0;
    ((s.tun x).counts = true) ∧
    ((s.tun x).roundDue = true) ∧
    ((s.tun x).hyd.left ≠ [])) :=
  by decide +kernel


theorem witness_RawPathReplies :
  (let s : State := busS { serving := true } {};
    let p : RawPath := RawPath.sb .sb1;
    let a := 0x38;
    (s.serves p a = true) ∧
    ((s.raw p).accepted = false)) ∧
  (let s : State := busS { serving := true } { raws := ⟨[(1, { accepted := true, busy := true })]⟩ };
    let p : RawPath := RawPath.sb .sb1;
    let a := 0x38;
    let pec : Option Bool := (some true : Option Bool);
    (s.serves p a = true) ∧
    ((s.raw p).busy = true) ∧
    (pec ≠ some false)) :=
  by decide +kernel


end C2

namespace C3

def proxT : State := at0 { tunS {} with proxy := { busy := true } }
def locM : Malt := { alive := true }
def locHeld (obj : Byte) (pl : List Byte) : Held := ⟨.raw (.sb .sb1), ⟨1, 0x40, obj, pl⟩, 0⟩
def locS (obj : Byte) (pl : List Byte) (m : Malt) : State := busS { serving := true } { m with windows := [⟨.object obj, [locHeld obj pl]⟩] }
def sigC : Cmd := { cmdOf 0 (descOf 0 [0, 2, 0, 0, 0, 0x40] []) with phase := .staged, ctx := 5, queue := 1 }
def semS (z : Sem) : State := bmS { bm1 with cmds := [sigC], sems := ⟨[(4, z)]⟩ }
def respP : Packet := { pktOf 0x03 0 [1, 2, 3, 4] with tag := 0x1001 }
def exS (h : Hyd) : State := at0 { fullTun with hyd := h, sched := { counting := true, brew := 100 } }
def fullLog : List LogRec := List.replicate 1024 ⟨0, 0, 0, 0, 0, 0, []⟩

theorem witness_ResetNeedsKey :
  (let v : Word := 0xA5C20003;
    (v.extractLsb' 16 16 ≠ 0xA5C3)) :=
  by decide +kernel


theorem witness_ColdOverWarm :
  (let s : State := at0 fullTun;
    let x : TunId := TunId.t0;
    let p : Path := Path.inband;
    let v : Word := 0xA5C3FFFF;
    ((s.tun x).pathAnswers p = true) ∧
    (v.extractLsb' 16 16 = 0xA5C3) ∧
    (v.getLsbD 1 = true) ∧
    (v.getLsbD 0 = true)) :=
  by decide +kernel


theorem witness_ProxyBusy :
  (let s : State := proxT;
    let x : TunId := TunId.t0;
    let p : Path := Path.pcie;
    let v : Word := 1;
    (WindowOpen (s.tun x)) ∧
    ((s.tun x).pathAnswers p = true) ∧
    (p ≠ .sideband) ∧
    ((s.tun x).proxy.busy = true) ∧
    (v.getLsbD 0 = true)) ∧
  (let s : State := proxT;
    let x : TunId := TunId.t0;
    let p : Path := Path.pcie;
    let k := 63;
    (WindowOpen (s.tun x)) ∧
    ((s.tun x).pathAnswers p = true) ∧
    (p ≠ .sideband) ∧
    ((s.tun x).proxy.busy = true) ∧
    (k < 64)) :=
  by delta WindowOpen; decide +kernel


theorem witness_LocateRules :
  (let s : State := up;
    (s.malt.alive = true) ∧
    (s.malt.locSeconds = 0)) ∧
  (let s : State := { malt := { alive := true, locSeconds := 2, locTray := true } };
    (s.malt.alive = true) ∧
    (1 < s.malt.locSeconds.toNat)) ∧
  (let s : State := { malt := { alive := true, locSeconds := 1, locTray := true } };
    (s.malt.alive = true) ∧
    (s.malt.locSeconds = 1)) ∧
  (let s : State := locS 0x25 [1, 5, 0] {};
    let o := WinObj.object 0x25;
    let h := locHeld 0x25 [1, 5, 0];
    (s.malt.alive = true) ∧
    (s.malt.windows = [⟨o, [h]⟩]) ∧
    (s.malt.executing = []) ∧
    (h.req.op = 0x40) ∧
    (objectOk 0x40 h.req.obj = some true) ∧
    (byteAt h.req.payload 0 = 1)) ∧
  (let s : State := locS 0 [0, 5, 0] { locTray := true };
    let o := WinObj.object 0;
    let h := locHeld 0 [0, 5, 0];
    (s.malt.alive = true) ∧
    (s.malt.windows = [⟨o, [h]⟩]) ∧
    (s.malt.executing = []) ∧
    (h.req.op = 0x40) ∧
    (objectOk 0x40 h.req.obj = some true) ∧
    (byteAt h.req.payload 0 = 0)) ∧
  (let s : State := busS { serving := true } {};
    let p := RawPath.sb .sb1;
    let a := 0x38;
    let frame := frameOf 0x40 0 [2, 5, 0];
    let q := rawReq (frameOf 0x40 0 [2, 5, 0]);
    (s.malt.alive = true) ∧
    (s.serves p a = true) ∧
    ((s.raw p).busy = false) ∧
    (parseReq frame = some q) ∧
    (q.op = 0x40) ∧
    (objectOk 0x40 q.obj = some true) ∧
    (3 ≤ q.payload.length) ∧
    (byteAt q.payload 0 ≠ 0) ∧
    (byteAt q.payload 0 ≠ 1)) ∧
  (let s : State := { now := 12800000000, malt := { alive := true, btnTime := some 0 } };
    (s.malt.alive = true) ∧
    ((∀ w, s.malt.btnTime = some w → 500 ≤ msSince s w)) ∧
    (s.malt.locating = false)) ∧
  (let s : State := { now := 12800000000, malt := { alive := true, btnTime := some 0, locBays := 1 } };
    (s.malt.alive = true) ∧
    ((∀ w, s.malt.btnTime = some w → 500 ≤ msSince s w)) ∧
    (s.malt.locating = true)) :=
  by decide +kernel


theorem witness_LogOverwrite :
  (let s : State := { malt := { alive := true, log := fullLog, logNext := 5 } };
    (s.malt.log.length = 1024)) ∧
  (let s : State := busS { serving := true } { windows := [⟨.object 0x30, [⟨.raw (.sb .sb1), ⟨1, 5, 0x30, []⟩, 0⟩]⟩], logNext := 3, log := List.replicate 3 ⟨0, 0, 0, 0, 0, 0, []⟩ };
    let o := WinObj.object 0x30;
    let h := (⟨.raw (.sb .sb1), ⟨1, 5, 0x30, []⟩, 0⟩ : Held);
    (s.malt.alive = true) ∧
    (s.malt.windows = [⟨o, [h]⟩]) ∧
    (s.malt.executing = []) ∧
    (h.req.op = 0x05)) :=
  by decide +kernel


theorem witness_PairingOutsidePlan :
  (let s : State := at0 fullTun;
    let x : TunId := TunId.t0;
    let v : Word := 0xFFFFFFFF;
    ((s.tun x).svc.state ≠ .off) ∧
    ((s.tun x).svc.hold ≠ .cold) ∧
    ((s.tun x).rack.plan ≠ 1) ∧
    (v.getLsbD 2 = true)) :=
  by decide +kernel


theorem witness_SemaphoreRelease :
  (let s : State := semS { mode := 1, holder := some 5 };
    let x : TunId := TunId.t0;
    let c : Cmd := sigC;
    let k : Nat := 4;
    let u := s.tun x;
    (u.bm.cmds = [c]) ∧
    (c.phase = .staged) ∧
    (u.serving = true) ∧
    (c.op = 0x00) ∧
    (c.effects = []) ∧
    (c.signalSem = some k) ∧
    ((u.sem k).mode = 1) ∧
    ((u.sem k).holder = some c.ctx)) ∧
  (let s : State := semS { mode := 1, holder := some 6 };
    let x : TunId := TunId.t0;
    let c : Cmd := sigC;
    let k : Nat := 4;
    let u := s.tun x;
    (u.bm.cmds = [c]) ∧
    (c.phase = .staged) ∧
    (u.serving = true) ∧
    (c.op = 0x00) ∧
    (c.effects = []) ∧
    (c.signalSem = some k) ∧
    ((u.sem k).mode = 1) ∧
    ((u.sem k).holder ≠ some c.ctx)) ∧
  (let s : State := semS { mode := 2, count := 0xFFFE };
    let x : TunId := TunId.t0;
    let c : Cmd := sigC;
    let k : Nat := 4;
    let u := s.tun x;
    (u.bm.cmds = [c]) ∧
    (c.phase = .staged) ∧
    (u.serving = true) ∧
    (c.op = 0x00) ∧
    (c.effects = []) ∧
    (c.signalSem = some k) ∧
    ((u.sem k).mode = 2) ∧
    ((u.sem k).count ≠ 0xFFFF)) ∧
  (let s : State := semS { mode := 2, count := 0xFFFF };
    let x : TunId := TunId.t0;
    let c : Cmd := sigC;
    let k : Nat := 4;
    let u := s.tun x;
    (u.bm.cmds = [c]) ∧
    (c.phase = .staged) ∧
    (u.serving = true) ∧
    (c.op = 0x00) ∧
    (c.effects = []) ∧
    (c.signalSem = some k) ∧
    ((u.sem k).mode = 2) ∧
    ((u.sem k).count = 0xFFFF)) :=
  by decide +kernel


theorem witness_LateReplies :
  (let s : State := bmS { bm1 with outstanding := [⟨1, 5, 0, none, 200, false⟩, ⟨2, 5, 1, none, 200, false⟩] };
    let x : TunId := TunId.t0;
    let p : Packet := respP;
    let ty : BitVec 6 := 3;
    let u := s.tun x;
    (Reaches u ty p) ∧
    ((ty = tyReadResp ∨ ty = tyAtomicResp)) ∧
    ((∀ o, o ∈ u.bm.outstanding → ¬ Answered p o))) ∧
  (let s : State := bmS { bm1 with outstanding := [⟨1, 5, 1, none, 200, false⟩] };
    let x : TunId := TunId.t0;
    let p : Packet := respP;
    let ty : BitVec 6 := 3;
    let u := s.tun x;
    let o := (⟨1, 5, 1, none, 200, false⟩ : OutReq);
    (Reaches u ty p) ∧
    ((ty = tyReadResp ∨ ty = tyAtomicResp)) ∧
    (u.bm.outstanding = [o]) ∧
    (Answered p o) ∧
    (o.cmd = none)) :=
  by delta Reaches; delta Answered; decide +kernel


theorem witness_NinthMctpRequest :
  (let s : State := busS { serving := true, eid := 9 } { mctpBusy := List.replicate 8 (.raw (.sb .sb0)) };
    let b : Bus := Bus.sb1;
    let frame : List Byte := [];
    (s.busServes b = true) ∧
    ((s.bus b).eid ≠ 0) ∧
    (5 + frame.length ≤ 1024) ∧
    (8 ≤ s.malt.mctpBusy.length)) ∧
  (let s : State := busS { serving := true, eid := 9 } { mctpBusy := List.replicate 7 (.raw (.sb .sb0)) };
    let b : Bus := Bus.sb1;
    let frame : List Byte := frameOf 0x05 0x30 [];
    let q := rawReq (frameOf 0x05 0x30 []);
    (s.busServes b = true) ∧
    ((s.bus b).eid ≠ 0) ∧
    (5 + frame.length ≤ 1024) ∧
    (s.malt.mctpBusy.length < 8) ∧
    (parseReq frame = some q) ∧
    (q.op = 0x05) ∧
    (q.obj = 0x30) ∧
    (s.malt.windows = [])) :=
  by decide +kernel


theorem witness_ExportSettings :
  (let s : State := exS {};
    let x : TunId := TunId.t0;
    let v : Word := 0x800000C0;
    let u := s.tun x;
    (u.svc.hold = .none_) ∧
    (u.svc.state ≠ .off) ∧
    (v.getLsbD 31 = true) ∧
    (192 ≤ (v.extractLsb' 0 10).toNat) ∧
    ((v.extractLsb' 0 10).toNat ≤ 255)) ∧
  (let s : State := exS { ringValid := true, ringLog2 := 8 };
    let x : TunId := TunId.t0;
    let u := s.tun x;
    let h := u.hyd;
    (u.svc.hold = .none_) ∧
    (u.svc.state ≠ .off) ∧
    (h.ringValid = true)) ∧
  (let s : State := exS { ringValid := true, ringLog2 := 8 };
    let x : TunId := TunId.t0;
    let v : Word := 0xFFFFFFFF;
    let u := s.tun x;
    let h := u.hyd;
    let onlyClears := v.getLsbD 31 = false ∧ v.getLsbD 30 = h.ringInt ∧ v.extractLsb' 24 5 = h.ringLog2 ∧ v.extractLsb' 0 11 = h.ringVector;
    (u.svc.hold = .none_) ∧
    (u.svc.state ≠ .off) ∧
    (h.ringValid = true) ∧
    (¬ onlyClears)) ∧
  (let s : State := exS { ringValid := true, ringInt := true, ringLog2 := 8, ringVector := 3 };
    let x : TunId := TunId.t0;
    let v : Word := 0x48000003;
    let u := s.tun x;
    let h := u.hyd;
    let onlyClears := v.getLsbD 31 = false ∧ v.getLsbD 30 = h.ringInt ∧ v.extractLsb' 24 5 = h.ringLog2 ∧ v.extractLsb' 0 11 = h.ringVector;
    (u.svc.hold = .none_) ∧
    (u.svc.state ≠ .off) ∧
    (h.ringValid = true) ∧
    (onlyClears)) ∧
  (let s : State := exS {};
    let x : TunId := TunId.t0;
    let v : Word := 0x87000003;
    let u := s.tun x;
    let h := u.hyd;
    (u.svc.hold = .none_) ∧
    (u.svc.state ≠ .off) ∧
    (h.ringValid = false) ∧
    (v.getLsbD 31 = true) ∧
    (((v.extractLsb' 24 5).toNat < 8 ∨ 16 < (v.extractLsb' 24 5).toNat ∨ 1024 ≤ (v.extractLsb' 0 11).toNat ∨ h.ringAddr.toNat % (2 ^ (v.extractLsb' 24 5).toNat * 32) ≠ 0))) ∧
  (let s : State := exS { exportEn := true, destValid := true, ringEn := true };
    let x : TunId := TunId.t0;
    let u := s.tun x;
    let h := u.hyd;
    (u.svc.hold = .none_) ∧
    (u.svc.state ≠ .off) ∧
    (u.counts = true) ∧
    (u.roundDue = true) ∧
    (h.left = [])) :=
  by decide +kernel


end C3

/-! ### Worked examples of the manual (its Bench notes) -/

/-- 01 after R20: an OT4-M Tun of stepping A0 at T2 of tray 5. -/
theorem test_identity : ({ col := .t2, asm := .m, rack := { row := 5 } } : Tun).identityWord = 0x0402A0FF := by decide +kernel

/-- 02 after R62: the keeper moved to row 1, column 2. -/
theorem test_rack_config : (match execRackConfigWrite .t0 0x9800 (at0 fullTun) with
    | .next t => (t.tun .t0).rackConfigWord | _ => 0) = 0x9803 := by decide +kernel

/-- 04 after R136: three writes of RACK_CONFIG in one management cycle. -/
theorem test_write_conflict : (match execRegisterWrite .t0 [⟨.pcie, 0x40, 4, 0x8800⟩, ⟨.inband, 0x40, 4, 0x9800⟩, ⟨.sideband, 0x40, 4, 0⟩]
      (at0 (tunS {})) with
    | .next t => ((t.tun .t0).rackConfigWord, (t.tun .t0).conflict.count) | _ => (0, 0)) = (3, 1) := by decide +kernel

/-- 04 after R131: the release of a warm reset at incarnation 0x3E with WARM_COUNT 2. -/
theorem test_reset_status : (match execWarmResetRelease .t0 (at0 { fullTun with svc := {
      state := .cold, hold := .warm, incarn := 0x3E, warmCount := 2, pendCause := 4 } }) with
    | .next t => (t.tun .t0).resetStatusWord | _ => 0) = 0x3F030040 := by decide +kernel

/-- 05 after R155: endpoint port 37 of a Tun at row 3, column 2 steps in round 4, and so do annex groups 3, 11, 19 and 27. -/
theorem test_step_round : let u : Tun := { col := .t2, asm := .b, rack := { row := 3 } }
    [37, 195, 203, 211, 219].map u.stepRoundOf = [4, 4, 4, 4, 4] := by decide +kernel

/-- 06 after R188: the CRC of a request to power off T2. -/
theorem test_frame_crc : crc16 [0x11, 0x01, 0x11, 0x12, 0, 0, 0, 0] = 0xECC5 := by decide +kernel

/-- 07 after R256: record 0x0123. -/
theorem test_log_record : (⟨0x0123, 3, 0x11, 0x0030, 2, 86400123, logData [1, 1, 0]⟩ : LogRec).bytes =
    [0x23, 0x01, 0x03, 0x11, 0x30, 0x00, 0x00, 0x00, 0x02, 0x00, 0x7B, 0x5C, 0x26, 0x05, 0x00, 0x00, 0x01, 0x01, 0x00] ++ List.replicate 13 0 := by
  decide +kernel

/-- 09 after R299: the first flit of a SLATE packet. -/
theorem test_flit_header : ({ incarn := 0x3F, fseq := 0x123, ackseq := 0x0FE, ackValid := true, cls := 3, ftype := 2, svc := 3 } : Flit).header
    false = 0x3F1230FE98980000 := by decide +kernel

/-- 10 after R355: words 0 to 2 of a WRITE from endpoint 5 to endpoint 37. -/
theorem test_packet_header : ({
      type := 1, cls := 3, channel := 2, dst := 0x25, srcEp := 5, addr := 0x80000000, incarn := 7, seq := 0x100,
      pkey := 0x2A17, len := 0x1000 } : Packet).header.take 30 =
    [0x81, 0x13, 0x00, 0x50, 0x02, 0x05, 0x00, 0x00, 0x00, 0x00, 0x00, 0x80, 0x00, 0x00, 0x00, 0x00, 0x17, 0x2A, 0x00, 0x01, 0x00, 0x00, 0x00, 0x07,
     0x00, 0x10, 0x00, 0x00, 0x00, 0x00] := by decide +kernel

/-- 12 after R478: the circuit record of the Bench note's example, its fields where the table has them (the note's own sum has OUT four bits
higher). -/
theorem test_circuit_record : let w : Dword := 0x12C0088A82A40000
    (cirSlot w, cirKind w, cirIn w, cirOut w, cirPeer w, cirPackets w) = (1200, 0, 17, 42, 42, 1) := by decide +kernel

/-- 13 after R507: a doorbell with index 0x0030 on a queue that holds 208 descriptors is clipped. -/
theorem test_doorbell_clipped : (match execQueueDoorbell .t0 1 0x30 (bmS { bm1 with queues := ⟨[(1, { q1 with log2 := 8, p := 0xFFF0, c := 0xFF20 })]⟩ }) with
    | .next t => (((t.tun .t0).queue 1).p, ((t.tun .t0).queue 1).overrun) | _ => (0, false)) = (0x001F, true) := by decide +kernel

/-- 15 after R588: 10 granules over 32 Tuns. -/
theorem test_stripe : [0, 9, 10, 31].map (stripeOf 10 32) = [(0, 1), (9, 1), (10, 0), (10, 0)] := by decide +kernel

/-- 15 after R591: 0.3125 and 470 in E4M3 and E5M2. -/
theorem test_formats : (elemOut 3 0x3EA00000, elemOut 4 0x3EA00000, elemOut 3 0x43EB0000, elemIn 4 (elemOut 4 0x43EB0000)) =
    ([0x2A], [0x35], [0x7E], 0x43E00000) := by decide +kernel

/-- 15 after R601: the address of a signal. -/
theorem test_signal_address : groupAddr 0x2A5 3 1 17 0 = 0x2A50341100000000 := by decide +kernel

/-! ### The queue -/

theorem test_step_takes_the_front : (match step { State.reset with pending := [.locateSecondTick, .mainPathClose] } with
    | .next t => (t.pending, t.now) | _ => ([], 1)) = ([.mainPathClose], 0) := by decide +kernel

theorem test_no_word_spells_a_command : decodeTableWord 32 0 = none := rfl

/-! ### Operand ranges: one term outside each -/

theorem test_wf_refuses : [
    Instr.registerWrite .t0 [⟨.pcie, 0x40, 9, 0⟩], .registerWrite .t0 [⟨.pcie, 0xFFFFFC, 8, 0⟩], .registerWrite .t0 [], .railFault .t0 8 0, .pmbusPoll .t0 0 [{ rail := 0 }] none,
    .kegLatched 6, .maltsterReevaluate ⟨false, ⟨false, false, false, false⟩, []⟩,
    .caskTrainingDone .t0 (List.replicate 9 0), .rawFrameReceive ⟨.sb .sb0, 0x38⟩ (List.replicate 257 0) none, .tunRegRead (.raw (.sb .sb0)) 0 .t0 2 1,
    .updateComponent .sb0 65536 0, .requestUpdate .sb0 4294967296, .portEnable .t0 230, .flitReceive .t0 0 [] false {}, .outputAward .t0 [512],
    .circuitPacketArrive .t0 0 {} 1 0, .descriptorFetch .t0 0 [0], .stackOffline .t0 0 5, .hostLinkTrain .t0 ⟨0, 0, 0⟩ 7 16 true,
    .hostDirectedRetrain .t0 ⟨0, 0, 0⟩ 6 3 true, .vfFlr .t0 17, .vfDoorbellWrite .t0 1 0 3 0, .vfBar2Write .t0 1 536870912 [0], .pfWortWindowWrite .t0 0 [],
    .msixUnmask .t0 17 0 false, .errorDetect .t0 10 0 {}, .spargeScrub .t0 none 1 [(1, true)], .junctionTempSample .t0 [], .cringCfgWrite .t0 3 0,
    .fenceReceive .t0 0 0 2, .delayProbeReceive .t0 0 8 0].all (fun i => !i.wf) = true := by decide +kernel

theorem test_wf_refuses_rom : (Instr.kegPresenceAsserted 0 (some (List.replicate 4097 0))).wf = false := by
  have h : romOk (some (List.replicate 4097 0)) = false := by simp only [romOk, List.length_replicate]; rfl
  exact (congrArg (bayOk 0 && ·) h).trans rfl

end Sys2Proof.Tests
end

section
/-! SUPPORT. The frame of every operation on one Tun: which parts of the Tun it can change. An operation `f` that reaches only the parts of
a set keeps each other part, and the lemma `Tun.same_f` says it so that `simp` can peel `f` off: compared with any Tun `u`, `f t` has the
part of `u` when `t` has. The lemmas stand in the order of the sets, the smaller first, so that each finds those of the operations it
calls. `↓` has `simp` meet the outermost operation first and leave its operands alone. -/

namespace Sys2Proof.Machine
open Sys2Proof

section
variable {part : Part} {u t : Tun}

/-! ### Keeping a part -/

@[simp] theorem Part.same_self : part.same t t := by cases part <;> rfl

/-- What keeps a part compares with any Tun as its argument does. -/
theorem Part.same_congr {v : Tun} (h : part.same t v) : part.same u v ↔ part.same u t := by
  cases part <;> simp_all [Part.same]

@[simp ↓] theorem Part.same_ite (c : Prop) [Decidable c] (a b : Tun) :
    part.same u (if c then a else b) ↔ if c then part.same u a else part.same u b := by split <;> rfl

/-- A fold keeps what each of its steps keeps. -/
@[simp ↓] theorem Part.same_foldl {α : Type} {f : Tun → α → Tun} (l : List α) (h : ∀ t a, part.same t (f t a)) :
    part.same u (l.foldl f t) ↔ part.same u t := by
  induction l generalizing t with
  | nil => rfl
  | cons a l ih => exact ih.trans (Part.same_congr (h t a))

/-! ### One part written -/

@[simp ↓] theorem Part.same_with_svc (h : part ≠ .svc) (x : Svc) : part.same u { t with svc := x } ↔ part.same u t := by
  cases part <;> simp_all [Part.same]
@[simp ↓] theorem Part.same_with_clk (h : part ≠ .clk) (x : Clk) : part.same u { t with clk := x } ↔ part.same u t := by
  cases part <;> simp_all [Part.same]
@[simp ↓] theorem Part.same_with_rack (h : part ≠ .rack) (x : Rack) : part.same u { t with rack := x } ↔ part.same u t := by
  cases part <;> simp_all [Part.same]
@[simp ↓] theorem Part.same_with_conflict (h : part ≠ .conflict) (x : Conflict) : part.same u { t with conflict := x } ↔ part.same u t := by
  cases part <;> simp_all [Part.same]
@[simp ↓] theorem Part.same_with_proxy (h : part ≠ .proxy) (x : Proxy) : part.same u { t with proxy := x } ↔ part.same u t := by
  cases part <;> simp_all [Part.same]
@[simp ↓] theorem Part.same_with_ports (h : part ≠ .ports) (x : Tab Port) : part.same u { t with ports := x } ↔ part.same u t := by
  cases part <;> simp_all [Part.same]
@[simp ↓] theorem Part.same_with_plane (h : part ≠ .plane) (x : Plane) : part.same u { t with plane := x } ↔ part.same u t := by
  cases part <;> simp_all [Part.same]
@[simp ↓] theorem Part.same_with_hyd (h : part ≠ .hyd) (x : Hyd) : part.same u { t with hyd := x } ↔ part.same u t := by
  cases part <;> simp_all [Part.same]
@[simp ↓] theorem Part.same_with_sched (h : part ≠ .sched) (x : Sched) : part.same u { t with sched := x } ↔ part.same u t := by
  cases part <;> simp_all [Part.same]
@[simp ↓] theorem Part.same_with_bm (h : part ≠ .bm) (x : Bm) : part.same u { t with bm := x } ↔ part.same u t := by
  cases part <;> simp_all [Part.same]
@[simp ↓] theorem Part.same_with_mash (h : part ≠ .mash) (x : Mash) : part.same u { t with mash := x } ↔ part.same u t := by
  cases part <;> simp_all [Part.same]
@[simp ↓] theorem Part.same_with_cellar (h : part ≠ .cellar) (x : Cellar) : part.same u { t with cellar := x } ↔ part.same u t := by
  cases part <;> simp_all [Part.same]
@[simp ↓] theorem Part.same_with_token (h : part ≠ .token) (x : Token) : part.same u { t with token := x } ↔ part.same u t := by
  cases part <;> simp_all [Part.same]
@[simp ↓] theorem Part.same_with_host (h : part ≠ .host) (x : HPort) : part.same u { t with host := x } ↔ part.same u t := by
  cases part <;> simp_all [Part.same]
@[simp ↓] theorem Part.same_with_err (h : part ≠ .err) (x : Err) : part.same u { t with err := x } ↔ part.same u t := by
  cases part <;> simp_all [Part.same]
@[simp ↓] theorem Part.same_with_rel (h : part ≠ .rel) (x : Rel) : part.same u { t with rel := x } ↔ part.same u t := by
  cases part <;> simp_all [Part.same]
@[simp ↓] theorem Part.same_with_junction (h : part ≠ .junction) (x : Junction) : part.same u { t with junction := x } ↔ part.same u t := by
  cases part <;> simp_all [Part.same]
@[simp ↓] theorem Part.same_with_out (h : part ≠ .out) (x : List TunEmit) : part.same u { t with out := x } ↔ part.same u t := by
  cases part <;> simp_all [Part.same]
@[simp ↓] theorem Part.same_with_svc_clk (h : part ≠ .svc ∧ part ≠ .clk) (x : Svc) (y : Clk) :
    part.same u { t with svc := x, clk := y } ↔ part.same u t := by
  cases part <;> simp_all [Part.same]

/-! ### What only a continuation changes -/

@[simp ↓] theorem Tun.same_openWrite (f : Tun → Tun) (hf : ∀ t, part.same t (f t)) : part.same u (t.openWrite f) ↔ part.same u t := by
  simp [Tun.openWrite, Part.same_congr (hf t)]
@[simp ↓] theorem Tun.same_setUp (f : Tun → Tun) (hf : ∀ t, part.same t (f t)) : part.same u (t.setUp f) ↔ part.same u t := by
  simp [Tun.setUp, Part.same_congr (hf t)]

/-! ### The service state -/

section
variable (h : part ≠ .svc)
include h

@[simp ↓] theorem Tun.same_windowWrite (f : Tun → Tun) (hf : ∀ t, part.same t (f t)) : part.same u (t.windowWrite f) ↔ part.same u t := by
  simp [Tun.windowWrite, h, Part.same_congr (hf t)]
@[simp ↓] theorem Tun.same_alignComplete : part.same u t.alignComplete ↔ part.same u t := by simp [Tun.alignComplete, h]
@[simp ↓] theorem Tun.same_beginTraining : part.same u t.beginTraining ↔ part.same u t := by simp [Tun.beginTraining, h]
@[simp ↓] theorem Tun.same_beginAlign : part.same u t.beginAlign ↔ part.same u t := by simp [Tun.beginAlign, h]
@[simp ↓] theorem Tun.same_nextStage : part.same u t.nextStage ↔ part.same u t := by simp [Tun.nextStage, h]
@[simp ↓] theorem Tun.same_alignTimeout : part.same u t.alignTimeout ↔ part.same u t := by simp [Tun.alignTimeout, h]
@[simp ↓] theorem Tun.same_refuse : part.same u t.refuse ↔ part.same u t := by simp [Tun.refuse, h]
@[simp ↓] theorem Tun.same_request (f : Tun → Tun) (hf : ∀ t, part.same t (f t)) : part.same u (t.request f) ↔ part.same u t := by
  simp [Tun.request, h, Part.same_congr (hf t)]
@[simp ↓] theorem Tun.same_retryCask : part.same u t.retryCask ↔ part.same u t := by simp [Tun.retryCask, h]
@[simp ↓] theorem Tun.same_setStayPale (v : Bool) : part.same u (t.setStayPale v) ↔ part.same u t := by simp [Tun.setStayPale, h]
@[simp ↓] theorem Tun.same_drainDoneEvent : part.same u t.drainDoneEvent ↔ part.same u t := by simp [Tun.drainDoneEvent, h]
@[simp ↓] theorem Tun.same_drainTimeoutEvent : part.same u t.drainTimeoutEvent ↔ part.same u t := by simp [Tun.drainTimeoutEvent, h]
@[simp ↓] theorem Tun.same_gateWrite (off : Nat) (f : Tun → Tun) (hf : ∀ t, part.same t (f t)) :
    part.same u (t.gateWrite off f) ↔ part.same u t := by
  simp [Tun.gateWrite, h, Part.same_congr (hf t)]
@[simp ↓] theorem Tun.same_rowWrite (off : Nat) (f : Tun → Tun) (hf : ∀ t, part.same t (f t)) :
    part.same u (t.rowWrite off f) ↔ part.same u t := by
  simp [Tun.rowWrite, h, hf]

end

/-! ### The clocks -/

@[simp ↓] theorem Tun.same_holdoverEnd (h : part ≠ .clk) : part.same u t.holdoverEnd ↔ part.same u t := by simp [Tun.holdoverEnd, h]

/-! ### The conflict record -/

@[simp ↓] theorem Tun.same_conflictClear (h : part ≠ .conflict) : part.same u t.conflictClear ↔ part.same u t := by
  simp [Tun.conflictClear, h]

/-! ### The proxy -/

section
variable (h : part ≠ .proxy)
include h

@[simp ↓] theorem Tun.same_proxyAnswer (bs : List Byte) : part.same u (t.proxyAnswer bs) ↔ part.same u t := by simp [Tun.proxyAnswer, h]
@[simp ↓] theorem Tun.same_proxyFail : part.same u t.proxyFail ↔ part.same u t := by simp [Tun.proxyFail, h]

end

/-! ### The ports -/

section
variable (h : part ≠ .ports)
include h

@[simp ↓] theorem Tun.same_modPort (id : Nat) (f : Port → Port) : part.same u (t.modPort id f) ↔ part.same u t := by simp [Tun.modPort, h]
@[simp ↓] theorem Tun.same_latchTraining (id : Nat) : part.same u (t.latchTraining id) ↔ part.same u t := by simp [Tun.latchTraining, h]
@[simp ↓] theorem Tun.same_modPorts (f : Port → Port) : part.same u (t.modPorts f) ↔ part.same u t := by simp [Tun.modPorts, h]
@[simp ↓] theorem Tun.same_replayWindow (id : Nat) (oneSecond : Bool) : part.same u (t.replayWindow id oneSecond) ↔ part.same u t := by
  simp [Tun.replayWindow, h]
@[simp ↓] theorem Tun.same_portInject (id : Nat) : part.same u (t.portInject id) ↔ part.same u t := by simp [Tun.portInject, h]
@[simp ↓] theorem Tun.same_delayEcho (id probe t1 t2 t3 t4 : Nat) : part.same u (t.delayEcho id probe t1 t2 t3 t4) ↔ part.same u t := by
  simp [Tun.delayEcho, h]
@[simp ↓] theorem Tun.same_delayTimeout (id : Nat) : part.same u (t.delayTimeout id) ↔ part.same u t := by simp [Tun.delayTimeout, h]
@[simp ↓] theorem Tun.same_napReceive (id : Nat) : part.same u (t.napReceive id) ↔ part.same u t := by simp [Tun.napReceive, h]

end

/-! ### The packet plane -/

section
variable (h : part ≠ .plane)
include h

@[simp ↓] theorem Tun.same_ringLinkDown (now id : Nat) : part.same u (t.ringLinkDown now id) ↔ part.same u t := by
  simp [Tun.ringLinkDown, h]
@[simp ↓] theorem Tun.same_takeSeq (dst ch : Nat) : part.same u (t.takeSeq dst ch).2 ↔ part.same u t := by simp [Tun.takeSeq, h]
@[simp ↓] theorem Tun.same_recordDeparture (now subject : Nat) : part.same u (t.recordDeparture now subject) ↔ part.same u t := by
  simp [Tun.recordDeparture, h]
@[simp ↓] theorem Tun.same_putBack (hold : HoldRef) (w v : Waiting) : part.same u (t.putBack hold w v) ↔ part.same u t := by
  unfold Tun.putBack; split <;> simp [h]
@[simp ↓] theorem Tun.same_writePkeyLow (i : Nat) (v : Word) : part.same u (t.writePkeyLow i v) ↔ part.same u t := by
  simp [Tun.writePkeyLow, h]
@[simp ↓] theorem Tun.same_writePkeyHigh (i : Nat) (v : Word) : part.same u (t.writePkeyHigh i v) ↔ part.same u t := by
  simp [Tun.writePkeyHigh, h]
@[simp ↓] theorem Tun.same_writeRankDesc (i : Nat) (v : Word) : part.same u (t.writeRankDesc i v) ↔ part.same u t := by
  simp [Tun.writeRankDesc, h]
@[simp ↓] theorem Tun.same_writeRankData (v : Word) : part.same u (t.writeRankData v) ↔ part.same u t := by simp [Tun.writeRankData, h]
@[simp ↓] theorem Tun.same_writeRouteData (v : Word) : part.same u (t.writeRouteData v) ↔ part.same u t := by simp [Tun.writeRouteData, h]
@[simp ↓] theorem Tun.same_modPlane (f : Plane → Plane) : part.same u (t.modPlane f) ↔ part.same u t := by simp [Tun.modPlane, h]
@[simp ↓] theorem Tun.same_vorlaufApply : part.same u t.vorlaufApply ↔ part.same u t := by simp [Tun.vorlaufApply, h]
@[simp ↓] theorem Tun.same_releaseLanding (id i : Nat) : part.same u (t.releaseLanding id i) ↔ part.same u t := by
  unfold Tun.releaseLanding; split <;> simp [h]

end

/-! ### Hydrometer -/

section
variable (h : part ≠ .hyd)
include h

@[simp ↓] theorem Tun.same_bumpBy (g c i n : Nat) : part.same u (t.bumpBy g c i n) ↔ part.same u t := by simp [Tun.bumpBy, h]
@[simp ↓] theorem Tun.same_bump (g c i : Nat) : part.same u (t.bump g c i) ↔ part.same u t := by simp [Tun.bump, h]
@[simp ↓] theorem Tun.same_peak (g c i v : Nat) : part.same u (t.peak g c i v) ↔ part.same u t := by simp [Tun.peak, h]
@[simp ↓] theorem Tun.same_work (c : Cmd) (kind : List Nat) (n : Nat) : part.same u (t.work c kind n) ↔ part.same u t := by
  unfold Tun.work; split <;> simp [h]
@[simp ↓] theorem Tun.same_writeBack (src addr : Nat) : part.same u (t.writeBack src addr) ↔ part.same u t := by simp [Tun.writeBack, h]
@[simp ↓] theorem Tun.same_modHyd (f : Hyd → Hyd) : part.same u (t.modHyd f) ↔ part.same u t := by simp [Tun.modHyd, h]
@[simp ↓] theorem Tun.same_snapshot : part.same u t.snapshot ↔ part.same u t := by simp [Tun.snapshot, h]
@[simp ↓] theorem Tun.same_snapWrite : part.same u t.snapWrite ↔ part.same u t := by simp [Tun.snapWrite, h]
@[simp ↓] theorem Tun.same_hydLatch (p : Path) : part.same u (t.hydLatch p) ↔ part.same u t := by simp [Tun.hydLatch, h]
@[simp ↓] theorem Tun.same_hydHead (i : Half) : part.same u (t.hydHead i) ↔ part.same u t := by simp [Tun.hydHead, h]
@[simp ↓] theorem Tun.same_writeRingCfgHyd (v : Word) : part.same u (t.writeRingCfgHyd v) ↔ part.same u t := by
  simp [Tun.writeRingCfgHyd, h]
@[simp ↓] theorem Tun.same_writeHydConfig (reg : BitVec 2) (v : Word) : part.same u (t.writeHydConfig reg v) ↔ part.same u t := by
  simp [Tun.writeHydConfig, h]

end

/-! ### The scheduled plane -/

section
variable (h : part ≠ .sched)
include h

@[simp ↓] theorem Tun.same_modSched (f : Sched → Sched) : part.same u (t.modSched f) ↔ part.same u t := by simp [Tun.modSched, h]
@[simp ↓] theorem Tun.same_countForfeit (cause port slot : Nat) : part.same u (t.countForfeit cause port slot) ↔ part.same u t := by
  simp [Tun.countForfeit, h]
@[simp ↓] theorem Tun.same_storeFails : part.same u t.storeFails ↔ part.same u t := by simp [Tun.storeFails, h]
@[simp ↓] theorem Tun.same_planeDrain : part.same u t.planeDrain ↔ part.same u t := by simp [Tun.planeDrain, h]
@[simp ↓] theorem Tun.same_alignLost : part.same u t.alignLost ↔ part.same u t := by simp [Tun.alignLost, h]
@[simp ↓] theorem Tun.same_shareEnds : part.same u t.shareEnds ↔ part.same u t := by simp [Tun.shareEnds, h]
@[simp ↓] theorem Tun.same_alignLossEvent : part.same u t.alignLossEvent ↔ part.same u t := by simp [Tun.alignLossEvent, h]
@[simp ↓] theorem Tun.same_stepMiss : part.same u t.stepMiss ↔ part.same u t := by simp [Tun.stepMiss, h]
@[simp ↓] theorem Tun.same_armMismatch (bad : Bool) : part.same u (t.armMismatch bad) ↔ part.same u t := by simp [Tun.armMismatch, h]

end

/-! ### Brewmaster -/

section
variable (h : part ≠ .bm)
include h

@[simp ↓] theorem Tun.same_modBm (f : Bm → Bm) : part.same u (t.modBm f) ↔ part.same u t := by simp [Tun.modBm, h]
@[simp ↓] theorem Tun.same_modQueue (q : Nat) (f : Queue → Queue) : part.same u (t.modQueue q f) ↔ part.same u t := by
  simp [Tun.modQueue, h]
@[simp ↓] theorem Tun.same_modRing (r : Nat) (f : Ring → Ring) : part.same u (t.modRing r f) ↔ part.same u t := by simp [Tun.modRing, h]
@[simp ↓] theorem Tun.same_modCtx (c : Nat) (f : Ctx → Ctx) : part.same u (t.modCtx c f) ↔ part.same u t := by simp [Tun.modCtx, h]
@[simp ↓] theorem Tun.same_modSem (n : Nat) (f : Sem → Sem) : part.same u (t.modSem n f) ↔ part.same u t := by simp [Tun.modSem, h]
@[simp ↓] theorem Tun.same_modCmd (id : Nat) (f : Cmd → Cmd) : part.same u (t.modCmd id f) ↔ part.same u t := by simp [Tun.modCmd, h]
@[simp ↓] theorem Tun.same_removeCmd (id : Nat) : part.same u (t.removeCmd id) ↔ part.same u t := by simp [Tun.removeCmd, h]
@[simp ↓] theorem Tun.same_producerDoorbell (q : Nat) (i : Half) : part.same u (t.producerDoorbell q i) ↔ part.same u t := by
  simp [Tun.producerDoorbell, h]
@[simp ↓] theorem Tun.same_headDoorbell (r : Nat) (i : Half) : part.same u (t.headDoorbell r i) ↔ part.same u t := by
  simp [Tun.headDoorbell, h]
@[simp ↓] theorem Tun.same_wortSet (a : Nat) (b : Byte) : part.same u (t.wortSet a b) ↔ part.same u t := by simp [Tun.wortSet, h]
@[simp ↓] theorem Tun.same_shareWrite (c off : Nat) (bs : List Byte) : part.same u (t.shareWrite c off bs) ↔ part.same u t := by
  simp [Tun.shareWrite, h]
@[simp ↓] theorem Tun.same_shareMark (c off len : Nat) (p : Bool) : part.same u (t.shareMark c off len p) ↔ part.same u t := by
  simp [Tun.shareMark, h]
@[simp ↓] theorem Tun.same_shareStore (c off : Nat) (bs : List Byte) (p : Bool) :
    part.same u (t.shareStore c off bs p) ↔ part.same u t := by
  simp [Tun.shareStore, h]
@[simp ↓] theorem Tun.same_startCmd (c : Cmd) (us : List Nat) : part.same u (t.startCmd c us) ↔ part.same u t := by simp [Tun.startCmd, h]
@[simp ↓] theorem Tun.same_releaseEntries (id : Nat) : part.same u (t.releaseEntries id) ↔ part.same u t := by simp [Tun.releaseEntries, h]
@[simp ↓] theorem Tun.same_genAdvance (n : Nat) : part.same u (t.genAdvance n) ↔ part.same u t := by simp [Tun.genAdvance, h]
@[simp ↓] theorem Tun.same_semTake (n : Nat) (c : Option Nat) : part.same u (t.semTake n c) ↔ part.same u t := by simp [Tun.semTake, h]
@[simp ↓] theorem Tun.same_semGrant (n : Nat) (notice : Bool) : part.same u (t.semGrant n notice) ↔ part.same u t := by
  unfold Tun.semGrant; repeat' split
  all_goals simp [h]
@[simp ↓] theorem Tun.same_semRelease (n : Nat) (c : Option Nat) : part.same u (t.semRelease n c) ↔ part.same u t := by
  simp [Tun.semRelease, h]
@[simp ↓] theorem Tun.same_semForce (n : Nat) : part.same u (t.semForce n) ↔ part.same u t := by simp [Tun.semForce, h]
@[simp ↓] theorem Tun.same_semGiveBack (c : Cmd) : part.same u (t.semGiveBack c) ↔ part.same u t := by
  unfold Tun.semGiveBack; split <;> simp [h]
@[simp ↓] theorem Tun.same_stage (id : Nat) (status : Half) (r0 : Dword) (r1 : BitVec 48) (effects : List Effect) :
    part.same u (t.stage id status r0 r1 effects) ↔ part.same u t := by
  simp [Tun.stage, h]
@[simp ↓] theorem Tun.same_maskFail (id entry : Nat) (st : Half) : part.same u (t.maskFail id entry st) ↔ part.same u t := by
  simp [Tun.maskFail, h]
@[simp ↓] theorem Tun.same_check8 (c : Cmd) : part.same u (t.check8 c) ↔ part.same u t := by unfold Tun.check8; split <;> simp [h]
@[simp ↓] theorem Tun.same_queueRefuse (q : Nat) : part.same u (t.queueRefuse q) ↔ part.same u t := by simp [Tun.queueRefuse, h]
@[simp ↓] theorem Tun.same_ringRefuse (r : Nat) : part.same u (t.ringRefuse r) ↔ part.same u t := by simp [Tun.ringRefuse, h]
@[simp ↓] theorem Tun.same_writeQueueCfg (v : Word) : part.same u (t.writeQueueCfg v) ↔ part.same u t := by simp [Tun.writeQueueCfg, h]
@[simp ↓] theorem Tun.same_writeQueueRing (v : Word) : part.same u (t.writeQueueRing v) ↔ part.same u t := by simp [Tun.writeQueueRing, h]
@[simp ↓] theorem Tun.same_writeRingCfg (v : Word) : part.same u (t.writeRingCfg v) ↔ part.same u t := by simp [Tun.writeRingCfg, h]
@[simp ↓] theorem Tun.same_writeRingOther (reg : BitVec 2) (v : Word) : part.same u (t.writeRingOther reg v) ↔ part.same u t := by
  simp [Tun.writeRingOther, h]
@[simp ↓] theorem Tun.same_zeroBlocks (bs : List Nat) : part.same u (t.zeroBlocks bs) ↔ part.same u t := by simp [Tun.zeroBlocks, h]
@[simp ↓] theorem Tun.same_copyPreloads (n : Nat) (ps : List (Nat × Nat × Nat)) (ds : List (List Byte)) :
    part.same u (t.copyPreloads n ps ds) ↔ part.same u t := by
  induction ps generalizing ds t with
  | nil => simp [Tun.copyPreloads]
  | cons p ps ih => cases ds <;> simp [Tun.copyPreloads, ih, h]
@[simp ↓] theorem Tun.same_wortWindow (off : Nat) (bs : List Byte) : part.same u (t.wortWindow off bs) ↔ part.same u t := by
  simp [Tun.wortWindow, h]
@[simp ↓] theorem Tun.same_startTimed (c : Cmd) (us : List Nat) (p : Pre) : part.same u (t.startTimed c us p) ↔ part.same u t := by
  simp [Tun.startTimed, h]

end

/-! ### The collective engines -/

section
variable (h : part ≠ .mash)
include h

@[simp ↓] theorem Tun.same_modGroup (n : Nat) (f : Group → Group) : part.same u (t.modGroup n f) ↔ part.same u t := by
  simp [Tun.modGroup, h]
@[simp ↓] theorem Tun.same_instDone (c : Cmd) : part.same u (t.instDone c) ↔ part.same u t := by simp [Tun.instDone, h]
@[simp ↓] theorem Tun.same_modMash (f : Mash → Mash) : part.same u (t.modMash f) ↔ part.same u t := by simp [Tun.modMash, h]
@[simp ↓] theorem Tun.same_discardContrib : part.same u t.discardContrib ↔ part.same u t := by simp [Tun.discardContrib, h]
@[simp ↓] theorem Tun.same_modTap (n : Nat) (f : TapSlot → TapSlot) : part.same u (t.modTap n f) ↔ part.same u t := by simp [Tun.modTap, h]

end

/-! ### The Cellar -/

section
variable (h : part ≠ .cellar)
include h

@[simp ↓] theorem Tun.same_modCellar (f : Cellar → Cellar) : part.same u (t.modCellar f) ↔ part.same u t := by simp [Tun.modCellar, h]
@[simp ↓] theorem Tun.same_modSeq (k : Half) (id : Nat) (f : CSeq → CSeq) : part.same u (t.modSeq k id f) ↔ part.same u t := by
  simp [Tun.modSeq, h]
theorem Tun.same_newPage {n l : Nat} {v : Tun} (e : t.newPage = some (n, l, v)) : part.same u v ↔ part.same u t := by
  unfold Tun.newPage at e
  dsimp only at e
  split at e
  · cases e
  · split at e
    · cases e
    · cases e
      simp [h]
@[simp ↓] theorem Tun.same_addPage (k : Half) (id : Nat) (mirror : Bool) (layer g : Nat) :
    part.same u (t.addPage k id mirror layer g) ↔ part.same u t := by
  unfold Tun.addPage
  split
  · next e => simp [h, Tun.same_newPage h e]
  · simp [h]
@[simp ↓] theorem Tun.same_pageRelease : part.same u t.pageRelease ↔ part.same u t := by simp [Tun.pageRelease, h]
@[simp ↓] theorem Tun.same_loseSeqs (p : CSeq → Bool) : part.same u (t.loseSeqs p) ↔ part.same u t := by simp [Tun.loseSeqs, h]
@[simp ↓] theorem Tun.same_cellarDeparts (n : Nat) : part.same u (t.cellarDeparts n) ↔ part.same u t := by simp [Tun.cellarDeparts, h]

end

/-! ### The token engines -/

section
variable (h : part ≠ .token)
include h

@[simp ↓] theorem Tun.same_modToken (f : Token → Token) : part.same u (t.modToken f) ↔ part.same u t := by simp [Tun.modToken, h]
@[simp ↓] theorem Tun.same_modStream (n : Nat) (f : TStream → TStream) : part.same u (t.modStream n f) ↔ part.same u t := by
  simp [Tun.modStream, h]
@[simp ↓] theorem Tun.same_streamHead (n : Nat) (i : Word) : part.same u (t.streamHead n i) ↔ part.same u t := by simp [Tun.streamHead, h]
@[simp ↓] theorem Tun.same_tablePublish (c : Cmd) : part.same u (t.tablePublish c) ↔ part.same u t := by simp [Tun.tablePublish, h]
@[simp ↓] theorem Tun.same_streamOpenPublish (c : Cmd) : part.same u (t.streamOpenPublish c) ↔ part.same u t := by
  simp [Tun.streamOpenPublish, h]
@[simp ↓] theorem Tun.same_paramsPublish (c : Cmd) : part.same u (t.paramsPublish c) ↔ part.same u t := by simp [Tun.paramsPublish, h]
@[simp ↓] theorem Tun.same_samplePublish (c : Cmd) : part.same u (t.samplePublish c) ↔ part.same u t := by simp [Tun.samplePublish, h]

end

/-! ### The host port -/

section
variable (h : part ≠ .host)
include h

@[simp ↓] theorem Tun.same_modHost (f : HPort → HPort) : part.same u (t.modHost f) ↔ part.same u t := by simp [Tun.modHost, h]
@[simp ↓] theorem Tun.same_hostTrained (cfg : HostCfg) (speed : BitVec 4) (width : BitVec 6) (flit : Bool) :
    part.same u (t.hostTrained cfg speed width flit) ↔ part.same u t := by
  simp [Tun.hostTrained, h]
@[simp ↓] theorem Tun.same_hostPerst (asserted : Bool) : part.same u (t.hostPerst asserted) ↔ part.same u t := by simp [Tun.hostPerst, h]
@[simp ↓] theorem Tun.same_vfRefuse : part.same u t.vfRefuse ↔ part.same u t := by simp [Tun.vfRefuse, h]

end

/-! ### The error records -/

@[simp ↓] theorem Tun.same_logError (h : part ≠ .err) (now : Nat) (src : Byte) (cls : Nat) (at_ : ErrAt) :
    part.same u (t.logError now src cls at_) ↔ part.same u t := by
  simp [Tun.logError, h]

/-! ### The background work -/

section
variable (h : part ≠ .rel)
include h

@[simp ↓] theorem Tun.same_modRel (f : Rel → Rel) : part.same u (t.modRel f) ↔ part.same u t := by simp [Tun.modRel, h]
@[simp ↓] theorem Tun.same_selfRefreshAll : part.same u t.selfRefreshAll ↔ part.same u t := by simp [Tun.selfRefreshAll, h]
@[simp ↓] theorem Tun.same_calibrate (now n : Nat) : part.same u (t.calibrate now n) ↔ part.same u t := by simp [Tun.calibrate, h]
@[simp ↓] theorem Tun.same_selfRefresh (n : Nat) : part.same u (t.selfRefresh n) ↔ part.same u t := by simp [Tun.selfRefresh, h]
@[simp ↓] theorem Tun.same_serdesRecal (now id : Nat) : part.same u (t.serdesRecal now id) ↔ part.same u t := by simp [Tun.serdesRecal, h]

end

/-! ### The output -/

section
variable (h : part ≠ .out)
include h

@[simp ↓] theorem Tun.same_emit (e : TunEmit) : part.same u (t.emit e) ↔ part.same u t := by simp [Tun.emit, h]
@[simp ↓] theorem Tun.same_sendRate (id : Nat) : part.same u (t.sendRate id) ↔ part.same u t := by simp [Tun.sendRate, h]
@[simp ↓] theorem Tun.same_sendRequest (id lane : Nat) : part.same u (t.sendRequest id lane) ↔ part.same u t := by simp [Tun.sendRequest, h]

end

/-! ### The service state and the scheduled plane -/

section
variable (h : part ≠ .svc ∧ part ≠ .sched)
include h

@[simp ↓] theorem Tun.same_keeperAlign (was : Bool) : part.same u (t.keeperAlign was) ↔ part.same u t := by simp [Tun.keeperAlign, h]
@[simp ↓] theorem Tun.same_takeMark (m : Marker) : part.same u (t.takeMark m) ↔ part.same u t := by simp [Tun.takeMark, h]
@[simp ↓] theorem Tun.same_startBrewCount (now : Nat) : part.same u (t.startBrewCount now) ↔ part.same u t := by
  simp [Tun.startBrewCount, h]

end

/-! ### The rack settings and the scheduled plane -/

@[simp ↓] theorem Tun.same_markReceive (h : part ≠ .rack ∧ part ≠ .sched) (now id : Nat) (payload : List Byte) :
    part.same u (t.markReceive now id payload) ↔ part.same u t := by
  simp [Tun.markReceive, h]

/-! ### The ports and the background work -/

@[simp ↓] theorem Tun.same_rxWake (h : part ≠ .ports ∧ part ≠ .rel) (id : Nat) : part.same u (t.rxWake id) ↔ part.same u t := by
  simp [Tun.rxWake, h]

/-! ### The ports and the output -/

section
variable (h : part ≠ .ports ∧ part ≠ .out)
include h

@[simp ↓] theorem Tun.same_trainAnew (id : Nat) : part.same u (t.trainAnew id) ↔ part.same u t := by simp [Tun.trainAnew, h]
@[simp ↓] theorem Tun.same_portEnable (id : Nat) : part.same u (t.portEnable id) ↔ part.same u t := by simp [Tun.portEnable, h]
@[simp ↓] theorem Tun.same_detectLock (id : Nat) (peerFull : Bool) (lanes : List LaneTx) :
    part.same u (t.detectLock id peerFull lanes) ↔ part.same u t := by
  simp [Tun.detectLock, h]
@[simp ↓] theorem Tun.same_detectTimeout (id : Nat) : part.same u (t.detectTimeout id) ↔ part.same u t := by simp [Tun.detectTimeout, h]
@[simp ↓] theorem Tun.same_equalizeReceive (id lane : Nat) (req : Byte) : part.same u (t.equalizeReceive id lane req) ↔ part.same u t := by
  simp [Tun.equalizeReceive, h]
@[simp ↓] theorem Tun.same_equalizeDone (id : Nat) : part.same u (t.equalizeDone id) ↔ part.same u t := by simp [Tun.equalizeDone, h]
@[simp ↓] theorem Tun.same_coldRetry (id : Nat) : part.same u (t.coldRetry id) ↔ part.same u t := by simp [Tun.coldRetry, h]

end

/-! ### The packet plane and Hydrometer -/

section
variable (h : part ≠ .plane ∧ part ≠ .hyd)
include h

@[simp ↓] theorem Tun.same_refillEngine (now : Nat) : part.same u (t.refillEngine now) ↔ part.same u t := by simp [Tun.refillEngine, h]
@[simp ↓] theorem Tun.same_queueOut (now : Nat) (ps : List Packet) : part.same u (t.queueOut now ps) ↔ part.same u t := by
  simp [Tun.queueOut, h]
@[simp ↓] theorem Tun.same_takeFrom (hold : HoldRef) (w : Waiting) (now : Nat) : part.same u (t.takeFrom hold w now) ↔ part.same u t := by
  unfold Tun.takeFrom; split <;> simp [h]
@[simp ↓] theorem Tun.same_gildWaiting (hold : HoldRef) (i : Nat) : part.same u (t.gildWaiting hold i) ↔ part.same u t := by
  unfold Tun.gildWaiting; repeat' split
  all_goals simp [h]
@[simp ↓] theorem Tun.same_copyMulticast (now id : Nat) : part.same u (t.copyMulticast now id) ↔ part.same u t := by
  unfold Tun.copyMulticast; repeat' split
  all_goals simp [h]

end

/-! ### Hydrometer and Brewmaster -/

section
variable (h : part ≠ .hyd ∧ part ≠ .bm)
include h

@[simp ↓] theorem Tun.same_fetchNext (q : Nat) (admin : List Byte) (fails : Bool) :
    part.same u (t.fetchNext q admin fails).2 ↔ part.same u t := by
  simp [Tun.fetchNext, h]
@[simp ↓] theorem Tun.same_descriptorFetch (q : Nat) (admin : List Byte) (fails : Bool) :
    part.same u (t.descriptorFetch q admin fails) ↔ part.same u t := by
  simp [Tun.descriptorFetch, h]
theorem Tun.same_nextOf {q : Nat} {r : Cmd × Tun} (e : t.nextOf q = some r) : part.same u r.2 ↔ part.same u t := by
  unfold Tun.nextOf at e
  split at e
  · cases e; rfl
  · split at e
    · cases e
    · cases e; simp [h]
theorem Tun.same_nextPush {q : Nat} {c : Cmd} {v : Tun} (e : t.nextPush q = some (c, v)) : part.same u v ↔ part.same u t := by
  unfold Tun.nextPush at e
  split at e
  · split at e
    · cases e; rfl
    · cases e
  · split at e
    · cases e
    · dsimp only at e
      split at e
      · have k : v = (t.fetchNext q [] false).2 := (congrArg (fun o => (o.getD (c, v)).2) e).symm
        simp [h, k]
      · cases e

end

/-! ### Hydrometer and the background work -/

section
variable (h : part ≠ .hyd ∧ part ≠ .rel)
include h

@[simp ↓] theorem Tun.same_caskTxn (now : Nat) (write : Bool) (a len : Nat) : part.same u (t.caskTxn now write a len) ↔ part.same u t := by
  simp [Tun.caskTxn, h]
@[simp ↓] theorem Tun.same_space4Txn (now : Nat) (c : Cmd) (l : Loc) (len : Nat) :
    part.same u (t.space4Txn now c l len) ↔ part.same u t := by
  unfold Tun.space4Txn; repeat' split
  all_goals simp [h]

end

/-! ### Brewmaster and the collective engines -/

section
variable (h : part ≠ .bm ∧ part ≠ .mash)
include h

theorem Tun.same_landBytesAt {gn inst m off : Nat} {c : Cmd} {bs : List Byte} {poison : Bool} {v : Tun}
    (e : t.landBytesAt gn c inst m off bs poison = some v) : part.same u v ↔ part.same u t := by
  unfold Tun.landBytesAt at e
  split at e
  · cases e
  · dsimp only at e
    split at e
    · cases e
    · cases e; simp [h]
@[simp ↓] theorem Tun.same_landData (gn inst m off : Nat) (bs : List Byte) (poison forfeit : Bool) :
    part.same u (t.landData gn inst m off bs poison forfeit) ↔ part.same u t := by
  unfold Tun.landData
  split
  · simp [h]
  · dsimp only
    split
    · simp [h]
    · split
      · split
        · next e => simp [h, Tun.same_landBytesAt h e]
        · simp [h]
      · simp [h]
theorem Tun.same_landBytesAt_getD (gn inst m off : Nat) (c : Cmd) (bs : List Byte) (poison : Bool) :
    part.same t ((t.landBytesAt gn c inst m off bs poison).getD t.discardContrib) := by
  cases e : t.landBytesAt gn c inst m off bs poison with
  | none => simp [h]
  | some v => simp [Tun.same_landBytesAt h e]
@[simp ↓] theorem Tun.same_openInstance (c : Cmd) :
    part.same u (t.openInstance c) ↔ part.same u t := by
  unfold Tun.openInstance
  dsimp only
  split
  · simp [h]
  · simp [h, Tun.same_landBytesAt_getD h]
@[simp ↓] theorem Tun.same_steepPublish (c : Cmd) : part.same u (t.steepPublish c) ↔ part.same u t := by simp [Tun.steepPublish, h]

end

/-! ### Brewmaster and the Cellar -/

section
variable (h : part ≠ .bm ∧ part ≠ .cellar)
include h

@[simp ↓] theorem Tun.same_lockPass (k : Half) (id : Nat) (orphan : Bool) : part.same u (t.lockPass k id orphan) ↔ part.same u t := by
  unfold Tun.lockPass; split <;> simp [h]
@[simp ↓] theorem Tun.same_orphanLocks (c : Nat) : part.same u (t.orphanLocks c) ↔ part.same u t := by simp [Tun.orphanLocks, h]
theorem Tun.same_lockPublish {c : Cmd} {x : Half × Tun} (e : t.lockPublish c = .ok (some x)) : part.same u x.2 ↔ part.same u t := by
  unfold Tun.lockPublish at e
  dsimp only at e
  repeat' split at e
  all_goals cases e
  all_goals simp [h]
@[simp ↓] theorem Tun.same_poisonUnit (src addr : Nat) : part.same u (t.poisonUnit src addr) ↔ part.same u t := by simp [Tun.poisonUnit, h]

end

/-! ### Brewmaster and the host port -/

@[simp ↓] theorem Tun.same_vfWrite (h : part ≠ .bm ∧ part ≠ .host) (n off : Nat) (bs : List Byte) :
    part.same u (t.vfWrite n off bs) ↔ part.same u t := by
  unfold Tun.vfWrite; split <;> simp [h]

/-! ### The Cellar and the background work -/

@[simp ↓] theorem Tun.same_cellarOpen (h : part ≠ .cellar ∧ part ≠ .rel) : part.same u t.cellarOpen ↔ part.same u t := by
  simp [Tun.cellarOpen, h]

/-! ### The host port and the output -/

section
variable (h : part ≠ .host ∧ part ≠ .out)
include h

@[simp ↓] theorem Tun.same_hostWrite (fn : Option Nat) (addr : Nat) (bs : List Byte) (poison : Bool) :
    part.same u (t.hostWrite fn addr bs poison) ↔ part.same u t := by
  unfold Tun.hostWrite; split <;> simp [h]
@[simp ↓] theorem Tun.same_msi (fn : Option Nat) (vector : Nat) : part.same u (t.msi fn vector) ↔ part.same u t := by
  unfold Tun.msi; split <;> simp [h]
@[simp ↓] theorem Tun.same_msixMask (fn vector : Nat) (mask : Bool) : part.same u (t.msixMask fn vector mask) ↔ part.same u t := by
  simp [Tun.msixMask, h]

end

/-! ### The service state, the clocks and the scheduled plane -/

section
variable (h : part ≠ .svc ∧ part ≠ .clk ∧ part ≠ .sched)
include h

@[simp ↓] theorem Tun.same_slewEnd : part.same u t.slewEnd ↔ part.same u t := by simp [Tun.slewEnd, h]
@[simp ↓] theorem Tun.same_refReturns : part.same u t.refReturns ↔ part.same u t := by simp [Tun.refReturns, h]
@[simp ↓] theorem Tun.same_pllLock (now : Nat) (k : PllLocks) : part.same u (t.pllLock now k) ↔ part.same u t := by simp [Tun.pllLock, h]

end

/-! ### The service state, the clocks and the background work -/

@[simp ↓] theorem Tun.same_trainingDone (h : part ≠ .svc ∧ part ≠ .clk ∧ part ≠ .rel) (codes : List (BitVec 4)) :
    part.same u (t.trainingDone codes) ↔ part.same u t := by
  simp [Tun.trainingDone, h]

/-! ### The service state, the rack settings and the scheduled plane -/

section
variable (h : part ≠ .svc ∧ part ≠ .rack ∧ part ≠ .sched)
include h

@[simp ↓] theorem Tun.same_keeperTakes : part.same u t.keeperTakes ↔ part.same u t := by simp [Tun.keeperTakes, h]
@[simp ↓] theorem Tun.same_writeRackConfig (v : Word) : part.same u (t.writeRackConfig v) ↔ part.same u t := by
  simp [Tun.writeRackConfig, h]

end

/-! ### The ports, the packet plane and the output -/

section
variable (h : part ≠ .ports ∧ part ≠ .plane ∧ part ≠ .out)
include h

@[simp ↓] theorem Tun.same_portDown (now id : Nat) (cause : BitVec 4) (wait : Bool) :
    part.same u (t.portDown now id cause wait) ↔ part.same u t := by
  simp [Tun.portDown, h]
@[simp ↓] theorem Tun.same_signalLost (now id : Nat) : part.same u (t.signalLost now id) ↔ part.same u t := by simp [Tun.signalLost, h]
@[simp ↓] theorem Tun.same_trainFail (now id : Nat) (cause : BitVec 4) : part.same u (t.trainFail now id cause) ↔ part.same u t := by
  simp [Tun.trainFail, h]
@[simp ↓] theorem Tun.same_attemptLimit (now id : Nat) : part.same u (t.attemptLimit now id) ↔ part.same u t := by
  unfold Tun.attemptLimit; dsimp only; split <;> simp [h]
@[simp ↓] theorem Tun.same_identifyTimeout (now id : Nat) : part.same u (t.identifyTimeout now id) ↔ part.same u t := by
  simp [Tun.identifyTimeout, h]

end

/-! ### The ports, Hydrometer and the output -/

section
variable (h : part ≠ .ports ∧ part ≠ .hyd ∧ part ≠ .out)
include h

@[simp ↓] theorem Tun.same_wakeTx (now id : Nat) : part.same u (t.wakeTx now id) ↔ part.same u t := by simp [Tun.wakeTx, h]
@[simp ↓] theorem Tun.same_putFlit (now id : Nat) (f : HeldFlit) : part.same u (t.putFlit now id f) ↔ part.same u t := by
  simp [Tun.putFlit, h]
@[simp ↓] theorem Tun.same_putOrdered (now id : Nat) (ft : BitVec 4) (payload : List Byte) :
    part.same u (t.putOrdered now id ft payload) ↔ part.same u t := by
  simp [Tun.putOrdered, h]
@[simp ↓] theorem Tun.same_putOrderedN (now id : Nat) (ft : BitVec 4) (payload : List Byte) (n : Nat) :
    part.same u (t.putOrderedN now id ft payload n) ↔ part.same u t := by
  induction n generalizing t with
  | zero => rfl
  | succ n ih => simp [Tun.putOrderedN, ih, h]
@[simp ↓] theorem Tun.same_pumpN (now id n : Nat) : part.same u (t.pumpN now id n) ↔ part.same u t := by
  induction n generalizing t with
  | zero => rfl
  | succ n ih =>
    unfold Tun.pumpN
    dsimp only
    split
    · rfl
    · simp [ih, h]
@[simp ↓] theorem Tun.same_pump (now id : Nat) : part.same u (t.pump now id) ↔ part.same u t := by simp [Tun.pump, h]
@[simp ↓] theorem Tun.same_resend (now id : Nat) (hs : List HeldFlit) : part.same u (t.resend now id hs) ↔ part.same u t := by
  simp [Tun.resend, h]
@[simp ↓] theorem Tun.same_fencePort (now scope : Nat) (back : Bool) (id : Nat) :
    part.same u (t.fencePort now scope back id) ↔ part.same u t := by
  simp [Tun.fencePort, h]
@[simp ↓] theorem Tun.same_fencePorts (now : Nat) (ids : List Nat) (scope : Nat) (back : Bool) :
    part.same u (t.fencePorts now ids scope back) ↔ part.same u t := by
  simp [Tun.fencePorts, h]
@[simp ↓] theorem Tun.same_fenceLinks (now scope : Nat) (back : Bool) : part.same u (t.fenceLinks now scope back) ↔ part.same u t := by
  simp [Tun.fenceLinks, h]
@[simp ↓] theorem Tun.same_announceState (now : Nat) : part.same u (t.announceState now) ↔ part.same u t := by simp [Tun.announceState, h]
@[simp ↓] theorem Tun.same_wakeCircuits (now : Nat) : part.same u (t.wakeCircuits now) ↔ part.same u t := by simp [Tun.wakeCircuits, h]
@[simp ↓] theorem Tun.same_sendMarks (now : Nat) (brew : BitVec 48) (kRow kCol hops : Byte) :
    part.same u (t.sendMarks now brew kRow kCol hops) ↔ part.same u t := by
  simp [Tun.sendMarks, h]
@[simp ↓] theorem Tun.same_sendIdentity (now id : Nat) : part.same u (t.sendIdentity now id) ↔ part.same u t := by
  simp [Tun.sendIdentity, h]
@[simp ↓] theorem Tun.same_deskewDone (now id : Nat) : part.same u (t.deskewDone now id) ↔ part.same u t := by simp [Tun.deskewDone, h]
@[simp ↓] theorem Tun.same_fenceRepeat (now id : Nat) : part.same u (t.fenceRepeat now id) ↔ part.same u t := by simp [Tun.fenceRepeat, h]
@[simp ↓] theorem Tun.same_delayStart (now id : Nat) : part.same u (t.delayStart now id) ↔ part.same u t := by simp [Tun.delayStart, h]
@[simp ↓] theorem Tun.same_probeReceive (now id : Nat) (probe : Byte) (t1 : Nat) :
    part.same u (t.probeReceive now id probe t1) ↔ part.same u t := by
  simp [Tun.probeReceive, h]
@[simp ↓] theorem Tun.same_napEntry (now id : Nat) : part.same u (t.napEntry now id) ↔ part.same u t := by simp [Tun.napEntry, h]
@[simp ↓] theorem Tun.same_keeperMark (now : Nat) : part.same u (t.keeperMark now) ↔ part.same u t := by simp [Tun.keeperMark, h]

end

/-! ### The packet plane, Hydrometer and the scheduled plane -/

@[simp ↓] theorem Tun.same_lateOutputs (h : part ≠ .plane ∧ part ≠ .hyd ∧ part ≠ .sched) (now id : Nat) :
    part.same u (t.lateOutputs now id) ↔ part.same u t := by
  simp [Tun.lateOutputs, h]

/-! ### The packet plane, Hydrometer and Brewmaster -/

section
variable (h : part ≠ .plane ∧ part ≠ .hyd ∧ part ≠ .bm)
include h

@[simp ↓] theorem Tun.same_drop (code port : Nat) (p : Packet) : part.same u (t.drop code port p) ↔ part.same u t := by
  unfold Tun.drop; split <;> simp [h]
@[simp ↓] theorem Tun.same_dropAnswered (now code port : Nat) (p : Packet) :
    part.same u (t.dropAnswered now code port p) ↔ part.same u t := by
  unfold Tun.dropAnswered; repeat' split
  all_goals simp [h]
@[simp ↓] theorem Tun.same_formOwn (now : Nat) (p : Packet) : part.same u (t.formOwn now p).2 ↔ part.same u t := by
  unfold Tun.formOwn; dsimp only; repeat' split
  all_goals simp [h]
@[simp ↓] theorem Tun.same_originate (now : Nat) (p : Packet) : part.same u (t.originate now p) ↔ part.same u t := by
  simp [Tun.originate, h]
@[simp ↓] theorem Tun.same_linkLoss (id : Nat) : part.same u (t.linkLoss id) ↔ part.same u t := by simp [Tun.linkLoss, h]
@[simp ↓] theorem Tun.same_holdPacket (now id : Nat) (vc : Bool) (p : Packet) : part.same u (t.holdPacket now id vc p) ↔ part.same u t := by
  simp [Tun.holdPacket, h]
@[simp ↓] theorem Tun.same_dropStreams (subject : Nat) : part.same u (t.dropStreams subject) ↔ part.same u t := by
  exact Part.same_foldl _ fun t ch => by simp [h]
@[simp ↓] theorem Tun.same_sendNotices (now subject scope : Nat) (incarn : Byte) :
    part.same u (t.sendNotices now subject scope incarn) ↔ part.same u t := by
  simp [Tun.sendNotices, h]
@[simp ↓] theorem Tun.same_forwardNotice (now subject scope : Nat) (incarn : Byte) :
    part.same u (t.forwardNotice now subject scope incarn) ↔ part.same u t := by
  simp [Tun.forwardNotice, h]
@[simp ↓] theorem Tun.same_notice (now gn : Nat) (g : Group) (inst kind dst : Nat) (gen : Byte) (through : Nat) (st : Half) :
    part.same u (t.notice now gn g inst kind dst gen through st) ↔ part.same u t := by
  simp [Tun.notice, h]
@[simp ↓] theorem Tun.same_doneNotices (now : Nat) (c : Cmd) (g : Group) (st : Half) (keep : List Nat) :
    part.same u (t.doneNotices now c g st keep) ↔ part.same u t := by
  unfold Tun.doneNotices
  dsimp only
  split
  · rfl
  · exact Part.same_foldl _ fun t m => by simp [h]
@[simp ↓] theorem Tun.same_exportInband (now : Nat) (r : List Byte) : part.same u (t.exportInband now r) ↔ part.same u t := by
  simp [Tun.exportInband, h]
@[simp ↓] theorem Tun.same_armReads (now : Nat) (offs : List Nat) : part.same u (t.armReads now offs) ↔ part.same u t := by
  exact Part.same_foldl _ fun t d => by simp [h]
@[simp ↓] theorem Tun.same_ingress (now id : Nat) (vc : Bool) (first : Nat) (p : Packet) :
    part.same u (t.ingress now id vc first p) ↔ part.same u t := by
  unfold Tun.ingress; dsimp only; split <;> simp [h]

end

/-! ### Hydrometer, the scheduled plane and Brewmaster -/

section
variable (h : part ≠ .hyd ∧ part ≠ .sched ∧ part ≠ .bm)
include h

@[simp ↓] theorem Tun.same_killWork (c : Cmd) : part.same u (t.killWork c) ↔ part.same u t := by unfold Tun.killWork; simp [h]
@[simp ↓] theorem Tun.same_killCmd (c : Cmd) : part.same u (t.killCmd c) ↔ part.same u t := by simp [Tun.killCmd, h]

end

/-! ### Hydrometer, the Cellar and the background work -/

section
variable (h : part ≠ .hyd ∧ part ≠ .cellar ∧ part ≠ .rel)
include h

@[simp ↓] theorem Tun.same_caskWriteP (now a : Nat) (ps : List PByte) : part.same u (t.caskWriteP now a ps) ↔ part.same u t := by
  simp [Tun.caskWriteP, h]
@[simp ↓] theorem Tun.same_putToken (now : Nat) (k : Half) (id : Nat) (mirror : Bool) (layer tok : Nat) (key val : List PByte) :
    part.same u (t.putToken now k id mirror layer tok key val) ↔ part.same u t := by
  unfold Tun.putToken; dsimp only; repeat' split
  all_goals simp [h]
@[simp ↓] theorem Tun.same_appendLayer (now : Nat) (k : Half) (e : BEntry) (j : Nat) :
    part.same u (t.appendLayer now k e j) ↔ part.same u t := by
  unfold Tun.appendLayer
  split
  · rfl
  · refine (Tun.same_modSeq ?_ _ _ _).trans (Part.same_foldl _ fun t i => ?_)
    all_goals simp [h]
@[simp ↓] theorem Tun.same_applyEntry (now : Nat) (c : Cmd) (steeps : List Nat) (e : BEntry) :
    part.same u (t.applyEntry now c steeps e) ↔ part.same u t := by
  unfold Tun.applyEntry; dsimp only; repeat' split
  all_goals simp [h]

end

/-! ### Hydrometer, the host port and the output -/

@[simp ↓] theorem Tun.same_exportRing (h : part ≠ .hyd ∧ part ≠ .host ∧ part ≠ .out) (r : List Byte) :
    part.same u (t.exportRing r) ↔ part.same u t := by
  simp [Tun.exportRing, h]

/-! ### Brewmaster, the Cellar and the token engines -/

@[simp ↓] theorem Tun.same_ctxEnd (h : part ≠ .bm ∧ part ≠ .cellar ∧ part ≠ .token) (n : Nat) :
    part.same u (t.ctxEnd n) ↔ part.same u t := by
  simp [Tun.ctxEnd, h]

/-! ### The token engines, the host port and the output -/

section
variable (h : part ≠ .token ∧ part ≠ .host ∧ part ≠ .out)
include h

@[simp ↓] theorem Tun.same_ringText (n : Nat) (bs : List Byte) : part.same u (t.ringText n bs) ↔ part.same u t := by simp [Tun.ringText, h]
@[simp ↓] theorem Tun.same_putText (n : Nat) (bs : List Byte) : part.same u (t.putText n bs) ↔ part.same u t := by simp [Tun.putText, h]

end

/-! ### The service state, the ports, Hydrometer and the output -/

@[simp ↓] theorem Tun.same_enterPale (h : part ≠ .svc ∧ part ≠ .ports ∧ part ≠ .hyd ∧ part ≠ .out) (now : Nat) :
    part.same u (t.enterPale now) ↔ part.same u t := by
  simp [Tun.enterPale, h]

/-! ### The ports, the packet plane, Hydrometer and Brewmaster -/

section
variable (h : part ≠ .ports ∧ part ≠ .plane ∧ part ≠ .hyd ∧ part ≠ .bm)
include h

@[simp ↓] theorem Tun.same_discardLink (id : Nat) : part.same u (t.discardLink id) ↔ part.same u t := by simp [Tun.discardLink, h]
@[simp ↓] theorem Tun.same_replayDiscard (id : Nat) : part.same u (t.replayDiscard id) ↔ part.same u t := by simp [Tun.replayDiscard, h]

end

/-! ### The ports, the packet plane, Hydrometer and the output -/

section
variable (h : part ≠ .ports ∧ part ≠ .plane ∧ part ≠ .hyd ∧ part ≠ .out)
include h

@[simp ↓] theorem Tun.same_startReplay (now id : Nat) (from_ : BitVec 12) (counted : Bool) :
    part.same u (t.startReplay now id from_ counted) ↔ part.same u t := by
  simp [Tun.startReplay, h]
@[simp ↓] theorem Tun.same_ringSend (now : Nat) (north : Bool) (n : Nat) : part.same u (t.ringSend now north n) ↔ part.same u t := by
  induction n generalizing t with
  | zero => rfl
  | succ n ih =>
    unfold Tun.ringSend
    dsimp only
    generalize (if north = true then 259 else 260) = id
    split
    · rfl
    · split <;> simp [ih, h]
@[simp ↓] theorem Tun.same_ringPump (now : Nat) : part.same u (t.ringPump now) ↔ part.same u t := by simp [Tun.ringPump, h]
@[simp ↓] theorem Tun.same_pumpLink (now id : Nat) : part.same u (t.pumpLink now id) ↔ part.same u t := by simp [Tun.pumpLink, h]
@[simp ↓] theorem Tun.same_stepDown (now round : Nat) : part.same u (t.stepDown now round) ↔ part.same u t := by simp [Tun.stepDown, h]
@[simp ↓] theorem Tun.same_identityReceive (now id : Nat) (b : List Byte) : part.same u (t.identityReceive now id b) ↔ part.same u t := by
  unfold Tun.identityReceive; repeat' split
  all_goals simp [h]
@[simp ↓] theorem Tun.same_retrainNotice (now id : Nat) (sent : Bool) : part.same u (t.retrainNotice now id sent) ↔ part.same u t := by
  simp [Tun.retrainNotice, h]
@[simp ↓] theorem Tun.same_replayTimeout (now id : Nat) : part.same u (t.replayTimeout now id) ↔ part.same u t := by
  unfold Tun.replayTimeout; dsimp only; split <;> simp [h]

end

/-! ### The ports, Hydrometer, the junction reading and the output -/

section
variable (h : part ≠ .ports ∧ part ≠ .hyd ∧ part ≠ .junction ∧ part ≠ .out)
include h

@[simp ↓] theorem Tun.same_assertTrip (now : Nat) : part.same u (t.assertTrip now) ↔ part.same u t := by simp [Tun.assertTrip, h]
@[simp ↓] theorem Tun.same_junctionSample (now : Nat) (readings : List Half) :
    part.same u (t.junctionSample now readings) ↔ part.same u t := by
  simp [Tun.junctionSample, h]

end

/-! ### The packet plane, Hydrometer, the scheduled plane and Brewmaster -/

section
variable (h : part ≠ .plane ∧ part ≠ .hyd ∧ part ≠ .sched ∧ part ≠ .bm)
include h

@[simp ↓] theorem Tun.same_handOut (now : Nat) (c : Cmd) (p : Packet) : part.same u (t.handOut now c p) ↔ part.same u t := by
  refine (Part.same_foldl _ fun t q => ?_).trans (by simp [h])
  split <;> simp [h]
@[simp ↓] theorem Tun.same_budgetEnd (now id : Nat) : part.same u (t.budgetEnd now id) ↔ part.same u t := by simp [Tun.budgetEnd, h]
@[simp ↓] theorem Tun.same_armCheck (now : Nat) (as : List ArmAnswer) : part.same u (t.armCheck now as) ↔ part.same u t := by
  unfold Tun.armCheck; split <;> simp [h]
@[simp ↓] theorem Tun.same_armRecheck (now : Nat) (as : List ArmAnswer) : part.same u (t.armRecheck now as) ↔ part.same u t := by
  simp [Tun.armRecheck, h]

end

/-! ### The packet plane, Hydrometer, Brewmaster and the collective engines -/

section
variable (h : part ≠ .plane ∧ part ≠ .hyd ∧ part ≠ .bm ∧ part ≠ .mash)
include h

@[simp ↓] theorem Tun.same_tapAdvance (now n k : Nat) : part.same u (t.tapAdvance now n k) ↔ part.same u t := by
  induction k generalizing t with
  | zero => rfl
  | succ n ih =>
    unfold Tun.tapAdvance
    dsimp only
    split
    · rfl
    · simp [ih, h]
@[simp ↓] theorem Tun.same_tapTake (now : Nat) (p : Packet) : part.same u (t.tapTake now p) ↔ part.same u t := by
  unfold Tun.tapTake; dsimp only; split <;> simp [h]
@[simp ↓] theorem Tun.same_tapPop (now : Nat) : part.same u (t.tapPop now) ↔ part.same u t := by unfold Tun.tapPop; split <;> simp [h]

end

/-! ### The packet plane, Hydrometer, Brewmaster and the output -/

section
variable (h : part ≠ .plane ∧ part ≠ .hyd ∧ part ≠ .bm ∧ part ≠ .out)
include h

@[simp ↓] theorem Tun.same_issueNext (now id : Nat) : part.same u (t.issueNext now id) ↔ part.same u t := by
  unfold Tun.issueNext; dsimp only; repeat' split
  all_goals simp [h]
@[simp ↓] theorem Tun.same_issueN (now id n : Nat) : part.same u (t.issueN now id n) ↔ part.same u t := by
  induction n generalizing t with
  | zero => rfl
  | succ n ih => simp [Tun.issueN, ih, h]
@[simp ↓] theorem Tun.same_issueReads (now id : Nat) : part.same u (t.issueReads now id) ↔ part.same u t := by
  unfold Tun.issueReads; split <;> simp [h]
@[simp ↓] theorem Tun.same_planReads (now id : Nat) (ps : List Piece) : part.same u (t.planReads now id ps) ↔ part.same u t := by
  simp [Tun.planReads, h]

end

/-! ### Hydrometer, Brewmaster, the Cellar and the background work -/

@[simp ↓] theorem Tun.same_applyLocal (h : part ≠ .hyd ∧ part ≠ .bm ∧ part ≠ .cellar ∧ part ≠ .rel) (now : Nat) (c : Cmd) (e : Effect) :
    part.same u (t.applyLocal now c e) ↔ part.same u t := by
  unfold Tun.applyLocal; repeat' split
  all_goals simp [h]

/-! ### Hydrometer, the token engines, the host port and the output -/

@[simp ↓] theorem Tun.same_streamClosePublish (h : part ≠ .hyd ∧ part ≠ .token ∧ part ≠ .host ∧ part ≠ .out) (c : Cmd) :
    part.same u (t.streamClosePublish c).2 ↔ part.same u t := by
  simp [Tun.streamClosePublish, h]

/-! ### The service state, the ports, the packet plane, Hydrometer and the output -/

@[simp ↓] theorem Tun.same_rateRound (h : part ≠ .svc ∧ part ≠ .ports ∧ part ≠ .plane ∧ part ≠ .hyd ∧ part ≠ .out) (now : Nat) :
    part.same u (t.rateRound now) ↔ part.same u t := by
  simp [Tun.rateRound, h]

/-! ### The service state, the ports, Hydrometer, the scheduled plane and the output -/

section
variable (h : part ≠ .svc ∧ part ≠ .ports ∧ part ≠ .hyd ∧ part ≠ .sched ∧ part ≠ .out)
include h

@[simp ↓] theorem Tun.same_beginDrain (now : Nat) (back : BitVec 2) : part.same u (t.beginDrain now back) ↔ part.same u t := by
  simp [Tun.beginDrain, h]
@[simp ↓] theorem Tun.same_drainRequest (now : Nat) : part.same u (t.drainRequest now) ↔ part.same u t := by
  exact Tun.same_request (by simp [h]) _ fun t => by split <;> simp [h]
@[simp ↓] theorem Tun.same_markTake (now : Nat) : part.same u (t.markTake now) ↔ part.same u t := by unfold Tun.markTake; split <;> simp [h]

end

/-! ### The ports, the packet plane, Hydrometer, Brewmaster and the output -/

section
variable (h : part ≠ .ports ∧ part ≠ .plane ∧ part ≠ .hyd ∧ part ≠ .bm ∧ part ≠ .out)
include h

@[simp ↓] theorem Tun.same_sendPort (now o : Nat) (p : Packet) : part.same u (t.sendPort now o p) ↔ part.same u t := by
  unfold Tun.sendPort; repeat' split
  all_goals simp [h]
@[simp ↓] theorem Tun.same_portReset (now id : Nat) : part.same u (t.portReset now id) ↔ part.same u t := by simp [Tun.portReset, h]
@[simp ↓] theorem Tun.same_portDisable (now id : Nat) (v : Bool) : part.same u (t.portDisable now id v) ↔ part.same u t := by
  simp [Tun.portDisable, h]

end

/-! ### The packet plane, Hydrometer, Brewmaster, the host port and the output -/

section
variable (h : part ≠ .plane ∧ part ≠ .hyd ∧ part ≠ .bm ∧ part ≠ .host ∧ part ≠ .out)
include h

@[simp ↓] theorem Tun.same_putAt (now : Nat) (k : Ring) (i : Nat) (bs : List Byte) : part.same u (t.putAt now k i bs) ↔ part.same u t := by
  simp [Tun.putAt, h]
@[simp ↓] theorem Tun.same_putSlot (now r : Nat) (bs : List Byte) : part.same u (t.putSlot now r bs) ↔ part.same u t := by
  simp [Tun.putSlot, h]
@[simp ↓] theorem Tun.same_putPair (now r : Nat) (bs ext : List Byte) : part.same u (t.putPair now r bs ext) ↔ part.same u t := by
  simp [Tun.putPair, h]
@[simp ↓] theorem Tun.same_putRecord (now r : Nat) (bs ext : List Byte) : part.same u (t.putRecord now r bs ext) ↔ part.same u t := by
  simp [Tun.putRecord, h]
@[simp ↓] theorem Tun.same_writeRecord (now : Nat) (c : Cmd) (status : Half) (r0 : Dword) (r1 : BitVec 48) (ext : List Byte) :
    part.same u (t.writeRecord now c status r0 r1 ext) ↔ part.same u t := by
  simp [Tun.writeRecord, h]
@[simp ↓] theorem Tun.same_writeHeld (now : Nat) : part.same u (t.writeHeld now) ↔ part.same u t := by
  unfold Tun.writeHeld; split <;> simp [h]
@[simp ↓] theorem Tun.same_exportShare (now : Nat) : part.same u (t.exportShare now) ↔ part.same u t := by simp [Tun.exportShare, h]
@[simp ↓] theorem Tun.same_exportRound (now : Nat) : part.same u (t.exportRound now) ↔ part.same u t := by simp [Tun.exportRound, h]

end

/-! ### The service state, the ports, Hydrometer, the Cellar, the background work and the output -/

@[simp ↓] theorem Tun.same_enterFull (h : part ≠ .svc ∧ part ≠ .ports ∧ part ≠ .hyd ∧ part ≠ .cellar ∧ part ≠ .rel ∧ part ≠ .out) (now :
    Nat) :
    part.same u (t.enterFull now) ↔ part.same u t := by
  simp [Tun.enterFull, h]

/-! ### The ports, the packet plane, Hydrometer, the scheduled plane, Brewmaster and the output -/

section
variable (h : part ≠ .ports ∧ part ≠ .plane ∧ part ≠ .hyd ∧ part ≠ .sched ∧ part ≠ .bm ∧ part ≠ .out)
include h

@[simp ↓] theorem Tun.same_circuitSend (now : Nat) (w : Dword) (n : Nat) : part.same u (t.circuitSend now w n) ↔ part.same u t := by
  induction n generalizing t with
  | zero => rfl
  | succ n ih =>
    unfold Tun.circuitSend
    dsimp only
    split
    · rfl
    · simp [ih, h]
@[simp ↓] theorem Tun.same_engineSlot (now i : Nat) : part.same u (t.engineSlot now i) ↔ part.same u t := by
  unfold Tun.engineSlot; split <;> simp [h]

end

/-! ### The packet plane, Hydrometer, the scheduled plane, Brewmaster, the host port and the output -/

section
variable (h : part ≠ .plane ∧ part ≠ .hyd ∧ part ≠ .sched ∧ part ≠ .bm ∧ part ≠ .host ∧ part ≠ .out)
include h

@[simp ↓] theorem Tun.same_killRerun (now : Nat) (c : Cmd) : part.same u (t.killRerun now c) ↔ part.same u t := by simp [Tun.killRerun, h]
@[simp ↓] theorem Tun.same_arbitrateN (now n : Nat) (tried : List Nat) : part.same u (t.arbitrateN now n tried) ↔ part.same u t := by
  induction n generalizing tried t with
  | zero => rfl
  | succ n ih =>
    unfold Tun.arbitrateN
    dsimp only
    split
    · rfl
    · split
      · simp [ih, h]
      · split
        · simp [ih]
        · rw [ih]
          split <;> simp [h]
@[simp ↓] theorem Tun.same_arbitrate (now : Nat) : part.same u (t.arbitrate now) ↔ part.same u t := by simp [Tun.arbitrate, h]
@[simp ↓] theorem Tun.same_applyRemote (now : Nat) (c : Cmd) (e : Effect) : part.same u (t.applyRemote now c e) ↔ part.same u t := by
  unfold Tun.applyRemote; split <;> simp [h]

end

/-! ### The packet plane, Hydrometer, Brewmaster, the token engines, the background work and the output -/

@[simp ↓] theorem Tun.same_samplePlan (h : part ≠ .plane ∧ part ≠ .hyd ∧ part ≠ .bm ∧ part ≠ .token ∧ part ≠ .rel ∧ part ≠ .out) (now : Nat)
    (c : Cmd) (g : Group) (es : List SEntry) :
    part.same u (t.samplePlan now c g es) ↔ part.same u t := by
  simp [Tun.samplePlan, h]

/-! ### The end of a command, and the work of the engines -/

section
variable (h : part ≠ .plane ∧ part ≠ .hyd ∧ part ≠ .sched ∧ part ≠ .bm ∧ part ≠ .mash ∧ part ≠ .host ∧ part ≠ .out)
include h

@[simp ↓] theorem Tun.same_finishCmd (now : Nat) (c : Cmd) (status : Half) (r0 : Dword) (r1 : BitVec 48) (ext : List Byte) :
    part.same u (t.finishCmd now c status r0 r1 ext) ↔ part.same u t := by
  simp [Tun.finishCmd, h]
@[simp ↓] theorem Tun.same_failWith (now : Nat) (c : Cmd) (status : Half) (r0 : Dword) :
    part.same u (t.failWith now c status r0) ↔ part.same u t := by
  simp [Tun.failWith, h]
@[simp ↓] theorem Tun.same_failCmd (now : Nat) (c : Cmd) (status : Half) : part.same u (t.failCmd now c status) ↔ part.same u t := by
  simp [Tun.failCmd, h]
@[simp ↓] theorem Tun.same_completeExt (now : Nat) (c : Cmd) (status : Half) (r0 : Dword) (r1 : BitVec 48) (ext : List Byte) :
    part.same u (t.completeExt now c status r0 r1 ext) ↔ part.same u t := by
  unfold Tun.completeExt; split <;> simp [h]
@[simp ↓] theorem Tun.same_completeNow (now : Nat) (c : Cmd) (status : Half) (r0 : Dword) (r1 : BitVec 48) :
    part.same u (t.completeNow now c status r0 r1) ↔ part.same u t := by
  simp [Tun.completeNow, h]
@[simp ↓] theorem Tun.same_pushEnd (now : Nat) (c : Cmd) (st : Half) : part.same u (t.pushEnd now c st) ↔ part.same u t := by
  unfold Tun.pushEnd; dsimp only; split <;> simp [h]
@[simp ↓] theorem Tun.same_abortAll (now c : Nat) (status : Half) : part.same u (t.abortAll now c status) ↔ part.same u t := by
  simp [Tun.abortAll, h]
@[simp ↓] theorem Tun.same_planeDone (now : Nat) (who : Issuer) (st : Half) : part.same u (t.planeDone now who st) ↔ part.same u t := by
  unfold Tun.planeDone; dsimp only; repeat' split
  all_goals simp [h]
@[simp ↓] theorem Tun.same_endStart (now : Nat) (st : Half) : part.same u (t.endStart now st) ↔ part.same u t := by simp [Tun.endStart, h]
@[simp ↓] theorem Tun.same_releaseWork (now : Nat) : part.same u (t.releaseWork now) ↔ part.same u t := by
  refine (Part.same_foldl _ fun t b => ?_).trans (by simp [h])
  split <;> simp [h]
@[simp ↓] theorem Tun.same_releaseStopped (now : Nat) (st : Half) : part.same u (t.releaseStopped now st) ↔ part.same u t := by
  simp [Tun.releaseStopped, h]
@[simp ↓] theorem Tun.same_planeRelease (now : Nat) : part.same u (t.planeRelease now) ↔ part.same u t := by simp [Tun.planeRelease, h]
@[simp ↓] theorem Tun.same_brewStop (now : Nat) (who : Issuer) (b : BitVec 48) : part.same u (t.brewStop now who b) ↔ part.same u t := by
  unfold Tun.brewStop; dsimp only; split <;> simp [h]
@[simp ↓] theorem Tun.same_shadowDiscard (now : Nat) (who : Issuer) : part.same u (t.shadowDiscard now who) ↔ part.same u t := by
  simp [Tun.shadowDiscard, h]
@[simp ↓] theorem Tun.same_loadDone (now : Nat) (who : Issuer) (st : Half) (reason : Byte) :
    part.same u (t.loadDone now who st reason) ↔ part.same u t := by
  unfold Tun.loadDone; dsimp only; repeat' split
  all_goals simp [h]
@[simp ↓] theorem Tun.same_recipeLoad (now : Nat) (who : Issuer) (src : Dword) :
    part.same u (t.recipeLoad now who src) ↔ part.same u t := by
  simp [Tun.recipeLoad, h]
@[simp ↓] theorem Tun.same_recipeLoaded (now : Nat) (image : Option (List Byte)) :
    part.same u (t.recipeLoaded now image) ↔ part.same u t := by
  unfold Tun.recipeLoaded; dsimp only; repeat' split
  all_goals simp [h]
@[simp ↓] theorem Tun.same_failLockWaiters (now : Nat) (k : Half) (id : Nat) :
    part.same u (t.failLockWaiters now k id) ↔ part.same u t := by
  simp [Tun.failLockWaiters, h]
@[simp ↓] theorem Tun.same_collEnd (now : Nat) (c : Cmd) (st : Half) (ext : List Byte) :
    part.same u (t.collEnd now c st ext) ↔ part.same u t := by
  unfold Tun.collEnd; dsimp only; split <;> simp [h]
@[simp ↓] theorem Tun.same_runFail (now : Nat) (c : Cmd) (st : Half) : part.same u (t.runFail now c st) ↔ part.same u t := by
  simp [Tun.runFail, h]
@[simp ↓] theorem Tun.same_commandStart (now q : Nat) : part.same u (t.commandStart now q) ↔ part.same u t := by
  unfold Tun.commandStart; repeat' split
  all_goals simp [h]
@[simp ↓] theorem Tun.same_hostReadFail (now : Nat) (c : Cmd) : part.same u (t.hostReadFail now c) ↔ part.same u t := by
  simp [Tun.hostReadFail, h]
@[simp ↓] theorem Tun.same_planOrFail (now : Nat) (c : Cmd) (ps : List Piece) : part.same u (t.planOrFail now c ps) ↔ part.same u t := by
  simp [Tun.planOrFail, h]
@[simp ↓] theorem Tun.same_withReads (now : Nat) (c : Cmd) (plan : Tun → List Piece) (k : Cmd → Tun → Tun) (hk : ∀ a t, part.same t (k a t))
    :
    part.same u (t.withReads now c plan k) ↔ part.same u t := by
  unfold Tun.withReads
  dsimp only
  split
  · next c _ => simp [h, Part.same_congr (hk c _)]
  · simp [h]
@[simp ↓] theorem Tun.same_remoteTimeout (now entry : Nat) : part.same u (t.remoteTimeout now entry) ↔ part.same u t := by
  unfold Tun.remoteTimeout; repeat' split
  all_goals simp [h]
@[simp ↓] theorem Tun.same_ctxReside (now : Nat) (c : Cmd) : part.same u (t.ctxReside now c) ↔ part.same u t := by simp [Tun.ctxReside, h]
@[simp ↓] theorem Tun.same_evict (now n : Nat) : part.same u (t.evict now n) ↔ part.same u t := by unfold Tun.evict; simp [h]
@[simp ↓] theorem Tun.same_resideTurn (now : Nat) : part.same u (t.resideTurn now) ↔ part.same u t := by
  unfold Tun.resideTurn; dsimp only; repeat' split
  all_goals simp [h]
@[simp ↓] theorem Tun.same_resideDone (now : Nat) : part.same u (t.resideDone now) ↔ part.same u t := by
  unfold Tun.resideDone; repeat' split
  all_goals simp [h]
@[simp ↓] theorem Tun.same_resideFail (now : Nat) : part.same u (t.resideFail now) ↔ part.same u t := by
  unfold Tun.resideFail; dsimp only; repeat' split
  all_goals simp [h]
@[simp ↓] theorem Tun.same_ctxEvict (now : Nat) (c : Cmd) : part.same u (t.ctxEvict now c) ↔ part.same u t := by simp [Tun.ctxEvict, h]
@[simp ↓] theorem Tun.same_ctxSetPriority (now : Nat) (c : Cmd) : part.same u (t.ctxSetPriority now c) ↔ part.same u t := by
  simp [Tun.ctxSetPriority, h]
@[simp ↓] theorem Tun.same_semInit (now : Nat) (c : Cmd) : part.same u (t.semInit now c) ↔ part.same u t := by simp [Tun.semInit, h]
@[simp ↓] theorem Tun.same_groupForm (now : Nat) (c : Cmd) : part.same u (t.groupForm now c) ↔ part.same u t := by
  unfold Tun.groupForm; dsimp only; split <;> simp [h]
@[simp ↓] theorem Tun.same_groupStale (now n : Nat) (g : Group) (keep : List Nat) (gen : Option Byte) :
    part.same u (t.groupStale now n g keep gen) ↔ part.same u t := by
  simp [Tun.groupStale, h]
@[simp ↓] theorem Tun.same_groupReform (now : Nat) (c : Cmd) : part.same u (t.groupReform now c) ↔ part.same u t := by
  unfold Tun.groupReform; repeat' split
  all_goals simp [h]
@[simp ↓] theorem Tun.same_groupDisband (now : Nat) (c : Cmd) : part.same u (t.groupDisband now c) ↔ part.same u t := by
  unfold Tun.groupDisband; split <;> simp [h]
@[simp ↓] theorem Tun.same_collOpen (now : Nat) (c : Cmd) : part.same u (t.collOpen now c) ↔ part.same u t := by
  unfold Tun.collOpen; dsimp only; repeat' split
  all_goals simp [h]
@[simp ↓] theorem Tun.same_chunkReady (now : Nat) (c : Cmd) : part.same u (t.chunkReady now c) ↔ part.same u t := by
  unfold Tun.chunkReady; split <;> simp [h]
@[simp ↓] theorem Tun.same_collFinish (now : Nat) (c : Cmd) (g : Group) : part.same u (t.collFinish now c g) ↔ part.same u t := by
  simp [Tun.collFinish, h]
@[simp ↓] theorem Tun.same_pushSpanEnd (now : Nat) (c : Cmd) : part.same u (t.pushSpanEnd now c) ↔ part.same u t := by
  unfold Tun.pushSpanEnd; dsimp only; split <;> simp [h]
@[simp ↓] theorem Tun.same_tapGroupSet (now : Nat) (c : Cmd) : part.same u (t.tapGroupSet now c) ↔ part.same u t := by
  unfold Tun.tapGroupSet; dsimp only; repeat' split
  all_goals simp [h]
@[simp ↓] theorem Tun.same_lockWork (now : Nat) (c : Cmd) : part.same u (t.lockWork now c) ↔ part.same u t := by
  unfold Tun.lockWork; split <;> simp [h]
@[simp ↓] theorem Tun.same_abortLostReaders (now n : Nat) : part.same u (t.abortLostReaders now n) ↔ part.same u t := by
  simp [Tun.abortLostReaders, h]
@[simp ↓] theorem Tun.same_tableWork (now : Nat) (c : Cmd) : part.same u (t.tableWork now c) ↔ part.same u t := by
  unfold Tun.tableWork; dsimp only; repeat' split
  all_goals simp [h]
@[simp ↓] theorem Tun.same_encodeWork (now : Nat) (c : Cmd) : part.same u (t.encodeWork now c) ↔ part.same u t := by
  refine Tun.same_withReads h _ _ _ _ fun c t => ?_
  dsimp only
  repeat' split
  all_goals simp [h]
@[simp ↓] theorem Tun.same_decodeWork (now : Nat) (c : Cmd) : part.same u (t.decodeWork now c) ↔ part.same u t := by
  unfold Tun.decodeWork; dsimp only; repeat' split
  all_goals simp [h]
@[simp ↓] theorem Tun.same_streamOpenWork (now : Nat) (c : Cmd) : part.same u (t.streamOpenWork now c) ↔ part.same u t := by
  simp [Tun.streamOpenWork, h]
@[simp ↓] theorem Tun.same_lauterWork (now : Nat) (c : Cmd) : part.same u (t.lauterWork now c) ↔ part.same u t := by
  simp [Tun.lauterWork, h]
@[simp ↓] theorem Tun.same_sampleRun (now : Nat) (c : Cmd) (g : Group) (es : List SEntry) :
    part.same u (t.sampleRun now c g es) ↔ part.same u t := by
  simp [Tun.sampleRun, h]
@[simp ↓] theorem Tun.same_rackRefuse (now : Nat) (c : Cmd) (st : Half) : part.same u (t.rackRefuse now c st) ↔ part.same u t := by
  simp [Tun.rackRefuse, h]
@[simp ↓] theorem Tun.same_releaseGone (now entry : Nat) : part.same u (t.releaseGone now entry) ↔ part.same u t := by
  unfold Tun.releaseGone; repeat' split
  all_goals simp [h]
@[simp ↓] theorem Tun.same_failHostReads (now : Nat) : part.same u (t.failHostReads now) ↔ part.same u t := by
  unfold Tun.failHostReads; dsimp only; split <;> simp [h]
@[simp ↓] theorem Tun.same_hostLinkLoss (now : Nat) : part.same u (t.hostLinkLoss now) ↔ part.same u t := by simp [Tun.hostLinkLoss, h]
@[simp ↓] theorem Tun.same_hostReadDone (now id i : Nat) (data : Option (List Byte)) :
    part.same u (t.hostReadDone now id i data) ↔ part.same u t := by
  unfold Tun.hostReadDone; repeat' split
  all_goals simp [h]
@[simp ↓] theorem Tun.same_planeDue (now : Nat) : part.same u (t.planeDue now) ↔ part.same u t := by
  unfold Tun.planeDue; dsimp only; repeat' split
  all_goals simp [h]
@[simp ↓] theorem Tun.same_timedStep (now i : Nat) : part.same u (t.timedStep now i) ↔ part.same u t := by
  unfold Tun.timedStep
  split
  · rfl
  · dsimp only
    split
    · simp [h]
    · split
      · simp [h]
      · next e => split <;> simp [h, Tun.same_nextOf _ e]
@[simp ↓] theorem Tun.same_bindingStart (now i : Nat) : part.same u (t.bindingStart now i) ↔ part.same u t := by
  unfold Tun.bindingStart
  split
  · rfl
  · split
    · simp [h]
    · split
      · simp [h]
      · next e =>
        obtain ⟨g, -, e⟩ := Option.bind_eq_some_iff.mp e
        have k := Tun.same_nextPush (u := u) (part := part) (by simp [h]) e
        split
        · simp [h, k]
        · dsimp only
          split <;> simp [h, k]

end

/-! ### The outputs of a command, and a VF's doorbell -/

section
variable (h : part ≠ .plane ∧ part ≠ .hyd ∧ part ≠ .sched ∧ part ≠ .bm ∧ part ≠ .token ∧ part ≠ .host ∧ part ≠ .out)
include h

@[simp ↓] theorem Tun.same_applyOut (now : Nat) (c : Cmd) (e : Effect) : part.same u (t.applyOut now c e) ↔ part.same u t := by
  unfold Tun.applyOut; split <;> simp [h]
@[simp ↓] theorem Tun.same_vfDoorbell (now n off : Nat) (v : Word) : part.same u (t.vfDoorbell now n off v) ↔ part.same u t := by
  simp [Tun.vfDoorbell, h]

end

/-! ### The resume request -/

@[simp ↓] theorem Tun.same_resumeRequest (h : part ≠ .svc ∧ part ≠ .ports ∧ part ≠ .plane ∧ part ≠ .hyd ∧ part ≠ .sched ∧ part ≠ .bm ∧ part
    ≠ .host ∧ part ≠ .out) (now : Nat) :
    part.same u (t.resumeRequest now) ↔ part.same u t := by
  simp [Tun.resumeRequest, h]

/-! ### The boundary of a Brew -/

section
variable (h : part ≠ .ports ∧ part ≠ .plane ∧ part ≠ .hyd ∧ part ≠ .sched ∧ part ≠ .bm ∧ part ≠ .mash ∧ part ≠ .host ∧ part ≠ .out)
include h

@[simp ↓] theorem Tun.same_armedBegin (now : Nat) : part.same u (t.armedBegin now) ↔ part.same u t := by
  unfold Tun.armedBegin; dsimp only; repeat' split
  all_goals simp [h]
@[simp ↓] theorem Tun.same_armedDue (now : Nat) : part.same u (t.armedDue now) ↔ part.same u t := by simp [Tun.armedDue, h]
@[simp ↓] theorem Tun.same_brewBoundary (now : Nat) : part.same u (t.brewBoundary now) ↔ part.same u t := by simp [Tun.brewBoundary, h]

end

/-! ### The end of a context, and the batch commands -/

section
variable (h : part ≠ .plane ∧ part ≠ .hyd ∧ part ≠ .sched ∧ part ≠ .bm ∧ part ≠ .mash ∧ part ≠ .cellar ∧ part ≠ .host ∧ part ≠ .out)
include h

@[simp ↓] theorem Tun.same_ctxReset (now n : Nat) : part.same u (t.ctxReset now n) ↔ part.same u t := by simp [Tun.ctxReset, h]
@[simp ↓] theorem Tun.same_ctxKill (now : Nat) (c : Cmd) : part.same u (t.ctxKill now c) ↔ part.same u t := by simp [Tun.ctxKill, h]
@[simp ↓] theorem Tun.same_leaseExpiry (now n : Nat) : part.same u (t.leaseExpiry now n) ↔ part.same u t := by
  unfold Tun.leaseExpiry; repeat' split
  all_goals simp [h]
@[simp ↓] theorem Tun.same_cellarFull (now : Nat) (c : Cmd) (need room : Nat) (out : List (BEntry × Bool × Bool × Bool)) :
    part.same u (t.cellarFull now c need room out) ↔ part.same u t := by
  simp [Tun.cellarFull, h]
@[simp ↓] theorem Tun.same_batchWork (now : Nat) (c : Cmd) : part.same u (t.batchWork now c) ↔ part.same u t := by
  unfold Tun.batchWork; split <;> simp [h]
@[simp ↓] theorem Tun.same_departed (now subject scope : Nat) (incarn : Byte) (own : Bool) :
    part.same u (t.departed now subject scope incarn own) ↔ part.same u t := by
  simp [Tun.departed, h]
@[simp ↓] theorem Tun.same_departedOn (now id scope : Nat) (incarn : Byte) :
    part.same u (t.departedOn now id scope incarn) ↔ part.same u t := by
  unfold Tun.departedOn; split <;> simp [h]
@[simp ↓] theorem Tun.same_vfFlr (now n : Nat) : part.same u (t.vfFlr now n) ↔ part.same u t := by
  unfold Tun.vfFlr; dsimp only; repeat' split
  all_goals simp [h]

end

/-! ### The definition of a context -/

@[simp ↓] theorem Tun.same_ctxDefine (h : part ≠ .plane ∧ part ≠ .hyd ∧ part ≠ .sched ∧ part ≠ .bm ∧ part ≠ .mash ∧ part ≠ .token ∧ part ≠
    .host ∧ part ≠ .out) (now : Nat) (c : Cmd) :
    part.same u (t.ctxDefine now c) ↔ part.same u t := by
  simp [Tun.ctxDefine, h]

/-! ### Work that reads Cask -/

section
variable (h : part ≠ .plane ∧ part ≠ .hyd ∧ part ≠ .sched ∧ part ≠ .bm ∧ part ≠ .mash ∧ part ≠ .host ∧ part ≠ .rel ∧ part ≠ .out)
include h

@[simp ↓] theorem Tun.same_copyWork (now : Nat) (c : Cmd) : part.same u (t.copyWork now c) ↔ part.same u t := by simp [Tun.copyWork, h]
@[simp ↓] theorem Tun.same_fetchWork (now : Nat) (c : Cmd) : part.same u (t.fetchWork now c) ↔ part.same u t := by
  unfold Tun.fetchWork; dsimp only; split <;> simp [h]
@[simp ↓] theorem Tun.same_steepWork (now : Nat) (c : Cmd) : part.same u (t.steepWork now c) ↔ part.same u t := by simp [Tun.steepWork, h]

end

/-! ### The effects of a command -/

@[simp ↓] theorem Tun.same_applyEffects (h : part ≠ .plane ∧ part ≠ .hyd ∧ part ≠ .sched ∧ part ≠ .bm ∧ part ≠ .cellar ∧ part ≠ .host ∧ part
    ≠ .rel ∧ part ≠ .out) (now : Nat) (c : Cmd) (es : List Effect) :
    part.same u (t.applyEffects now c es) ↔ part.same u t := by
  simp [Tun.applyEffects, h]

/-! ### The loss of the reference -/

@[simp ↓] theorem Tun.same_refMissing (h : part ≠ .svc ∧ part ≠ .clk ∧ part ≠ .plane ∧ part ≠ .hyd ∧ part ≠ .sched ∧ part ≠ .bm ∧ part ≠
    .mash ∧ part ≠ .host ∧ part ≠ .out) (now : Nat) :
    part.same u (t.refMissing now) ↔ part.same u t := by
  simp [Tun.refMissing, h]

/-! ### The start of a Recipe -/

section
variable (h : part ≠ .svc ∧ part ≠ .rack ∧ part ≠ .plane ∧ part ≠ .hyd ∧ part ≠ .sched ∧ part ≠ .bm ∧ part ≠ .mash ∧ part ≠ .host ∧ part ≠
    .out)
include h

@[simp ↓] theorem Tun.same_brewStart (now : Nat) (who : Issuer) (f : BitVec 48) : part.same u (t.brewStart now who f) ↔ part.same u t := by
  unfold Tun.brewStart; split <;> simp [h]
@[simp ↓] theorem Tun.same_writeBrewCtrl (now : Nat) (v : Word) : part.same u (t.writeBrewCtrl now v) ↔ part.same u t := by
  unfold Tun.writeBrewCtrl; dsimp only; repeat' split
  all_goals simp [h]

end

/-! ### The entry to FENCED -/

section
variable (h : part ≠ .svc ∧ part ≠ .ports ∧ part ≠ .plane ∧ part ≠ .hyd ∧ part ≠ .sched ∧ part ≠ .bm ∧ part ≠ .mash ∧ part ≠ .host ∧ part ≠
    .out)
include h

@[simp ↓] theorem Tun.same_fenceAll (now : Nat) : part.same u (t.fenceAll now) ↔ part.same u t := by simp [Tun.fenceAll, h]
@[simp ↓] theorem Tun.same_fenceRequest (now : Nat) (cause : BitVec 2) : part.same u (t.fenceRequest now cause) ↔ part.same u t := by
  simp [Tun.fenceRequest, h]

end

/-! ### A peer's FENCE, and the end of IDENTIFY -/

section
variable (h : part ≠ .ports ∧ part ≠ .plane ∧ part ≠ .hyd ∧ part ≠ .sched ∧ part ≠ .bm ∧ part ≠ .mash ∧ part ≠ .cellar ∧ part ≠ .host ∧ part
    ≠ .out)
include h

@[simp ↓] theorem Tun.same_identifyComplete (now id : Nat) : part.same u (t.identifyComplete now id) ↔ part.same u t := by
  unfold Tun.identifyComplete; dsimp only; repeat' split
  all_goals simp [h]
@[simp ↓] theorem Tun.same_fenceReceive (now id : Nat) (scope leaving : Byte) :
    part.same u (t.fenceReceive now id scope leaving) ↔ part.same u t := by
  simp [Tun.fenceReceive, h]

end

/-! ### The undefinition of a context -/

@[simp ↓] theorem Tun.same_ctxUndefine (h : part ≠ .plane ∧ part ≠ .hyd ∧ part ≠ .sched ∧ part ≠ .bm ∧ part ≠ .mash ∧ part ≠ .cellar ∧ part
    ≠ .token ∧ part ≠ .host ∧ part ≠ .out) (now : Nat) (c : Cmd) :
    part.same u (t.ctxUndefine now c) ↔ part.same u t := by
  simp [Tun.ctxUndefine, h]

/-! ### Push tiles, chunks, and the publication of a batch -/

section
variable (h : part ≠ .plane ∧ part ≠ .hyd ∧ part ≠ .sched ∧ part ≠ .bm ∧ part ≠ .mash ∧ part ≠ .cellar ∧ part ≠ .host ∧ part ≠ .rel ∧ part ≠
    .out)
include h

@[simp ↓] theorem Tun.same_chunkRack (now : Nat) (c : Cmd) : part.same u (t.chunkRack now c) ↔ part.same u t := by
  unfold Tun.chunkRack; dsimp only; repeat' split
  all_goals simp [h]
@[simp ↓] theorem Tun.same_pushProduce (now : Nat) (c : Cmd) (a b : Nat) : part.same u (t.pushProduce now c a b) ↔ part.same u t := by
  unfold Tun.pushProduce; split <;> simp [h]
@[simp ↓] theorem Tun.same_pushTile (now : Nat) (c : Cmd) (g : Group) (m off : Nat) (bs : List Byte) (poison forfeit : Bool) (pipe : Option
    Nat) :
    part.same u (t.pushTile now c g m off bs poison forfeit pipe) ↔ part.same u t := by
  unfold Tun.pushTile; dsimp only; repeat' split
  all_goals simp [h]
@[simp ↓] theorem Tun.same_pushOpen (now : Nat) (c : Cmd) : part.same u (t.pushOpen now c) ↔ part.same u t := by
  unfold Tun.pushOpen
  split
  · rfl
  · refine (Part.same_foldl _ fun t e => ?_).trans (by simp [h])
    split <;> simp [h]
@[simp ↓] theorem Tun.same_takeContrib (now : Nat) (p : Packet) (forfeit : Bool) (pipe : Option Nat) :
    part.same u (t.takeContrib now p forfeit pipe) ↔ part.same u t := by
  unfold Tun.takeContrib; dsimp only; repeat' split
  all_goals simp [h]
@[simp ↓] theorem Tun.same_batchPublish (now : Nat) (c : Cmd) : part.same u (t.batchPublish now c) ↔ part.same u t := by
  simp [Tun.batchPublish, h]

end

/-! ### Sampling -/

@[simp ↓] theorem Tun.same_sampleWork (h : part ≠ .plane ∧ part ≠ .hyd ∧ part ≠ .sched ∧ part ≠ .bm ∧ part ≠ .mash ∧ part ≠ .token ∧ part ≠
    .host ∧ part ≠ .rel ∧ part ≠ .out) (now : Nat) (c : Cmd) :
    part.same u (t.sampleWork now c) ↔ part.same u t := by
  unfold Tun.sampleWork; dsimp only; repeat' split
  all_goals simp [h]

/-! ### The publication of what a command staged -/

@[simp ↓] theorem Tun.same_publish (h : part ≠ .plane ∧ part ≠ .hyd ∧ part ≠ .sched ∧ part ≠ .bm ∧ part ≠ .cellar ∧ part ≠ .token ∧ part ≠
    .host ∧ part ≠ .rel ∧ part ≠ .out) (now : Nat) (c : Cmd) (es : List Effect) :
    part.same u (t.publish now c es) ↔ part.same u t := by
  simp [Tun.publish, h]

/-! ### Racking -/

@[simp ↓] theorem Tun.same_rackCmd (h : part ≠ .plane ∧ part ≠ .hyd ∧ part ≠ .sched ∧ part ≠ .bm ∧ part ≠ .mash ∧ part ≠ .cellar ∧ part ≠
    .token ∧ part ≠ .host ∧ part ≠ .rel ∧ part ≠ .out) (now : Nat) (c : Cmd) :
    part.same u (t.rackCmd now c) ↔ part.same u t := by
  have lock {x : Half × Tun} (e : t.lockPublish c = .ok (some x)) : part.same u x.2 ↔ part.same u t :=
    Tun.same_lockPublish (by simp [h]) e
  unfold Tun.rackCmd
  dsimp only
  repeat' split
  all_goals simp [*]

/-! ### A stack that goes offline -/

section
variable (h : part ≠ .plane ∧ part ≠ .hyd ∧ part ≠ .sched ∧ part ≠ .bm ∧ part ≠ .mash ∧ part ≠ .cellar ∧ part ≠ .host ∧ part ≠ .err ∧ part ≠
    .rel ∧ part ≠ .out)
include h

@[simp ↓] theorem Tun.same_stackOffline (now n cause : Nat) : part.same u (t.stackOffline now n cause) ↔ part.same u t := by
  simp [Tun.stackOffline, h]
@[simp ↓] theorem Tun.same_caskTemp (now n : Nat) (v : Half) : part.same u (t.caskTemp now n v) ↔ part.same u t := by simp [Tun.caskTemp, h]

end

/-! ### What a warm reset clears -/

@[simp ↓] theorem Tun.same_warmClear (h : part ≠ .svc ∧ part ≠ .proxy ∧ part ≠ .ports ∧ part ≠ .plane ∧ part ≠ .hyd ∧ part ≠ .sched ∧ part ≠
    .bm ∧ part ≠ .mash ∧ part ≠ .cellar ∧ part ≠ .token ∧ part ≠ .rel) :
    part.same u t.warmClear ↔ part.same u t := by
  refine Iff.trans ?_ (Tun.same_modPorts (by simp [h]) Port.warmed)
  unfold Tun.warmClear
  generalize t.modPorts Port.warmed = v
  cases part <;> simp_all [Part.same]

/-! ### The loss of a Cask PLL -/

@[simp ↓] theorem Tun.same_caskPllLost (h : part ≠ .clk ∧ part ≠ .plane ∧ part ≠ .hyd ∧ part ≠ .sched ∧ part ≠ .bm ∧ part ≠ .mash ∧ part ≠
    .cellar ∧ part ≠ .host ∧ part ≠ .err ∧ part ≠ .rel ∧ part ≠ .out) (now n : Nat) :
    part.same u (t.caskPllLost now n) ↔ part.same u t := by
  simp [Tun.caskPllLost, h]

/-! ### The warm reset -/

@[simp ↓] theorem Tun.same_warmRequest (h : part ≠ .svc ∧ part ≠ .proxy ∧ part ≠ .ports ∧ part ≠ .plane ∧ part ≠ .hyd ∧ part ≠ .sched ∧ part
    ≠ .bm ∧ part ≠ .mash ∧ part ≠ .cellar ∧ part ≠ .token ∧ part ≠ .rel ∧ part ≠ .out) (now : Nat) (cause : BitVec 4) :
    part.same u (t.warmRequest now cause) ↔ part.same u t := by
  simp [Tun.warmRequest, h]

/-! ### The reset of the physical function -/

@[simp ↓] theorem Tun.same_pfFlr (h : part ≠ .svc ∧ part ≠ .proxy ∧ part ≠ .ports ∧ part ≠ .plane ∧ part ≠ .hyd ∧ part ≠ .sched ∧ part ≠ .bm
    ∧ part ≠ .mash ∧ part ≠ .cellar ∧ part ≠ .token ∧ part ≠ .host ∧ part ≠ .rel ∧ part ≠ .out) (now : Nat) :
    part.same u (t.pfFlr now) ↔ part.same u t := by
  simp [Tun.pfFlr, h]

/-! ### Detected errors, and scrubbing -/

section
variable (h : part ≠ .svc ∧ part ≠ .proxy ∧ part ≠ .ports ∧ part ≠ .plane ∧ part ≠ .hyd ∧ part ≠ .sched ∧ part ≠ .bm ∧ part ≠ .mash ∧ part ≠
    .cellar ∧ part ≠ .token ∧ part ≠ .host ∧ part ≠ .err ∧ part ≠ .rel ∧ part ≠ .out)
include h

@[simp ↓] theorem Tun.same_errorDetect (now src cls : Nat) (at_ : ErrAt) : part.same u (t.errorDetect now src cls at_) ↔ part.same u t := by
  simp [Tun.errorDetect, h]
@[simp ↓] theorem Tun.same_scrubFinds (now src : Nat) (f : Nat × Bool) : part.same u (scrubFinds now src t f) ↔ part.same u t := by
  simp [scrubFinds, h]
@[simp ↓] theorem Tun.same_scrubStack (now n units : Nat) (found : List (Nat × Bool)) :
    part.same u (t.scrubStack now n units found) ↔ part.same u t := by
  simp [Tun.scrubStack, h]
@[simp ↓] theorem Tun.same_scrubWort (now units : Nat) (found : List (Nat × Bool)) :
    part.same u (t.scrubWort now units found) ↔ part.same u t := by
  simp [Tun.scrubWort, h]

end

/-- A write to a set-up register: its window counts an early one, and FENCED takes none. -/
theorem Tun.same_windowWrite_setUp (h : part ≠ .svc) (f : Tun → Tun) (hf : ∀ t, part.same t (f t)) :
    part.same u (t.windowWrite (Tun.setUp f)) ↔ part.same u t :=
  Tun.same_windowWrite h _ fun _ => (Tun.same_setUp f hf).mpr Part.same_self

end

/-! ### The commands -/

/-- The outcome is a next state in which only Tun `x` differs from `s`, and of it only the parts in `ps`. -/
def ChangesOnly (x : TunId) (ps : List Part) (s : State) (o : Res) : Prop :=
  ∃ f : Tun → Tun, o = .next (s.modTun x f) ∧ ∀ part, part ∉ ps → part.same (s.tun x) (f (s.tun x))

section
variable {x : TunId} {ps : List Part} {s : State}

theorem changesOnly_onTun {f : Tun → Tun} (hf : ∀ part t, part ∉ ps → part.same t (f t)) : ChangesOnly x ps s (onTun x s f) :=
  ⟨f, rfl, fun part h => hf part _ h⟩

/-- An engine's work on a started command; without one nothing changes. -/
theorem changesOnly_execOn {f : Cmd → Tun → Tun} (id : Nat) (ops : List Nat) (hf : ∀ part c t, part ∉ ps → part.same t (f c t)) :
    ChangesOnly x ps s (execOn x id ops f s) :=
  changesOnly_onTun fun part t h => by
    split
    · exact hf part _ t h
    · exact Part.same_self

/-- An operation on the scheduled plane, by its register, whose window counts an early write, or by its command. -/
theorem changesOnly_planeOp {reg : Tun → Tun} {f : Cmd → Tun → Tun} (id : Option Nat) (op : Nat) (hsvc : .svc ∈ ps)
    (hr : ∀ part t, part ∉ ps → part.same t (reg t)) (hf : ∀ part c t, part ∉ ps → part.same t (f c t)) :
    ChangesOnly x ps s (planeOp x id op reg f s) :=
  changesOnly_onTun fun part t h => by
    have hs : part ≠ .svc := fun e => h (e ▸ hsvc)
    split
    · exact (Tun.same_windowWrite hs reg fun t => hr part t h).mpr Part.same_self
    · split
      · simp [hf part _ t h]
      · exact Part.same_self

/-- A CONTRIB that is not taken changes nothing. -/
theorem changesOnly_contribRow (kind : Nat) (forfeit : Bool) (pipe : Option Nat) (p : Packet)
    (hc : ∀ part t, part ∉ ps → part.same t (Tun.takeContrib s.now p forfeit pipe t)) :
    ChangesOnly x ps s (contribRow x kind forfeit pipe p s) :=
  changesOnly_onTun fun part t h => by simp [hc part t h]

end

/-- The frame of every command inside one Tun: it changes that Tun alone, and of it only the parts of its footprint. The four kinds of rows
are an event on the Tun, an engine's work, an operation on the scheduled plane and a CONTRIB. -/
theorem exec_changesOnly {c : Instr} {x : TunId} {s : State} (hx : tunOf c = some x) : ChangesOnly x (footprint c) s (exec c s) := by
  cases c with
  | rackConfigWrite | conflictClear | refclkMissing | holdoverExpiry | slewComplete | refclkPresent | corePllLock | caskPllLoss |
  tunWarmReset | paleWindowClose | caskTrainingDone | rateStepRound | alignmentTimeout | enterFull | serviceFence | serviceDrain |
  serviceResume | retryCask | stayPale | drainDone | drainTimeout | proxyTimeout | portEnable | detectLock | detectTimeout |
  trainEqualizeReceive | equalizeDone | deskewDone | attemptLimit | coldAttemptRetry | trainIdentityReceive | identifyComplete |
  identifyTimeout | retrainNotice | lossOfSignal | replayTimeout | replayBufferDiscard | replayWindowEnd | fenceReceive | fenceRepeat |
  portReset | portDisable | injectCrc | delayMeasureStart | delayEchoReceive | delayProbeReceive | napEntry | napReceive | wake |
  packetIngress | multicastCopy | injectAgeGild | rowLandingRelease | peerDeparture | pkeyTableWrite | rankDataWrite | rankDescWrite |
  routeDataWrite | vorlaufModeApply | brewBoundary | keeperMarkSend | brewMarkReceive | brewMarkTake | alignLoss | timedStepStart |
  stepBudgetEnd | engineCircuitSend | bindingStart | recipeLoadDone | armCheck | armRecheck | armedBrewBegin | planeRelease |
  queueDoorbell | cringHead | descriptorFetch | commandStart | remoteTimeout | heldRecordWrite | resideTurn | resideStreamDone |
  resideReadFail | leaseExpiry | tapContribution | pageRelease | stackOffline | streamHead | hostLinkTrain | hostPerst | hostLinkLoss |
  hostDirectedRetrain | vfFlr | pfFlr | sriovNumvfsWrite | vfDoorbellWrite | vfBar2Write | hostReadCompletion | msixUnmask | errorDetect |
  caskCalibration | caskTemperatureRead | caskSelfRefreshEntry | serdesRecal | junctionTempSample | exportRound | exportContinue | snap |
  hydRingHead | hydValueLoRead | hydConfigWrite | delayEchoTimeout | pfWortWindowWrite | releasedEntryReuse =>
    obtain rfl := Option.some.inj hx
    exact changesOnly_onTun fun part t h => by simp [footprint] at h; simp [h]
  | tunColdReset =>
    obtain rfl := Option.some.inj hx
    exact changesOnly_onTun fun part t h => by cases part <;> simp [footprint] at h
  | queueCfgWrite | cringCfgWrite =>
    obtain rfl := Option.some.inj hx
    refine changesOnly_onTun fun part t h => ?_
    simp [footprint] at h
    exact (Tun.same_windowWrite_setUp h.1 _ fun t => by split <;> simp [h]).mpr Part.same_self
  | racking | spargeScrub =>
    obtain rfl := Option.some.inj hx
    refine changesOnly_onTun fun part t h => ?_
    simp [footprint] at h
    repeat' split
    all_goals simp [h]
  | nop | writeImm | copy | timestamp | ctxDefine | ctxUndefine | ctxReside | ctxEvict | ctxSetPriority | ctxKill | semInit | groupForm |
  groupReform | groupDisband | allReduce | reduceScatter | allGather | broadcast | allToAll | pushCollective | chunkReady | chunkRacking |
  pushSpanEnd | tapGroupSet | seqOpen | seqClose | seqLock | seqUnlock | kvAppend | kvFetch | batchStep | steepDecode | tableLoad |
  gristEncode | gristDecode | streamOpen | streamClose | lauterState | pourParams | sampleStep =>
    obtain rfl := Option.some.inj hx
    exact changesOnly_execOn _ _ fun part c t h => by simp [footprint] at h; simp [h]
  | recipeLoad | brewStart | brewStop | shadowDiscard =>
    obtain rfl := Option.some.inj hx
    refine changesOnly_planeOp _ _ (by simp [footprint]) (fun part t h => ?_) fun part c t h => ?_
    all_goals simp [footprint] at h; simp [h]
  | contribDataReceive | contribSignalReceive | pushTileReceive =>
    obtain rfl := Option.some.inj hx
    exact changesOnly_contribRow _ _ _ _ fun part t h => by simp [footprint] at h; simp [h]
  | _ => cases hx

/-! ### The statements -/

/-- A part outside the footprint of a command inside Tun `x` is in the next state as it was. -/
theorem exec_same {c : Instr} {x : TunId} {s : State} {part : Part} (hx : tunOf c = some x) (hp : part ∉ footprint c) :
    ∃ t, exec c s = .next t ∧ part.same (s.tun x) (t.tun x) := by
  obtain ⟨f, e, h⟩ := exec_changesOnly (s := s) hx
  exact ⟨_, e, by simpa using h part hp⟩

/-- Settles O8: the outcome of such a command is its Tun changed by a function of that Tun. -/
theorem tunCommandsStayInTheirTun : Obligations.TunCommandsStayInTheirTun := by
  intro c x s hx
  obtain ⟨f, e, -⟩ := exec_changesOnly (s := s) hx
  exact ⟨_, e, onlyTun_mod s x f⟩

/-- Settles O11, by the frame of every command. -/
theorem frameOfService : Obligations.FrameOfService := fun _ _ _ _ hx _ hp => exec_same hx hp

/-- Settles O12, by the frame of every command. -/
theorem frameOfFabric : Obligations.FrameOfFabric := fun _ _ _ _ hx _ hp => exec_same hx hp

/-- Settles O13, by the frame of every command. -/
theorem frameOfEngines : Obligations.FrameOfEngines := fun _ _ _ _ hx _ hp => exec_same hx hp

/-- Settles O14, by the frame of every command. -/
theorem frameOfBrewmaster : Obligations.FrameOfBrewmaster := fun _ _ _ _ hx _ hp => exec_same hx hp

end Sys2Proof.Machine
end

section
/-! SUPPORT. Register writes on one Tun: the gate a window puts before a write, a management cycle that holds one write, and what a write of
RACK_CONFIG, PKEY_TABLE, RANK_DESC, RANK_DATA and ROUTE_DATA leaves in its registers. A table entry reads back whatever the table held
because the value stored is not the one an unlisted entry reads. -/

namespace Sys2Proof.Machine
open Sys2Proof

variable {t : Tun} {s : State} {x : TunId}

/-! ### The gate before a write -/

/-- Window 0x00 takes writes in a warm hold and in COLD too (05 R173, 22 Table 22-1). -/
theorem Tun.gateWrite_win0 {off : Nat} (h : off < 65536) (f : Tun → Tun) : t.gateWrite off f = f t := by
  simp [Tun.gateWrite, unheldWindow, openWindow, Nat.div_eq_of_lt h]

theorem WindowOpen.gateWrite (h : WindowOpen t) (off : Nat) (f : Tun → Tun) : t.gateWrite off f = f t := by
  obtain ⟨hold, -, cold⟩ := h
  simp [Tun.gateWrite, hold, cold]

theorem Tun.rowWrite_win0 {off : Nat} (h : off < 65536) (hoff : t.svc.state ≠ .off) (hcold : t.svc.hold ≠ .cold) (f : Tun → Tun) :
    t.rowWrite off f = f t := by
  simp [Tun.rowWrite, hoff, hcold, Tun.gateWrite_win0 h]

theorem WindowOpen.rowWrite (h : WindowOpen t) (off : Nat) (f : Tun → Tun) : t.rowWrite off f = f t := by
  have ⟨hold, hoff, _⟩ := h
  simp [Tun.rowWrite, h.gateWrite, hold, hoff]

theorem State.modTun_congr {f g : Tun → Tun} (h : f (s.tun x) = g (s.tun x)) : s.modTun x f = s.modTun x g := by
  simp [State.modTun, h]

/-- A command on one Tun answers what any function does that agrees with its own on that Tun. -/
theorem answers_onTun {c : Instr} {f g : Tun → Tun} {P : State → Prop} (e : exec c s = onTun x s f)
    (h : f (s.tun x) = g (s.tun x)) (p : P (s.modTun x g)) : Answers c s P :=
  .of_next e (State.modTun_congr h ▸ p)

/-- A register row's write to an open window. -/
theorem WindowOpen.answers_row {c : Instr} {off : Nat} {f : Tun → Tun} {P : State → Prop} (h : WindowOpen (s.tun x))
    (e : exec c s = onTun x s (Tun.rowWrite off f)) (p : P (s.modTun x f)) : Answers c s P :=
  answers_onTun e (h.rowWrite off f) p

/-! ### A cycle with one write -/

theorem pathsAt_single (w : RegWrite) (o : Nat) : pathsAt [w] o = if (writeWords w).contains o then pathBit w.path else 0 := by
  unfold pathsAt
  split
  · rw [List.filter_cons_of_pos ‹_›]
    exact BitVec.zero_or
  · rw [List.filter_cons_of_neg ‹_›]
    rfl

/-- One write comes over one path, so no word has several (04 R135). -/
theorem severalPaths_pathsAt_single (w : RegWrite) (o : Nat) : severalPaths (pathsAt [w] o) = false := by
  rw [pathsAt_single]
  split
  · cases w.path <;> rfl
  · rfl

@[simp] theorem Tun.countConflict_single (w : RegWrite) : t.countConflict [w] = t := by
  unfold Tun.countConflict
  cases h : arbitrated w
  · simp [h]
  · have hit : (writeWords w).filter (fun o => severalPaths (pathsAt [w] o)) = [] :=
      List.filter_eq_nil_iff.mpr fun o _ => Bool.eq_false_iff.mp (severalPaths_pathsAt_single w o)
    simp [h, hit]

theorem Tun.cycleWrites_single (now : Nat) {w : RegWrite} (hw : w.off < 0x1000000) (ha : t.pathAnswers w.path = true) :
    t.cycleWrites now [w] = t.writeAccess now w := by
  cases hp : w.path <;> simp [Tun.cycleWrites, hw, hp ▸ ha, hp]

/-- An aligned 32-bit write to an open window. -/
theorem WindowOpen.writeAccess_word (h : WindowOpen t) (now : Nat) (p : Path) {off : Nat} (ho : off % 4 = 0) (v : Word) :
    t.writeAccess now ⟨p, off, 4, v.setWidth 64⟩ = t.writeWord now p off v := by
  have hv : loOf (v.setWidth 64) = v := by simp [loOf, BitVec.extractLsb'_setWidth_of_le]
  simp [Tun.writeAccess, regAligned, ho, h.gateWrite, hv]

/-- Without a rise of BUSY the proxy relays nothing (06 R193). -/
theorem State.relayProxy_same {was : Bool} (h : (s.tun x).proxy.busy = was) : s.relayProxy x was = s := by
  simp [State.relayProxy, h]

/-- A 32-bit write to an open window over a path that answers, where the proxy's BUSY stays, does to the Tun what its register does. -/
theorem exec_registerWrite_word (hw : WindowOpen (s.tun x)) {p : Path} (hp : (s.tun x).pathAnswers p = true) {off : Nat}
    (h4 : off % 4 = 0) (hoff : off < 0x1000000) (v : Word) {g : Tun → Tun} (hg : (s.tun x).writeWord s.now p off v = g (s.tun x))
    (hb : (g (s.tun x)).proxy.busy = (s.tun x).proxy.busy) :
    exec (.registerWrite x [⟨p, off, 4, v.setWidth 64⟩]) s = .next (s.modTun x g) := by
  have h : (s.tun x).cycleWrites s.now [⟨p, off, 4, v.setWidth 64⟩] = g (s.tun x) := by
    rw [Tun.cycleWrites_single _ hoff hp, hw.writeAccess_word _ _ h4, hg]
  change Host.Outcome.next ((s.modTun x (Tun.cycleWrites s.now _)).relayProxy x _) = .next (s.modTun x g)
  rw [State.modTun_congr h, State.relayProxy_same (by rw [State.tun_modTun, hb])]

/-! ### RACK_CONFIG -/

/-- The designation that comes into force changes no field written (02 R58). -/
theorem Tun.keeperTakes_rack : t.keeperTakes.rack = { t.rack with forceRow := t.rack.heldRow, forceCol := t.rack.heldCol } := by
  have h (u : Tun) : (u.keeperAlign false).rack = u.rack :=
    (Tun.same_keeperAlign (part := .rack) (by decide) false).mpr Part.same_self
  exact h _

/-- The keeper fields are stored as written, ANNEX_PAIRING under the 2-tray plan alone, and the plan stays (02 R52, R56). -/
theorem Tun.writeRackConfig_fields (v : Word) :
    (t.writeRackConfig v).rack.keeperOverride = v.getLsbD 15 ∧ (t.writeRackConfig v).rack.keeperRow = bitsOf v 12 3 ∧
    (t.writeRackConfig v).rack.keeperCol = bitsOf v 10 2 ∧
    (t.writeRackConfig v).rack.pairing = (v.getLsbD 2 && t.rack.plan == 1) ∧ (t.writeRackConfig v).rack.plan = t.rack.plan := by
  unfold Tun.writeRackConfig
  dsimp only
  split
  · simp [Tun.keeperTakes_rack]
  · simp

/-! ### PKEY_TABLE -/

@[simp] theorem loOf_append (a b : Word) : loOf (a ++ b) = b := BitVec.extractLsb'_append_eq_right

@[simp] theorem loOf_setLo (e : Dword) (w : Word) : loOf (setLo e w) = w := loOf_append _ _

@[simp] theorem loOf_setHi (e : Dword) (w : Word) : loOf (setHi e w) = loOf e := loOf_append _ _

theorem setHi_setLo (e : Dword) (a b : Word) : setHi (setLo e a) b = b ++ a := congrArg (b ++ ·) (loOf_setLo e a)

theorem Dword.ne_zero_of_loOf {e : Dword} (h : loOf e ≠ 0) : e ≠ 0 := by
  rintro rfl
  exact h rfl

theorem getLsbD_loOf (e : Dword) {i : Nat} (h : i < 32) : (loOf e).getLsbD i = e.getLsbD i := by
  simp [loOf, h]

theorem bitsOf_loOf (e : Dword) : bitsOf (loOf e) 0 16 = e.extractLsb' 0 16 := by
  simp [bitsOf, loOf, BitVec.extractLsb'_extractLsb'_of_le]

theorem hiOf_append_loOf (e : Dword) : hiOf e ++ loOf e = e :=
  (BitVec.extractLsb'_append_extractLsb'_eq_extractLsb' rfl).trans BitVec.extractLsb'_eq_self

/-- A valid entry with a reserved key, which a write may not store (10 R366). -/
def pkeyReserved (v : Word) : Bool := v.getLsbD 31 && (bitsOf v 0 16 == (0 : Half) || bitsOf v 0 16 == (0xFFFF : Half))

/-- The low word a PKEY_TABLE write stores: reserved bits 0, and not valid with a reserved key (10 R365, R366). -/
def pkeyLowStored (v : Word) : Word := if pkeyReserved v then v &&& 0xBF80FFFF &&& 0x7FFFFFFF else v &&& 0xBF80FFFF

theorem Tun.pkeyWord_writePkeyLow (i : Nat) {v : Word} (h : pkeyLowStored v ≠ 0) :
    (t.writePkeyLow i v).pkeyWord i = setLo (t.pkeyWord i) (pkeyLowStored v) :=
  Tab.get_set_listed _ _ _ (Dword.ne_zero_of_loOf (by rwa [loOf_setLo]))

theorem Tun.pkeyWord_writePkeyHigh (i : Nat) (v : Word) (h : loOf (t.pkeyWord i) ≠ 0) :
    (t.writePkeyHigh i v).pkeyWord i = setHi (t.pkeyWord i) (v &&& 0x3F) :=
  Tab.get_set_listed _ _ _ (Dword.ne_zero_of_loOf (by rwa [loOf_setHi]))

/-- A write of both words of an entry, low word first. -/
def Tun.writePkey (i : Nat) (v : Dword) (t : Tun) : Tun := (t.writePkeyLow i (loOf v)).writePkeyHigh i (hiOf v)

theorem Tun.pkeyWord_writePkey (i : Nat) {v : Dword} (h : pkeyLowStored (loOf v) ≠ 0) :
    (t.writePkey i v).pkeyWord i = (hiOf v &&& 0x3F) ++ pkeyLowStored (loOf v) := by
  have low := Tun.pkeyWord_writePkeyLow (t := t) i h
  unfold Tun.writePkey
  rw [Tun.pkeyWord_writePkeyHigh _ _ (by rwa [low, loOf_setLo]), low, setHi_setLo]

theorem Tun.writePkey_pkeyRefused (i : Nat) (v : Dword) :
    (t.writePkey i v).plane.pkeyRefused = (t.plane.pkeyRefused || pkeyReserved (loOf v)) := rfl

/-- A word with a bit set that a mask keeps is not 0 under the mask. -/
theorem and_ne_zero_of_getLsbD {w : Nat} {v m : BitVec w} (i : Nat) (hv : v.getLsbD i = true) (hm : m.getLsbD i = true) :
    v &&& m ≠ 0 := by
  intro e
  simpa [hv, hm] using congrArg (BitVec.getLsbD · i) e

theorem Tun.writePkey_valid (i : Nat) {v : Dword} (hv : v.getLsbD 31 = true) (h0 : v.extractLsb' 0 16 ≠ (0 : Half))
    (hF : v.extractLsb' 0 16 ≠ (0xFFFF : Half)) :
    (t.writePkey i v).pkeyWord i = v &&& 0x0000003FBF80FFFF ∧ (t.writePkey i v).plane.pkeyRefused = t.plane.pkeyRefused := by
  have hr : pkeyReserved (loOf v) = false := by
    rw [pkeyReserved, bitsOf_loOf, beq_false_of_ne h0, beq_false_of_ne hF, Bool.or_false, Bool.and_false]
  have hs : pkeyLowStored (loOf v) = loOf v &&& 0xBF80FFFF := by simp [pkeyLowStored, hr]
  have hne : pkeyLowStored (loOf v) ≠ 0 :=
    hs ▸ and_ne_zero_of_getLsbD 31 ((getLsbD_loOf v (by decide)).trans hv) (by decide)
  constructor
  · calc (t.writePkey i v).pkeyWord i = (hiOf v &&& 0x3F) ++ (loOf v &&& 0xBF80FFFF) := by rw [Tun.pkeyWord_writePkey i hne, hs]
      _ = (hiOf v ++ loOf v) &&& ((0x3F : Word) ++ (0xBF80FFFF : Word)) := BitVec.and_append.symm
      _ = v &&& 0x0000003FBF80FFFF := by rw [hiOf_append_loOf]; rfl
  · simp [Tun.writePkey_pkeyRefused, hr]

theorem Tun.writePkey_reserved (i : Nat) {v : Dword} (hv : v.getLsbD 31 = true) (hF : v.extractLsb' 0 16 = (0xFFFF : Half)) :
    ((t.writePkey i v).pkeyWord i).getLsbD 31 = false ∧ (t.writePkey i v).plane.pkeyRefused = true := by
  have hr : pkeyReserved (loOf v) = true := by
    rw [pkeyReserved, getLsbD_loOf v (by decide), hv, bitsOf_loOf, hF]; rfl
  have hs : pkeyLowStored (loOf v) = loOf v &&& (0xBF80FFFF &&& 0x7FFFFFFF) := by simp [pkeyLowStored, hr, BitVec.and_assoc]
  have bit0 : v.getLsbD 0 = true := by simpa using congrArg (BitVec.getLsbD · 0) hF
  have hne : pkeyLowStored (loOf v) ≠ 0 :=
    hs ▸ and_ne_zero_of_getLsbD 0 ((getLsbD_loOf v (by decide)).trans bit0) (by decide)
  constructor
  · rw [Tun.pkeyWord_writePkey i hne, hs, BitVec.getLsbD_append, if_pos (by decide), BitVec.getLsbD_and]
    exact Bool.and_false _
  · simp [Tun.writePkey_pkeyRefused, hr]

/-! ### RANK_DESC -/

theorem bitsOf_toNat (v : Word) (lsb w : Nat) : (bitsOf v lsb w).toNat = v.toNat / 2 ^ lsb % 2 ^ w := by
  simp [bitsOf, BitVec.extractLsb'_toNat, Nat.shiftRight_eq_div_pow]

/-- A rank descriptor holds its grid width in bits 24 to 16 and its rank count in bits 12 to 0 (10 R367). -/
theorem bitsOf_rankDesc {w n : Nat} (hw : w ≤ 256) (hn : n ≤ 4096) :
    (bitsOf (BitVec.ofNat 32 (w * 65536 + n)) 16 9).toNat = w ∧ (bitsOf (BitVec.ofNat 32 (w * 65536 + n)) 0 13).toNat = n := by
  simp only [bitsOf_toNat, BitVec.toNat_ofNat]
  omega

/-- GRID_WIDTH and RANK_COUNT are held within their limits (10 R367). -/
theorem Tun.writeRankDesc_reads (i : Nat) (v : Word) :
    (t.writeRankDesc i v).gridWidth i = min 256 (max 1 (bitsOf v 16 9).toNat) ∧
    (t.writeRankDesc i v).rankCount i = min 4096 (bitsOf v 0 13).toNat := by
  have hw : min 256 (max 1 (bitsOf v 16 9).toNat) ≤ 256 := Nat.min_le_left _ _
  have h1 : 1 ≤ min 256 (max 1 (bitsOf v 16 9).toNat) := by omega
  have hn : min 4096 (bitsOf v 0 13).toNat ≤ 4096 := Nat.min_le_left _ _
  unfold Tun.gridWidth Tun.rankCount Tun.writeRankDesc
  dsimp only
  generalize min 256 (max 1 (bitsOf v 16 9).toNat) = w at *
  generalize min 4096 (bitsOf v 0 13).toNat = n at *
  obtain ⟨ew, en⟩ := bitsOf_rankDesc hw hn
  have hne : BitVec.ofNat 32 (w * 65536 + n) ≠ 0 := by
    intro e
    rw [e] at ew
    have : 0 = w := ew
    omega
  rw [Tab.get_set_listed _ _ _ hne]
  exact ⟨by omega, en⟩

/-! ### RANK_DATA and ROUTE_DATA -/

/-- A valid rank entry that names an endpoint is stored (10 R368). -/
theorem Tun.writeRankData_endpoint {v : Word} (hv : v.getLsbD 15 = true) (he : (bitsOf v 0 10).toNat < 192) :
    Tab.get 0 (t.writeRankData v).plane.ranks t.plane.rankIndex.toNat = (v &&& 0x83FF).setWidth 16 ∧
    (t.writeRankData v).plane.rankRefused = t.plane.rankRefused := by
  have hne : (v &&& 0x83FF).setWidth 16 ≠ (0 : Half) := by
    intro e
    have h15 : ((v &&& 0x83FF).setWidth 16 : Half).getLsbD 15 = false := e ▸ rfl
    rw [BitVec.getLsbD_setWidth, BitVec.getLsbD_and, hv] at h15
    exact absurd h15 (by decide)
  have hok : ¬ (v.getLsbD 15 ∧ 192 ≤ (bitsOf v 0 10).toNat ∧ (bitsOf v 0 10).toNat ≤ 255) := by omega
  unfold Tun.writeRankData
  rw [if_neg hok]
  exact ⟨Tab.get_set_listed _ _ _ hne, rfl⟩

/-- A valid rank entry that names a Tun is refused (10 R368). -/
theorem Tun.writeRankData_tun {v : Word} (hv : v.getLsbD 15 = true) (h1 : 192 ≤ (bitsOf v 0 10).toNat)
    (h2 : (bitsOf v 0 10).toNat ≤ 255) : t.writeRankData v = { t with plane := { t.plane with rankRefused := true } } :=
  if_pos ⟨hv, h1, h2⟩

/-- A valid route that names what the Tun has is stored (11 R404). -/
theorem Tun.writeRouteData_ok {v : Word} (hv : v.getLsbD 31 = true) (hr : t.routeOk t.plane.routeIndex.toNat v = true) :
    Tab.get 0 (t.writeRouteData v).plane.routes t.plane.routeIndex.toNat = v &&& 0xFFFF0000 ∧
    (t.writeRouteData v).plane.routeStatus = (if t.svc.state = .draining then 0 else 1) := by
  unfold Tun.writeRouteData
  rw [if_neg (by simp [hr])]
  exact ⟨Tab.get_set_listed _ _ _ (and_ne_zero_of_getLsbD 31 hv (by decide)), rfl⟩

/-- A valid route that names nothing the Tun has is refused (11 R404). -/
theorem Tun.writeRouteData_bad {v : Word} (hv : v.getLsbD 31 = true) (hr : t.routeOk t.plane.routeIndex.toNat v = false) :
    t.writeRouteData v = { t with plane := { t.plane with routeStatus := 0x00F1 } } := if_pos ⟨hv, by simp [hr]⟩

/-! ### The statements -/

/-- RACK_CONFIG takes a write in every hold but the cold one. -/
theorem answers_rackConfigWrite {v : Word} {P : State → Prop} (hoff : (s.tun x).svc.state ≠ .off) (hcold : (s.tun x).svc.hold ≠ .cold)
    (p : P (s.modTun x (Tun.writeRackConfig v))) : Answers (.rackConfigWrite x v) s P :=
  answers_onTun rfl (Tun.rowWrite_win0 (by decide) hoff hcold _) p

/-- Settles O56, by the fields a write of RACK_CONFIG stores. -/
theorem pairingOutsidePlan : Obligations.PairingOutsidePlan := by
  intro s x v hoff hcold hplan _
  obtain ⟨keeper, row, col, pair, plan⟩ := Tun.writeRackConfig_fields (t := s.tun x) v
  refine answers_rackConfigWrite hoff hcold ?_
  rw [State.tun_modTun]
  exact ⟨by rw [pair, beq_false_of_ne hplan, Bool.and_false], keeper, row, col, plan, onlyTun_mod ..⟩

/-- Settles O31: each row's write passes its gate and stores or refuses as the lemma of its register says. -/
theorem registerRowsComplete : Obligations.RegisterRowsComplete := by
  intro s x hold
  have hcoldHold : (s.tun x).svc.hold ≠ .cold := by simp [hold]
  refine ⟨fun hoff v => ?rackConfig, fun hoff => ?conflictClear, fun hoff hdrain hempty => ?vorlaufMode, fun hoff hcold => ?openRows⟩
  case rackConfig =>
    obtain ⟨keeper, row, col, pair, plan⟩ := Tun.writeRackConfig_fields (t := s.tun x) v
    refine answers_rackConfigWrite hoff hcoldHold ?_
    rw [State.tun_modTun]
    exact ⟨keeper, row, col, pair, plan, onlyTun_mod ..⟩
  case conflictClear => exact congrArg Host.Outcome.next (State.modTun_congr (Tun.rowWrite_win0 (by decide) hoff hcoldHold _))
  case vorlaufMode =>
    refine answers_onTun (g := Tun.modPlane fun p => { p with modeNow := p.modeStored }) rfl ?_ ⟨?_, onlyTun_mod ..⟩
    · simp [hold, hoff, Tun.vorlaufApply, hdrain, hempty]
    · rw [State.tun_modTun]; rfl
  have hw : WindowOpen (s.tun x) := ⟨hold, hoff, hcold⟩
  refine ⟨fun p v hp => ?arbWeights, fun n v hv h0 hF => ?pkeyValid, fun n v hv hF => ?pkeyReserved, fun n v => ?rankDesc,
    fun v hv he => ?rankEndpoint, fun v hv h1 h2 => ?rankTun, fun v hv hr => ?routeOk, fun v hv hr => ?routeBad⟩
  case arbWeights => exact .of_next (exec_registerWrite_word hw hp (by decide) (by decide) v rfl rfl) rfl
  all_goals refine hw.answers_row rfl ?_; rw [State.tun_modTun]
  case pkeyValid =>
    obtain ⟨word, refused⟩ := Tun.writePkey_valid (t := s.tun x) n.toNat hv h0 hF
    exact ⟨word, refused, onlyTun_mod ..⟩
  case pkeyReserved =>
    obtain ⟨word, refused⟩ := Tun.writePkey_reserved (t := s.tun x) n.toNat hv hF
    exact ⟨word, refused, onlyTun_mod ..⟩
  case rankDesc =>
    obtain ⟨width, count⟩ := Tun.writeRankDesc_reads (t := s.tun x) n.toNat v
    exact ⟨width, count, onlyTun_mod ..⟩
  case rankEndpoint =>
    obtain ⟨entry, refused⟩ := Tun.writeRankData_endpoint (t := s.tun x) hv he
    exact ⟨entry, refused, onlyTun_mod ..⟩
  case rankTun => rw [Tun.writeRankData_tun hv h1 h2]; exact ⟨rfl, rfl, onlyTun_mod ..⟩
  case routeOk =>
    obtain ⟨entry, status⟩ := Tun.writeRouteData_ok hv hr
    exact ⟨entry, status, onlyTun_mod ..⟩
  case routeBad => rw [Tun.writeRouteData_bad hv hr]; exact ⟨rfl, rfl, onlyTun_mod ..⟩

end Sys2Proof.Machine
end

section
/-! SUPPORT. The clocks and the resets: a write of RESET_CTRL over any path, the requests it makes, what a change of the core reference
leaves in the clock registers, and what the release of a reset leaves in the service registers (04 R106-R112, R120-R131, R828, R829). -/

namespace Sys2Proof.Machine
open Sys2Proof

variable {t : Tun} {s : State} {x : TunId}

/-! ### A reset request -/

/-- A powered Tun whose management domain answers takes a cold reset, in a warm hold too (04 R120, R828). -/
theorem Tun.coldRequest_taken (hoff : t.svc.state ≠ .off) (hcold : t.svc.hold ≠ .cold) (hup : t.svc.mgmtUp = true) (now : Nat)
    (cause : BitVec 4) : t.coldRequest now cause = t.holdCold now cause := if_neg (by simp [hoff, hcold, hup])

/-- A powered Tun that no reset holds and whose management domain answers takes a warm reset (04 R120, R828). -/
theorem Tun.warmRequest_taken (hoff : t.svc.state ≠ .off) (hold : t.svc.hold = .none_) (hup : t.svc.mgmtUp = true) (now : Nat)
    (cause : BitVec 4) :
    t.warmRequest now cause =
      let u := (t.fenceLinks now 2 true).warmClear
      { u with svc := { u.svc with hold := .warm, pendCause := cause } } := if_neg (by simp [hoff, hold, hup])

@[simp] theorem Tun.warmRequest_clk (now : Nat) (cause : BitVec 4) : (t.warmRequest now cause).clk = t.clk :=
  (Tun.same_warmRequest (part := .clk) (by decide) now cause).mpr Part.same_self

/-! ### A write of RESET_CTRL -/

/-- Window 0x0F takes writes in a warm hold and in COLD too (05 R173, 22 Table 22-1). -/
theorem Tun.gateWrite_winF {off : Nat} (h : off / 65536 = 0xF) (f : Tun → Tun) : t.gateWrite off f = f t := by
  simp [Tun.gateWrite, unheldWindow, openWindow, h]

/-- A Tun that a path reaches has power, is in no cold hold, and its management domain answers (22 R807). -/
theorem Tun.takesReset_of_pathAnswers {p : Path} (ha : t.pathAnswers p = true) :
    t.svc.state ≠ .off ∧ t.svc.hold ≠ .cold ∧ t.svc.mgmtUp = true := by
  have hr : t.reachable = true := (Bool.and_eq_true_iff.mp ha).1
  simpa [Tun.reachable, and_assoc] using hr

/-- A write over a path that does not answer is lost (22 Table 22-2). -/
theorem Tun.cycleWrites_unanswered (now : Nat) {w : RegWrite} (ha : t.pathAnswers w.path = false) : t.cycleWrites now [w] = t := by
  simp [Tun.cycleWrites, ha, Tun.countConflict, pathsAt]

/-- An aligned 32-bit write to window 0x0F. -/
theorem Tun.writeAccess_winF (now : Nat) (p : Path) {off : Nat} (h4 : off % 4 = 0) (hF : off / 65536 = 0xF) (v : Word) :
    t.writeAccess now ⟨p, off, 4, v.setWidth 64⟩ = t.writeWord now p off v := by
  have hv : loOf (v.setWidth 64) = v := by simp [loOf, BitVec.extractLsb'_setWidth_of_le]
  simp [Tun.writeAccess, regAligned, h4, Tun.gateWrite_winF hF, hv]

/-- The only write of a cycle, to RESET_CTRL over a path that answers. -/
theorem Tun.cycleWrites_resetCtrl (now : Nat) {p : Path} (ha : t.pathAnswers p = true) (v : Word) :
    t.cycleWrites now [⟨p, 0x0F0010, 4, v.setWidth 64⟩] = t.writeResetCtrl now p v :=
  calc t.cycleWrites now [⟨p, 0x0F0010, 4, v.setWidth 64⟩]
    _ = t.writeAccess now ⟨p, 0x0F0010, 4, v.setWidth 64⟩ := Tun.cycleWrites_single now (show 0x0F0010 < 0x1000000 by decide) ha
    _ = t.writeWord now p 0x0F0010 v := Tun.writeAccess_winF now p (by decide) (by decide) v
    _ = t.writeResetCtrl now p v := rfl

/-- Without its key a write of RESET_CTRL is ignored (04 R128). -/
theorem Tun.writeResetCtrl_keyless (now : Nat) (p : Path) {v : Word} (hk : bitsOf v 16 16 ≠ 0xA5C3#16) :
    t.writeResetCtrl now p v = t := if_pos hk

/-- With its key and COLD a write of RESET_CTRL asks for a cold reset, whatever WARM says (04 R129). -/
theorem Tun.writeResetCtrl_cold (now : Nat) (p : Path) {v : Word} (hk : bitsOf v 16 16 = 0xA5C3#16) (hc : v.getLsbD 1 = true) :
    t.writeResetCtrl now p v = t.coldRequest now (coldCause (.path p)) := by
  simp [Tun.writeResetCtrl, hk, hc]

theorem State.setTun_tun : s.setTun x (s.tun x) = s := by rw [State.setTun, State.tun, Quad.set_get]

/-- Writes that raise no BUSY of the proxy, which then relays nothing, change their Tun alone (06 R193). -/
theorem exec_registerWrite_unrelayed {ws : List RegWrite} {u : Tun} (h : (s.tun x).cycleWrites s.now ws = u)
    (hb : u.proxy.busy = true → (s.tun x).proxy.busy = true) : exec (.registerWrite x ws) s = .next (s.setTun x u) := by
  have quiet : (!(s.tun x).proxy.busy && u.proxy.busy) = false := by
    cases e : u.proxy.busy
    case false => exact Bool.and_false _
    case true => rw [hb e]; rfl
  change Host.Outcome.next ((s.setTun x ((s.tun x).cycleWrites s.now ws)).relayProxy x _) = _
  rw [h, State.relayProxy, State.tun_setTun, quiet]
  rfl

/-- A cold reset asked for by RESET_CTRL, over a path that answers: the Tun enters the cold hold, and the cleared proxy relays nothing. -/
theorem exec_registerWrite_coldReset {p : Path} {v : Word} (ha : (s.tun x).pathAnswers p = true) (hk : bitsOf v 16 16 = 0xA5C3#16)
    (hc : v.getLsbD 1 = true) :
    exec (.registerWrite x [⟨p, 0x0F0010, 4, v.setWidth 64⟩]) s = .next (s.modTun x (Tun.holdCold s.now (coldCause (.path p)))) := by
  obtain ⟨hoff, hcold, hup⟩ := Tun.takesReset_of_pathAnswers ha
  have h : (s.tun x).cycleWrites s.now [⟨p, 0x0F0010, 4, v.setWidth 64⟩] = (s.tun x).holdCold s.now (coldCause (.path p)) := by
    rw [Tun.cycleWrites_resetCtrl _ ha, Tun.writeResetCtrl_cold _ _ hk hc, Tun.coldRequest_taken hoff hcold hup]
  exact exec_registerWrite_unrelayed h nofun

/-- Settles O51: over a path that answers RESET_CTRL ignores the write, and over another path the write is lost. -/
theorem resetNeedsKey : Obligations.ResetNeedsKey := by
  intro s x p v hk
  have h : (s.tun x).cycleWrites s.now [⟨p, 0x0F0010, 4, v.setWidth 64⟩] = s.tun x := by
    cases ha : (s.tun x).pathAnswers p
    case false => exact Tun.cycleWrites_unanswered _ ha
    case true => rw [Tun.cycleWrites_resetCtrl _ ha, Tun.writeResetCtrl_keyless _ _ hk]
  rw [exec_registerWrite_unrelayed h id, State.setTun_tun]

/-- Settles O52: with the key and COLD the Tun enters the cold hold, and no other bit of the word is looked at. -/
theorem coldOverWarm : Obligations.ColdOverWarm := by
  intro s x p v ha hk hc _
  have both := exec_registerWrite_coldReset ha hk hc
  have alone : exec (.registerWrite x [⟨p, 0x0F0010, 4, 0xA5C30002⟩]) s = _ :=
    exec_registerWrite_coldReset (v := 0xA5C30002) ha (by decide) (by decide)
  refine ⟨both.trans alone.symm, .of_next both ?_⟩
  rw [State.tun_modTun]
  exact ⟨rfl, rfl, rfl, onlyTun_mod ..⟩

/-! ### The core reference -/

@[simp] theorem Tun.keeperAlign_clk (was : Bool) : (t.keeperAlign was).clk = t.clk :=
  (Tun.same_keeperAlign (part := .clk) (by decide) was).mpr Part.same_self

@[simp] theorem Tun.planeRelease_clk (now : Nat) : (t.planeRelease now).clk = t.clk :=
  (Tun.same_planeRelease (part := .clk) (by decide) now).mpr Part.same_self

@[simp] theorem Tun.startBrewCount_clk (now : Nat) : (t.startBrewCount now).clk = t.clk :=
  (Tun.same_startBrewCount (part := .clk) (by decide) now).mpr Part.same_self

/-- The loss of the reference the core runs on is counted and starts holdover (04 R106, R107). -/
theorem Tun.refMissing_clk (hp : t.clk.refPresent = true) (hr : t.clk.coreRef = .rack) (now : Nat) :
    (t.refMissing now).clk =
      { t.clk with lossCount := satInc t.clk.lossCount, refPresent := false, coreRef := .holdover, slewing := false } := by
  simp [Tun.refMissing, hp, hr]

/-- A slew that no return waits for ends on its target (04 R107, R108). -/
theorem Tun.slewEnd_clk (hs : t.clk.slewing = true) (hr : t.clk.returnPending = false) :
    t.slewEnd.clk = { t.clk with coreRef := t.clk.slewTo, slewing := false } := by
  simp [Tun.slewEnd, hs, hr]

/-- A return outside a slew is declared and slews back at once (04 R108). -/
theorem Tun.refReturns_clk (hl : t.clk.coreLock = true) (hp : t.clk.refPresent = false) (hs : t.clk.slewing = false) :
    t.refReturns.clk = { t.clk with refPresent := true, coreRef := .rack, slewing := true, slewTo := .rack } := by
  simp [Tun.refReturns, hl, hp, hs]

/-- 10 ms of holdover end in a slew to LOCAL_OSC (04 R107). -/
theorem Tun.holdoverEnd_slews (hr : t.clk.coreRef = .holdover) (hs : t.clk.slewing = false) :
    t.holdoverEnd = { t with clk := { t.clk with coreRef := .localOsc, slewing := true, slewTo := .localOsc } } :=
  if_pos ⟨hr, by simp [hs]⟩

/-! ### The release of a reset -/

/-- Of the service registers the start of the Brew counter changes those of the alignment alone (12 R444, R830). -/
theorem Tun.startBrewCount_svc (now : Nat) : ∃ done waits unaligned,
    (t.startBrewCount now).svc = { t.svc with alignDone := done, aligning := waits, brewUnaligned := unaligned } := by
  unfold Tun.startBrewCount Tun.keeperAlign
  repeat' split
  all_goals exact ⟨_, _, _, rfl⟩

@[simp] theorem Tun.modPorts_svc (f : Port → Port) : (t.modPorts f).svc = t.svc :=
  (Tun.same_modPorts (part := .svc) (by decide) f).mpr Part.same_self

@[simp] theorem State.tun_recordIncarn (y : TunId) (cause : BitVec 4) : (s.recordIncarn x cause).tun y = s.tun y := by
  unfold State.recordIncarn
  split <;> rfl

/-- The lock of the PLLs picks the first reference (04 R829, Table 04-2). -/
theorem Tun.pllLock_clk (hc : t.svc.state = .cold) (hh : t.svc.hold = .none_) (hl : t.clk.coreLock = false) (now : Nat) (k : PllLocks) :
    (t.pllLock now k).clk =
      { t.clk with coreLock := true, mgmtLock := true, hostOk := k.hostClk, caskLock := t.asm.caskMask &&& k.casks,
                   refPresent := k.refGood, coreRef := if k.refGood then .rack else .localOsc } := by
  simp [Tun.pllLock, hc, hh, hl]

/-- With the lock of the PLLs the management domain answers (04 Table 04-7). -/
theorem Tun.pllLock_mgmtUp (hc : t.svc.state = .cold) (hh : t.svc.hold = .none_) (hl : t.clk.coreLock = false) (now : Nat) (k : PllLocks) :
    (t.pllLock now k).svc.mgmtUp = true := by
  rw [Tun.pllLock, if_pos ⟨hc, hh, by simp [hl]⟩]
  obtain ⟨_, _, _, e⟩ := Tun.startBrewCount_svc (now := now)
  rw [e]

/-- The end of a warm hold: the incarnation and WARM_COUNT advance and the cause is recorded (04 R123, R131). -/
theorem Tun.warmRelease_svc (hh : t.svc.hold = .warm) (now : Nat) :
    (t.warmRelease now).svc.hold = .none_ ∧ (t.warmRelease now).svc.incarn = t.svc.incarn + 1 ∧
    (t.warmRelease now).svc.warmCount = satInc t.svc.warmCount ∧ (t.warmRelease now).svc.lastCause = t.svc.pendCause := by
  rw [Tun.warmRelease, if_pos hh]
  obtain ⟨_, _, _, e⟩ := Tun.startBrewCount_svc (now := now)
  rw [e, Tun.modPorts_svc]
  exact ⟨rfl, rfl, rfl, rfl⟩

/-- A Tun released from a cold reset is in COLD, in no hold, with the incarnation and the cause it is given (04 R123, R124). -/
theorem State.releaseCold_svc (cause : BitVec 4) (inc : Byte) :
    ((s.releaseCold x cause inc).tun x).svc = { (s.tun x).svc with
      state := .cold, hold := .none_, incarn := inc, lastCause := cause, warmCount := 0, coldPowered := false } := by
  simp [State.releaseCold, Tun.presentRoutes]

/-- Settles O22: each command does to its Tun what the lemma of its operation says. -/
theorem clockAndResetCommandsComplete : Obligations.ClockAndResetCommandsComplete := by
  intro s x
  refine ⟨fun hp hr => ?refclkMissing, fun hr hs => ?holdoverExpiry, fun hs hr => ?slewComplete, fun hl hp hs => ?refclkPresent,
    fun good host casks hc hh hl => ?corePllLock, fun src hoff hcold hup => ?coldReset, fun src hoff hh hup => ?warmReset,
    fun hh => ?warmRelease, fun hh hpow hseq => ?coldHoldEnd⟩
  case refclkMissing =>
    refine .of_next rfl ?_
    rw [State.tun_modTun, Tun.refMissing_clk hp hr]
    exact ⟨rfl, rfl, rfl, onlyTun_mod ..⟩
  case holdoverExpiry => exact congrArg Host.Outcome.next (State.modTun_congr (Tun.holdoverEnd_slews hr hs))
  case slewComplete =>
    refine .of_next rfl ?_
    rw [State.tun_modTun, Tun.slewEnd_clk hs hr]
    exact ⟨rfl, rfl, onlyTun_mod ..⟩
  case refclkPresent =>
    refine .of_next rfl ?_
    rw [State.tun_modTun, Tun.refReturns_clk hl hp hs]
    exact ⟨rfl, rfl, rfl, onlyTun_mod ..⟩
  case corePllLock =>
    refine .of_next rfl ?_
    rw [State.tun_modTun, Tun.pllLock_clk hc hh hl]
    exact ⟨rfl, rfl, rfl, Tun.pllLock_mgmtUp hc hh hl _ _, rfl, rfl, rfl, onlyTun_mod ..⟩
  case coldReset =>
    refine answers_onTun rfl (Tun.coldRequest_taken hoff hcold hup ..) ?_
    rw [State.tun_modTun]
    exact ⟨rfl, rfl, rfl, rfl, rfl, onlyTun_mod ..⟩
  case warmReset =>
    refine .of_next rfl ?_
    rw [State.tun_modTun, Tun.warmRequest_clk, Tun.warmRequest_taken hoff hh hup]
    exact ⟨rfl, rfl, rfl, rfl, rfl, onlyTun_mod ..⟩
  case warmRelease =>
    refine .of_next rfl ?_
    rw [State.tun_recordIncarn, State.tun_modTun]
    exact Tun.warmRelease_svc hh _
  case coldHoldEnd =>
    refine .of_next (if_pos ⟨hh, hpow, hseq⟩) ?_
    rw [State.tun_recordIncarn, State.releaseCold_svc]
    exact ⟨rfl, rfl, rfl, rfl, rfl⟩

end Sys2Proof.Machine
end

section
/-! SUPPORT. The service state: a request of SERVICE_CTRL that is taken up, what the next bring-up stage may write, and what each move of
Table 05-8 and each end of a stage leaves of the Tun (05 R140-R168). -/

namespace Sys2Proof.Machine
open Sys2Proof

variable {t : Tun}

/-! ### What the parts of a move keep -/

@[simp] theorem Tun.announceState_svc (now : Nat) : (t.announceState now).svc = t.svc :=
  (Tun.same_announceState (part := .svc) (by decide) now).mpr Part.same_self

@[simp] theorem Tun.announceState_cellar (now : Nat) : (t.announceState now).cellar = t.cellar :=
  (Tun.same_announceState (part := .cellar) (by decide) now).mpr Part.same_self

@[simp] theorem Tun.announceState_rel (now : Nat) : (t.announceState now).rel = t.rel :=
  (Tun.same_announceState (part := .rel) (by decide) now).mpr Part.same_self

@[simp] theorem Tun.stepDown_svc (now round : Nat) : (t.stepDown now round).svc = t.svc :=
  (Tun.same_stepDown (part := .svc) (by decide) now round).mpr Part.same_self

@[simp] theorem Tun.planeDrain_svc : t.planeDrain.svc = t.svc :=
  (Tun.same_planeDrain (part := .svc) (by decide)).mpr Part.same_self

@[simp] theorem Tun.arbitrate_svc (now : Nat) : (t.arbitrate now).svc = t.svc :=
  (Tun.same_arbitrate (part := .svc) (by decide) now).mpr Part.same_self

@[simp] theorem Tun.fenceLinks_svc (now scope : Nat) (back : Bool) : (t.fenceLinks now scope back).svc = t.svc :=
  (Tun.same_fenceLinks (part := .svc) (by decide) now scope back).mpr Part.same_self

@[simp] theorem Tun.releaseStopped_svc (now : Nat) (status : Half) : (t.releaseStopped now status).svc = t.svc :=
  (Tun.same_releaseStopped (part := .svc) (by decide) now status).mpr Part.same_self

/-- Of the service registers FENCED changes SERVICE_STATE alone (05 R169). -/
@[simp] theorem Tun.fenceAll_svc (now : Nat) : (t.fenceAll now).svc = { t.svc with state := .fenced } := by simp [Tun.fenceAll]

/-- Of the service registers the next bring-up stage writes those of Cask training and of the alignment alone (05 R145, R158). -/
theorem Tun.nextStage_svc : ∃ training fail codes done waits unaligned,
    t.nextStage.svc = { t.svc with
      caskTraining := training, caskFail := fail, caskCodes := codes
      alignDone := done, aligning := waits, brewUnaligned := unaligned } := by
  unfold Tun.nextStage Tun.beginTraining Tun.beginAlign
  dsimp only
  repeat' split
  all_goals exact ⟨_, _, _, _, _, _, rfl⟩

/-! ### The bring-up stages -/

/-- COLD ends in PALE (05 R140). -/
theorem Tun.enterPale_state (hs : t.svc.state = .cold) (hh : t.svc.hold = .none_) (hf : t.svc.fwRunning = true) (now : Nat) :
    (t.enterPale now).svc.state = .pale := by
  rw [Tun.enterPale, if_pos ⟨hs, hh, hf⟩, Tun.announceState_svc]
  obtain ⟨_, _, _, _, _, _, e⟩ := Tun.nextStage_svc (t := { t with svc := { t.svc with state := .pale } })
  rw [e]

/-- A training that a stack fails ends with its codes, and every stack in self-refresh (05 R148, R149). -/
theorem Tun.trainingDone_failed {codes : List (BitVec 4)} (ht : t.svc.caskTraining = true) (hl : codes.length = t.asm.casks)
    (hc : codes.all trainCode = true) (hf : failMask codes ≠ 0) :
    t.trainingDone codes = Tun.selfRefreshAll { t with
      svc := { t.svc with caskTraining := false, caskCodes := codes, caskFail := failMask codes }
      clk := { t.clk with caskLock := lockMask codes } } := by
  rw [Tun.trainingDone, if_pos ⟨ht, hl, hc⟩]
  exact if_neg hf

/-- A settled round below the last is followed by the next (05 R153, R168). -/
theorem Tun.rateRound_svc (hs : t.svc.state = .pale) (hp : t.casksPassed = true) (ht : t.svc.caskTraining = false)
    (hr : t.roundSettled = true) (hn : t.svc.stepRound.toNat < 0xD) (hy : t.svc.stepRound ≠ 0 ∨ t.svc.stayPale = false) (now : Nat) :
    (t.rateRound now).svc = { t.svc with stepRound := t.svc.stepRound + 1 } := by
  have ready : ¬ (¬ t.casksPassed ∨ t.svc.caskTraining ∨ ¬ t.roundSettled) := by simp [hp, ht, hr]
  have notLast : ¬ (t.svc.stepRound = 0xD ∧ (t.svc.state = .pale ∨ t.svc.state = .draining)) := fun h => by simp [h.1] at hn
  have goesOn : t.svc.stepRound.toNat < 0xD ∧ t.svc.state = .pale ∧ (t.svc.stepRound ≠ 0 ∨ ¬ t.svc.stayPale) :=
    ⟨hn, hs, hy.imp_right ne_true_of_eq_false⟩
  rw [Tun.rateRound, if_neg ready, if_neg notLast, if_pos goesOn, Tun.stepDown_svc]

/-- The alignment stage gives up (05 R158). -/
theorem Tun.alignTimeout_unaligned (ha : t.svc.aligning = true) :
    t.alignTimeout = { t with svc := { t.svc with aligning := false, brewUnaligned := true } } := if_pos ha

/-- PALE ends in FULL: the page pool is loaded and the stacks leave self-refresh (05 R159, 16 R663). -/
theorem Tun.enterFull_opens (hr : t.fullReady = true) (now : Nat) :
    (t.enterFull now).svc.state = .full ∧ (t.enterFull now).cellar.opened = true ∧ (t.enterFull now).rel.selfRefresh = 0 := by
  rw [Tun.enterFull, if_pos hr, Tun.announceState_svc, Tun.announceState_cellar, Tun.announceState_rel]
  exact ⟨rfl, rfl, rfl⟩

/-! ### The requests of SERVICE_CTRL -/

theorem Tun.reachable_of_noHold (hoff : t.svc.state ≠ .off) (hh : t.svc.hold = .none_) (hup : t.svc.mgmtUp = true) :
    t.reachable = true := by
  simp [Tun.reachable, hoff, hh, hup]

/-- A powered Tun that no reset holds and whose management domain answers takes a request up (05 R167). -/
theorem Tun.request_taken (hoff : t.svc.state ≠ .off) (hh : t.svc.hold = .none_) (hup : t.svc.mgmtUp = true) (f : Tun → Tun) :
    t.request f = f t := by
  simp [Tun.request, Tun.reachable_of_noHold hoff hh hup, hh]

/-- Entry to DRAINING notes the state to resume to (05 R168). -/
theorem Tun.beginDrain_svc (now : Nat) (back : BitVec 2) :
    (t.beginDrain now back).svc =
      { t.svc with state := .draining, resumeTo := back, drainDone := false, drainTimeout := false, drainFrom := now } := by
  simp [Tun.beginDrain]

section
variable (hh : t.svc.hold = .none_) (hup : t.svc.mgmtUp = true)
include hh hup

/-- FENCE outside FENCED: the cause is recorded and nothing of a drain is left (05 R161). -/
theorem Tun.fenceRequest_svc (hoff : t.svc.state ≠ .off) (hs : t.svc.state ≠ .fenced) (now : Nat) (cause : BitVec 2) :
    (t.fenceRequest now cause).svc =
      { t.svc with state := .fenced, fenceCause := cause, resumeTo := 0, drainDone := false, drainTimeout := false } := by
  simp [Tun.fenceRequest, Tun.request_taken hoff hh hup, hs]

theorem Tun.drainRequest_full (hs : t.svc.state = .full) (now : Nat) : t.drainRequest now = t.beginDrain now 3 := by
  rw [Tun.drainRequest, Tun.request_taken (by simp [hs]) hh hup, hs]

theorem Tun.drainRequest_pale (hs : t.svc.state = .pale) (now : Nat) : t.drainRequest now = t.beginDrain now 2 := by
  rw [Tun.drainRequest, Tun.request_taken (by simp [hs]) hh hup, hs]

/-- RESUME of a Tun that drained from FULL (05 R161, R168). -/
theorem Tun.resumeRequest_full (hs : t.svc.state = .draining) (hr : t.svc.resumeTo = 3) (now : Nat) :
    (t.resumeRequest now).svc.state = .full ∧ (t.resumeRequest now).svc.resumeTo = 0 := by
  rw [Tun.resumeRequest, Tun.request_taken (by simp [hs]) hh hup, if_pos hs, Tun.arbitrate_svc, Tun.announceState_svc, if_pos hr]
  obtain ⟨_, _, _, _, _, _, e⟩ := Tun.nextStage_svc (t := { t with svc := { t.svc with
    state := .full, resumeTo := 0, drainDone := false, drainTimeout := false } })
  rw [e]
  exact ⟨rfl, rfl⟩

/-- RETRY_CASK retrains every fitted stack (05 R150). -/
theorem Tun.retryCask_trains (hs : t.svc.state = .pale) (ht : t.svc.caskTraining = false) : t.retryCask = t.beginTraining := by
  rw [Tun.retryCask, Tun.request_taken (by simp [hs]) hh hup]
  exact if_pos ⟨hs, by simp [ht]⟩

theorem Tun.setStayPale_true (hoff : t.svc.state ≠ .off) : t.setStayPale true = { t with svc := { t.svc with stayPale := true } } := by
  simp [Tun.setStayPale, Tun.reachable_of_noHold hoff hh hup]

end

/-! ### The ends of a drain -/

theorem Tun.drainDoneEvent_empty (hs : t.svc.state = .draining) (he : t.isEmpty = true) :
    t.drainDoneEvent = { t with svc := { t.svc with drainDone := true } } := if_pos ⟨hs, he⟩

theorem Tun.drainTimeoutEvent_occupied (hs : t.svc.state = .draining) (he : t.isEmpty = false) :
    t.drainTimeoutEvent = { t with svc := { t.svc with drainTimeout := true } } := if_pos ⟨hs, by simp [he]⟩

/-! ### The statement -/

/-- Settles O23: each command does to its Tun what the lemma of its operation says. -/
theorem serviceCommandsComplete : Obligations.ServiceCommandsComplete := by
  intro s x hh hup
  refine ⟨fun hs hf => ?paleWindowClose, fun codes ht hl hc hf => ?caskTrainingDone, fun hs hp ht hr hn hy => ?rateStepRound,
    fun ha => ?alignmentTimeout, fun hr => ?enterFull, fun p hs => ?serviceFence, fun hs => ?drainFull, fun hs => ?drainPale,
    fun hs hr => ?serviceResume, fun hs ht => ?retryCask, fun hoff => ?stayPale, fun hs he => ?drainDone, fun hs he => ?drainTimeout⟩
  case paleWindowClose =>
    refine .of_next rfl ⟨?_, onlyTun_mod ..⟩
    rw [State.tun_modTun, Tun.enterPale_state hs hh hf]
  case caskTrainingDone =>
    refine .of_next rfl ?_
    rw [State.tun_modTun, Tun.trainingDone_failed ht hl hc hf]
    exact ⟨rfl, rfl, rfl, rfl, rfl, rfl, onlyTun_mod ..⟩
  case rateStepRound =>
    refine .of_next rfl ?_
    rw [State.tun_modTun, Tun.rateRound_svc hs hp ht hr hn hy]
    exact ⟨rfl, hs, onlyTun_mod ..⟩
  case alignmentTimeout =>
    refine .of_next rfl ⟨?_, onlyTun_mod ..⟩
    rw [State.tun_modTun, Tun.alignTimeout_unaligned ha]
  case enterFull =>
    refine .of_next rfl ?_
    rw [State.tun_modTun]
    obtain ⟨full, opened, awake⟩ := Tun.enterFull_opens hr s.now
    exact ⟨full, opened, awake, onlyTun_mod ..⟩
  case serviceFence =>
    have hoff : (s.tun x).svc.state ≠ .off := fun e => by simp [e] at hs
    have hfenced : (s.tun x).svc.state ≠ .fenced := fun e => by simp [e] at hs
    refine .of_next rfl ?_
    rw [State.tun_modTun, Tun.fenceRequest_svc hh hup hoff hfenced]
    exact ⟨rfl, rfl, onlyTun_mod ..⟩
  case drainFull =>
    refine .of_next rfl ?_
    rw [State.tun_modTun, Tun.drainRequest_full hh hup hs, Tun.beginDrain_svc]
    exact ⟨rfl, rfl, rfl, onlyTun_mod ..⟩
  case drainPale =>
    refine .of_next rfl ?_
    rw [State.tun_modTun, Tun.drainRequest_pale hh hup hs, Tun.beginDrain_svc]
    exact ⟨rfl, rfl, onlyTun_mod ..⟩
  case serviceResume =>
    refine .of_next rfl ?_
    rw [State.tun_modTun]
    obtain ⟨full, noResume⟩ := Tun.resumeRequest_full hh hup hs hr s.now
    exact ⟨full, noResume, onlyTun_mod ..⟩
  case retryCask => exact congrArg Host.Outcome.next (State.modTun_congr (Tun.retryCask_trains hh hup hs ht))
  case stayPale => exact congrArg Host.Outcome.next (State.modTun_congr (Tun.setStayPale_true hh hup hoff))
  case drainDone => exact congrArg Host.Outcome.next (State.modTun_congr (Tun.drainDoneEvent_empty hs he))
  case drainTimeout => exact congrArg Host.Outcome.next (State.modTun_congr (Tun.drainTimeoutEvent_occupied hs he))

end Sys2Proof.Machine
end

section
/-! SUPPORT. What the Maltster's operations on its own records do: the part of the state they leave alone, a record written to a full log, the
run of a window that holds one command, and the locate registers. -/

namespace Sys2Proof.Machine
open Sys2Proof

variable {s t : State} {x : TunId}

/-! ### What the Maltster keeps to itself -/

@[simp] theorem onlyMalt_self : OnlyMalt s s := ⟨rfl, rfl, rfl, rfl, rfl, rfl⟩
@[simp] theorem onlyMalt_modMalt (f : Malt → Malt) : OnlyMalt s (t.modMalt f) ↔ OnlyMalt s t := Iff.rfl
@[simp] theorem onlyMalt_modMTun (f : MTun → MTun) : OnlyMalt s (t.modMTun x f) ↔ OnlyMalt s t := Iff.rfl
@[simp] theorem onlyMalt_modRaw (p : RawPath) (f : RawState → RawState) : OnlyMalt s (t.modRaw p f) ↔ OnlyMalt s t := Iff.rfl
@[simp] theorem onlyMalt_raise (n : Nat) : OnlyMalt s (t.raise n) ↔ OnlyMalt s t := by simp [OnlyMalt]
@[simp] theorem onlyMalt_log (sev src ev : Nat) (d : List Byte) : OnlyMalt s (t.log sev src ev d) ↔ OnlyMalt s t := by simp [OnlyMalt]
@[simp] theorem onlyMalt_reply (src : Src) (q : Req) (st : Half) (d : List Byte) : OnlyMalt s (t.reply src q st d) ↔ OnlyMalt s t := by
  simp [OnlyMalt]
@[simp] theorem onlyMalt_setPower (p : BitVec 3) : OnlyMalt s (t.setPower x p) ↔ OnlyMalt s t := by simp [OnlyMalt]

@[simp] theorem State.mtun_modMalt (f : Malt → Malt) (h : (f s.malt).mtun = s.malt.mtun) : (s.modMalt f).mtun x = s.mtun x :=
  congrArg (Quad.get · x) h

/-! ### One record written -/

/-- Each record takes the next number. -/
@[simp] theorem State.logRecord_logNext (sev src ev : Nat) (d : List Byte) :
    (s.logRecord sev src ev d).malt.logNext = s.malt.logNext + 1 := by
  unfold State.logRecord
  dsimp only
  split
  · exact State.raise_logNext _ 7
  · rfl

/-- A full log gives up its oldest record for a new one (07 R255). -/
theorem pushLog_full {l : List LogRec} (r : LogRec) (h : l.length = 1024) : pushLog l r = l.drop 1 ++ [r] := by
  rw [pushLog, if_pos (by simp [h]), List.drop_append_of_le_length (by omega)]

/-! ### A window that holds one command -/

/-- Its only command wins the window (06 R207). -/
theorem windowWinner_single (h : Held) : windowWinner [h] = some h := by
  by_cases e : h.req.op = 0x11#8 <;> simp [windowWinner, e, lastHeld]

@[simp] theorem sameCommand_self (q : Req) : sameCommand q q = true := by simp [sameCommand]

/-- With nothing executing, a window of one command closes and runs it (06 R207, R208). -/
theorem State.closeWindow_single {o : WinObj} {h : Held} (hw : s.malt.windows = [⟨o, [h]⟩]) (he : s.malt.executing = []) :
    s.closeWindow o = (s.modMalt fun y => { y with windows := [] }).runWinner h.req [h] := by
  simp [State.closeWindow, hw, he, windowWinner_single]

/-- A winner that is answered at once, and does not restart the Maltster, has run when its source has its reply. -/
theorem State.runWinner_answered {h : Held} {st : Half} {d : List Byte} (hr : s.runOp h.src h.req = (some (st, d), t))
    (h6 : h.req.op ≠ 6) : s.runWinner h.req [h] = t.reply h.src h.req st d := by
  rw [State.runWinner]
  simp only [hr, List.foldl_cons, List.foldl_nil]
  exact if_pos h6

/-- The close of a window whose one command is answered at once. -/
theorem exec_windowClose_single {o : WinObj} {h : Held} {st : Half} {d : List Byte} (ha : s.malt.alive = true)
    (hw : s.malt.windows = [⟨o, [h]⟩]) (he : s.malt.executing = []) (h6 : h.req.op ≠ 6)
    (hr : (s.modMalt fun y => { y with windows := [] }).runOp h.src h.req = (some (st, d), t)) :
    exec (.windowClose o) s = .next (t.reply h.src h.req st d) := by
  refine (if_pos ha).trans (congrArg Host.Outcome.next ?_)
  rw [State.closeWindow_single hw he, State.runWinner_answered hr h6]

/-! ### LOG_CLEAR and LOCATE -/

theorem State.runOp_logClear (src : Src) {q : Req} (h : q.op = 0x05) :
    s.runOp src q = (some (stOk, []), s.modMalt fun y => { y with log := [] }) := by
  simp [State.runOp, h]

/-- LOCATE with ON 1 adds its object to the targets and sets SECONDS (07 R250). -/
theorem State.runOp_locateOn (src : Src) {q : Req} (h : q.op = 0x40) (hon : byteAt q.payload 0 = 1) :
    s.runOp src q = (some (stOk, []), s.modMalt fun m => { m with
      locTray := m.locTray || q.obj == 0, locBays := if q.obj = 0 then m.locBays else m.locBays ||| (1#6 <<< objBay q.obj),
      locSeconds := BitVec.ofNat 16 (leAt q.payload 1 2) }) := by
  have hon : byteAt q.payload 0 0#8 = 1#8 := hon
  by_cases ho : q.obj = 0#8 <;> simp [State.runOp, State.opLocate, State.modMalt, h, hon, ho]

/-- LOCATE with ON 0 takes its object from the targets (07 R250). -/
theorem State.runOp_locateOff (src : Src) {q : Req} (h : q.op = 0x40) (hoff : byteAt q.payload 0 = 0) :
    s.runOp src q = (some (stOk, []), s.modMalt fun m => { m with
      locTray := m.locTray && q.obj != 0,
      locBays := if q.obj = 0 then m.locBays else m.locBays &&& ~~~(1#6 <<< objBay q.obj) }) := by
  have hoff : byteAt q.payload 0 0#8 = 0#8 := hoff
  by_cases ho : q.obj = 0#8 <;> simp [State.runOp, State.opLocate, State.modMalt, h, hoff, ho]

/-- A LOCATE whose ON is neither 0 nor 1 is refused (06 R187). -/
theorem State.requestRefusal_locate {q : Req} (hop : q.op = 0x40) (hobj : objectOk 0x40 q.obj = some true)
    (h0 : byteAt q.payload 0 ≠ 0) (h1 : byteAt q.payload 0 ≠ 1) : s.requestRefusal q = some stBadParam := by
  have hp : s.payloadOk q = false := by
    simp [State.payloadOk, hop, BitVec.toNat_eq] at h0 h1 ⊢
    simp [h0, h1]
  rw [State.requestRefusal, hop, hobj]
  exact if_neg (by simp [hp])

/-- A frame on an idle raw path that is served is taken in (06 R180). -/
theorem exec_rawFrameReceive_idle {p : RawPath} {a : BitVec 7} {frame : List Byte} {q : Req} (hs : s.serves p a = true)
    (hb : (s.raw p).busy = false) (hq : parseReq frame = some q) : exec (.rawFrameReceive ⟨p, a⟩ frame none) s =
      .next ((s.modRaw p fun w => { w with accepted := true, busy := true, reply := none, wasRead := false, overrun := false }).acceptReq
        (.raw p) q) := by
  refine (if_pos hs).trans ?_
  cases p <;> simp [State.rawArrive, hb, hq]

/-! ### The locate registers -/

theorem exec_locateSecondTick_counts (ha : s.malt.alive = true) (h0 : s.malt.locSeconds ≠ 0) (h1 : s.malt.locSeconds ≠ 1) :
    exec .locateSecondTick s = .next (s.modMalt fun m => { m with locSeconds := m.locSeconds - 1 }) :=
  (if_pos ⟨ha, h0⟩).trans (if_neg h1)

/-- The last second clears every target (07 R249). -/
theorem exec_locateSecondTick_ends (ha : s.malt.alive = true) (h1 : s.malt.locSeconds = 1) :
    exec .locateSecondTick s = .next (s.modMalt fun m => { m with locSeconds := 0, locBays := 0, locTray := false }) :=
  (if_pos ⟨ha, by simp [h1]⟩).trans (if_pos h1)

/-- The locate registers after an accepted press (07 R251). -/
def Malt.press (now : Nat) (m : Malt) : Malt :=
  { m with btnTime := some now, locTray := !m.locating, locBays := if m.locating then 0 else m.locBays,
           locSeconds := if m.locating then m.locSeconds else 0 }

/-- A press is accepted 500 ms or more after the last (07 R251, R252). -/
theorem exec_locateButtonPress (ha : s.malt.alive = true) (hb : ∀ w, s.malt.btnTime = some w → 500 ≤ msSince s w) :
    exec .locateButtonPress s =
      .next ((s.modMalt (Malt.press s.now)).log 0 0x00 0x0070 [if s.malt.locating then 0 else 1]) := by
  change execLocateButtonPress s = _
  unfold execLocateButtonPress
  cases e : s.malt.btnTime with
  | none => cases on : s.malt.locating <;> simp [ha, e, State.modMalt, Malt.press, on]
  | some w => cases on : s.malt.locating <;> simp [ha, e, hb w e, State.modMalt, Malt.press, on]

/-- A press turns locate over (07 R251). -/
theorem Malt.press_locating (now : Nat) (m : Malt) : (m.press now).locating = !m.locating := by
  change (!m.locating || (if m.locating then 0 else m.locBays) != 0) = !m.locating
  cases m.locating <;> simp

@[simp] theorem State.log_locating (sev src ev : Nat) (d : List Byte) : (s.log sev src ev d).malt.locating = s.malt.locating := by
  simp [Malt.locating]

theorem Malt.locating_iff (m : Malt) : m.locating = true ↔ m.locTray = true ∨ ∃ n, n < 6 ∧ m.locBays.getLsbD n = true := by
  have bays : m.locBays = 0#6 ↔ ∀ n, n < 6 → m.locBays.getLsbD n = false := by
    simp [BitVec.eq_of_getLsbD_eq_iff]
  simp [Malt.locating, bays]

theorem Malt.not_locating {m : Malt} (h : m.locating = false) : m.locTray = false ∧ m.locBays = 0 := by
  simpa [Malt.locating] using h

/-! ### The statements -/

/-- Settles O54, by the registers that a second, a LOCATE and a press leave. -/
theorem locateRules : Obligations.LocateRules := by
  refine ⟨⟨Malt.locating_iff, fun s ha => ⟨fun h0 => ?idle, fun h1 => ?counts, fun h1 => ?ends⟩⟩,
    fun s ha => ⟨fun o h hw he hop hobj => ⟨fun hon => ?on, fun hoff => ?off⟩, fun p a frame q hs hb hq hop hobj _ h0 h1 => ?refused⟩,
    fun s ha hb => ⟨fun hl => ?locates, fun hl => ?clears⟩⟩
  case idle => exact if_neg fun h => h.2 h0
  case counts =>
    exact exec_locateSecondTick_counts ha (fun e => by simp [e] at h1) (fun e => by simp [e] at h1)
  case ends => exact exec_locateSecondTick_ends ha h1
  case on =>
    refine .of_next (exec_windowClose_single ha hw he (by simp [hop]) (State.runOp_locateOn _ hop hon))
      ⟨?_, ?_, ?_, State.reply_replied .., ?_⟩ <;> simp
  case off =>
    refine .of_next (exec_windowClose_single ha hw he (by simp [hop]) (State.runOp_locateOff _ hop hoff))
      ⟨?_, ?_, ?_, State.reply_replied .., ?_⟩ <;> simp
  case refused =>
    refine .of_next (exec_rawFrameReceive_idle hs hb hq) ?_
    rw [State.acceptReq, State.requestRefusal_locate hop hobj h0 h1]
    exact ⟨State.reply_replied .., by simp, by simp, by simp, by simp⟩
  case locates =>
    obtain ⟨-, bays⟩ := Malt.not_locating hl
    refine .of_next (exec_locateButtonPress ha hb) ⟨?_, ?_, ?_, ?_⟩
    · simp [Malt.press, hl]
    · simp [Malt.press, hl, bays]
    · simp [Malt.press, hl]
    · rw [hl]; exact State.logged_log rfl
  case clears =>
    refine .of_next (exec_locateButtonPress ha hb) ⟨?_, ?_, ?_⟩
    · simp [Malt.press, hl]
    · simp [Malt.press, hl]
    · rw [hl]; exact State.logged_log rfl

/-- Settles O55: a record written to a full log takes the place of the oldest; LOG_CLEAR leaves the next number. -/
theorem logOverwrite : Obligations.LogOverwrite := by
  refine ⟨fun s sev src event data hfull => ?overwrites, fun s o h ha hw he hop => ?cleared⟩
  case overwrites =>
    have hlog := (State.logRecord_log s sev src event data).trans (pushLog_full _ hfull)
    have hlen : (s.logRecord sev src event data).malt.log.length = 1024 := by rw [hlog]; simp [hfull]
    refine ⟨⟨_, hlog, rfl⟩, hlen, ?_⟩
    rw [Malt.logFirst, Malt.logFirst, hlen, hfull, State.logRecord_logNext]
    exact BitVec.add_sub_comm
  case cleared =>
    refine .of_next (exec_windowClose_single ha hw he (by simp [hop]) (State.runOp_logClear _ hop)) ⟨?_, ?_, ?_⟩ <;> simp [Malt.logFirst]

end Sys2Proof.Machine
end

section
/-! SUPPORT. The power of a Tun as the Maltster keeps it: what the end of a command and the shared power operations leave unchanged, the power
reported, and a record of the log that the records after it do not push out. -/

namespace Sys2Proof.Machine
open Sys2Proof

variable {s t : State} {x y : TunId}

/-! ### The end of a command -/

/-- `t` differs from `s` in the commands executing, the reply buffers and the Maltster's outputs only. -/
def OnlyReplies (s t : State) : Prop :=
  ∃ r b o e, t = { s with malt := { s.malt with raws := r, mctpBusy := b, out := o, executing := e } }

theorem OnlyReplies.reply (h : OnlyReplies s t) (src : Src) (q : Req) (st : Half) (d : List Byte) : OnlyReplies s (t.reply src q st d) := by
  obtain ⟨_, _, _, _, rfl⟩ := h
  obtain ⟨_, _, _, e⟩ := State.reply_eq _ src q st d
  exact ⟨_, _, _, _, e⟩

theorem State.finishWhere_onlyReplies (s : State) (p : Executing → Bool) (st : Half) (d : List Byte) :
    OnlyReplies s (s.finishWhere p st d) :=
  List.foldlRecOn (motive := OnlyReplies s) _ _ ⟨_, _, _, _, rfl⟩ fun _ h _ _ =>
    List.foldlRecOn (motive := OnlyReplies s) _ _ h fun _ h _ _ => h.reply ..

@[simp] theorem State.finishOn_log (st : Half) : (s.finishOn x st).malt.log = s.malt.log := by
  obtain ⟨_, _, _, _, h⟩ := State.finishWhere_onlyReplies s _ st []; rw [State.finishOn, h]
@[simp] theorem State.finishOn_tuns (st : Half) : (s.finishOn x st).tuns = s.tuns := by
  obtain ⟨_, _, _, _, h⟩ := State.finishWhere_onlyReplies s _ st []; rw [State.finishOn, h]
@[simp] theorem State.mtun_finishOn (st : Half) : (s.finishOn x st).mtun y = s.mtun y := by
  obtain ⟨_, _, _, _, h⟩ := State.finishWhere_onlyReplies s _ st []; rw [State.finishOn, h]; rfl
@[simp] theorem State.tun_finishOn (st : Half) : (s.finishOn x st).tun y = s.tun y := by simp [State.tun]

@[simp] theorem State.finishTun_log (st : Half) : (s.finishTun x st).malt.log = s.malt.log := State.finishObj_log ..
@[simp] theorem State.finishTun_tuns (st : Half) : (s.finishTun x st).tuns = s.tuns := State.finishObj_tuns ..
@[simp] theorem State.mtun_finishTun (st : Half) : (s.finishTun x st).mtun y = s.mtun y := State.mtun_finish ..
@[simp] theorem State.tun_finishTun (st : Half) : (s.finishTun x st).tun y = s.tun y := by simp [State.tun]

/-! ### A record that stays -/

/-- The record an event is logged with (07 Table 07-9). -/
def State.entry (s : State) (sev src ev : Nat) (d : List Byte) : LogRec :=
  LogRec.mk s.malt.logNext (BitVec.ofNat 8 sev) (BitVec.ofNat 8 src) (BitVec.ofNat 16 ev) s.malt.restarts
    (msSince s s.malt.bootTime % 2 ^ 48) (logData d)

/-- `r` is one of the newest `n` records of the log `l`. -/
def Recent (n : Nat) (r : LogRec) (l : List LogRec) : Prop := ∃ m k, l = m ++ k ∧ r ∈ k ∧ k.length ≤ n

section
variable {n k : Nat} {r : LogRec} {l : List LogRec}

theorem Recent.mono (h : Recent n r l) (hk : n ≤ k) : Recent k r l :=
  have ⟨m, newest, e, hr, hn⟩ := h
  ⟨m, newest, e, hr, Nat.le_trans hn hk⟩

/-- A record not among the oldest stays when one more is written (07 R255). -/
theorem Recent.logRecord (h : Recent n r s.malt.log) (hn : n < 1024) (sev src ev : Nat) (d : List Byte) :
    Recent (n + 1) r (s.logRecord sev src ev d).malt.log := by
  obtain ⟨m, newest, e, hr, hl⟩ := h
  obtain ⟨m', z, e'⟩ := State.logRecord_keep s sev src ev d e (by omega)
  exact ⟨m', newest ++ [z], e', by simp [hr], by simpa using hl⟩

theorem Recent.logRecord_if (h : Recent n r s.malt.log) (hn : n < 1024) (c : Prop) [Decidable c] (sev src ev : Nat) (d : List Byte) :
    Recent (n + 1) r (if c then s.logRecord sev src ev d else s).malt.log := by
  split
  · exact h.logRecord hn ..
  · exact h.mono (by omega)

/-- The records of the log's own wear are three at most (19 R755). -/
theorem Recent.wear {sev src ev : Nat} {d : List Byte} (h : Recent n r (s.logRecord sev src ev d).malt.log) (hn : n + 3 ≤ 1024) :
    Recent (n + 3) r (s.log sev src ev d).malt.log := by
  unfold State.log
  dsimp only
  split
  · exact h.mono (by omega)
  · split
    · rw [State.modFw_malt]
      exact ((h.logRecord_if (by omega) ..).logRecord_if (by omega) ..).logRecord (by omega) ..
    · exact ((h.logRecord_if (by omega) ..).logRecord_if (by omega) ..).mono (by omega)

theorem Recent.log (h : Recent n r s.malt.log) (hn : n + 4 ≤ 1024) (sev src ev : Nat) (d : List Byte) :
    Recent (n + 4) r (s.log sev src ev d).malt.log :=
  ((h.logRecord (by omega) ..).wear (by omega)).mono (by omega)

/-- An event's record is among the newest four of the log. -/
theorem State.log_recent (s : State) (sev src ev : Nat) (d : List Byte) :
    Recent 4 (s.entry sev src ev d) (s.log sev src ev d).malt.log := by
  refine Recent.wear (n := 1) ?_ (by omega)
  obtain ⟨m, e⟩ := pushLog_keep (l := s.malt.log) (k := []) (s.entry sev src ev d) (List.append_nil _).symm (by simp)
  exact ⟨m, _, (State.logRecord_log ..).trans e, by simp, by simp⟩

/-- A record still in the log is logged, numbered by any state with the same next number. -/
theorem Recent.logged {sev src ev : Nat} {d : List Byte} (h : Recent n (s.entry sev src ev d) t.malt.log) {s' : State}
    (hn : s.malt.logNext = s'.malt.logNext) :
    Logged s' t (BitVec.ofNat 16 ev) (BitVec.ofNat 8 sev) (BitVec.ofNat 8 src) d :=
  have ⟨_, _, e, hr, _⟩ := h
  ⟨_, by rw [e]; exact List.mem_append_right _ hr, hn, rfl, rfl, rfl, rfl⟩

end

/-! ### The power reported -/

@[simp] theorem State.mtun_modMTun_modMTun (f g : MTun → MTun) : (s.modMTun x f).modMTun x g = s.modMTun x fun m => g (f m) := by
  simp [State.modMTun, State.mtun]

/-- A 4 stays until a power-on is accepted (07 R222). -/
theorem State.mtun_setPower (p : BitVec 3) :
    (s.setPower x p).mtun x = { s.mtun x with power := if (s.mtun x).power = 4 ∧ p ≠ 1 then 4 else p } := by
  split
  case isTrue h => rw [State.setPower_keeps _ _ _ h.1 h.2, ← h.1]
  case isFalse h =>
    refine State.mtun_setPower_same _ _ _ ?_
    by_cases on : p = 1
    · exact .inr on
    · exact .inl fun held => h ⟨held, on⟩

theorem State.setPower_self {p : BitVec 3} (h : (s.mtun x).power = p) : s.setPower x p = s := if_pos (.inl h)

/-! ### The shared operations -/

@[simp] theorem State.reflashWrites_malt : (s.reflashWrites x).malt = s.malt := by unfold State.reflashWrites; split <;> rfl
@[simp] theorem State.reflashWrites_tuns : (s.reflashWrites x).tuns = s.tuns := by unfold State.reflashWrites; split <;> rfl
@[simp] theorem State.mtun_reflashWrites : (s.reflashWrites x).mtun y = s.mtun y := by simp [State.mtun]
@[simp] theorem State.tun_reflashWrites : (s.reflashWrites x).tun y = s.tun y := by simp [State.tun]

@[simp] theorem State.mtun_openMain : s.openMain.mtun y = { s.mtun y with startDue := false } := Quad.get_map ..

@[simp] theorem State.openIfDone_log : s.openIfDone.malt.log = s.malt.log := by unfold State.openIfDone; split <;> rfl
@[simp] theorem State.openIfDone_tuns : s.openIfDone.tuns = s.tuns := by unfold State.openIfDone; split <;> rfl
@[simp] theorem State.tun_openIfDone : s.openIfDone.tun y = s.tun y := by simp [State.tun]
theorem State.mtun_openIfDone : s.openIfDone.mtun y = s.mtun y ∨ s.openIfDone.mtun y = { s.mtun y with startDue := false } := by
  unfold State.openIfDone
  split
  · exact .inr State.mtun_openMain
  · exact .inl rfl

@[simp] theorem onlyMalt_startUp : OnlyMalt s (t.startUp x) ↔ OnlyMalt s t := by
  unfold State.startUp
  dsimp only
  split <;> simp
@[simp] theorem State.startUp_log : (s.startUp x).malt.log = s.malt.log := by
  unfold State.startUp
  dsimp only
  split <;> simp
@[simp] theorem State.tun_startUp : (s.startUp x).tun y = s.tun y := by
  unfold State.startUp
  dsimp only
  split <;> simp

theorem planCode_congr (h : t.bays = s.bays) : planCode t x = planCode s x := by simp [planCode, State.bay, h]

/-- A Tun with a good boot header starts its sequence, its power reported as rising (07 R214, 08 R268). -/
theorem State.mtun_startUp (h : (s.mtun x).headerBad = false) :
    (s.startUp x).mtun x = MTun.startUp (planCode s x) { s.mtun x with power := 1 } := by
  have rising : (s.setPower x 1).mtun x = { s.mtun x with power := 1 } := by simp [State.mtun_setPower]
  rw [State.startUp]
  dsimp only
  rw [if_neg (by rw [rising]; simp [h]), State.mtun_modMTun, rising, planCode_congr (State.setPower_bays ..)]

theorem State.mtun_acceptOn (h : (s.mtun x).headerBad = false) : (s.acceptOn x).mtun x =
    MTun.startUp (planCode s x) { s.mtun x with reflashed := false, startDue := false, power := 1 } := by
  rw [State.acceptOn, State.mtun_startUp (by simpa using h), State.mtun_modMTun]
  rfl

@[simp] theorem onlyMalt_acceptOn : OnlyMalt s (t.acceptOn x) ↔ OnlyMalt s t := by simp [State.acceptOn]

/-- A power-on resumed after a re-flash changes no Tun; refused by then, it logs one event (08 R271). -/
@[simp] theorem State.tun_resumeOn : (s.resumeOn x).tun y = s.tun y := by
  unfold State.resumeOn State.refusePower
  dsimp only
  repeat' split
  all_goals simp

theorem Recent.resumeOn {n : Nat} {r : LogRec} (h : Recent n r s.malt.log) (hn : n + 4 ≤ 1024) :
    Recent (n + 4) r (s.resumeOn x).malt.log := by
  unfold State.resumeOn
  dsimp only
  split
  · split
    · simpa using h.mono (by omega)
    · unfold State.refusePower
      dsimp only
      split <;> simpa using Recent.log (by simpa using h) hn ..
  · exact h.mono (by omega)

/-- Going down, the Tun's cold reset is held and its rails are to be dropped from the highest (07 R217). -/
theorem State.mtun_powerDown (cause : Byte) (record : Bool) : (s.powerDown x cause record).mtun x = { s.mtun x with
    power := if (s.mtun x).power = 4 then 4 else 3, coldRstHeld := true, offCause := cause,
    incarnRec := if record && (s.tun x).reachable then (s.tun x).svc.incarn else (s.mtun x).incarnRec,
    seq := .down (railsOn (s.mtun x).enables) } := by
  simp [State.powerDown, State.mtun_setPower]

@[simp] theorem State.powerDown_log (cause : Byte) (record : Bool) : (s.powerDown x cause record).malt.log = s.malt.log := by
  simp [State.powerDown]

/-- Abandoning a power-on changes the record of no other Tun, and reports no power but OFF (07 Table 07-11). -/
theorem State.mtun_abandonOn_other (h : y ≠ x) : (s.abandonOn x).mtun y = s.mtun y := by
  unfold State.abandonOn
  dsimp only
  split <;> simp [State.mtun_setPower_other _ _ h, State.mtun_modMTun_other _ _ _ h]
theorem State.abandonOn_power (h : (s.mtun x).power ≠ 4) : ((s.abandonOn x).mtun x).power ≠ 4 := by
  unfold State.abandonOn
  dsimp only
  split <;> simpa [State.mtun_setPower] using h
@[simp] theorem State.abandonOn_log : (s.abandonOn x).malt.log = s.malt.log := by
  unfold State.abandonOn
  dsimp only
  split <;> simp
@[simp] theorem State.abandonOn_tuns : (s.abandonOn x).tuns = s.tuns := by
  unfold State.abandonOn
  dsimp only
  split <;> simp

end Sys2Proof.Machine
end

section
/-! SUPPORT. The rails of a Tun: what a rail fault, the release of its cold reset and the end of its power-down leave. -/

namespace Sys2Proof.Machine
open Sys2Proof

variable {s t : State} {x y : TunId}

/-! ### The shared operations -/

/-- A rail fault reports power 4, puts the Tun on its way down from the rails enabled, and logs the rail and its status (07 R215, R220). -/
theorem State.railFault_reports (k : Nat) (st : Half) (phase : Byte) (he : (t.mtun x).enables = (s.mtun x).enables)
    (hn : t.malt.logNext = s.malt.logNext) :
    let u := t.railFault x k st phase
    (u.mtun x).power = 4 ∧ (u.mtun x).seq = .down (railsOn (s.mtun x).enables) ∧ (u.mtun x).coldRstHeld = true ∧
      Logged s u 0x0022 3 (BitVec.ofNat 8 (tunObj x)) ([BitVec.ofNat 8 (k - 1)] ++ halfBytes st ++ [phase]) := by
  have down := congrArg (fun e => SeqPos.down (railsOn e)) he
  have logged := (State.log_logged t 3 (tunObj x) 0x0022 ([BitVec.ofNat 8 (k - 1)] ++ halfBytes st ++ [phase])).congr hn
    (t := t.railFault x k st phase) (by simp [State.railFault])
  simp only [State.railFault, State.mtun_finishOn, State.mtun_modMTun, State.mtun_setPower, State.mtun_powerDown, State.mtun_log]
  exact ⟨by split <;> rfl, down, trivial, logged⟩

@[simp] theorem Tun.modPorts_rack (f : Port → Port) (u : Tun) : (u.modPorts f).rack = u.rack :=
  (Tun.same_modPorts (part := .rack) (by decide) f).mpr Part.same_self

/-- A Tun released from a cold reset has its row strap latched, and its watch counts from now (01 R18, 07 Table 07-5). -/
theorem State.releaseCold_row (cause : BitVec 4) (inc : Byte) : ((s.releaseCold x cause inc).tun x).rack.row = s.tray.trayId := by
  simp [State.releaseCold, Tun.presentRoutes]
@[simp] theorem State.mtun_releaseCold (cause : BitVec 4) (inc : Byte) :
    (s.releaseCold x cause inc).mtun x = { s.mtun x with releasedAt := some s.now } := by
  simp [State.releaseCold]

/-- The Tun's rails are gone and its power is reported, and the event is not yet logged (07 Table 07-4 step 5). -/
def State.railsGone (s : State) (x : TunId) : State :=
  (((s.modTun x Tun.powerOff).reflashWrites x).modMTun x fun m =>
    { m.gone with seq := if m.cycleAfter.isSome then .cycleWait else .idle }).setPower x 0

/-- At the end of its power-down a Tun is reported OFF and logged with its cause; a command that waits for OFF ends, and a power-on or the
opening of the main path that waits goes on. -/
theorem State.reachOff_eq : s.reachOff x =
    ((if (s.mtun x).cycleAfter.isSome || (s.mtun x).onAfterReflash then (s.railsGone x).log 0 (tunObj x) 0x0021 [(s.mtun x).offCause]
      else ((s.railsGone x).log 0 (tunObj x) 0x0021 [(s.mtun x).offCause]).finishTun x stOk).resumeOn x).openIfDone := rfl

theorem State.finishTun_unless_log (c : Prop) [Decidable c] (st : Half) : (if c then s else s.finishTun x st).malt.log = s.malt.log := by
  split <;> simp

theorem State.reachOff_off : ((s.reachOff x).tun x).svc.state = .off := by
  rw [State.reachOff_eq, State.tun_openIfDone, State.tun_resumeOn]
  split <;> simp [State.railsGone, Tun.powerOff]

theorem State.reachOff_logged : Logged s (s.reachOff x) 0x0021 0 (BitVec.ofNat 8 (tunObj x)) [(s.mtun x).offCause] := by
  have recent : Recent 8 ((s.railsGone x).entry 0 (tunObj x) 0x0021 [(s.mtun x).offCause]) (s.reachOff x).malt.log := by
    rw [State.reachOff_eq, State.openIfDone_log]
    refine Recent.resumeOn (n := 4) ?_ (by omega)
    rw [State.finishTun_unless_log]
    exact State.log_recent ..
  exact recent.logged (by simp [State.railsGone])

/-! ### The statement -/

/-- Settles O17: each command changes the Maltster's record of its Tun as the lemma of its operation says. -/
theorem railCommandsComplete : Obligations.RailCommandsComplete := by
  intro s x ha
  refine ⟨fun hd hr hs hp hh => ?sequenceStart, fun k hs hl hk => ?powerGood, fun hs hl => ?lastPowerGood, fun k st hs => ?timeout,
    fun hs hp => ?release, fun k hs => ?railStep, fun hs => ?off, fun k st hp he => ?fault, fun p reads v i w hok => ?poll⟩
  case sequenceStart =>
    refine .of_next ((if_pos (by simp [ha, hd])).trans (if_pos (by simp [hr, hs, hp]))) ?_
    rw [State.mtun_acceptOn hh]
    exact ⟨rfl, rfl, rfl, rfl, rfl, rfl, rfl, rfl, by simp⟩
  case powerGood =>
    exact .of_next (if_pos ⟨hs, ha, by simp [hl]⟩) ⟨by simp [hk], by simp⟩
  case lastPowerGood =>
    exact .of_next (if_pos ⟨hs, ha, by simp [hl]⟩) ⟨by simp, by simp⟩
  case timeout =>
    exact .of_next (if_pos ⟨hs, ha⟩) (State.railFault_reports k st 0 rfl rfl)
  case release =>
    refine .of_next (if_pos ⟨hs, ha⟩) ?_
    simp only [State.tun_log, State.tun_setPower, State.tun_modMTun, State.tun_modTun, Tun.modPorts_svc, Tun.modPorts_rack,
      State.releaseCold_svc, State.releaseCold_row, State.mtun_log, State.mtun_setPower, State.mtun_modMTun, State.mtun_modTun,
      State.mtun_releaseCold, true_and]
    refine ⟨by simp [hp], State.logged_log ?_⟩
    simp [State.releaseCold]
  case railStep =>
    exact .of_next ((if_pos ha).trans (by rw [hs])) ⟨by simp, by simp⟩
  case off => exact .of_next ((if_pos ha).trans (by rw [hs])) ⟨State.reachOff_off, State.reachOff_logged⟩
  case fault =>
    refine .of_next (if_pos ⟨ha, .inr hp, he⟩) ?_
    have phase : (if (s.mtun x).power = 1 then (0 : Byte) else 1) = 1 := if_neg (by simp [hp])
    rw [phase]
    exact And.imp_right (And.imp_right And.right) (State.railFault_reports k st 1 (by simp) rfl)
  case poll =>
    have noFault : reads.find? (fun e => e.status != 0) = none := List.find?_eq_none.mpr fun e he => by simp [hok e he]
    exact .of_next ((if_pos ha).trans (by rw [noFault])) ⟨by simp, by simp, by simp, by simp⟩

end Sys2Proof.Machine
end

section
/-! SUPPORT. The watched pins of a Tun: the report of a thermal trip. -/

namespace Sys2Proof.Machine
open Sys2Proof

variable {s t : State} {x y : TunId}

/-! ### The report of a thermal trip -/

/-- The Tun of a trip is reported OFF, and the trip itself not yet as its cause (07 R231). -/
def State.tripReported (s : State) (x : TunId) : State :=
  (((((s.log 4 (tunObj x) 0x0036 ([0, 0, 0, 0] ++ halfBytes (s.mtun x).temp)).raise 2).abandonOn x).setPower x 0).reflashWrites x).modMTun x
    fun m => { m.gone with offCause := 7 }

theorem State.reportTrip_eq : s.reportTrip x = (((s.tripReported x).log 0 (tunObj x) 0x0021 [7]).finishTun x stOk).openIfDone := rfl

theorem State.reportTrip_tuns : (s.reportTrip x).tuns = s.tuns := by simp [State.reportTrip_eq, State.tripReported]

theorem State.openIfDone_power : (s.openIfDone.mtun y).power = (s.mtun y).power := by
  rcases State.mtun_openIfDone (s := s) (y := y) with e | e <;> rw [e]
theorem State.openIfDone_offCause : (s.openIfDone.mtun y).offCause = (s.mtun y).offCause := by
  rcases State.mtun_openIfDone (s := s) (y := y) with e | e <;> rw [e]

/-- A Tun whose power is not held at 4 is reported OFF with cause 7 (07 R231). -/
theorem State.reportTrip_off (h : (s.mtun x).power ≠ 4) :
    ((s.reportTrip x).mtun x).power = 0 ∧ ((s.reportTrip x).mtun x).offCause = 7 := by
  have free := State.abandonOn_power
    (s := (s.log 4 (tunObj x) 0x0036 ([0, 0, 0, 0] ++ halfBytes (s.mtun x).temp)).raise 2) (x := x) (by simpa using h)
  rw [State.reportTrip_eq, State.openIfDone_power, State.openIfDone_offCause, State.mtun_finishTun, State.mtun_log, State.tripReported,
    State.mtun_modMTun, State.mtun_reflashWrites, State.mtun_setPower, if_neg fun k => free k.1]
  exact ⟨rfl, rfl⟩

theorem State.reportTrip_power_other (h : y ≠ x) : ((s.reportTrip x).mtun y).power = (s.mtun y).power := by
  simp [State.reportTrip_eq, State.openIfDone_power, State.tripReported, State.mtun_modMTun_other _ _ _ h,
    State.mtun_setPower_other _ _ h, State.mtun_abandonOn_other h]

/-- The trip's own record stays under that of the Tun's OFF. -/
theorem State.reportTrip_logged :
    Logged s (s.reportTrip x) 0x0036 4 (BitVec.ofNat 8 (tunObj x)) ([0, 0, 0, 0] ++ halfBytes (s.mtun x).temp) := by
  refine Recent.logged (n := 8) ?_ rfl
  rw [State.reportTrip_eq, State.openIfDone_log, State.finishTun_log]
  refine Recent.log (n := 4) ?_ (by omega) ..
  rw [State.tripReported, State.modMTun_log, State.reflashWrites_malt, State.setPower_log, State.abandonOn_log, State.raise_log]
  exact State.log_recent ..

/-! ### The heartbeat -/

/-- A heartbeat window of fewer than five edges, the fifth bad one in a row, is the loss of the heartbeat (07 R233). -/
theorem exec_heartbeatWindow_lost {n : Nat} (hw : watched s x 500 = true) (hl : (s.mtun x).hbLost = false) (hb : (s.mtun x).hbBad = 4)
    (hn : n < 5) : exec (.heartbeatWindow x n) s =
      .next ((s.modMTun x fun m => { m with hbBad := m.hbBad + 1, hbOk := 0, hbLost := true }).log 3 (tunObj x) 0x0039 [0, BitVec.ofNat 8 n]) := by
  have few : min n 255 = n := by omega
  refine (if_pos hw).trans ?_
  simp [beatOf, hn, hl, hb, few]

/-! ### The statement -/

/-- Settles O18: each command changes the Maltster's record of its Tun as the model's row says, and logs its event. -/
theorem pinCommandsComplete : Obligations.PinCommandsComplete := by
  intro s x
  refine ⟨fun hr => ?latch, fun ha hl hc hp => ?report, fun hw hm => ?armedEdge, fun hw => ?edge, fun hw hm => ?rearm,
    fun hw h100 hmax => ?storm, fun hw h100 => ?calm, fun hw hn => ?warns, fun hw hn => ?warnEnds, fun ha ho hs hf => ?pinFault,
    fun ha ho hf => ?pinsGood, fun n hw hl hb hn => ?heartbeat⟩
  case latch =>
    refine .of_next (if_pos hr) ⟨by simp, by simp, by simp, by simp [Tun.powerOff], fun y hy => ⟨?_, ?_⟩⟩
    · simp [State.tun_modTun_other _ _ _ hy]
    · simp [State.mtun_modMTun_other _ _ _ hy]
  case report =>
    obtain ⟨off, cause⟩ := State.reportTrip_off hp
    exact .of_next (if_pos ⟨ha, hl, hc⟩)
      ⟨off, cause, State.reportTrip_tuns, fun y hy => State.reportTrip_power_other hy, State.reportTrip_logged⟩
  case armedEdge =>
    refine .of_next ((if_pos hw).trans (if_pos (by simpa using hm))) ⟨by simp, by simp, by simp, by simp, fun y hy => ?_⟩
    simp [State.mtun_modMTun_other _ _ _ hy]
  case edge =>
    exact .of_next ((if_pos hw).trans (if_neg (by simp))) ⟨by simp, by simp, by simp⟩
  case rearm =>
    exact .of_next (if_pos (by simp [hw, hm])) ⟨by simp, by simp, State.logged_log rfl⟩
  case storm =>
    refine .of_next ((if_pos hw).trans (if_pos h100)) ⟨by simp [h100], by simp, ?_⟩
    rw [Nat.min_eq_left hmax]
    exact State.logged_log rfl
  case calm =>
    have few : ¬ 100 < (s.mtun x).errWindow := by simpa using h100
    cases storm : (s.mtun x).errStorm
    case false =>
      exact .of_next ((if_pos hw).trans ((if_neg few).trans (if_neg (by simp [storm])))) ⟨by simp [h100], by simp⟩
    case true =>
      exact .of_next ((if_pos hw).trans ((if_neg few).trans (if_pos storm))) ⟨by simp [h100], by simp⟩
  case warns =>
    exact .of_next ((if_pos (by simp [hw, hn])).trans (if_pos rfl)) ⟨by simp, by simp, State.logged_log (by simp)⟩
  case warnEnds =>
    exact .of_next ((if_pos (by simp [hw, hn])).trans (if_neg (by simp))) ⟨by simp, by simp, State.logged_log rfl⟩
  case pinFault =>
    refine .of_next (if_pos (by simp [ha, ho, hs, hf])) ⟨by simp, by simp, ?_⟩
    rw [State.mtun_log]
    exact State.logged_log rfl
  case pinsGood =>
    refine .of_next (if_pos (by simp [ha, ho, hf])) ⟨by simp, by simp, ?_⟩
    rw [State.mtun_log]
    exact State.logged_log rfl
  case heartbeat =>
    exact .of_next (exec_heartbeatWindow_lost hw hl hb hn) ⟨by simp, by simp, State.logged_log rfl⟩

end Sys2Proof.Machine
end

section
/-! SUPPORT. The Maltster's restart and re-evaluation: what a loss of the Tuns' power and a restart leave, and what re-evaluation does on a
quiet tray. -/

namespace Sys2Proof.Machine
open Sys2Proof

variable {s t : State} {x : TunId}

/-! ### Power cut while the Maltster does not run -/

section
variable (s : State) (x : TunId)

/-- The rails of every Tun collapse, and the Maltster's outputs hold (03 R71, 07 R246). -/
@[simp] theorem State.tun_cutPower : s.cutPower.tun x = (s.tun x).powerOff := by
  cases x <;> simp [State.cutPower, allTuns, State.tun_modTun_other]
@[simp] theorem State.mtun_cutPower : s.cutPower.mtun x = { s.mtun x with rails := 0 } := by
  cases x <;> simp [State.cutPower, allTuns, State.mtun_modMTun_other]
@[simp] theorem State.cutPower_tray : s.cutPower.tray = s.tray := rfl
@[simp] theorem State.cutPower_fw : s.cutPower.fw = s.fw := rfl
@[simp] theorem State.cutPower_restarts : s.cutPower.malt.restarts = s.malt.restarts := by simp [State.cutPower, allTuns]
@[simp] theorem State.cutPower_log : s.cutPower.malt.log = s.malt.log := by simp [State.cutPower, allTuns]
@[simp] theorem State.cutPower_logNext : s.cutPower.malt.logNext = s.malt.logNext := by simp [State.cutPower, allTuns]

@[simp] theorem State.tun_openMain : s.openMain.tun x = s.tun x := rfl
@[simp] theorem State.openMain_tray : s.openMain.tray = { s.tray with mainClosed := false, openWhenOff := false } := rfl
@[simp] theorem State.openMain_fw : s.openMain.fw = s.fw := rfl
@[simp] theorem State.openMain_restarts : s.openMain.malt.restarts = s.malt.restarts := rfl
@[simp] theorem State.openMain_log : s.openMain.malt.log = s.malt.log := rfl
@[simp] theorem State.openMain_logNext : s.openMain.malt.logNext = s.malt.logNext := rfl

end

/-! ### The restart -/

section
variable (s : State)

/-- The Maltster's image is to be verified again, and held and executing commands are gone (06 R210, 07 R246). -/
theorem State.restartMalt_stopped : s.restartMalt.malt.alive = false ∧ s.restartMalt.malt.imageOk = false ∧
    s.restartMalt.malt.executing = [] ∧ s.restartMalt.malt.windows = [] := ⟨rfl, rfl, rfl, rfl⟩

theorem State.restartMalt_restarts : s.restartMalt.malt.restarts = satInc s.malt.restarts := by
  unfold State.restartMalt; split <;> simp
theorem State.restartMalt_pwrEn : s.restartMalt.tray.pwrEn = s.tray.pwrEn := by
  unfold State.restartMalt; split <;> simp
theorem State.restartMalt_logNext : s.restartMalt.malt.logNext = s.malt.logNext := by
  unfold State.restartMalt; split <;> simp

/-- The log stays where the flash holds it (07 R246, 19 R755). -/
theorem State.restartMalt_log (h : s.fw.logFlash.ramOnly = false) : s.restartMalt.malt.log = s.malt.log := by
  unfold State.restartMalt
  split <;> simp [h]

/-- Of a Tun's record the restart leaves what `MTun.kept` says; a removal under way has gone on in hardware before (03 R78). -/
theorem State.mtun_restartMalt (x : TunId) : s.restartMalt.mtun x =
    MTun.kept ((if s.tray.removing && s.tray.mainClosed then s.cutPower.openMain else s).mtun x) := Quad.get_map ..
theorem State.tun_restartMalt (x : TunId) : s.restartMalt.tun x =
    Tun.proxyFail ((if s.tray.removing && s.tray.mainClosed then s.cutPower.openMain else s).tun x) := Quad.get_map ..

/-- The hold-state outputs and the thermal latch stay (07 Table 07-6). -/
theorem State.restartMalt_outputs (x : TunId) : (s.restartMalt.mtun x).enables = (s.mtun x).enables ∧
    (s.restartMalt.mtun x).coldRstHeld = (s.mtun x).coldRstHeld ∧ (s.restartMalt.mtun x).thermLatch = (s.mtun x).thermLatch := by
  rw [State.mtun_restartMalt]
  split <;> simp [MTun.kept]

theorem State.restartMalt_mainClosed : s.restartMalt.tray.mainClosed =
    if s.tray.removing = true ∧ s.tray.mainClosed = true then false else s.tray.mainClosed := by
  cases removing : s.tray.removing <;> cases closed : s.tray.mainClosed <;> simp [State.restartMalt, removing, closed]

@[simp] theorem Tun.proxyFail_svc (u : Tun) : u.proxyFail.svc = u.svc := (Tun.same_proxyFail (part := .svc) (by decide)).mpr Part.same_self

theorem State.restartMalt_svc (x : TunId) : (s.restartMalt.tun x).svc =
    if s.tray.removing = true ∧ s.tray.mainClosed = true then (s.tun x).powerOff.svc else (s.tun x).svc := by
  simp only [State.tun_restartMalt, Bool.and_eq_true]
  split <;> simp

/-- With the standby power go the Tuns' power, the main path, PWR_EN and the Maltster's outputs, and the restart follows (07 R225). -/
theorem exec_standbyPowerLoss : ∃ u : State, exec .standbyPowerLoss s = .next u.restartMalt ∧ u.tray.mainClosed = false ∧
    u.tray.pwrEn = false ∧ ∀ x, u.tun x = (s.tun x).powerOff ∧ (u.mtun x).thermLatch = false ∧ (u.mtun x).enables = 0 :=
  ⟨_, rfl, rfl, rfl, fun x => ⟨State.tun_cutPower s x, congrArg MTun.thermLatch (Quad.get_map ..),
    congrArg MTun.enables (Quad.get_map ..)⟩⟩

end

/-! ### Re-evaluation of a quiet tray -/

/-- No Tun has tripped, has a rail enabled or is reported powered. -/
def Quiet (s : State) : Prop := ∀ x, (s.mtun x).thermLatch = false ∧ (s.mtun x).enables = 0 ∧ (s.mtun x).power = 0

/-- `t` differs from `s` in the Maltster's records of the Tuns only. -/
def OnlyMTuns (s t : State) : Prop := ∃ m, t = { s with malt := { s.malt with mtun := m } }

/-- Re-evaluation of a Tun that is off only ends its sequence (07 Table 07-7). -/
theorem State.reevalTun_quiet (h : Quiet s) (errLow : Bool) : s.reevalTun errLow x = s.modMTun x fun m => { m with seq := .idle } := by
  obtain ⟨latch, enables, power⟩ := h x
  have notTripped : ¬ (s.mtun x).thermLatch = true := by simp [latch]
  have off : ((s.modMTun x fun m => { m with seq := .idle }).mtun x).power = 0 := by rw [State.mtun_modMTun]; exact power
  exact (if_neg notTripped).trans ((if_pos enables).trans (State.setPower_self off))

theorem Quiet.modMTun_seq (h : Quiet s) : Quiet (s.modMTun x fun m => { m with seq := .idle }) := by
  intro y
  by_cases e : y = x
  · subst e
    rw [State.mtun_modMTun]
    exact h y
  · rw [State.mtun_modMTun_other _ _ _ e]
    exact h y

theorem State.reevalTuns_quiet (h : Quiet s) (f : Quad Bool) : OnlyMTuns s (s.reevalTuns f) := by
  have all : OnlyMTuns s (s.reevalTuns f) ∧ Quiet (s.reevalTuns f) := by
    refine List.foldlRecOn (motive := fun t => OnlyMTuns s t ∧ Quiet t) _ _ ⟨⟨_, rfl⟩, h⟩ ?_
    rintro _ ⟨⟨m, rfl⟩, quiet⟩ x _
    rw [State.reevalTun_quiet quiet]
    exact ⟨⟨_, rfl⟩, quiet.modMTun_seq⟩
  exact all.1

/-- A PWR_EN that has not moved, with nothing to open, changes nothing (07 R218, R247). -/
theorem State.rereadPwrEn_same (hp : s.tray.pwrPin = s.tray.pwrEn) (hc : s.tray.pwrEn = true ∨ s.tray.mainClosed = false) :
    (let u := s.actPwrEn s.tray.pwrPin
     if !u.tray.pwrEn && u.tray.mainClosed && !u.tray.openWhenOff then u.pwrEnLow else u) = s := by
  have level : s.actPwrEn s.tray.pwrPin = s := if_pos hp.symm
  dsimp only
  rw [level]
  exact if_neg (by rcases hc with h | h <;> simp [h])

/-- The Maltster that has been restarted answers and serves both buses, before it re-evaluates (07 R247). -/
def State.answering (s : State) : State := s.modMalt fun y => { y with
  alive := true, reeval := false, buses := ⟨{ s.malt.buses.d0 with serving := true }, { s.malt.buses.d1 with serving := true }⟩ }

/-- On a quiet tray whose PWR_EN has not moved, and that does not wait to open, only the Tuns are re-evaluated. -/
theorem exec_maltsterReevaluate_quiet (hr : s.malt.reeval = true) (hi : s.malt.imageOk = true) (hp : s.tray.pwrPin = s.tray.pwrEn)
    (hc : s.tray.pwrEn = true ∨ s.tray.mainClosed = false) (hq : Quiet s) (f : Quad Bool) :
    let u := s.answering.log 0 0x30 0x0001 [s.malt.bank.setWidth 8]
    ∃ t, exec (.maltsterReevaluate { leakLow := false, errLow := f, bays := [] }) s = .next t ∧ OnlyMTuns u t := by
  intro u
  have quiet : Quiet u := fun x => by simpa [u, State.answering, State.mtun] using hq x
  obtain ⟨m, e⟩ := State.reevalTuns_quiet quiet f
  have tray : (u.reevalTuns f).tray = s.tray := by rw [e]; exact State.log_tray ..
  exact ⟨u.reevalTuns f, (if_pos (by simp [hr, hi])).trans (congrArg Host.Outcome.next
    (State.rereadPwrEn_same (s := u.reevalTuns f) (by rw [tray, hp]) (by rw [tray]; exact hc))), m, e⟩

/-! ### The statement -/

/-- Settles O21: a restart and a loss of standby power leave what the lemmas of the restart say, re-evaluation of a quiet tray changes the
Maltster's records alone, and a second and a press change the locate registers. -/
theorem maltsterCommandsComplete : Obligations.MaltsterCommandsComplete := by
  intro s
  refine ⟨?restart, fun ha => ?watchdog, fun e hr hi hp hc hq => ?reevaluate, fun ha h1 => ?lastSecond, fun ha h1 => ?second,
    fun ha hb hl => ?press, fun ha hb hl => ?pressAgain, ?standby⟩
  case restart =>
    obtain ⟨alive, image, executing, windows⟩ := State.restartMalt_stopped s
    refine .of_next rfl ⟨alive, image, State.restartMalt_restarts s, executing, windows, State.restartMalt_pwrEn s,
      State.restartMalt_log s, fun x => ?_, ?_⟩
    · obtain ⟨enables, held, -⟩ := State.restartMalt_outputs s x
      exact ⟨enables, held⟩
    · simp only [State.restartMalt_mainClosed, State.restartMalt_svc]
      split
      · exact ⟨rfl, fun _ => rfl⟩
      · exact ⟨rfl, fun _ => rfl⟩
  case watchdog =>
    obtain ⟨alive, image, -, -⟩ := State.restartMalt_stopped s
    refine .of_next (if_pos ha) ⟨?_, ?_, ?_, ?_, fun x => ?_, ?_⟩
    · simpa using alive
    · simpa using image
    · simpa using State.restartMalt_restarts s
    · simpa using State.restartMalt_pwrEn s
    · obtain ⟨enables, held, -⟩ := State.restartMalt_outputs s x
      rw [State.mtun_log]
      exact ⟨enables, held⟩
    · exact State.logged_log (State.restartMalt_logNext s)
  case reevaluate =>
    have quiet : Quiet s := hq
    obtain ⟨_, runs, m, rfl⟩ := exec_maltsterReevaluate_quiet hr hi hp hc quiet e
    have bus (b : Bus) : ((s.answering.log 0 0x30 0x0001 [s.malt.bank.setWidth 8]).bus b).serving = true := by
      rw [State.bus_log]; cases b <;> rfl
    exact .of_next runs ⟨State.log_alive .., State.log_reeval .., bus .sb0, bus .sb1, State.log_tuns .., State.log_tray .., State.log_bays ..,
      State.logged_log (s := s) (s' := s.answering) rfl⟩
  case lastSecond => exact exec_locateSecondTick_ends ha h1
  case second =>
    exact exec_locateSecondTick_counts ha (fun e => by simp [e] at h1) (fun e => by simp [e] at h1)
  case press =>
    refine .of_next (exec_locateButtonPress ha (by simp [hb])) ⟨?_, ?_, by simp, ?_⟩
    · simp [Malt.press, hl]
    · simp [Malt.press, hl]
    · rw [hl]; exact State.logged_log rfl
  case pressAgain =>
    refine .of_next (exec_locateButtonPress ha (by simp [hb])) ⟨?_, by simp, ?_⟩
    · simp [Malt.press_locating, hl]
    · rw [hl]; exact State.logged_log rfl
  case standby =>
    obtain ⟨u, runs, closed, pwrEn, tuns⟩ := exec_standbyPowerLoss s
    obtain ⟨alive, -⟩ := State.restartMalt_stopped u
    refine .of_next runs ⟨alive, ?_, ?_, fun x => ?_⟩
    · simp [State.restartMalt_mainClosed, closed]
    · rw [State.restartMalt_pwrEn, pwrEn]
    · obtain ⟨off, latch, enables⟩ := tuns x
      obtain ⟨enables', -, latch'⟩ := State.restartMalt_outputs u x
      refine ⟨?_, latch'.trans latch, enables'.trans enables⟩
      simp [State.restartMalt_svc, closed, off, Tun.powerOff]

end Sys2Proof.Machine
end

section
/-! SUPPORT. The firmware store: a bank that was written, what the Maltster's shared operations leave of the store, and the boot header that
selects a bank (08 R258-R261). -/

namespace Sys2Proof.Machine
open Sys2Proof

variable {s t : State} {x y : TunId}

/-! ### Numbers in bytes -/

@[simp] theorem bytesLE_length (k n : Nat) : (bytesLE k n).length = k := by
  induction k generalizing n with
  | zero => rfl
  | succ k ih => simp [bytesLE, ih]

theorem natLE_bytesLE (k n : Nat) : natLE (bytesLE k n) = n % 256 ^ k := by
  induction k generalizing n with
  | zero => simp [bytesLE, natLE, Nat.mod_one]
  | succ k ih => simp [bytesLE, natLE, ih, Nat.pow_succ', Nat.mod_mul]

/-- A number that fits its field is read back from where it stands. -/
theorem leAt_bytesLE {k n : Nat} (h : n < 256 ^ k) (before after : List Byte) :
    leAt (before ++ bytesLE k n ++ after) before.length k = n := by
  rw [leAt, List.append_assoc, List.drop_left, List.take_left' (bytesLE_length k n), natLE_bytesLE, Nat.mod_eq_of_lt h]

theorem bytesLE_two (c : Half) : bytesLE 2 c.toNat = halfBytes c := by
  simp [bytesLE, halfBytes, BitVec.toNat_eq, Nat.shiftRight_eq_div_pow]

/-! ### The boot header -/

section
variable (seq : Nat) (sel : Bool)

/-- The CRC of a copy as it is written holds (08 R259). -/
theorem HdrCopy.make_crcOk : (HdrCopy.make seq sel).crcOk = true := by
  have body : (bytesLE 4 seq ++ [if sel then 1 else 0, 0, 0, 0]).length = 8 := by simp
  rw [HdrCopy.crcOk, HdrCopy.make, List.take_left' body, List.drop_left' body, bytesLE_two]
  simp [halfBytes]

theorem HdrCopy.make_seq {seq : Nat} (h : seq < 2 ^ 32) : (HdrCopy.make seq sel).seq = seq := by
  rw [HdrCopy.seq, HdrCopy.make, List.append_assoc]
  exact leAt_bytesLE (k := 4) h [] _

theorem HdrCopy.make_sel : (HdrCopy.make seq sel).sel = sel := by
  cases sel <;> simp [HdrCopy.sel, HdrCopy.make, byteAt, bytesLE]

end

/-- The header copy that is written has the higher SEQUENCE, so it is in force, and it names the bank (08 R259). -/
theorem selectedBank_writeHeader (h : Duo HdrCopy) (sel : Bool) (h0 : h.d0.seq + 1 < 2 ^ 32) (h1 : h.d1.seq + 1 < 2 ^ 32) :
    selectedBank (writeHeader h sel) = sel := by
  cases second : headerSecond h with
  | true =>
    have first : headerSecond { h with d0 := .make (h.d1.seq + 1) sel } = false := by
      simp [headerSecond, HdrCopy.make_crcOk, HdrCopy.make_seq _ h1]
    rw [writeHeader, if_pos second, selectedBank, if_neg (by simp [first]), if_pos (HdrCopy.make_crcOk ..), HdrCopy.make_sel]
  | false =>
    have fits : (if h.d0.crcOk then h.d0.seq else 0) + 1 < 2 ^ 32 := by split <;> omega
    have inForce : headerSecond { h with d1 := .make ((if h.d0.crcOk then h.d0.seq else 0) + 1) sel } = true := by
      cases ok : h.d0.crcOk <;> simp [headerSecond, HdrCopy.make_crcOk, ok]
      rw [HdrCopy.make_seq _ h0]
      omega
    rw [writeHeader, if_neg (by simp [second]), selectedBank, if_pos inForce, HdrCopy.make_sel]

/-! ### A bank written -/

@[simp] theorem TunFlash.bank_setBank (f : TunFlash) (b : Bool) (k : Bank) : (f.setBank b k).bank b = k := by cases b <;> rfl

section
variable (w : Fw) (b : Bool) (k : Bank)

@[simp] theorem Fw.maltBank_setMaltBank : (w.setMaltBank b k).maltBank b = k := by cases b <;> rfl
@[simp] theorem Fw.setMaltBank_armedMalt : (w.setMaltBank b k).armedMalt = w.armedMalt := by cases b <;> rfl

end

@[simp] theorem State.flash_setFlash (f : TunFlash) : (s.setFlash x f).flash x = f := Quad.get_set_same ..
@[simp] theorem State.setFlash_self : s.setFlash x (s.flash x) = s := by simp [State.setFlash, State.flash, State.modFw]
@[simp] theorem State.mtun_setFlash (f : TunFlash) : (s.setFlash x f).mtun y = s.mtun y := rfl
@[simp] theorem tunOwns_setFlash (f : TunFlash) : tunOwns (s.setFlash x f) y = tunOwns s y := rfl

/-- The devices of all four Tuns are changed alike. -/
theorem State.foldl_setFlash (g : TunFlash → TunFlash) (s : State) :
    allTuns.foldl (fun s x => s.setFlash x (g (s.flash x))) s = s.modFw fun w => { w with flash := w.flash.map g } := rfl

/-! ### What the Maltster keeps to itself -/

@[simp] theorem onlyMalt_fw (w : Fw) : OnlyMalt s { t with fw := w } ↔ OnlyMalt s t := Iff.rfl
@[simp] theorem onlyMalt_modFw (f : Fw → Fw) : OnlyMalt s (t.modFw f) ↔ OnlyMalt s t := Iff.rfl
@[simp] theorem onlyMalt_setFlash (f : TunFlash) : OnlyMalt s (t.setFlash x f) ↔ OnlyMalt s t := Iff.rfl
@[simp] theorem onlyMalt_emitMalt (e : MaltEmit) : OnlyMalt s (t.emitMalt e) ↔ OnlyMalt s t := Iff.rfl
@[simp] theorem onlyMalt_finish (o : Byte) (st : Half) (d : List Byte) : OnlyMalt s (t.finish o st d) ↔ OnlyMalt s t := by simp [OnlyMalt]
@[simp] theorem onlyMalt_reflashWrites : OnlyMalt s (t.reflashWrites x) ↔ OnlyMalt s t := by
  unfold State.reflashWrites
  split <;> simp

/-! ### What the log, replies and notices leave of the store -/

/-- The store apart from the log's flash and the reply a stage command is owed. -/
def Fw.store (w : Fw) : Fw := { w with logFlash := {}, replyDue := false }

@[simp] theorem State.log_store (sev src ev : Nat) (d : List Byte) : (s.log sev src ev d).fw.store = s.fw.store := by
  obtain ⟨_, _, _, _, _, _, h⟩ := State.log_eq s sev src ev d
  rw [h]
  rfl

@[simp] theorem State.stageReply_store (st : Half) (d : List Byte) : (s.stageReply st d).fw.store = s.fw.store := by
  unfold State.stageReply
  split
  · rw [State.finish_fw]; rfl
  · rfl

@[simp] theorem State.stageTell_store (cmd : Byte) (st : Half) : (s.stageTell cmd st).fw.store = s.fw.store := by
  unfold State.stageTell
  split
  · rfl
  · exact State.stageReply_store ..

/-- The set is armed (08 Table 08-9). -/
@[simp] theorem State.arm_store : s.arm.fw.store = { s.fw.store with stage := .armed } := State.log_store ..

@[simp] theorem State.stageFails_store (st : Half) :
    (s.stageFails st).fw.store = { s.fw.store with stage := .failed, lastError := st, rerun := false } := by
  have logged : (if s.fw.rerun then s.log 2 0x30 0x0084 ([BitVec.ofNat 8 s.fw.kind] ++ halfBytes st) else s).fw.store = s.fw.store := by
    split
    · exact State.log_store ..
    · rfl
  exact congrArg (fun w : Fw => { w with stage := .failed, lastError := st, rerun := false }) logged

@[simp] theorem onlyMalt_stageReply (st : Half) (d : List Byte) : OnlyMalt s (t.stageReply st d) ↔ OnlyMalt s t := by
  unfold State.stageReply
  split <;> simp
@[simp] theorem onlyMalt_stageTell (cmd : Byte) (st : Half) : OnlyMalt s (t.stageTell cmd st) ↔ OnlyMalt s t := by
  unfold State.stageTell
  split <;> simp
@[simp] theorem onlyMalt_arm : OnlyMalt s t.arm ↔ OnlyMalt s t := by simp [State.arm]
@[simp] theorem onlyMalt_stageFails (st : Half) : OnlyMalt s (t.stageFails st) ↔ OnlyMalt s t := by
  unfold State.stageFails
  dsimp only
  split <;> simp

end Sys2Proof.Machine
end

section
/-! SUPPORT. The boot of the Maltster and of the Tuns, the end of a staging operation and the activation of an armed set (08 R266-R285). -/

namespace Sys2Proof.Machine
open Sys2Proof

variable {s t : State} {x y : TunId}

/-! ### The boot of the Maltster -/

/-- The number of a bank of the Maltster's flash. -/
def bankCode (b : Bool) : BitVec 2 := if b then 1 else 0

theorem bankCode_not (b : Bool) : bankCode (!b) = if b then 0 else 1 := by cases b <;> rfl

/-- A bank whose image failed is marked (08 R266). -/
def Fw.marked (w : Fw) (b : Bool) : Fw := w.setMaltBank b { w.maltBank b with state := .invalid }

theorem Fw.marked_bank (w : Fw) (b : Bool) : (w.marked b).maltBank b = { w.maltBank b with state := .invalid } := by cases b <;> rfl

theorem Fw.marked_both (w : Fw) (b : Bool) : (((w.marked b).marked (!b)).maltBank b).state = .invalid ∧
    (((w.marked b).marked (!b)).maltBank (!b)).state = .invalid := by cases b <;> exact ⟨rfl, rfl⟩

/-- The store when the other bank runs: the selected one is marked and the header selects the other (08 R266, R267). -/
def Fw.otherSelected (w : Fw) (sel : Bool) : Fw :=
  { (w.marked sel).setMaltBank (!sel) { (w.marked sel).maltBank (!sel) with state := .active } with
    maltHdr := writeHeader (w.marked sel).maltHdr (!sel) }

theorem Fw.otherSelected_banks (w : Fw) (b : Bool) : ((w.otherSelected b).maltBank b).state = .invalid ∧
    ((w.otherSelected b).maltBank (!b)).state = .active := by cases b <;> exact ⟨rfl, rfl⟩

section
variable (ha : s.malt.alive = false) (hi : s.malt.imageOk = false)
include ha hi

/-- With a flash whose SFDP table fails nothing runs (08 R260). -/
theorem exec_maltsterBootVerify_noTable (hf : s.fw.maltSfdp = false) :
    exec .maltsterBootVerify s = .next (s.modMalt fun m => { m with imageFailed := true }) :=
  (if_neg (by simp [ha, hi])).trans (if_pos hf)

variable (hf : s.fw.maltSfdp = true)
include hf

theorem maltsterBoots_selected (h : s.maltFails (s.fw.maltBank (selectedBank s.fw.maltHdr)).bytes = none) :
    Answers .maltsterBootVerify s fun t => t.malt.imageOk = true ∧ t.malt.bank = bankCode (selectedBank s.fw.maltHdr) ∧
      t.malt.row = s.tray.trayId ∧ t.malt.reeval = true ∧ t.fw = s.fw ∧ OnlyMalt s t := by
  refine .of_next ((if_neg (by simp [ha, hi])).trans ((if_neg (by simp [hf])).trans (by rw [h]))) ?_
  exact ⟨rfl, rfl, rfl, rfl, rfl, onlyMalt_self⟩

variable {n : Nat} (h : s.maltFails (s.fw.maltBank (selectedBank s.fw.maltHdr)).bytes = some n)
include h

theorem maltsterBoots_other (hb : s.maltFails (s.fw.maltBank (!selectedBank s.fw.maltHdr)).bytes = none) :
    Answers .maltsterBootVerify s fun t => t.malt.imageOk = true ∧ t.malt.bank = bankCode (!selectedBank s.fw.maltHdr) ∧
      t.fw.store = (s.fw.otherSelected (selectedBank s.fw.maltHdr)).store ∧ OnlyMalt s t := by
  refine .of_next ((if_neg (by simp [ha, hi])).trans ((if_neg (by simp [hf])).trans (by rw [h]; dsimp only; rw [hb]))) ?_
  exact ⟨State.log_imageOk .., State.log_bank .., State.log_store .., (onlyMalt_log ..).mpr onlyMalt_self⟩

variable {k : Nat} (hb : s.maltFails (s.fw.maltBank (!selectedBank s.fw.maltHdr)).bytes = some k)
include hb

theorem maltsterBoots_golden (hg : s.maltFails s.fw.maltGolden.bytes = none) :
    Answers .maltsterBootVerify s fun t => t.malt.imageOk = true ∧ t.malt.bank = 2 ∧
      t.fw.store = ((s.fw.marked (selectedBank s.fw.maltHdr)).marked (!selectedBank s.fw.maltHdr)).store ∧ OnlyMalt s t := by
  refine .of_next ((if_neg (by simp [ha, hi])).trans ((if_neg (by simp [hf])).trans
    (by rw [h]; dsimp only; rw [hb]; dsimp only; rw [hg]))) ?_
  exact ⟨State.log_imageOk .., State.log_bank .., State.log_store .., (onlyMalt_log ..).mpr onlyMalt_self⟩

theorem exec_maltsterBootVerify_none {j : Nat} (hg : s.maltFails s.fw.maltGolden.bytes = some j) :
    exec .maltsterBootVerify s = .next (s.modMalt fun m => { m with imageFailed := true }) :=
  (if_neg (by simp [ha, hi])).trans ((if_neg (by simp [hf])).trans (by rw [h]; dsimp only; rw [hb]; dsimp only; rw [hg]))

end

/-! ### The boot of a Tun -/

theorem State.mtun_startReflash (st : Half) : (s.startReflash x st).mtun x =
    { s.mtun x with headerBad := true, reflashing := true, failStatus := st } := by simp [State.startReflash]

@[simp] theorem onlyMalt_startReflash (st : Half) : OnlyMalt s (t.startReflash x st) ↔ OnlyMalt s t := by simp [State.startReflash]

/-- Every verdict of a boot is a result, and only a pass reports 1 (08 Table 08-5). -/
theorem bootCode_ne_zero (c : Option Nat) : bootCode c ≠ 0#8 := by
  unfold bootCode
  repeat' split
  all_goals decide
theorem bootCode_eq_one (c : Option Nat) : decide (bootCode c = 1) = c.isNone := by
  unfold bootCode
  repeat' split
  all_goals rfl

/-- The service registers of a Tun whose boot ROM reports its result (08 R269, R270). -/
def Svc.booted (v : Svc) (sel : Bool) (r : Byte) : Svc :=
  { v with bootResult := r, bootBank := sel, fwRunning := decide (r = 1) }

theorem exec_tunBootLoad_reports (hc : (s.tun x).svc.state = .cold) (hh : (s.tun x).svc.hold = .none_)
    (hr : (s.tun x).svc.bootResult = 0) (ok : Bool) : ∃ t, exec (.tunBootLoad x ok) s = .next t ∧ (t.tun x).svc =
      (s.tun x).svc.booted (selectedBank (s.flash x).hdr) (if ok && (s.flash x).sfdp then
        bootCode (s.bootFails x ((s.flash x).bank (selectedBank (s.flash x).hdr)).bytes) else 6) :=
  ⟨_, if_pos ⟨hc, hh, hr⟩, by rw [State.tun_reflashWrites, State.tun_modTun]; rfl⟩

/-- A power-on is answered when it is the one command that executes on the Tun (06 R208). -/
theorem State.finishOn_single {q : Req} {h : Held} (he : s.malt.executing = [⟨.object (tunByte x), q, [h]⟩]) (hq : q.op ≠ 0x11)
    (st : Half) : s.finishOn x st = (s.modMalt fun m => { m with executing := [] }).reply h.src h.req st [] := by
  have hq : q.op ≠ 0x11#8 := hq
  simp [State.finishOn, State.finishWhere, he, hq, tunByte]

/-- The record of a Tun whose first boot failed: it goes down to wait for its re-flash (08 R271). -/
theorem exec_bootResultPoll_fails (ha : s.malt.alive = true) (hp : (s.mtun x).power = 2) (hr : (s.tun x).reachable = true)
    (hf : 2 ≤ (s.tun x).svc.bootResult.toNat) (hn : (s.mtun x).reflashed = false) :
    ∃ t, exec (.bootResultPoll x) s = .next t ∧ t.mtun x =
      { (s.powerDown x 0 false).mtun x with
        onAfterReflash := true, headerBad := true, reflashing := true, failStatus := bootStatus (s.tun x).svc.bootResult } := by
  have not0 : (s.tun x).svc.bootResult ≠ 0 := fun e => by simp [e] at hf
  have not1 : (s.tun x).svc.bootResult ≠ 1 := fun e => by simp [e] at hf
  exact ⟨_, (if_pos ⟨ha, hp, hr⟩).trans ((if_neg not0).trans ((if_neg not1).trans (if_neg (by simp [hn])))),
    by rw [State.mtun_startReflash, State.mtun_modMTun]⟩

/-- A power-on that does not wait for a re-flash is not resumed. -/
theorem State.resumeOn_idle (h : (s.mtun x).onAfterReflash = false) : s.resumeOn x = s := if_neg (by simp [h])

/-- The device of a Tun whose selected bank has been written anew from the golden image (08 R271). -/
def TunFlash.reflashed (f : TunFlash) (golden : List Byte) : TunFlash :=
  { f.setBank (selectedBank f.hdr) { state := .active, bytes := golden } with recoveries := satInc f.recoveries }

/-- A re-flash that no power-on waits for ends with the bank written and the record of it (08 R271, event 0x0080). -/
theorem goldenReflash_ends (ha : s.malt.alive = true) (hr : (s.mtun x).reflashing = true) (ho : tunOwns s x = false)
    (hw : (s.mtun x).onAfterReflash = false) :
    Answers (.goldenReflashDone x) s fun t => t.flash x = (s.flash x).reflashed s.fw.tunGolden ∧
      t.mtun x = { s.mtun x with headerBad := false, reflashed := true, reflashing := false } ∧ OnlyMalt s t ∧
      Logged s t 0x0080 3 (BitVec.ofNat 8 (tunObj x))
        ([if selectedBank (s.flash x).hdr then 1 else 0] ++ halfBytes (s.mtun x).failStatus) := by
  refine .of_next ((if_pos ⟨ha, hr, ho⟩).trans (congrArg Host.Outcome.next (State.resumeOn_idle (by simpa using hw)))) ⟨?_, ?_, ?_, ?_⟩
  · exact (congrArg (fun w : Fw => w.flash.get x) (State.log_store ..)).trans (State.flash_setFlash ..)
  · simp
  · simp
  · exact State.logged_log rfl

/-! ### The end of a staging operation -/

@[simp] theorem onlyMalt_requestData : OnlyMalt s t.requestData ↔ OnlyMalt s t := Iff.rfl

/-- Copying touches the devices of the Tuns alone. -/
theorem State.putCopies_eq (s : State) (k : Bank) : ∃ q, s.putCopies k = s.modFw fun w => { w with flash := q } := by
  refine List.foldlRecOn (motive := fun t => ∃ q, t = s.modFw fun w => { w with flash := q }) _ _ ⟨s.fw.flash, rfl⟩ ?_
  rintro _ ⟨q, rfl⟩ x _
  dsimp only
  split
  · exact ⟨q, rfl⟩
  · exact ⟨_, rfl⟩

/-- The store with a copy in the unselected bank of every Tun's device (08 R276). -/
def Fw.copied (w : Fw) (k : Bank) : Fw := { w with flash := w.flash.map fun f => f.setBank (!selectedBank f.hdr) k }

theorem bank_of_copied {k : Bank} (h : t.fw.flash = (s.fw.copied k).flash) (x : TunId) :
    (t.flash x).bank (!selectedBank (s.flash x).hdr) = k := by
  simp [State.flash, h, Fw.copied]

/-- With every device the Maltster's, the copies reach all four (08 R261). -/
theorem State.putCopies_owned (h : ∀ x, tunOwns s x = false) (k : Bank) : s.putCopies k = s.modFw fun w => w.copied k := by
  refine Eq.trans ?_ (State.foldl_setFlash (fun f => f.setBank (!selectedBank f.hdr) k) s)
  simp [State.putCopies, allTuns, h]

@[simp] theorem onlyMalt_putCopies (k : Bank) : OnlyMalt s (t.putCopies k) ↔ OnlyMalt s t := by
  obtain ⟨_, h⟩ := State.putCopies_eq t k
  rw [h, onlyMalt_modFw]

section
variable (ha : s.malt.alive = true) (hs : s.fw.stage = .verifying)
include ha hs

/-- A Maltster image that passes is PENDING in its bank and the set is armed (08 Table 08-9). -/
theorem stageVerify_maltPass (hk : s.fw.kind = 1) (h : s.maltFails (s.fw.maltBank s.stageBank).bytes = none) :
    Answers .stageVerifyDone s fun t => t.fw.store =
      { s.fw.setMaltBank s.stageBank { s.fw.maltBank s.stageBank with state := .pending } with
        armedMalt := true, rerun := false, stage := .armed }.store ∧ OnlyMalt s t := by
  refine .of_next ((if_pos ⟨ha, hs⟩).trans ((if_pos hk).trans (by dsimp only; rw [h]))) ⟨?_, ?_⟩
  · rw [State.arm_store]
    split <;> (simp only [State.stageTell_store]; rfl)
  · rw [onlyMalt_arm]
    split <;> simp

/-- One that fails leaves its bank INVALID and the stage FAILED. -/
theorem stageVerify_maltFail {n : Nat} (hk : s.fw.kind = 1) (h : s.maltFails (s.fw.maltBank s.stageBank).bytes = some n) :
    Answers .stageVerifyDone s fun t => t.fw.store = { s.fw.marked s.stageBank with
      stage := .failed, lastError := checkStatus n, rerun := false }.store ∧ OnlyMalt s t := by
  refine .of_next ((if_pos ⟨ha, hs⟩).trans ((if_pos hk).trans (by dsimp only; rw [h]))) ⟨?_, by simp⟩
  rw [State.stageTell_store, State.stageFails_store]
  rfl

/-- A Tun bundle that passes stays VALID in the staging region and is copied (08 R276). -/
theorem stageVerify_bundlePass (hk : s.fw.kind = 2) (h : s.bundleFails s.fw.staging.bytes = none) :
    Answers .stageVerifyDone s fun t => (∃ q, t.fw.store =
      { s.fw with stage := .copying, staging := { s.fw.staging with state := .valid }, flash := q }.store) ∧ OnlyMalt s t := by
  refine .of_next ((if_pos ⟨ha, hs⟩).trans ((if_neg (by simp [hk])).trans
    (by rw [h]; exact (apply_ite Host.Outcome.next ..).symm))) ⟨?_, ?_⟩
  · obtain ⟨q, copies⟩ := State.putCopies_eq
      (s.modFw fun w => { w with stage := .copying, staging := { s.fw.staging with state := .valid } }) { state := .partial_ }
    refine ⟨q, ?_⟩
    rw [apply_ite State.fw, apply_ite Fw.store, State.stageTell_store, ite_self, State.beginCopy, copies]
    rfl
  · split <;> simp [State.beginCopy]

/-- One that fails leaves the staging region INVALID and the stage FAILED. -/
theorem stageVerify_bundleFail {n : Nat} (hk : s.fw.kind = 2) (h : s.bundleFails s.fw.staging.bytes = some n) :
    Answers .stageVerifyDone s fun t => t.fw.store = { s.fw with
      staging := { s.fw.staging with state := .invalid }, stage := .failed, lastError := checkStatus n, rerun := false }.store ∧
      OnlyMalt s t := by
  refine .of_next ((if_pos ⟨ha, hs⟩).trans ((if_neg (by simp [hk])).trans (by rw [h]))) ⟨?_, by simp⟩
  rw [State.stageTell_store, State.stageFails_store]
  rfl

end

section
variable {ok : Bool} (ha : s.malt.alive = true) (hs : s.fw.stage = .copying) (ho : ∀ x, tunOwns s x = false)
include ha hs ho

theorem stageCopy_rejected {n : Nat} (h : s.bundleFails s.fw.staging.bytes = some n) :
    Answers (.stageCopyDone ok) s fun t => t.fw.store = { s.fw.copied ⟨.invalid, s.fw.staging.bytes⟩ with
      stage := .failed, lastError := checkStatus n, rerun := false }.store ∧ OnlyMalt s t := by
  refine .of_next ((if_pos ⟨ha, hs, by simp [allTuns, ho]⟩).trans (by dsimp only; rw [h])) ⟨?_, by simp⟩
  rw [State.stageTell_store, State.stageFails_store, State.putCopies_owned ho]
  rfl

variable (h : s.bundleFails s.fw.staging.bytes = none)
include h

/-- A write that fails, and so a device whose SFDP table fails, leaves the copies INVALID (08 R260, Table 08-9). -/
theorem stageCopy_unwritten (hw : ok = false ∨ ∃ x, (s.flash x).sfdp = false) :
    Answers (.stageCopyDone ok) s fun t => t.fw.store = { s.fw.copied ⟨.invalid, s.fw.staging.bytes⟩ with
      stage := .failed, lastError := 0x080E, rerun := false }.store ∧ OnlyMalt s t := by
  have failed : ¬ (ok && allTuns.all fun x => (s.flash x).sfdp) = true := by
    rcases hw with h | ⟨x, h⟩
    · simp [h]
    · cases x <;> simp [allTuns, h]
  refine .of_next ((if_pos ⟨ha, hs, by simp [allTuns, ho]⟩).trans (by dsimp only; rw [h]; exact if_neg failed)) ⟨?_, by simp⟩
  rw [State.stageTell_store, State.putCopies_owned ho]
  rfl

/-- Copies that are written are PENDING and the set is armed (08 Table 08-9). -/
theorem stageCopy_written (hok : ok = true) (hw : ∀ x, (s.flash x).sfdp = true) :
    Answers (.stageCopyDone ok) s fun t => t.fw.store = { s.fw.copied ⟨.pending, s.fw.staging.bytes⟩ with
      armedTun := true, rerun := false, stage := .armed }.store ∧ OnlyMalt s t := by
  have written : (ok && allTuns.all fun x => (s.flash x).sfdp) = true := by simp [hok, allTuns, hw]
  refine .of_next ((if_pos ⟨ha, hs, by simp [allTuns, ho]⟩).trans (by dsimp only; rw [h]; exact if_pos written)) ⟨?_, by simp⟩
  rw [State.arm_store, State.stageTell_store, State.putCopies_owned ho]
  rfl

end

/-! ### Activation -/

/-- The device of a Tun selects its PENDING bank (08 R280 step 2). -/
def TunFlash.selected (f : TunFlash) : TunFlash :=
  if (f.bank (!selectedBank f.hdr)).state = .pending then { f with hdr := writeHeader f.hdr (!selectedBank f.hdr) } else f

theorem State.selectTuns_armed (h : s.fw.armedTun = true) :
    s.selectTuns = s.modFw fun w => { w with flash := w.flash.map TunFlash.selected } := by
  have each : (fun (s : State) x => if ((s.flash x).bank (!selectedBank (s.flash x).hdr)).state = .pending then
      s.setFlash x { s.flash x with hdr := writeHeader (s.flash x).hdr (!selectedBank (s.flash x).hdr) } else s) =
      fun s x => s.setFlash x (s.flash x).selected := by
    funext s x
    rw [TunFlash.selected, apply_ite (s.setFlash x), State.setFlash_self]
  rw [← State.foldl_setFlash, ← each]
  exact if_neg (by simp [h])

/-- A PENDING bank becomes ACTIVE, and the previously active one VALID (08 R280 step 4). -/
def Bank.activated (k : Bank) : Bank :=
  { k with state := match k.state with | .pending => .active | .active => .valid | st => st }

def TunFlash.activated (f : TunFlash) : TunFlash := { f with a := f.a.activated, b := f.b.activated }

theorem TunFlash.bank_activated (f : TunFlash) (b : Bool) : f.activated.bank b = (f.bank b).activated := by cases b <;> rfl

/-- With a Tun set armed alone, activation ends the set and is logged (08 R280 steps 4, 5). -/
theorem State.finishActivation_tuns (ht : s.fw.armedTun = true) (hm : s.fw.armedMalt = false) :
    s.finishActivation = ({ s with fw := { s.fw with
      flash := s.fw.flash.map TunFlash.activated, stage := .idle, journal := false, armedMalt := false, armedTun := false,
      owner := .none_ } }).log 1 0x30 0x0083 [2] := by
  simp [State.finishActivation, ht, hm] <;> rfl

/-- The set is being activated, and the journal says so (08 R280 step 1). -/
def State.activating (s : State) : State := s.modFw fun w => { w with stage := .activating, journal := true }

/-- At an activation point an armed Tun set is selected, made ACTIVE and ended (08 R280). -/
theorem activation_tuns (ha : s.malt.alive = true) (ho : s.tray.mainClosed = false) (hoff : allOff s = true)
    (hj : s.fw.journal = false) (hs : s.fw.stage = .armed) (ht : s.fw.armedTun = true) (hm : s.fw.armedMalt = false) :
    Answers .activation s fun t => t.fw.store = { s.fw with
      flash := (s.fw.flash.map TunFlash.selected).map TunFlash.activated, stage := .idle, journal := false, armedMalt := false,
      armedTun := false, owner := .none_ }.store ∧ OnlyMalt s t ∧ Logged s t 0x0083 1 0x30 [2] := by
  have selects : s.activating.selectTuns = s.activating.modFw fun w => { w with flash := w.flash.map TunFlash.selected } :=
    State.selectTuns_armed ht
  have tuns : s.activating.selectTuns.fw.armedTun = true := by rw [selects]; exact ht
  have malt : s.activating.selectTuns.fw.armedMalt = false := by rw [selects]; exact hm
  have runs : exec .activation s = .next s.activating.selectTuns.finishActivation :=
    (if_pos ⟨ha, by simp [ho], hoff⟩).trans ((if_neg (by simp [hj])).trans ((if_pos ⟨.inl hs, by simp [Fw.armedAny, ht]⟩).trans
      (if_neg (ne_true_of_eq_false malt))))
  refine .of_next (runs.trans (congrArg Host.Outcome.next (State.finishActivation_tuns tuns malt))) ?_
  rw [selects]
  exact ⟨State.log_store .., (onlyMalt_log ..).mpr onlyMalt_self, State.logged_log rfl⟩

/-- A device whose other bank was PENDING runs it (08 R280). -/
theorem TunFlash.selected_activated {f : TunFlash} (h : (f.bank (!selectedBank f.hdr)).state = .pending)
    (h0 : f.hdr.d0.seq + 1 < 2 ^ 32) (h1 : f.hdr.d1.seq + 1 < 2 ^ 32) :
    (f.selected.activated.bank (!selectedBank f.hdr)).state = .active ∧
      selectedBank f.selected.activated.hdr = !selectedBank f.hdr := by
  have written : f.selected = { f with hdr := writeHeader f.hdr (!selectedBank f.hdr) } := if_pos h
  have pending : (f.selected.bank (!selectedBank f.hdr)).state = .pending := by rw [written]; exact h
  refine ⟨?_, ?_⟩
  · rw [TunFlash.bank_activated, Bank.activated, pending]
  · rw [written]; exact selectedBank_writeHeader _ _ h0 h1

/-! ### The statement -/

/-- Settles O27: each command leaves what the lemma of its operation says, image by image and verdict by verdict. -/
theorem firmwareCommandsComplete : Obligations.FirmwareCommandsComplete := by
  intro s
  refine ⟨fun ha hi hf => ?boot, fun ha hi hf => ?bootNoTable, fun x ha hr hf => ?header, fun x ha hr hf => ?headerNoTable,
    fun x hc hh hr => ⟨fun hf => ?load, fun ok hf => ?loadFails⟩,
    fun x ha hp hu => ⟨fun q h hr he hq => ?passes, fun hr hn => ?fails⟩, fun x ha hr ho hw => ?reflashed, fun ha hs => ?erased,
    fun ha hs hk => ?verifiedMalt, fun ha hs hk => ?verifiedBundle, fun ok ha hs ho => ?copied, fun ha hr hs => ?recovers,
    fun ha hc hoff hj hs ht hm hseq => ?activates⟩
  case boot =>
    obtain a | ⟨n, a⟩ := (s.maltFails (s.fw.maltBank (selectedBank s.fw.maltHdr)).bytes).eq_none_or_eq_some
    case inl =>
      obtain ⟨t, runs, selected⟩ := maltsterBoots_selected ha hi hf a
      exact .of_next runs ⟨fun _ => selected, fun h => absurd a h, fun h => absurd a h, fun h => absurd a h⟩
    have aFails := Option.ne_none_iff_exists'.mpr ⟨n, a⟩
    obtain b | ⟨k, b⟩ := (s.maltFails (s.fw.maltBank (!selectedBank s.fw.maltHdr)).bytes).eq_none_or_eq_some
    case inl =>
      obtain ⟨t, runs, ok, bank, store, only⟩ := maltsterBoots_other ha hi hf a b
      obtain ⟨invalid, active⟩ := s.fw.otherSelected_banks (selectedBank s.fw.maltHdr)
      have banks (k : Bool) := congrArg (fun w => (w.maltBank k).state) store
      exact .of_next runs ⟨fun h => absurd h aFails, fun _ _ => ⟨ok, bank.trans (bankCode_not _), (banks _).trans invalid,
        (banks _).trans active, only⟩, fun _ h => absurd b h, fun _ h => absurd b h⟩
    have bFails := Option.ne_none_iff_exists'.mpr ⟨k, b⟩
    obtain g | ⟨j, g⟩ := (s.maltFails s.fw.maltGolden.bytes).eq_none_or_eq_some
    case inl =>
      obtain ⟨t, runs, ok, bank, store, only⟩ := maltsterBoots_golden ha hi hf a b g
      obtain ⟨selected, other⟩ := s.fw.marked_both (selectedBank s.fw.maltHdr)
      have banks (k : Bool) := congrArg (fun w => (w.maltBank k).state) store
      exact .of_next runs ⟨fun h => absurd h aFails, fun _ h => absurd h bFails, fun _ _ _ => ⟨ok, bank, (banks _).trans selected,
        (banks _).trans other, only⟩, fun _ _ h => absurd g h⟩
    refine .of_next (exec_maltsterBootVerify_none ha hi hf a b g) ⟨fun h => absurd h aFails, fun _ h => absurd h bFails, ?_, ?_⟩
    · exact fun _ _ h => absurd h (Option.ne_none_iff_exists'.mpr ⟨j, g⟩)
    · exact fun _ _ _ => ⟨hi, rfl, onlyMalt_self⟩
  case bootNoTable => exact .of_next (exec_maltsterBootVerify_noTable ha hi hf) ⟨hi, rfl, rfl, onlyMalt_self⟩
  case header =>
    obtain c | ⟨n, c⟩ := (s.tunFails x true ((s.flash x).bank (selectedBank (s.flash x).hdr)).bytes).eq_none_or_eq_some
    · refine .of_next ((if_pos (by simp [ha, hr])).trans ((if_neg (by simp [hf])).trans (by rw [c]))) ?_
      exact ⟨fun _ => rfl, fun _ h => (nomatch c.symm.trans h)⟩
    · refine .of_next ((if_pos (by simp [ha, hr])).trans ((if_neg (by simp [hf])).trans (by rw [c]))) ?_
      refine ⟨fun h => (nomatch c.symm.trans h), fun m h => ?_⟩
      rw [State.mtun_startReflash, Option.some.inj (c.symm.trans h)]
      exact ⟨rfl, rfl, rfl, (onlyMalt_startReflash ..).mpr onlyMalt_self⟩
  case headerNoTable =>
    refine .of_next ((if_pos (by simp [ha, hr])).trans (if_pos hf)) ?_
    rw [State.mtun_startReflash]
    exact ⟨rfl, rfl, rfl, (onlyMalt_startReflash ..).mpr onlyMalt_self⟩
  case load =>
    obtain ⟨t, runs, svc⟩ := exec_tunBootLoad_reports hc hh hr true
    rw [hf] at svc
    refine ⟨t, runs, ?_, ?_, ?_, ?_⟩
    · rw [svc]; rfl
    · rw [svc]; exact bootCode_eq_one _
    · rw [svc]; rfl
    · simp [tunOwns, svc, Svc.booted, bootCode_ne_zero]
  case loadFails =>
    obtain ⟨t, runs, svc⟩ := exec_tunBootLoad_reports hc hh hr ok
    rw [hf] at svc
    refine ⟨t, runs, ?_, ?_⟩
    · rw [svc]; rfl
    · rw [svc]; rfl
  case passes =>
    refine .of_next ((if_pos ⟨ha, hp, hu⟩).trans ((if_neg (by simp [hr])).trans (if_pos hr))) ?_
    rw [State.finishOn_single he hq]
    exact ⟨State.reply_replied .., by simp, by simp⟩
  case fails =>
    obtain ⟨t, runs, record⟩ := exec_bootResultPoll_fails ha hp hu hr hn
    refine .of_next runs ?_
    rw [record, State.mtun_powerDown]
    exact ⟨rfl, rfl, rfl, rfl, rfl⟩
  case reflashed =>
    obtain ⟨t, runs, device, record, only, logged⟩ := goldenReflash_ends ha hr ho hw
    refine .of_next runs ?_
    rw [device, record]
    exact ⟨TunFlash.bank_setBank .., rfl, rfl, rfl, rfl, only, logged⟩
  case erased =>
    refine .of_next ((if_pos ⟨ha, hs⟩).trans (apply_ite Host.Outcome.next ..).symm) ⟨?_, ?_⟩
    · split
      · rfl
      · exact congrArg Fw.stage (State.stageReply_store ..)
    · split <;> simp
  case verifiedMalt =>
    obtain c | ⟨n, c⟩ := (s.maltFails (s.fw.maltBank s.stageBank).bytes).eq_none_or_eq_some
    · obtain ⟨t, runs, store, only⟩ := stageVerify_maltPass ha hs hk c
      have bank := congrArg (fun w => (w.maltBank s.stageBank).state) store
      exact .of_next runs ⟨fun _ => ⟨congrArg Fw.stage store, congrArg Fw.armedMalt store,
        bank.trans (congrArg Bank.state (s.fw.maltBank_setMaltBank ..)), only⟩, fun _ h => (nomatch c.symm.trans h)⟩
    · obtain ⟨t, runs, store, only⟩ := stageVerify_maltFail ha hs hk c
      have bank := congrArg (fun w => (w.maltBank s.stageBank).state) store
      refine .of_next runs ⟨fun h => (nomatch c.symm.trans h), fun m h => ?_⟩
      rw [← Option.some.inj (c.symm.trans h)]
      exact ⟨congrArg Fw.stage store, congrArg Fw.lastError store, bank.trans (congrArg Bank.state (s.fw.marked_bank ..)),
        (congrArg Fw.armedMalt store).trans (s.fw.setMaltBank_armedMalt ..), only⟩
  case verifiedBundle =>
    obtain c | ⟨n, c⟩ := (s.bundleFails s.fw.staging.bytes).eq_none_or_eq_some
    · obtain ⟨t, runs, ⟨q, store⟩, only⟩ := stageVerify_bundlePass ha hs hk c
      exact .of_next runs ⟨fun _ => ⟨congrArg Fw.stage store, congrArg Fw.staging store, only⟩, fun _ h => (nomatch c.symm.trans h)⟩
    · obtain ⟨t, runs, store, only⟩ := stageVerify_bundleFail ha hs hk c
      have flash := congrArg Fw.flash store
      refine .of_next runs ⟨fun h => (nomatch c.symm.trans h), fun m h => ?_⟩
      rw [← Option.some.inj (c.symm.trans h)]
      exact ⟨congrArg Fw.stage store, congrArg Fw.lastError store, congrArg Fw.staging store, flash, only⟩
  case copied =>
    obtain c | ⟨n, c⟩ := (s.bundleFails s.fw.staging.bytes).eq_none_or_eq_some
    · by_cases bad : ok = false ∨ ∃ x, (s.flash x).sfdp = false
      · obtain ⟨t, runs, store, only⟩ := stageCopy_unwritten ha hs ho c bad
        have armed := congrArg Fw.armedTun store
        have flash := congrArg Fw.flash store
        refine .of_next runs ⟨fun _ h => (nomatch c.symm.trans h), fun _ _ => ⟨congrArg Fw.stage store, congrArg Fw.lastError store,
          armed, fun x => congrArg Bank.state (bank_of_copied flash x)⟩, fun _ hok hw => ?_, only⟩
        simp [hok, hw] at bad
      · have hok : ok = true := by simpa using mt Or.inl bad
        have hw (x : TunId) : (s.flash x).sfdp = true := by simpa using fun h => bad (.inr ⟨x, h⟩)
        obtain ⟨t, runs, store, only⟩ := stageCopy_written ha hs ho c hok hw
        have flash := congrArg Fw.flash store
        exact .of_next runs ⟨fun _ h => (nomatch c.symm.trans h), fun _ h => absurd h bad, fun _ _ _ => ⟨congrArg Fw.stage store,
          congrArg Fw.armedTun store, bank_of_copied flash⟩, only⟩
    · obtain ⟨t, runs, store, only⟩ := stageCopy_rejected (ok := ok) ha hs ho c
      have armed := congrArg Fw.armedTun store
      have flash := congrArg Fw.flash store
      refine .of_next runs ⟨fun m h => ?_, fun h => (nomatch c.symm.trans h), fun h => (nomatch c.symm.trans h), only⟩
      rw [← Option.some.inj (c.symm.trans h)]
      exact ⟨congrArg Fw.stage store, congrArg Fw.lastError store, armed, fun x => congrArg Bank.state (bank_of_copied flash x)⟩
  case recovers =>
    refine .of_next ((if_pos ⟨ha, hr⟩).trans (by rw [State.modFw_fw]; dsimp only; rw [hs])) ?_
    exact ⟨rfl, rfl, rfl, rfl, onlyMalt_self⟩
  case activates =>
    obtain ⟨t, runs, store, only, logged⟩ := activation_tuns ha hc hoff hj hs ht hm
    refine .of_next runs ⟨congrArg Fw.stage store, congrArg Fw.armedTun store, congrArg Fw.journal store, only, logged, fun x pending => ?_⟩
    obtain ⟨h0, h1⟩ := hseq x
    have device : t.flash x = (s.flash x).selected.activated := (congrArg (fun w : Fw => w.flash.get x) store).trans
      ((Quad.get_map ..).trans (congrArg TunFlash.activated (Quad.get_map ..)))
    rw [device]
    exact TunFlash.selected_activated pending h0 h1

end Sys2Proof.Machine
end

section
/-! SUPPORT. Staging over native frames and over PLDM: an opcode that is answered at once or starts an operation, a request over PLDM that is
answered, and the stage it drives (08 R273-R278, R284). -/

namespace Sys2Proof.Machine
open Sys2Proof

variable {s t : State}

/-! ### An opcode as a command -/

section
variable {src : Src} {q : Req} (ha : s.malt.alive = true) (hok : s.requestRefusal q = none)
include ha hok

/-- A request that is accepted and answered at once has run when its source has the reply (06 R187, R208). -/
theorem State.runOpcode_answered {st : Half} {d : List Byte} (hr : s.runOp src q = (some (st, d), t)) (h6 : q.op ≠ 6) :
    s.runOpcode src q.seq q.op q.obj q.payload = .next (t.reply src q st d) := by
  have won : s.runWinner q [⟨src, q, s.now⟩] = t.reply src q st d := State.runWinner_answered hr h6
  have now : s.runNow src q = t.reply src q st d := by rw [State.runNow, hr]
  simp [State.runOpcode, ha, hok, won, now]

/-- One that starts an operation executes until that ends (06 R208). -/
theorem State.runOpcode_starts (hr : s.runOp src q = (none, t)) (hw : windowed q.op = true) :
    ∃ e, s.runOpcode src q.seq q.op q.obj q.payload = .next (t.modMalt fun m => { m with executing := e }) := by
  have won : s.runWinner q [⟨src, q, s.now⟩] =
      t.modMalt fun m => { m with executing := t.malt.executing ++ [⟨winObj q, q, [⟨src, q, s.now⟩]⟩] } := by
    rw [State.runWinner]
    simp only [hr]
  exact ⟨t.malt.executing ++ [⟨winObj q, q, [⟨src, q, s.now⟩]⟩], by simp [State.runOpcode, ha, hok, hw, won]⟩

end

/-! ### The staging opcodes -/

section
variable (seq kind : Byte) (off len : Word) (data : List Byte)

theorem leAt_stageBegin : leAt (kind :: bytesLE 4 len.toNat) 1 4 = len.toNat := by
  simpa using leAt_bytesLE len.isLt [kind] []

theorem leAt_stageData : leAt (bytesLE 4 off.toNat ++ data) 0 4 = off.toNat := leAt_bytesLE off.isLt [] data

theorem State.requestRefusal_stageBegin {kind : Byte} {len : Word} (hk : kind = 1 ∨ kind = 2) (h0 : 0x200 ≤ len.toNat)
    (h1 : len.toNat ≤ maxImage kind.toNat) : s.requestRefusal ⟨seq, 0x50, 0x30, [kind] ++ bytesLE 4 len.toNat⟩ = none := by
  have known : kind.toNat = 1 ∨ kind.toNat = 2 := by rcases hk with rfl | rfl <;> simp
  simp [State.requestRefusal, objectOk, State.payloadOk, byteAt, leAt_stageBegin, known, h0, h1]

theorem State.requestRefusal_stageData {data : List Byte} (h0 : 0 < data.length) (h1 : data.length ≤ 236) :
    s.requestRefusal ⟨seq, 0x51, 0x30, bytesLE 4 off.toNat ++ data⟩ = none := by
  simp [State.requestRefusal, objectOk, State.payloadOk]
  omega

theorem State.requestRefusal_stageCommit : s.requestRefusal ⟨seq, 0x52, 0x30, [kind]⟩ = none := rfl

theorem State.requestRefusal_stageAbort : s.requestRefusal ⟨seq, 0x53, 0x30, []⟩ = none := rfl

/-- A stage command that is accepted owes its reply when its operation ends (06 Table 06-7, 08 R274). -/
def State.owing (s : State) : State := s.modFw fun w => { w with replyDue := true }

theorem State.runOp_stageBegin {src : Src} (h : s.stageBegin (ownerOf src) kind.toNat len.toNat = (stOk, t)) :
    s.runOp src ⟨seq, 0x50, 0x30, [kind] ++ bytesLE 4 len.toNat⟩ = (none, t.owing) := by
  simp [State.runOp, byteAt, leAt_stageBegin, h, State.owing, State.modFw, stOk]

theorem State.runOp_stageData {src : Src} {st : Half} (h : s.stageData (ownerOf src) off.toNat data = (st, t)) :
    s.runOp src ⟨seq, 0x51, 0x30, bytesLE 4 off.toNat ++ data⟩ = (some (st, []), t) := by
  have rest : (bytesLE 4 off.toNat ++ data).drop 4 = data := List.drop_left' (bytesLE_length ..)
  simp [State.runOp, leAt_stageData, rest, h]

theorem State.runOp_stageCommit {src : Src} (h : s.stageCommit (ownerOf src) kind.toNat = (stOk, t)) :
    s.runOp src ⟨seq, 0x52, 0x30, [kind]⟩ = (none, t.owing) := by
  simp [State.runOp, byteAt, h, State.owing, State.modFw, stOk]

theorem State.runOp_stageAbort {src : Src} {st : Half} (h : s.stageAbort (ownerOf src) = (st, t)) :
    s.runOp src ⟨seq, 0x53, 0x30, []⟩ = (some (st, []), t) := by
  simp [State.runOp, h]

end

/-! ### A request over PLDM -/

/-- A bus that is served, with an EID and an MCTP request free, has its request answered (06 R198, R200). -/
theorem State.pldmAsk_answered {b : Bus} (hs : s.busServes b = true) (he : (s.bus b).eid ≠ 0) (hq : s.malt.mctpBusy.length < 8)
    (type cmd : Byte) (act : State → State × Byte × List Byte) :
    s.pldmAsk b type cmd act = .next ((act s).1.emitMalt (.pldm b type cmd (act s).2.1 (act s).2.2)) := by
  have asked : (s.busServes b && (s.bus b).eid != 0) = true := by rw [hs, Bool.true_and]; exact bne_iff_ne.mpr he
  exact (if_pos asked).trans (if_neg (by omega))

/-! ### The stage -/

theorem Fw.inProgress_idle {w : Fw} (h : w.stage = .idle) : w.inProgress = false := by rw [Fw.inProgress, h]; rfl
theorem Fw.inProgress_armed {w : Fw} (h : w.stage = .armed) : w.inProgress = false := by rw [Fw.inProgress, h]; rfl

/-- What a stage that has begun holds (08 Table 08-9). -/
def Fw.Begun (w : Fw) (o : Owner) (kind len : Nat) : Prop :=
  w.stage = .erasing ∧ w.owner = o ∧ w.kind = kind ∧ w.length = len ∧ w.progress = 0

/-- A stage begins from IDLE with an image of a kind and a length that its banks hold (08 R273, R274). -/
theorem State.stageBegin_idle (hs : s.fw.stage = .idle) {kind len : Nat} (hk : kind = 1 ∨ kind = 2) (h0 : 0x200 ≤ len)
    (h1 : len ≤ maxImage kind) (o : Owner) :
    ∃ t, s.stageBegin o kind len = (stOk, t) ∧ t.fw.Begun o kind len ∧ OnlyMalt s t := by
  have allowed : ¬ ((kind ≠ 1 ∧ kind ≠ 2) ∨ len < 0x200 ∨ maxImage kind < len) := by omega
  refine ⟨_, (if_neg allowed).trans ((if_neg (by simp [Fw.inProgress_idle hs])).trans (if_neg (by simp [hs]))), ⟨rfl, rfl, rfl, rfl, rfl⟩, ?_⟩
  unfold State.beginStage
  dsimp only
  split <;> simp [State.unpendMalt, State.unpendTuns]

/-- The bytes of a Tun bundle join those in the staging region (08 R275). -/
theorem State.program_bundle (hk : s.fw.kind = 2) (data : List Byte) : s.program data = s.modFw fun w => { w with
    staging := { w.staging with bytes := w.staging.bytes ++ data }, progress := w.progress + data.length } := by
  simp [State.program, State.modFw, hk]

/-- Data where the next is due is programmed (08 R275). -/
theorem State.stageData_next {o : Owner} {off : Nat} {data : List Byte} (hs : s.fw.stage = .receiving) (ho : s.fw.owner = o)
    (hp : off = s.fw.progress) (hl : off + data.length ≤ s.fw.length) : s.stageData o off data = (stOk, s.program data) :=
  (if_neg (by simp [ho])).trans (if_pos ⟨hs, ho, hp, hl⟩)

/-- Data for a stage that is not there is refused (08 R274). -/
theorem State.stageData_idle (hs : s.fw.stage = .idle) (o : Owner) (off : Nat) (data : List Byte) :
    s.stageData o off data = (stStageSequence, s) :=
  (if_neg (by simp [Fw.inProgress_idle hs])).trans (if_neg (by simp [hs]))

/-- A complete image is verified (08 R276). -/
theorem State.stageCommit_complete {o : Owner} {kind : Nat} (hs : s.fw.stage = .receiving) (ho : s.fw.owner = o) (hk : s.fw.kind = kind)
    (hp : s.fw.progress = s.fw.length) : s.stageCommit o kind = (stOk, s.modFw fun w => { w with stage := .verifying }) :=
  (if_neg (by simp [ho])).trans (if_pos ⟨hs, ho, hk.symm, hp⟩)

/-- A PENDING bank is VALID once its set is aborted (08 Table 08-9). -/
def Bank.unpended (k : Bank) : Bank := if k.state = .pending then { k with state := .valid } else k

theorem Bank.unpended_pending {k : Bank} (h : k.state = .pending) : k.unpended.state = .valid := by rw [Bank.unpended, if_pos h]

/-- The store after an abort: no stage, no set armed, no bank PENDING (08 Table 08-9). -/
def Fw.aborted (w : Fw) : Fw := { w with
  flash := w.flash.map fun f => { f with a := f.a.unpended, b := f.b.unpended }, maltA := w.maltA.unpended, maltB := w.maltB.unpended,
  stage := .idle, owner := .none_, armedMalt := false, armedTun := false, request := none, rerun := false }

theorem Fw.aborted_bank (w : Fw) (x : TunId) (b : Bool) : (w.aborted.flash.get x).bank b = ((w.flash.get x).bank b).unpended := by
  cases b <;> exact congrArg (TunFlash.bank · _) (Quad.get_map ..)

/-- An abort by the owner, or with nothing in progress, owes no reply but its own (08 Table 08-9). -/
theorem State.stageAbort_done {o : Owner} (ha : s.fw.stage ≠ .activating) (ho : s.fw.inProgress = false ∨ s.fw.owner = o)
    (hr : s.fw.replyDue = false) : s.stageAbort o = (stOk, s.modFw Fw.aborted) := by
  refine (if_neg ha).trans ((if_neg (by rcases ho with h | h <;> simp [h])).trans ?_)
  simp only [State.stageReply, hr]
  rfl

/-- The last chunk ends the transfer, and the image is verified (08 R277). -/
theorem firmwareData_last {off n : Nat} {data : List Byte} (ha : s.malt.alive = true) (hr : s.fw.request = some (off, n))
    (hs : s.fw.stage = .receiving) (ho : s.fw.owner = .pldm) (hn : data.length = n) (hk : s.fw.kind = 2)
    (hp : s.fw.progress + n = s.fw.length) : exec (.firmwareDataReceive data) s = .next ((s.modFw fun w => { w with
      staging := { w.staging with bytes := w.staging.bytes ++ data }, progress := w.progress + data.length, request := none,
      stage := .verifying }).emitMalt (.fwComplete 0x16 0)) := by
  have full : s.fw.progress + data.length = s.fw.length := by omega
  change execFirmwareDataReceive data s = _
  rw [execFirmwareDataReceive, hr]
  dsimp only
  rw [if_pos ⟨ha, hs, ho, hn⟩, State.program_bundle hk]
  exact if_pos full

/-! ### The statement -/

/-- Settles O28: each opcode runs as its request is accepted and each PLDM request as it is answered, and the stage moves as the lemmas of
its operations say. -/
theorem stagingCommandsComplete : Obligations.StagingCommandsComplete := by
  intro s src seq b ha
  refine ⟨fun kind len hk h0 h1 hs => ?begins, fun off data h0 h1 hs ho hk hp hl => ?programs, fun off data h0 h1 hs => ?outOfSequence,
    fun kind hs ho hk hp => ?commits, fun hs hr => ?aborts, fun hb he hq => ?pldm, fun off n data hr hs ho hn hk hp => ?lastChunk,
    fun off n hr ht => ?retries, fun off n hr ht => ?givesUp⟩
  case begins =>
    have known : kind.toNat = 1 ∨ kind.toNat = 2 := by rcases hk with rfl | rfl <;> simp
    obtain ⟨t, begun, ⟨stage, owner, knd, length, progress⟩, only⟩ := State.stageBegin_idle hs known h0 h1 (ownerOf src)
    obtain ⟨_, runs⟩ := State.runOpcode_starts (q := ⟨seq, 0x50, 0x30, [kind] ++ bytesLE 4 len.toNat⟩) ha
      (State.requestRefusal_stageBegin seq hk h0 h1) (State.runOp_stageBegin seq kind len begun) rfl
    exact .of_next runs ⟨stage, owner, knd, length, progress, rfl, only⟩
  case programs =>
    have runs := State.runOpcode_answered (q := ⟨seq, 0x51, 0x30, bytesLE 4 off.toNat ++ data⟩) ha
      (State.requestRefusal_stageData seq off h0 h1) (State.runOp_stageData seq off data (State.stageData_next hs ho hp hl)) (by simp)
    rw [State.program_bundle hk] at runs
    refine .of_next runs ⟨State.reply_replied .., ?_, ?_, ?_, ?_⟩ <;> simp [hs]
  case outOfSequence =>
    refine .of_next (State.runOpcode_answered (q := ⟨seq, 0x51, 0x30, bytesLE 4 off.toNat ++ data⟩) ha
      (State.requestRefusal_stageData seq off h0 h1) (State.runOp_stageData seq off data (State.stageData_idle hs _ _ _)) (by simp)) ?_
    exact ⟨State.reply_replied .., State.reply_fw .., (onlyMalt_reply ..).mpr onlyMalt_self⟩
  case commits =>
    obtain ⟨_, runs⟩ := State.runOpcode_starts (q := ⟨seq, 0x52, 0x30, [kind]⟩) ha (State.requestRefusal_stageCommit seq kind)
      (State.runOp_stageCommit seq kind (State.stageCommit_complete hs ho hk hp)) rfl
    exact .of_next runs ⟨rfl, onlyMalt_self⟩
  case aborts =>
    have done := State.stageAbort_done (o := ownerOf src) (by simp [hs]) (.inl (Fw.inProgress_armed hs)) hr
    refine .of_next (State.runOpcode_answered (q := ⟨seq, 0x53, 0x30, []⟩) ha (State.requestRefusal_stageAbort seq)
      (State.runOp_stageAbort seq done) (by simp)) ?_
    rw [onlyMalt_reply, State.reply_fw]
    refine ⟨State.reply_replied .., rfl, rfl, rfl, onlyMalt_self, fun x k pending => ?_⟩
    rw [State.flash, State.reply_fw]
    exact (congrArg Bank.state (s.fw.aborted_bank x k)).trans (Bank.unpended_pending pending)
  case pldm =>
    have answered := State.pldmAsk_answered hb he hq
    refine ⟨?identifiers, ?parameters, fun n hu hs => ?request, fun n hu => ?requestAgain, fun hu => ?table,
      fun comp size hk h0 h1 hu hs => ?update, ?activate, ?selfContained, ?status, fun ho => ?cancelComponent, fun ho hs hr => ?cancel⟩
    case identifiers => exact answered 5 0x01 fun s => (s, 0, bytesLE 4 8 ++ [1, 1, 0, 4, 0] ++ bytesLE 4 Config.ianaNumber.toNat)
    case parameters => exact answered 5 0x02 fun s => (s.emitMalt (.fwParameters b s.fwComponents), 0, [])
    case request =>
      change execRequestUpdate b n s = _
      rw [execRequestUpdate, answered, if_neg (by simp [hu, Fw.inProgress_idle hs])]
    case requestAgain =>
      change execRequestUpdate b n s = _
      rw [execRequestUpdate, answered, if_pos (.inl hu)]
    case table =>
      change execPassComponentTable b s = _
      rw [execPassComponentTable, answered, if_pos hu]
    case update =>
      obtain ⟨t, begun, ⟨stage, owner, knd, length, progress⟩, only⟩ := State.stageBegin_idle hs hk h0 h1 .pldm
      have runs : exec (.updateComponent b comp size) s = .next (t.emitMalt (.pldm b 5 0x14 0 [])) := by
        change execUpdateComponent b comp size s = _
        rw [execUpdateComponent, answered, if_neg (by simp [hu]), begun]
        rfl
      exact .of_next runs ⟨stage, owner, knd, length, progress, by simp, only⟩
    case activate =>
      change execActivateFirmware b false s = _
      rw [execActivateFirmware, answered, if_neg (by simp)]
    case selfContained =>
      change execActivateFirmware b true s = _
      rw [execActivateFirmware, answered, if_pos rfl]
    case status => exact answered 5 0x1B fun s => (s, 0, [s.fw.stage.code.setWidth 8])
    case cancelComponent =>
      change execCancelUpdateComponent b s = _
      rw [execCancelUpdateComponent, answered, if_pos ho]
    case cancel =>
      have done := State.stageAbort_done (s := s) (o := .pldm) (by simp [hs]) (.inr ho) hr
      have runs : exec (.cancelUpdate b) s =
          .next (((s.modFw Fw.aborted).modFw fun w => { w with updateMode := false }).emitMalt (.pldm b 5 0x1D 0 [])) := by
        change execCancelUpdate b s = _
        rw [execCancelUpdate, answered, done]
        rfl
      exact .of_next runs ⟨rfl, rfl, rfl, rfl, rfl, onlyMalt_self⟩
  case lastChunk =>
    exact .of_next (firmwareData_last ha hr hs ho hn hk hp) ⟨rfl, rfl, rfl, rfl, onlyMalt_self⟩
  case retries =>
    change execFirmwareDataRetry s = _
    rw [execFirmwareDataRetry, hr]
    exact (if_neg (by simp [ha])).trans (if_pos ht)
  case givesUp =>
    change execFirmwareDataRetry s = _
    rw [execFirmwareDataRetry, hr]
    exact (if_neg (by simp [ha])).trans (if_neg (by omega))

end Sys2Proof.Machine
end

section
/-! SUPPORT. Every command leaves the queue and the clock to the step. `s.SameTime t` compares with any state `s`, so that `simp` can peel the
outermost operation off; the lemmas stand in the order of the chapters, each after those of the operations it calls. -/

namespace Sys2Proof.Machine
open Sys2Proof

variable {s t : State} {x : TunId}

/-- The queue of waiting commands and the clock of `t` are those of `s`. -/
def State.SameTime (s t : State) : Prop := t.pending = s.pending ∧ t.now = s.now

/-! ### One part of the tray written -/

@[simp] theorem State.sameTime_self : s.SameTime s := ⟨rfl, rfl⟩

/-- What keeps queue and clock compares with any state as its argument does. -/
theorem State.sameTime_congr {v : State} (h : t.SameTime v) : s.SameTime v ↔ s.SameTime t := by
  simp [State.SameTime, h.1, h.2]

@[simp ↓] theorem State.sameTime_ite (c : Prop) [Decidable c] (a b : State) :
    s.SameTime (if c then a else b) ↔ if c then s.SameTime a else s.SameTime b := by split <;> rfl

/-- A fold keeps what each of its steps keeps. -/
@[simp ↓] theorem State.sameTime_foldl {α : Type} {f : State → α → State} (l : List α) (h : ∀ (t : State) (a : α), t.SameTime (f t a)) :
    s.SameTime (l.foldl f t) ↔ s.SameTime t := by
  induction l generalizing t with
  | nil => rfl
  | cons a l ih => exact ih.trans (State.sameTime_congr (h t a))

@[simp ↓] theorem State.sameTime_with (tuns : Quad Tun) (tray : Tray) (bays : List Bay) (malt : Malt) (fw : Fw) (fresh : Nat) :
    s.SameTime { t with tuns := tuns, tray := tray, bays := bays, malt := malt, fw := fw, fresh := fresh } ↔ s.SameTime t := Iff.rfl
@[simp ↓] theorem State.sameTime_setTun (u : Tun) : s.SameTime (t.setTun x u) ↔ s.SameTime t := Iff.rfl
@[simp ↓] theorem State.sameTime_modTun (f : Tun → Tun) : s.SameTime (t.modTun x f) ↔ s.SameTime t := Iff.rfl
@[simp ↓] theorem State.sameTime_modAllTuns (f : Tun → Tun) : s.SameTime (t.modAllTuns f) ↔ s.SameTime t := Iff.rfl
@[simp ↓] theorem State.sameTime_modTray (f : Tray → Tray) : s.SameTime (t.modTray f) ↔ s.SameTime t := Iff.rfl
@[simp ↓] theorem State.sameTime_modMalt (f : Malt → Malt) : s.SameTime (t.modMalt f) ↔ s.SameTime t := Iff.rfl
@[simp ↓] theorem State.sameTime_modFw (f : Fw → Fw) : s.SameTime (t.modFw f) ↔ s.SameTime t := Iff.rfl
@[simp ↓] theorem State.sameTime_modMTun (f : MTun → MTun) : s.SameTime (t.modMTun x f) ↔ s.SameTime t := Iff.rfl
@[simp ↓] theorem State.sameTime_modBay (n : Nat) (f : Bay → Bay) : s.SameTime (t.modBay n f) ↔ s.SameTime t := Iff.rfl
@[simp ↓] theorem State.sameTime_modBus (b : Bus) (f : SbBus → SbBus) : s.SameTime (t.modBus b f) ↔ s.SameTime t := Iff.rfl
@[simp ↓] theorem State.sameTime_modRaw (p : RawPath) (f : RawState → RawState) : s.SameTime (t.modRaw p f) ↔ s.SameTime t := Iff.rfl
@[simp ↓] theorem State.sameTime_emitMalt (e : MaltEmit) : s.SameTime (t.emitMalt e) ↔ s.SameTime t := Iff.rfl
@[simp ↓] theorem State.sameTime_emitMctp (b : Bus) (tag : BitVec 3) (frame : List Byte) :
    s.SameTime (t.emitMctp b tag frame) ↔ s.SameTime t := Iff.rfl
@[simp ↓] theorem State.sameTime_setFlash (f : TunFlash) : s.SameTime (t.setFlash x f) ↔ s.SameTime t := Iff.rfl
@[simp ↓] theorem State.sameTime_ackAlert : s.SameTime t.ackAlert ↔ s.SameTime t := Iff.rfl

/-! ### Alerts, the log and replies -/

@[simp ↓] theorem State.sameTime_ibiNow (b : Bus) : s.SameTime (t.ibiNow b) ↔ s.SameTime t := by simp [State.ibiNow]
@[simp ↓] theorem State.sameTime_raise (n : Nat) : s.SameTime (t.raise n) ↔ s.SameTime t := by simp [State.SameTime]
@[simp ↓] theorem State.sameTime_log (sev src ev : Nat) (d : List Byte) : s.SameTime (t.log sev src ev d) ↔ s.SameTime t := by
  simp [State.SameTime]
@[simp ↓] theorem State.sameTime_reply (src : Src) (q : Req) (st : Half) (d : List Byte) :
    s.SameTime (t.reply src q st d) ↔ s.SameTime t := by simp [State.SameTime]
@[simp ↓] theorem State.sameTime_finishWhere (p : Executing → Bool) (st : Half) (d : List Byte) :
    s.SameTime (t.finishWhere p st d) ↔ s.SameTime t := by simp [State.finishWhere]
@[simp ↓] theorem State.sameTime_finishObj (o : WinObj) (st : Half) (d : List Byte) : s.SameTime (t.finishObj o st d) ↔ s.SameTime t :=
  State.sameTime_finishWhere ..
@[simp ↓] theorem State.sameTime_finish (o : Byte) (st : Half) (d : List Byte) : s.SameTime (t.finish o st d) ↔ s.SameTime t :=
  State.sameTime_finishObj ..

/-! ### Power -/

@[simp ↓] theorem State.sameTime_setPower (p : BitVec 3) : s.SameTime (t.setPower x p) ↔ s.SameTime t := by simp [State.SameTime]
@[simp ↓] theorem State.sameTime_openMain : s.SameTime t.openMain ↔ s.SameTime t := Iff.rfl
@[simp ↓] theorem State.sameTime_openIfDone : s.SameTime t.openIfDone ↔ s.SameTime t := by simp [State.openIfDone]
@[simp ↓] theorem State.sameTime_refusePower (st : Half) : s.SameTime (t.refusePower x st) ↔ s.SameTime t := by simp [State.refusePower]
@[simp ↓] theorem State.sameTime_startUp : s.SameTime (t.startUp x) ↔ s.SameTime t := by simp [State.startUp]
@[simp ↓] theorem State.sameTime_acceptOn : s.SameTime (t.acceptOn x) ↔ s.SameTime t := by simp [State.acceptOn]
@[simp ↓] theorem State.sameTime_powerDown (cause : Byte) (record : Bool) : s.SameTime (t.powerDown x cause record) ↔ s.SameTime t := by
  simp [State.powerDown]
@[simp ↓] theorem State.sameTime_finishOn (st : Half) : s.SameTime (t.finishOn x st) ↔ s.SameTime t := State.sameTime_finishWhere ..
@[simp ↓] theorem State.sameTime_finishTun (st : Half) : s.SameTime (t.finishTun x st) ↔ s.SameTime t := State.sameTime_finish ..
@[simp ↓] theorem State.sameTime_abandonOn : s.SameTime (t.abandonOn x) ↔ s.SameTime t := by simp [State.abandonOn]
@[simp ↓] theorem State.sameTime_downWithAll (cause : Byte) (record : Bool) : s.SameTime (t.downWithAll cause record x) ↔ s.SameTime t := by
  unfold State.downWithAll
  dsimp only
  split <;> simp
@[simp ↓] theorem State.sameTime_powerDownAll (cause : Byte) (record : Bool) : s.SameTime (t.powerDownAll cause record) ↔ s.SameTime t := by
  simp [State.powerDownAll]
@[simp ↓] theorem State.sameTime_reflashWrites : s.SameTime (t.reflashWrites x) ↔ s.SameTime t := by simp [State.reflashWrites]
@[simp ↓] theorem State.sameTime_startReflash (st : Half) : s.SameTime (t.startReflash x st) ↔ s.SameTime t := by simp [State.startReflash]
@[simp ↓] theorem State.sameTime_dropPower (cause : Byte) : s.SameTime (t.dropPower x cause) ↔ s.SameTime t := by simp [State.dropPower]
@[simp ↓] theorem State.sameTime_cutPower : s.SameTime t.cutPower ↔ s.SameTime t := by simp [State.cutPower]
@[simp ↓] theorem State.sameTime_railFault (k : Nat) (st : Half) (phase : Byte) : s.SameTime (t.railFault x k st phase) ↔ s.SameTime t := by
  simp [State.railFault]
@[simp ↓] theorem State.sameTime_resumeOn : s.SameTime (t.resumeOn x) ↔ s.SameTime t := by
  unfold State.resumeOn
  dsimp only
  split
  · split <;> simp
  · rfl
@[simp ↓] theorem State.sameTime_reachOff : s.SameTime (t.reachOff x) ↔ s.SameTime t := by simp [State.reachOff]
@[simp ↓] theorem State.sameTime_pwrEnLow : s.SameTime t.pwrEnLow ↔ s.SameTime t := by simp [State.pwrEnLow]
@[simp ↓] theorem State.sameTime_actPwrEn (level : Bool) : s.SameTime (t.actPwrEn level) ↔ s.SameTime t := by simp [State.actPwrEn]
@[simp ↓] theorem State.sameTime_closeMain : s.SameTime t.closeMain ↔ s.SameTime t := Iff.rfl
@[simp ↓] theorem State.sameTime_releaseCold (cause : BitVec 4) (inc : Byte) : s.SameTime (t.releaseCold x cause inc) ↔ s.SameTime t := Iff.rfl
@[simp ↓] theorem State.sameTime_reportTrip : s.SameTime (t.reportTrip x) ↔ s.SameTime t := by simp [State.reportTrip]

/-! ### The watch and the bays -/

@[simp ↓] theorem State.sameTime_leak : s.SameTime t.leak ↔ s.SameTime t := by simp [State.leak]
@[simp ↓] theorem State.sameTime_restartMalt : s.SameTime t.restartMalt ↔ s.SameTime t := by simp [State.restartMalt]
@[simp ↓] theorem State.sameTime_reevalTun (errLow : Bool) : s.SameTime (t.reevalTun errLow x) ↔ s.SameTime t := by simp [State.reevalTun]
@[simp ↓] theorem State.sameTime_reevalTuns (f : Quad Bool) : s.SameTime (t.reevalTuns f) ↔ s.SameTime t := by simp [State.reevalTuns]

section
variable (n : Nat)
@[simp ↓] theorem State.sameTime_fenceBay : s.SameTime (t.fenceBay n) ↔ s.SameTime t := by simp [State.fenceBay]
@[simp ↓] theorem State.sameTime_trainBay : s.SameTime (t.trainBay n) ↔ s.SameTime t := by simp [State.trainBay]
@[simp ↓] theorem State.sameTime_bringUpBay : s.SameTime (t.bringUpBay n) ↔ s.SameTime t := by simp [State.bringUpBay]
@[simp ↓] theorem State.sameTime_readRom (rom : List Byte) : s.SameTime (t.readRom n rom) ↔ s.SameTime t := by simp [State.readRom]
@[simp ↓] theorem State.sameTime_romFailed : s.SameTime (t.romFailed n) ↔ s.SameTime t := by simp [State.romFailed]
@[simp ↓] theorem State.sameTime_unlatchBay : s.SameTime (t.unlatchBay n) ↔ s.SameTime t := by simp [State.unlatchBay]
@[simp ↓] theorem State.sameTime_bayDark : s.SameTime (t.bayDark n) ↔ s.SameTime t := by simp [State.bayDark]
@[simp ↓] theorem State.sameTime_reevalBay (f : BayFound) : s.SameTime (t.reevalBay n f) ↔ s.SameTime t := by
  unfold State.reevalBay
  dsimp only
  repeat' split
  all_goals simp
end

@[simp ↓] theorem State.sameTime_reevalBays (n : Nat) (fs : List BayFound) : s.SameTime (reevalBays n fs t) ↔ s.SameTime t := by
  induction fs generalizing n t with
  | nil => rfl
  | cons f fs ih => simp [reevalBays, ih]

@[simp ↓] theorem State.sameTime_recordIncarn (cause : BitVec 4) : s.SameTime (t.recordIncarn x cause) ↔ s.SameTime t := by
  simp [State.recordIncarn]

/-! ### Firmware -/

@[simp ↓] theorem State.sameTime_stageReply (st : Half) (d : List Byte) : s.SameTime (t.stageReply st d) ↔ s.SameTime t := by
  simp [State.stageReply]
@[simp ↓] theorem State.sameTime_unpendTuns (k : BankState) : s.SameTime (t.unpendTuns k) ↔ s.SameTime t := Iff.rfl
@[simp ↓] theorem State.sameTime_unpendMalt (k : BankState) : s.SameTime (t.unpendMalt k) ↔ s.SameTime t := Iff.rfl
@[simp ↓] theorem State.sameTime_beginStage (o : Owner) (kind len : Nat) : s.SameTime (t.beginStage o kind len) ↔ s.SameTime t := by
  simp [State.beginStage]
@[simp ↓] theorem State.sameTime_stageBegin (o : Owner) (kind len : Nat) : s.SameTime (t.stageBegin o kind len).2 ↔ s.SameTime t := by
  unfold State.stageBegin
  repeat' split
  all_goals simp
@[simp ↓] theorem State.sameTime_program (d : List Byte) : s.SameTime (t.program d) ↔ s.SameTime t := Iff.rfl
@[simp ↓] theorem State.sameTime_stageData (o : Owner) (off : Nat) (d : List Byte) :
    s.SameTime (t.stageData o off d).2 ↔ s.SameTime t := by
  unfold State.stageData
  repeat' split
  all_goals simp
@[simp ↓] theorem State.sameTime_stageCommit (o : Owner) (kind : Nat) : s.SameTime (t.stageCommit o kind).2 ↔ s.SameTime t := by
  unfold State.stageCommit
  repeat' split
  all_goals simp
@[simp ↓] theorem State.sameTime_stageAbort (o : Owner) : s.SameTime (t.stageAbort o).2 ↔ s.SameTime t := by
  unfold State.stageAbort
  repeat' split
  all_goals simp
@[simp ↓] theorem State.sameTime_requestData : s.SameTime t.requestData ↔ s.SameTime t := Iff.rfl
@[simp ↓] theorem State.sameTime_arm : s.SameTime t.arm ↔ s.SameTime t := by simp [State.arm]
@[simp ↓] theorem State.sameTime_stageTell (cmd : Byte) (st : Half) : s.SameTime (t.stageTell cmd st) ↔ s.SameTime t := by
  simp [State.stageTell]
@[simp ↓] theorem State.sameTime_stageFails (st : Half) : s.SameTime (t.stageFails st) ↔ s.SameTime t := by simp [State.stageFails]
@[simp ↓] theorem State.sameTime_putCopies (k : Bank) : s.SameTime (t.putCopies k) ↔ s.SameTime t := by simp [State.putCopies]
@[simp ↓] theorem State.sameTime_beginCopy : s.SameTime t.beginCopy ↔ s.SameTime t := State.sameTime_putCopies _
@[simp ↓] theorem State.sameTime_recheck : s.SameTime t.recheck ↔ s.SameTime t := by
  unfold State.recheck
  dsimp only
  split <;> simp
@[simp ↓] theorem State.sameTime_selectTuns : s.SameTime t.selectTuns ↔ s.SameTime t := by simp [State.selectTuns]
@[simp ↓] theorem State.sameTime_finishActivation : s.SameTime t.finishActivation ↔ s.SameTime t := by simp [State.finishActivation]

/-! ### The opcodes and the transports -/

@[simp ↓] theorem State.sameTime_maltWrite (page off : Nat) (v m : Word) : s.SameTime (t.maltWrite page off v m) ↔ s.SameTime t := by
  unfold State.maltWrite
  dsimp only
  split <;> simp
@[simp ↓] theorem State.sameTime_opPowerOn : s.SameTime (t.opPowerOn x).2 ↔ s.SameTime t := by
  unfold State.opPowerOn
  repeat' split
  all_goals simp
@[simp ↓] theorem State.sameTime_opPowerOff : s.SameTime (t.opPowerOff x).2 ↔ s.SameTime t := by
  unfold State.opPowerOff
  dsimp only
  repeat' split
  all_goals simp
@[simp ↓] theorem State.sameTime_opPowerCycle (ms : Nat) : s.SameTime (t.opPowerCycle x ms).2 ↔ s.SameTime t := by
  unfold State.opPowerCycle
  dsimp only
  repeat' split
  all_goals simp
@[simp ↓] theorem State.sameTime_opTunWrite (off : Nat) (v : Word) (st : Half) : s.SameTime (t.opTunWrite x off v st).2 ↔ s.SameTime t := by
  unfold State.opTunWrite
  repeat' split
  all_goals simp
@[simp ↓] theorem State.sameTime_opLocate (o : Byte) (on : Bool) (secs : Half) : s.SameTime (t.opLocate o on secs) ↔ s.SameTime t := by
  simp [State.opLocate]
@[simp ↓] theorem State.sameTime_runOp (src : Src) (q : Req) : s.SameTime (t.runOp src q).2 ↔ s.SameTime t := by
  unfold State.runOp
  dsimp only
  split
  all_goals repeat' split
  all_goals simp
theorem State.sameTime_of_runOp {src : Src} {q : Req} {r : Option (Half × List Byte)} {v : State} (e : t.runOp src q = (r, v)) :
    s.SameTime v ↔ s.SameTime t := by
  have ran := State.sameTime_runOp (s := s) (t := t) src q
  rwa [e] at ran
@[simp ↓] theorem State.sameTime_runNow (src : Src) (q : Req) : s.SameTime (t.runNow src q) ↔ s.SameTime t := by
  unfold State.runNow
  split
  · next e => simp [State.sameTime_of_runOp e]
  · next e => exact State.sameTime_of_runOp e
@[simp ↓] theorem State.sameTime_runWinner (q : Req) (hs : List Held) : s.SameTime (t.runWinner q hs) ↔ s.SameTime t := by
  unfold State.runWinner
  dsimp only
  split
  · next e => simp [State.sameTime_of_runOp e]
  · next e => simp [State.sameTime_of_runOp e]
@[simp ↓] theorem State.sameTime_holdCommand (src : Src) (q : Req) : s.SameTime (t.holdCommand src q) ↔ s.SameTime t := Iff.rfl
@[simp ↓] theorem State.sameTime_closeWindow (o : WinObj) : s.SameTime (t.closeWindow o) ↔ s.SameTime t := by
  unfold State.closeWindow
  dsimp only
  repeat' split
  all_goals simp
@[simp ↓] theorem State.sameTime_acceptReq (src : Src) (q : Req) : s.SameTime (t.acceptReq src q) ↔ s.SameTime t := by
  unfold State.acceptReq
  split <;> simp
@[simp ↓] theorem State.sameTime_rawArrive (p : RawPath) (frame : List Byte) : s.SameTime (t.rawArrive p frame) ↔ s.SameTime t := by
  unfold State.rawArrive
  dsimp only
  repeat' split
  all_goals simp
@[simp ↓] theorem State.sameTime_restartAfter (r : Option Reply) : s.SameTime (t.restartAfter r) ↔ s.SameTime t := by
  unfold State.restartAfter
  split <;> simp
@[simp ↓] theorem State.sameTime_pldmRequest (b : Bus) (type cmd : Byte) (d : List Byte) :
    s.SameTime (t.pldmRequest b type cmd d).1 ↔ s.SameTime t := by
  unfold State.pldmRequest
  split
  all_goals (try split)
  all_goals simp [State.setReceiver]
@[simp ↓] theorem State.sameTime_proxySend : s.SameTime (t.proxySend x) ↔ s.SameTime t := by
  unfold State.proxySend
  dsimp only
  split <;> simp
@[simp ↓] theorem State.sameTime_relayProxy (was : Bool) : s.SameTime (t.relayProxy x was) ↔ s.SameTime t := by simp [State.relayProxy]


/-! ### The commands -/

/-- A command inside one Tun. -/
theorem ChangesOnly.sat {ps : List Part} {o : Res} (h : ChangesOnly x ps s o) : Sat o s.SameTime := by
  obtain ⟨f, rfl, -⟩ := h
  simp

/-- A command on one Tun that may write its registers (04 R132). -/
theorem sat_onTunP (f : Tun → Tun) : Sat (onTunP x s f) s.SameTime := by simp [onTunP]

/-- An opcode as a command is refused, or runs at once or as the winner of its window. -/
theorem State.sat_runOpcode (src : Src) (seq op o : Byte) (d : List Byte) : Sat (s.runOpcode src seq op o d) s.SameTime := by
  unfold State.runOpcode
  dsimp only
  repeat' split
  all_goals simp

/-- A PLDM request that is answered does what its effect does. -/
theorem State.sat_pldmAsk {b : Bus} {type cmd : Byte} {act : State → State × Byte × List Byte} (h : s.SameTime (act s).1) :
    Sat (s.pldmAsk b type cmd act) s.SameTime := by
  simp [State.pldmAsk, h]

/-- Every command leaves queue and clock alone. The kinds of rows are a change of one Tun, a change of one Tun that may reach the
Maltster through its proxy, an opcode, a PLDM request, and an event on the tray, the Maltster or the bays. -/
theorem exec_sameTime (c : Instr) : Sat (exec c s) s.SameTime := by
  cases c with
  | registerWrite | flitReceive | outputAward | packetDeliverStream | holeTimeout | fenceNoticeReceive | mgmtRequest | readReqServe |
  atomicExecute | shareWrite | responseReceive | circuitPacketArrive | cmdPacket | doorbellPacket =>
    exact sat_onTunP _
  | getInfo | regRead | regWrite | logRead | logClear | maltRestart | tunPowerOn | tunPowerOff | tunPowerCycle | tunReset | tunFence |
  tunRegRead | tunRegWrite | tunStatus | kegStatus | kegEepromRead | alertRead | locate | stageBegin | stageData | stageCommit | stageAbort
  | stageStatus =>
    simp only [exec,
      execGetInfo, execRegRead, execRegWrite, execLogRead, execLogClear, execMaltRestart, execTunPowerOn, execTunPowerOff,
      execTunPowerCycle, execTunReset, execTunFence, execTunRegRead, execTunRegWrite, execTunStatus, execKegStatus, execKegEepromRead,
      execAlertRead, execLocate, execStageBegin, execStageData, execStageCommit, execStageAbort, execStageStatus]
    exact State.sat_runOpcode ..
  | pwrEnChange | mainPathClose | mainPathTrip | mainPathReclose | partialSeating | prsntSNBreak | tunSequenceStart | railPowerGood |
  railTimeout | tunColdResetRelease | powerDownRailStep | railFault | pmbusPoll | thermtripLatch | thermalTripReport | errNEdge | errNRearm
  | errStormWindow | warnNChange | pinFaultSet | pinFaultClear | heartbeatWindow | leakAsserted | leakDeasserted | kegPresenceAsserted |
  kegEepromRetry | kegLatched | kegPowerReady | kegUnlatched | kegPresenceDeasserted | kegOvercurrent | sdaStuck | busRecoveryPulse |
  busServedAgain | smbusTimeout | alertNHeld | tunPoll | maltsterWatchdogExpiry | maltsterRestart | maltsterReevaluate | locateSecondTick |
  locateButtonPress | warmResetRelease | rawFrameReceive | rawReplyRead | alertResponseRead | i3cCcc | mctpControl | mctpVendorMessage |
  platformEventSend | platformEventRetry | sbModeApply | windowClose | powerCycleWaitEnd | proxySend | proxyReplyCollect |
  maltsterBootVerify | tunHeaderCheck | tunBootLoad | bootResultPoll | goldenReflashDone | stageEraseDone | stageVerifyDone | stageCopyDone
  | stageRestartRecovery | activation | firmwareDataReceive | firmwareDataRetry | coldResetHoldEnd | alertNReleased | standbyPowerLoss =>
    simp only [exec,
      execPwrEnChange, execMainPathClose, execMainPathTrip, execMainPathReclose, execPartialSeating, execPrsntSNBreak,
      execTunSequenceStart, execRailPowerGood, execRailTimeout, execTunColdResetRelease, execPowerDownRailStep, execRailFault,
      execPmbusPoll, execThermtripLatch, execThermalTripReport, execErrNEdge, execErrNRearm, execErrStormWindow, execWarnNChange,
      execPinFaultSet, execPinFaultClear, execHeartbeatWindow, execLeakAsserted, execLeakDeasserted, execKegPresenceAsserted,
      execKegEepromRetry, execKegLatched, execKegPowerReady, execKegUnlatched, execKegPresenceDeasserted, execKegOvercurrent, execSdaStuck,
      execBusRecoveryPulse, execBusServedAgain, execSmbusTimeout, execAlertNHeld, execTunPoll, execMaltsterWatchdogExpiry,
      execMaltsterRestart, execMaltsterReevaluate, execLocateSecondTick, execLocateButtonPress, execWarmResetRelease, execRawFrameReceive,
      execRawReplyRead, execAlertResponseRead, execI3cCcc, execMctpControl, execMctpVendorMessage, execPlatformEventSend,
      execPlatformEventRetry, execSbModeApply, execWindowClose, execPowerCycleWaitEnd, execProxySend, execProxyReplyCollect,
      execMaltsterBootVerify, execTunHeaderCheck, execTunBootLoad, execBootResultPoll, execGoldenReflashDone, execStageEraseDone,
      execStageVerifyDone, execStageCopyDone, execStageRestartRecovery, execActivation, execFirmwareDataReceive, execFirmwareDataRetry,
      execColdResetHoldEnd, execAlertNReleased, execStandbyPowerLoss]
    repeat' split
    all_goals simp
  | queryDeviceIdentifiers | getFirmwareParameters | requestUpdate | passComponentTable | updateComponent | activateFirmware | getStatus |
  cancelUpdateComponent | cancelUpdate =>
    simp only [exec,
      execQueryDeviceIdentifiers, execGetFirmwareParameters, execRequestUpdate, execPassComponentTable, execUpdateComponent,
      execActivateFirmware, execGetStatus, execCancelUpdateComponent, execCancelUpdate]
    refine State.sat_pldmAsk ?_
    repeat' split
    all_goals simp
  | pldmCommand =>
    refine (Sat_ite ..).mpr ?_
    split
    · exact State.sat_pldmAsk (by simp)
    · simp
  | _ =>
    exact (exec_changesOnly rfl).sat

/-! ### The statement -/

/-- Settles O6, by the commands' kinds of rows. -/
theorem commandsKeepQueueAndClock : Obligations.CommandsKeepQueueAndClock := by
  intro c s t runs
  have same : Sat (exec c s) s.SameTime := exec_sameTime c
  rwa [runs] at same

end Sys2Proof.Machine
end

section
/-! SUPPORT. The idle step: what one timestamp unit leaves of a Tun. -/

namespace Sys2Proof.Machine
open Sys2Proof

variable {t u : Tun}

/-- Equal rests leave the ports, the counters and what was sent as the only differences. -/
theorem Tun.eq_of_rest (h : u.rest = t.rest) : u = { t with hyd := u.hyd, ports := u.ports, out := u.out } :=
  congrArg (fun v : Tun => { v with hyd := u.hyd, ports := u.ports, out := u.out }) h

@[simp] theorem Tun.refreshCycle_rest (now : Nat) : (t.refreshCycle now).rest = t.rest := by
  unfold Tun.refreshCycle
  split
  · rfl
  · exact foldl_keeps Tun.rest _ _ _ fun _ _ => Tun.bumpBy_rest ..

@[simp] theorem Tun.gaugeCycle_rest : t.gaugeCycle.rest = t.rest := foldl_keeps Tun.rest _ _ _ fun _ _ => Tun.modHyd_rest ..

/-- Of a Tun a core cycle moves Hydrometer alone (20 R771, R774). -/
@[simp] theorem Tun.cycle_rest (now : Nat) : (t.cycle now).rest = t.rest := by
  have counted (g c : Nat) (is : List Nat) (v : Tun) : (is.foldl (fun v i => v.bump g c i) v).rest = v.rest :=
    foldl_keeps Tun.rest _ _ _ fun _ _ => Tun.bump_rest ..
  simp [Tun.cycle, counted]

@[simp] theorem Tun.idle_rest (now : Nat) : (t.idle now).rest = t.rest := by
  unfold Tun.idle
  dsimp only
  split <;> simp

/-- No link that is not LINKED sends IDLE (09 R304). -/
theorem Tun.idleFlits_unlinked (now : Nat) (h : ∀ id, (t.port id).link ≠ .linked) : t.idleFlits now = t := by
  have still (ids : List Nat) : ids.foldl (fun v id => v.idleFlit now id) t = t := by
    induction ids with
    | nil => rfl
    | cons id ids ih => rw [List.foldl_cons, Tun.idleFlit, if_neg fun k => h id k.1, ih]
  exact still _

/-- Inside a core cycle nothing moves on a Tun without a linked port. -/
theorem Tun.idle_unlinked {now : Nat} (hc : now % 16 ≠ 0) (h : ∀ id, (t.port id).link ≠ .linked) : t.idle now = t := by
  rw [Tun.idle, Tun.idleFlits_unlinked now h, if_neg fun k => hc k.1]

/-- Settles O2, by what one timestamp unit leaves of each Tun. -/
theorem idleStepOnlyCounts : Obligations.IdleStepOnlyCounts := by
  intro s empty
  have each (x : TunId) : (idle s).tun x = (s.tun x).idle (s.now + 1) := Quad.get_map ..
  refine ⟨idle s, by rw [step, empty], rfl, empty, rfl, rfl, rfl, rfl, rfl, fun x => ?_, fun x hc hl => ?_⟩
  · rw [each]
    exact Tun.eq_of_rest (Tun.idle_rest _)
  · rw [each]
    exact Tun.idle_unlinked hc hl

end Sys2Proof.Machine
end

section
/-! SUPPORT. The echo time-out on a port table that lists a port twice. -/

namespace Sys2Proof.Machine
open Sys2Proof

/-- A port that differs from one never set in one outstanding probe. -/
def probedPort : Port := { probes := [(0, 0)] }

/-- A Tun whose port table lists port 0 twice, each time with the same outstanding probe. -/
def twiceProbedTun : Tun := { col := .t0, ports := ⟨[(0, probedPort), (0, probedPort)]⟩ }

/-- A tray of which one Tun's port table lists a port twice. -/
def twiceProbed : State := { tuns := ⟨twiceProbedTun, { col := .t1 }, { col := .t2 }, { col := .t3 }⟩ }

/-- The time-out writes the port as one never set: that removes the first entry alone, and the port then reads the second. -/
theorem twiceProbed_echoTimeout : Answers (.delayEchoTimeout .t0 0) twiceProbed fun t => ((t.tun .t0).port 0).probes = [(0, 0)] :=
  ⟨_, rfl, rfl⟩

/-- Refutes O30: the obligation holds of every state, also of one whose port table lists a port twice. The echo time-out of such a port
(09 R340) leaves its probes outstanding, since the port written equals the default one and only its first entry is taken out. -/
theorem not_linkControlCommandsComplete : ¬ Obligations.LinkControlCommandsComplete := by
  unfold Obligations.LinkControlCommandsComplete
  intro h
  obtain ⟨-, -, -, -, -, -, -, -, -, -, -, -, echoTimeout, -⟩ := h twiceProbed .t0 0
  obtain ⟨t, taken, cleared, -⟩ := echoTimeout (by decide)
  obtain ⟨t', taken', kept⟩ := twiceProbed_echoTimeout
  cases taken.symm.trans taken'
  exact absurd ((congrArg Port.probes cleared).symm.trans kept) (by decide)

end Sys2Proof.Machine
end

section
/-! SUPPORT. What the commands of a link's training leave of its port. -/

namespace Sys2Proof.Machine
open Sys2Proof

variable {t u : Tun} {s : State} {x : TunId} {now id k n : Nat}

/-- A command on one Tun answers with a state that holds the changed Tun and else what was there. -/
theorem answers_tun {c : Instr} {f : Tun → Tun} {P : State → Prop} (e : exec c s = onTun x s f)
    (p : ∀ t : State, t.tun x = f (s.tun x) → OnlyTun x s t → P t) : Answers c s P :=
  answers_onTun e rfl (p _ (State.tun_modTun ..) (onlyTun_mod ..))

/-- A port written with a link that is not DISABLED reads what was written. -/
theorem Tun.port_modPort_live (f : Port → Port) (h : (f (t.port id)).link ≠ .disabled) : (t.modPort id f).port id = f (t.port id) :=
  Tun.port_modPort_listed _ _ _ fun e => h (by rw [e])

/-! ### A training that begins (09 R307, R309, R347) -/

/-- A port with what a training latches. -/
def Tun.latched (t : Tun) (id : Nat) (p : Port) : Port :=
  { p with genNow := t.portGen1 id p, widthNow := t.planWidth id p, paleNow := p.paleOnly, pairing := t.pairsNow id }

/-- Flits sent on the lanes one by one leave the ports. -/
@[simp] theorem Tun.port_laneFlits (e : Tun → Nat → TunEmit) (ls : List Nat) :
    (ls.foldl (fun u l => u.emit (e u l)) t).port k = t.port k :=
  foldl_keeps (Tun.port · k) _ _ _ fun _ _ => rfl

@[simp] theorem Tun.port_sendRate : (t.sendRate id).port k = t.port k := Tun.port_laneFlits ..

/-- A port that trains anew keeps all but what the training latches. -/
theorem Tun.port_trainAnew (h : (t.port id).link ≠ .disabled) : (t.trainAnew id).port id = t.latched id (t.port id) := by
  have listed : (t.latchTraining id).port id = t.latched id (t.port id) :=
    Tun.port_modPort_live _ h
  unfold Tun.trainAnew
  dsimp only
  split <;> simp [listed]

/-- A change of one port to a link that is not DISABLED, followed by a training. -/
theorem Tun.port_modPort_trainAnew (f : Port → Port) (h : (f (t.port id)).link ≠ .disabled) :
    ((t.modPort id f).trainAnew id).port id = t.latched id (f (t.port id)) := by
  have listed : (t.modPort id f).port id = f (t.port id) := Tun.port_modPort_live _ h
  rw [Tun.port_trainAnew (by rwa [listed]), listed]
  rfl

/-- A port that goes down retrains (09 R318). -/
theorem Tun.port_portDown (c : BitVec 4) (w : Bool) :
    (t.portDown now id c w).port id = t.latched id ((t.port id).toDetect c w) := by
  rw [Tun.portDown, Tun.port_ringLinkDown, Tun.port_modPort_trainAnew _ (by simp [Port.toDetect])]

/-- A cold attempt that fails goes down and waits (09 R307). -/
theorem Tun.port_trainFail (c : BitVec 4) (h : (t.port id).stepping = false) :
    (t.trainFail now id c).port id = { t.latched id ((t.port id).toDetect c true) with stepping := false, stepFails := 0 } := by
  unfold Tun.trainFail
  rw [if_neg (by simp [h])]
  have down : (t.portDown now id c true).port id = _ := Tun.port_portDown c true
  exact (Tun.port_modPort_live _ (by simp [down, Tun.latched, Port.toDetect])).trans (by rw [down])

/-! ### The steps of a training (09 R309-R314) -/

theorem Tun.port_portEnable (hp : t.hasPort id = true) (ht : t.trains = true) (hh : t.heldDown id = false)
    (hd : (t.port id).disable = false) (hl : (t.port id).link = .disabled) (hs : (t.port id).state = .down) :
    (t.portEnable id).port id = t.latched id { t.port id with link := .detect, waiting := false, rateFull := false } := by
  unfold Tun.portEnable
  rw [if_neg (by simp [hp, ht, hh, hd, hl, hs]), Tun.port_modPort_trainAnew _ (by simp)]

theorem Tun.port_detectLock (full : Bool) (ls : List LaneTx) (hl : (t.port id).link = .detect) (hw : (t.port id).waiting = false)
    (ht : t.trains = true) : (t.detectLock id full ls).port id =
      { t.port id with link := .equalize, rateFull := full && t.offersFull id (t.port id), lanes := ls } := by
  unfold Tun.detectLock
  rw [if_neg (by simp [hl, hw, ht])]
  exact (Tun.port_laneFlits ..).trans (Tun.port_modPort_live _ (by simp))

theorem Tun.port_detectTimeout (hl : (t.port id).link = .detect) (hw : (t.port id).waiting = false) :
    (t.detectTimeout id).port id = t.latched id { t.port id with lanes := [], rateFull := false } := by
  unfold Tun.detectTimeout
  rw [if_neg (by simp [hl, hw]), Tun.port_modPort_trainAnew _ (by simp [hl])]

theorem Tun.port_equalizeReceive (lane : Nat) (req : Byte) (hl : (t.port id).link = .equalize) (hw : lane < (t.port id).widthNow) :
    (t.equalizeReceive id lane req).port id = { t.port id with lanes := (t.port id).lanes.modify lane (LaneTx.request req) } := by
  unfold Tun.equalizeReceive
  rw [if_neg (by simp [hl, hw])]
  exact (Tun.port_emit ..).trans (Tun.port_modPort_live _ (by simp [hl]))

theorem Tun.port_equalizeDone (hl : (t.port id).link = .equalize) :
    (t.equalizeDone id).port id = { t.port id with link := .deskew } := by
  unfold Tun.equalizeDone
  rw [if_neg (by simp [hl])]
  refine (Tun.port_modPort_live _ (by simp)).trans ?_
  rw [Tun.port_laneFlits]

theorem Tun.port_coldRetry (hl : (t.port id).link = .detect) (hw : (t.port id).waiting = true) :
    (t.coldRetry id).port id = t.latched id { t.port id with waiting := false } := by
  unfold Tun.coldRetry
  rw [if_neg (by simp [hl, hw]), Tun.port_modPort_trainAnew _ (by simp [hl])]

theorem Tun.port_attemptLimit_equalize (hl : (t.port id).link = .equalize) (hw : (t.port id).waiting = false) :
    t.attemptLimit now id = t.trainFail now id 3 := by
  simp [Tun.attemptLimit, hl, hw, LinkState.failCause]

/-! ### What sending leaves of a port that is up -/

/-- All of a port but the marks of its headers, its nap and what it has to send or holds for replay. -/
def Port.body (p : Port) : Port := { p.rest with nextSeq := 0, replay := [], txq := [] }

theorem Port.body_of_rest {p q : Port} (h : q.rest = p.rest) : q.body = p.body :=
  congrArg (fun p : Port => { p with nextSeq := 0, replay := [], txq := [] }) h

theorem Port.up_of_body {p q : Port} (h : q.body = p.body) : q.up = p.up :=
  (congrArg Port.up h :)

/-- A change of one port that is up and keeps its body keeps every port's. -/
theorem Tun.modPort_port_body (f : Port → Port) (hu : (t.port id).up = true) (h : (f (t.port id)).body = (t.port id).body) :
    ((t.modPort id f).port k).body = (t.port k).body := by
  by_cases hk : k = id
  · subst hk
    rw [Tun.port_modPort_listed _ _ _ fun he => ?_, h]
    have := Port.up_of_body h
    rw [he, hu] at this
    cases this
  · rw [Tun.port_modPort_other _ _ hk]

@[simp] theorem Tun.putFlit_port_body (h : HeldFlit) : ((t.putFlit now id h).port k).body = (t.port k).body :=
  Port.body_of_rest (Tun.putFlit_port_rest ..)

@[simp] theorem Tun.putOrdered_port_body (ft : BitVec 4) (pl : List Byte) : ((t.putOrdered now id ft pl).port k).body = (t.port k).body :=
  Port.body_of_rest (Tun.putOrdered_port_rest ..)

@[simp] theorem Tun.resend_port_rest (hs : List HeldFlit) : ((t.resend now id hs).port k).rest = (t.port k).rest :=
  foldl_keeps (fun u : Tun => (u.port k).rest) _ _ _ fun _ _ => Tun.putFlit_port_rest ..

@[simp] theorem Tun.pumpN_port_body : ((t.pumpN now id n).port k).body = (t.port k).body := by
  induction n generalizing t with
  | zero => rfl
  | succ n ih =>
    unfold Tun.pumpN
    dsimp only
    split
    · rfl
    · next h rest hq =>
      split
      · rfl
      · next hs =>
        have up : (t.port id).up = true := by
          cases hu : (t.port id).up
          · exact absurd (by simp [hu]) hs
          · rfl
        rw [ih]
        split <;> simp only [Tun.port_bump, Tun.port_peak, Tun.putFlit_port_body] <;> exact Tun.modPort_port_body _ up rfl

@[simp] theorem Tun.pump_port_body : ((t.pump now id).port k).body = (t.port k).body := Tun.pumpN_port_body

@[simp] theorem Tun.ringSend_port_body (north : Bool) : ((t.ringSend now north n).port k).body = (t.port k).body := by
  induction n generalizing t with
  | zero => rfl
  | succ n ih =>
    unfold Tun.ringSend
    generalize (if north = true then 259 else 260) = r
    dsimp only
    split
    · rfl
    · next hs =>
      have up : (t.port r).up = true := by
        cases hu : (t.port r).up
        · exact absurd (by simp [hu]) hs
        · rfl
      split
      · rw [ih, Tun.pump_port_body, Tun.modPort_port_body _ (by exact up) rfl]; rfl
      · rw [ih, Tun.pump_port_body, Tun.modPort_port_body _ (by exact up) rfl]; rfl
      · rfl

/-- A queue that moves on keeps all else of every port (09 R322, 11 R425). -/
@[simp] theorem Tun.pumpLink_port_body : ((t.pumpLink now id).port k).body = (t.port k).body := by
  simp [Tun.pumpLink, Tun.ringPump]

/-! ### Identity and after (09 R313-R318) -/

/-- A flit sent on a link that stands. -/
theorem Tun.putOrdered_sent (ft : BitVec 4) (pl : List Byte) (hl : (t.port id).link = .linked) :
    SentFlit t (t.putOrdered now id ft pl) id ft pl :=
  Tun.putFlit_sent t now id _ hl

/-- What the port shows of itself is the same after a flit sent. -/
theorem Port.shown_of_rest {p q : Port} (h : q.rest = p.rest) :
    q.link = p.link ∧ q.state = p.state ∧ q.ident = p.ident ∧ q.replay = p.replay :=
  ⟨(congrArg Port.link h :), (congrArg Port.state h :), (congrArg Port.ident h :), (congrArg Port.replay h :)⟩

theorem Tun.deskewDone_identifies (hl : (t.port id).link = .deskew) (hs : (t.port id).state = .down) :
    t.deskewDone now id =
      (t.modPort id fun p => { p with link := .linked, state := .identify, ident := none }).sendIdentity now id := by
  simp [Tun.deskewDone, hl, hs]

theorem Tun.identityReceive_failed {pl : List Byte} {c : BitVec 4} (hs : (t.port id).state = .identify)
    (hc : t.identCause id pl = some c) : t.identityReceive now id pl = t.trainFail now id c := by
  simp [Tun.identityReceive, hs, hc]

theorem Tun.identityReceive_taken {pl : List Byte} (hs : (t.port id).state = .identify) (hc : t.identCause id pl = none) :
    t.identityReceive now id pl = (t.modPort id fun p => { p with ident := some (identOf pl) }).sendIdentity now id := by
  simp [Tun.identityReceive, hs, hc]

theorem Tun.identifyComplete_resumes {i : Ident} (hs : (t.port id).state = .identify) (hi : (t.port id).ident = some i)
    (hn : i.seen = true) (hr : (t.port id).resumes i = true) :
    ∃ u : Tun, ((t.identifyComplete now id).port id).body = (u.port id).body ∧
      u = t.modPort id fun p => { (p.identified i) with replay := p.replay.dropWhile fun h => h.fseq != i.nextRx } := by
  refine ⟨_, ?_, rfl⟩
  simp [Tun.identifyComplete, hs, hi, hn, hr, Port.body_of_rest (Tun.resend_port_rest ..)]

/-- A retrain notice takes a port that is up down, its replay buffer kept (09 R318, R324). -/
theorem Tun.retrainNotice_up (sent : Bool) (hl : (t.port id).link = .linked) (hu : (t.port id).up = true) :
    ∃ u : Tun, t.retrainNotice now id sent = u.portDown now id 0xE false ∧ (u.port id).rest = (t.port id).rest := by
  have live : (t.port id).state ≠ .fenced ∧ (t.port id).state ≠ .peerFenced := by
    constructor <;> intro e <;> simp [Port.up, e] at hu
  refine ⟨if sent then t.putOrdered now id ftTrain [0x03] else t, by simp [Tun.retrainNotice, hl, live], ?_⟩
  split <;> simp

theorem Tun.signalLost_up (hl : (t.port id).link = .linked) (hn : (t.port id).rxNapped = false) (hu : (t.port id).up = true) :
    t.signalLost now id = t.portDown now id 9 false := by
  have live : (t.port id).state ≠ .peerFenced := by intro e; simp [Port.up, e] at hu
  simp [Tun.signalLost, hl, hn, live]

theorem Port.up_ne_fenced {p : Port} (h : p.up = true) : p.state ≠ .fenced := by
  intro e; simp [Port.up, e] at h

/-- Settles O29, by what each event leaves of its port. -/
theorem linkTrainingCommandsComplete : Obligations.LinkTrainingCommandsComplete := by
  unfold Obligations.LinkTrainingCommandsComplete
  intro s x id u p
  refine ⟨fun ready hp ht hh hd hl hs => ?enable, fun full hl hw ht => ?lock, fun hl hw => ?timeout, fun lane req hl hw => ?equalize,
    fun hl => ?done, fun hl hs => ?deskew, fun hl hw hst hs => ?limit, fun hl hw => ?retry, fun pl hs hc => ?identity,
    fun pl c hs hst hc => ?mismatch, fun i hs hi hn hr hrep hq => ?complete, fun hs hst => ?identifyTimeout,
    fun sent hl hu => ?notice, fun hl hn hu => ?loss⟩
  case enable =>
    refine answers_tun rfl fun t e only => ?_
    rw [e, if_pos ready, Tun.port_portEnable hp ht hh hd hl hs]
    exact ⟨rfl, rfl, rfl, only⟩
  case lock => exact answers_tun rfl fun t e only => ⟨e ▸ Tun.port_detectLock full _ hl hw ht, only⟩
  case timeout =>
    refine answers_tun rfl fun t e only => ?_
    rw [e, Tun.port_detectTimeout hl hw]
    exact ⟨hl, rfl, rfl, only⟩
  case equalize => exact answers_tun rfl fun t e only => ⟨e ▸ Tun.port_equalizeReceive _ req hl hw, only⟩
  case done => exact answers_tun rfl fun t e only => ⟨e ▸ Tun.port_equalizeDone hl, only⟩
  case deskew =>
    refine answers_tun rfl fun t e only => ?_
    rw [e, Tun.deskewDone_identifies hl hs]
    have port : (Tun.port (u.modPort id.toNat fun p => { p with link := .linked, state := .identify, ident := none }) id.toNat) = _ :=
      Tun.port_modPort_live _ (by simp)
    obtain ⟨link, state, -, -⟩ := Port.shown_of_rest (Tun.putOrdered_port_rest _ s.now id.toNat id.toNat ftTrain _)
    exact ⟨link.trans (by rw [port]), state.trans (by rw [port]), ⟨_, Tun.putOrdered_sent _ _ (by rw [port]), rfl⟩, only⟩
  case limit =>
    refine answers_tun rfl fun t e only => ?_
    rw [e, Tun.port_attemptLimit_equalize hl hw, Tun.port_trainFail 3 hst]
    exact ⟨rfl, if_neg hs, rfl, rfl, only⟩
  case retry =>
    refine answers_tun rfl fun t e only => ?_
    rw [e, Tun.port_coldRetry hl hw]
    exact ⟨rfl, hl, only⟩
  case identity =>
    refine answers_tun rfl fun t e only => ?_
    rw [e, Tun.identityReceive_taken hs hc]
    have port : (Tun.port (u.modPort id.toNat fun p => { p with ident := some (identOf pl) }) id.toNat) = _ :=
      Tun.port_modPort_listed _ _ _ fun h => absurd (hs.symm.trans (congrArg Port.state h :)) (by decide)
    obtain ⟨-, state, ident, -⟩ := Port.shown_of_rest (Tun.putOrdered_port_rest _ s.now id.toNat id.toNat ftTrain _)
    exact ⟨ident.trans (by rw [port]), state.trans (by rw [port]; exact hs), only⟩
  case mismatch =>
    refine answers_tun rfl fun t e only => ?_
    rw [e, Tun.identityReceive_failed hs hc, Tun.port_trainFail c hst]
    exact ⟨if_neg fun h => absurd (hs.symm.trans h) (by decide), rfl, rfl, only⟩
  case complete =>
    refine answers_tun rfl fun t e only => ?_
    obtain ⟨v, body, hv⟩ := Tun.identifyComplete_resumes (now := s.now) hs hi hn hr
    have port : v.port id.toNat = _ := 
      hv ▸ Tun.port_modPort_listed _ _ _ fun h => absurd (congrArg Port.state h) (by simp [Port.identified])
    rw [port] at body
    rw [e]
    exact ⟨(congrArg Port.state body :), (congrArg Port.peerIncarn body :), (congrArg Port.peerRole body :), only⟩
  case identifyTimeout =>
    refine answers_tun rfl fun t e only => ?_
    rw [e, Tun.identifyTimeout, if_neg (by simpa using hs), Tun.port_trainFail 5 hst]
    exact ⟨if_neg fun h => absurd (hs.symm.trans h) (by decide), rfl, rfl, only⟩
  case notice =>
    refine answers_tun rfl fun t e only => ?_
    obtain ⟨v, hv, rest⟩ := Tun.retrainNotice_up (now := s.now) sent hl hu
    obtain ⟨-, state, -, replay⟩ := Port.shown_of_rest rest
    rw [e, hv, Tun.port_portDown]
    exact ⟨if_neg (state ▸ Port.up_ne_fenced hu), rfl, rfl, replay, only⟩
  case loss =>
    refine answers_tun rfl fun t e only => ?_
    rw [e, Tun.signalLost_up hl hn hu, Tun.port_portDown]
    exact ⟨if_neg (Port.up_ne_fenced hu), rfl, rfl, rfl, only⟩

end Sys2Proof.Machine
end

section
/-! SUPPORT. A first flit whose packet header fails its check and names a circuit, at a port whose injection hold is full. -/

namespace Sys2Proof.Machine
open Sys2Proof

/-! ### A flit read back (09 R297) -/

/-- The flit of a link header and a payload. -/
def Flit.ofHeader (h : Dword) (payload : List Byte) : Flit :=
  { incarn := h.extractLsb' 56 8, fseq := h.extractLsb' 44 12, ackseq := h.extractLsb' 32 12, ackValid := h.getLsbD 31,
    nak := h.getLsbD 30, cls := h.extractLsb' 27 3, ringVc := h.getLsbD 26, ftype := h.extractLsb' 22 4, svc := h.extractLsb' 19 3,
    drain := h.getLsbD 18, hold := h.getLsbD 17, payload := payload }

/-- The bytes of a flit read back as its header and its padded payload: their CRC holds. -/
theorem Flit.ofBytes_bytes (f : Flit) (gen1 : Bool) :
    Flit.ofBytes (f.bytes gen1) = some (Flit.ofHeader (f.header gen1) (flitPayload f.payload)) := by
  have hp : (flitPayload f.payload).length = 244 := by rw [flitPayload, List.length_take, List.length_append, List.length_replicate]; omega
  have body : (bytesLE 8 (f.header gen1).toNat ++ flitPayload f.payload).length = 252 := by simp [bytesLE_length, hp]
  have crc := leAt_bytesLE (k := 4) (crc32c (bytesLE 8 (f.header gen1).toNat ++ flitPayload f.payload)).isLt
    (bytesLE 8 (f.header gen1).toNat ++ flitPayload f.payload) []
  have header := leAt_bytesLE (k := 8) (f.header gen1).isLt []
    (flitPayload f.payload ++ bytesLE 4 (crc32c (bytesLE 8 (f.header gen1).toNat ++ flitPayload f.payload)).toNat)
  rw [body, List.append_nil] at crc
  rw [List.nil_append, List.length_nil, ← List.append_assoc] at header
  unfold Flit.ofBytes Flit.bytes
  dsimp only
  rw [if_neg (by simp [bytesLE_length, hp]), crc, List.take_left' body, if_neg (by simp), header]
  simp [Flit.ofHeader, List.drop_left', bytesLE_length, hp]

/-! ### The refused flit -/

/-- A first flit of whose packet header CIRCUIT is set and the HCRC does not hold. -/
def garbledFirst : Flit := { ftype := ftFirst, payload := flitPayload [0, 0, 0, 4] }

/-- A Tun with port 0 up, whose injection hold is full and whose forfeit hold is empty. -/
def injectionFull : Tun :=
  { col := .t0, svc := { state := .full }, ports := ⟨[(0, { link := .linked, state := .active, peerIncarn := some 0 })]⟩,
    plane := { inj := ⟨[(0, List.replicate 2 { pkt := {}, input := 0, since := 0 })]⟩ } }

/-- A tray of which one Tun has a full injection hold. -/
def injectionFullTray : State := { tuns := ⟨injectionFull, { col := .t1 }, { col := .t2 }, { col := .t3 }⟩ }

theorem garbledFirst_read : Flit.ofBytes (garbledFirst.bytes false) = some garbledFirst := by
  rw [Flit.ofBytes_bytes]; decide +kernel

/-- The bit of the header finds room in the forfeit hold, the packet does not: one whose HCRC fails is no circuit packet (10 R353). -/
theorem garbledFirst_room : injectionFull.holdRoom 0 (Packet.ofFlits [garbledFirst.payload]).circuit = true ∧
    injectionFull.refusesFirst 0 garbledFirst = true := by decide +kernel

/-- Past the CRC the flit goes by the state of its port. -/
theorem garbledFirst_taken {bytes : List Byte} (read : Flit.ofBytes bytes = some garbledFirst) :
    injectionFull.flitReceive 0 0 bytes false {} = (((injectionFull.rxCounts 0 {}).rxWake 0).bump 1 1 0).goodFlit 0 0 garbledFirst := by
  unfold Tun.flitReceive
  have gen : (((injectionFull.rxCounts 0 {}).rxWake 0).port 0).genNow = false := rfl
  have known : reservedFt false garbledFirst.ftype = false := rfl
  rw [if_neg (by decide)]
  simp only [read, gen, known, Bool.false_eq_true, if_false]

/-- The port refuses the flit (11 R399): it still expects it. -/
theorem garbledFirst_refused {bytes : List Byte} (read : Flit.ofBytes bytes = some garbledFirst) :
    Answers (.flitReceive .t0 0 bytes false {}) injectionFullTray fun t => ((t.tun .t0).port 0).expected = 0 := by
  have kept : ((injectionFull.flitReceive 0 0 bytes false {}).port 0).expected = 0 := by
    rw [garbledFirst_taken read]; decide +kernel
  have quiet : (injectionFull.flitReceive 0 0 bytes false {}).proxy.busy = false := by
    rw [garbledFirst_taken read]; decide +kernel
  have relayed : (injectionFullTray.modTun .t0 fun u => u.flitReceive 0 0 bytes false {}).relayProxy .t0 false = _ :=
    State.relayProxy_same quiet
  exact Answers.of_next (congrArg Host.Outcome.next relayed) kept

/-- Refutes O34: its first clause asks for room by the CIRCUIT bit of the header, while the port asks for it by `Packet.isCircuit`, which
holds only with the HCRC (10 R353). A first flit with CIRCUIT set and a bad HCRC is refused at a port whose injection hold is full and
whose forfeit hold is empty. -/
theorem not_packetPlaneCommandsComplete : ¬ Obligations.PacketPlaneCommandsComplete := by
  unfold Obligations.PacketPlaneCommandsComplete
  intro h
  obtain ⟨inOrder, -⟩ := h injectionFullTray .t0
  have read := garbledFirst_read
  generalize garbledFirst.bytes false = bytes at read
  obtain ⟨t, taken, expected, -⟩ :=
    inOrder 0 bytes {} garbledFirst (by decide) rfl rfl rfl rfl rfl rfl read rfl rfl rfl rfl garbledFirst_room.1
  obtain ⟨t', taken', kept⟩ := garbledFirst_refused read
  cases taken.symm.trans taken'
  exact absurd (expected.symm.trans kept) (by decide)

end Sys2Proof.Machine
end

section
/-! SUPPORT. The operations of the scheduled plane, by BREW_CTRL and by a command: what the record of the command leaves of the plane, a
write of BREW_CTRL, and the loads and discards that are refused (12 R479-R481, R492, Table 12-9). -/

namespace Sys2Proof.Machine
open Sys2Proof

variable {t u : Tun} {s : State} {x : TunId} {c : Cmd}

/-! ### The record of a command that is alone -/

/-- The plane when a command has ended: neither a timed step nor a binding runs it any more. -/
def Sched.without (p : Sched) (id : Nat) : Sched :=
  { p with runSteps := p.runSteps.filter (·.cmd != id), runBinds := p.runBinds.filter (·.1 != id) }

/-- A Tun whose command has ended but for its record. -/
def Tun.ended (c : Cmd) (t : Tun) : Tun :=
  let t := c.units.foldl (fun t u => t.bump 4 1 u) (((t.instDone c).releaseEntries c.id).removeCmd c.id)
  { t with sched := t.sched.without c.id }

/-- A command that is not QUIET ends with its record and an arbitration decision (13 R519, 14 R554). -/
theorem Tun.finishCmd_loud (loud : c.quiet = false) (now : Nat) (st : Half) (r0 : Dword) (r1 : BitVec 48) :
    u.finishCmd now c st r0 r1 [] = ((u.ended c).writeRecord now c st r0 r1 []).arbitrate now := by
  simp [Tun.finishCmd, loud, Tun.ended, Sched.without]

theorem Tun.ended_only (only : u.bm.cmds = [c]) : (u.ended c).bm.cmds = [] ∧ (u.ended c).bm.queues = u.bm.queues ∧
    (u.ended c).bm.rings = u.bm.rings ∧ (u.ended c).host = u.host ∧ (u.ended c).sched = u.sched.without c.id := by
  obtain ⟨hy, counted⟩ := Tun.foldl_bump (((u.instDone c).releaseEntries c.id).removeCmd c.id) 4 1 c.units
  obtain ⟨m, grouped, -⟩ := Tun.instDone_eq u c
  rw [Tun.ended, counted, grouped]
  exact ⟨by simp [Tun.removeCmd, Tun.releaseEntries, Tun.modBm, only], rfl, rfl, rfl, rfl⟩

/-- The plane goes on without a command that ends alone: nothing waits that could be started in its place. -/
theorem Alone.finishCmd_sched (h : Alone u c) (now : Nat) (st : Half) (r0 : Dword) (r1 : BitVec 48) :
    (u.finishCmd now c st r0 r1 []).sched = u.sched.without c.id := by
  obtain ⟨only, -, -, -, loud, silent, untimed, -, -, -, -, ⟨host, whole, own⟩, reach, link⟩ := h
  obtain ⟨noneLeft, queues, rings, hostLeft, sched⟩ := Tun.ended_only only
  have ring : (u.ended c).ring ((u.ended c).queue c.queue).cring.toNat = u.ring (u.queue c.queue).cring.toNat := by
    simp only [Tun.ring, Tun.queue, queues, rings]
  obtain ⟨hy, rg, e⟩ := Tun.writeRecord_eq (u.ended c) now c st r0 r1 silent untimed (ring ▸ host) (ring ▸ whole) (ring ▸ own)
    (by simpa [Tun.hostReach, hostLeft] using reach) (hostLeft ▸ link)
  rw [Tun.finishCmd_loud loud, e, Tun.arbitrate_empty _ _ (by exact noneLeft)]
  exact sched

/-- A change of the plane keeps a command alone. -/
theorem Alone.modSched (h : Alone u c) (f : Sched → Sched) : Alone (u.modSched f) c := h.congr rfl rfl rfl rfl

/-- A command that is alone ends after a change of the plane. -/
theorem Alone.finish_modSched (h : Alone u c) (f : Sched → Sched) (now : Nat) (st : Half) (r0 : Dword) (r1 : BitVec 48) :
    Recorded u ((u.modSched f).finishCmd now c st r0 r1 []) c st r0 r1 ∧
      ((u.modSched f).finishCmd now c st r0 r1 []).sched = (f u.sched).without c.id :=
  ⟨((h.modSched f).finish now st r0 r1).1.congr rfl rfl rfl, (h.modSched f).finishCmd_sched now st r0 r1⟩

/-- An operation of the plane that a command asked for ends with the command's record and LAST_BREW_STATUS (12 Table 12-9). -/
theorem Alone.planeDone (h : Alone u c) (f : Sched → Sched) (now : Nat) (st : Half) :
    Recorded u ((u.modSched f).planeDone now (.cmd c.id) st) c st 0 0 ∧
      ((u.modSched f).planeDone now (.cmd c.id) st).sched = { f u.sched with lastStatus := st }.without c.id := by
  have found : ((u.modSched f).modSched fun p => { p with lastStatus := st }).cmd c.id = some c := h.cmd
  have alone := (h.modSched f).modSched fun p => { p with lastStatus := st }
  have ended := h.finish_modSched (fun p => { f p with lastStatus := st }) now st 0 0
  simp only [Tun.planeDone, found]
  split
  · rw [alone.completeNow_eq]; exact ended
  · rw [alone.failCmd_eq]; exact ended

/-- A load that a command asked for and that is refused ends with the command's record, LOAD_STATUS and REASON (12 R481). -/
theorem Alone.loadDone (h : Alone u c) (now : Nat) {st : Half} (hst : st ≠ 0) (reason : Byte) :
    Recorded u (u.loadDone now (.cmd c.id) st reason) c st (BitVec.ofNat 64 (st.toNat * 65536 + reason.toNat)) 0 ∧
      (u.loadDone now (.cmd c.id) st reason).sched = { u.sched with loadStatus := st, loadReason := reason }.without c.id := by
  have found : (u.modSched fun p => { p with loadStatus := st, loadReason := reason }).cmd c.id = some c := h.cmd
  simp only [Tun.loadDone, found, if_neg hst]
  exact h.finish_modSched _ now st _ 0

/-! ### An operation asked for -/

theorem WindowOpen.windowWrite (h : WindowOpen t) (f : Tun → Tun) : t.windowWrite f = f t := by
  obtain ⟨hold, off, cold⟩ := h
  simp [Tun.windowWrite, hold, off, cold]

/-- By BREW_CTRL: a write to an open window. -/
theorem exec_planeRegister {i : Instr} {reg g : Tun → Tun} (e : exec i s = onTun x s (Tun.windowWrite reg))
    (h : WindowOpen (s.tun x)) (same : reg (s.tun x) = g (s.tun x)) : exec i s = .next (s.modTun x g) :=
  e.trans (congrArg Host.Outcome.next (State.modTun_congr ((h.windowWrite reg).trans same)))

/-- What a write of BREW_CTRL to an open window answers. -/
theorem answers_planeRegister {i : Instr} {reg : Tun → Tun} {P : State → Prop} (e : exec i s = onTun x s (Tun.windowWrite reg))
    (h : WindowOpen (s.tun x))
    (p : ∀ t : State, t.tun x = reg (s.tun x) → OnlyTun x s t → P t) : Answers i s P :=
  .of_next (exec_planeRegister e h rfl) (p _ (State.tun_modTun ..) (onlyTun_mod ..))

theorem Alone.startedCmd (h : Alone u c) (serves : u.serving = true) (started : c.phase = .started) {op : Nat} (hop : c.op = op) :
    u.startedCmd c.id [op] = some c := by
  simp [Tun.startedCmd, h.cmd, serves, started, hop]

/-- By a command that has not asked for a load or a start before (12 R485): what the register would do does not matter, so it stands as
`id`. -/
theorem answers_planeCommand {i : Instr} {op : Nat} {f : Cmd → Tun → Tun} {P : State → Prop}
    (e : exec i s = planeOp x (some c.id) op id f s) (running : (s.tun x).startedCmd c.id [op] = some c)
    (noLoad : (s.tun x).sched.loading ≠ some (.cmd c.id))
    (noStart : ¬ ((s.tun x).sched.startBrew.isSome = true ∧ (s.tun x).sched.starter = .cmd c.id))
    (p : ∀ t : State, t.tun x = f c (s.tun x) → OnlyTun x s t → P t) : Answers i s P :=
  answers_onTun (g := f c) e (by simp [running, noLoad, noStart]) (p _ (State.tun_modTun ..) (onlyTun_mod ..))

/-! ### Writes of BREW_CTRL -/

theorem Tun.writeBrewCtrl_load (now : Nat) (gen : t.rack.gensel = true) (live : t.svc.state ≠ .fenced) :
    t.writeBrewCtrl now 1 = t.recipeLoad now .reg t.sched.recipeSrc := by
  simp [Tun.writeBrewCtrl, bitsOf, gen, live]

theorem Tun.writeBrewCtrl_stop (now : Nat) (gen : t.rack.gensel = true) :
    t.writeBrewCtrl now 2 = t.brewStop now .reg t.sched.brewTarget := by
  simp [Tun.writeBrewCtrl, bitsOf, gen]

theorem Tun.writeBrewCtrl_start (now : Nat) (gen : t.rack.gensel = true) (live : t.svc.state ≠ .fenced) :
    t.writeBrewCtrl now 3 = t.brewStart now .reg t.sched.brewTarget := by
  simp [Tun.writeBrewCtrl, bitsOf, gen, live]

theorem Tun.writeBrewCtrl_discard (now : Nat) (gen : t.rack.gensel = true) : t.writeBrewCtrl now 4 = t.shadowDiscard now .reg := by
  simp [Tun.writeBrewCtrl, bitsOf, gen]

/-! ### Loads and discards that are refused, and a discard -/

theorem Tun.recipeLoad_during_load {who : Issuer} (now : Nat) (src : Dword) (loading : t.sched.loading.isSome = true) :
    t.recipeLoad now who src = t.loadDone now who 0x070B 0 := by
  simp [Tun.recipeLoad, loading]

theorem Tun.recipeLoad_during_start {who : Issuer} (now : Nat) (src : Dword) (idle : t.sched.loading = none)
    (start : t.sched.startBrew.isSome = true) : t.recipeLoad now who src = t.loadDone now who 0x0706 0 := by
  simp [Tun.recipeLoad, idle, start]

theorem Tun.shadowDiscard_during_start {who : Issuer} (now : Nat) (start : t.sched.startBrew.isSome = true) :
    t.shadowDiscard now who = t.planeDone now who 0x0706 := by
  simp [Tun.shadowDiscard, start]

theorem Tun.shadowDiscard_no_start {who : Issuer} (now : Nat) (idle : t.sched.startBrew = none) :
    t.shadowDiscard now who = (t.modSched fun p => { p with shadowValid := false, shadow := none }).planeDone now who 0 := by
  simp [Tun.shadowDiscard, idle]

/-- Settles O48: by BREW_CTRL a refusal writes its status alone, as a command it ends with its record. -/
theorem planeRefusals : Obligations.PlaneRefusals := by
  unfold Obligations.PlaneRefusals
  refine ⟨fun s x => ⟨fun window live gen => ⟨fun pending => ?loadPending, fun idle armed => ?loadArmed⟩,
    fun c alone serves started hop noLoad noStart => ⟨fun pending => ?commandPending, fun idle armed => ?commandArmed⟩⟩,
    fun s x => ⟨fun window gen => ⟨fun idle => ?discard, fun armed => ?discardArmed⟩,
    fun c alone serves started hop noLoad noStart => ⟨fun idle => ?commandDiscard, fun armed => ?commandDiscardArmed⟩⟩⟩
  case loadPending =>
    exact exec_planeRegister rfl window ((Tun.writeBrewCtrl_load _ gen live).trans (Tun.recipeLoad_during_load _ _ pending))
  case loadArmed =>
    exact exec_planeRegister rfl window ((Tun.writeBrewCtrl_load _ gen live).trans (Tun.recipeLoad_during_start _ _ idle armed.2))
  case commandPending =>
    refine answers_planeCommand rfl (alone.startedCmd serves started hop) noLoad (fun h => noStart h.2) fun t e only => ?_
    obtain ⟨recorded, sched⟩ := alone.loadDone s.now (st := 0x070B) (by decide) 0
    rw [e, Tun.recipeLoad_during_load _ _ pending, sched]
    exact ⟨recorded, rfl, rfl, rfl, rfl, rfl, rfl, only⟩
  case commandArmed =>
    refine answers_planeCommand rfl (alone.startedCmd serves started hop) noLoad (fun h => noStart h.2) fun t e only => ?_
    obtain ⟨recorded, sched⟩ := alone.loadDone s.now (st := 0x0706) (by decide) 0
    rw [e, Tun.recipeLoad_during_start _ _ idle armed.2, sched]
    exact ⟨recorded, idle, rfl, rfl, rfl, rfl, rfl, only⟩
  case discard =>
    exact exec_planeRegister rfl window ((Tun.writeBrewCtrl_discard _ gen).trans (Tun.shadowDiscard_no_start _ idle))
  case discardArmed =>
    exact exec_planeRegister rfl window ((Tun.writeBrewCtrl_discard _ gen).trans (Tun.shadowDiscard_during_start _ armed.2))
  case commandDiscard =>
    refine answers_planeCommand rfl (alone.startedCmd serves started hop) noLoad (fun h => noStart h.2) fun t e only => ?_
    obtain ⟨recorded, sched⟩ := alone.planeDone (fun p => { p with shadowValid := false, shadow := none }) s.now 0
    rw [e, Tun.shadowDiscard_no_start _ idle, sched]
    exact ⟨recorded, rfl, rfl, rfl, only⟩
  case commandDiscardArmed =>
    refine answers_planeCommand rfl (alone.startedCmd serves started hop) noLoad (fun h => noStart h.2) fun t e only => ?_
    obtain ⟨recorded, sched⟩ := alone.planeDone id s.now 0x0706
    rw [e, Tun.shadowDiscard_during_start _ armed.2]
    exact ⟨recorded, sched ▸ rfl, sched ▸ rfl, sched ▸ rfl, sched ▸ rfl, only⟩

end Sys2Proof.Machine
end

section
/-! SUPPORT. Recipes loaded, armed, started and stopped: what a load, a start, a stop, the check of the peers, Brew F and a release leave of
the plane (12 R479-R491). -/

namespace Sys2Proof.Machine
open Sys2Proof

variable {t u : Tun} {s : State} {x : TunId} {now : Nat}

/-! ### Loads (12 R479, R480) -/

theorem natLE_lt (bs : List Byte) : natLE bs < 256 ^ bs.length := by
  induction bs with
  | nil => simp [natLE]
  | cons b bs ih =>
    have byte := b.isLt
    rw [natLE, List.length_cons, Nat.pow_succ']
    omega

/-- A field of `k` bytes holds a number of `k` bytes. -/
theorem leAt_lt (bs : List Byte) (off k : Nat) : leAt bs off k < 256 ^ k :=
  Nat.lt_of_lt_of_le (natLE_lt _) (Nat.pow_le_pow_right (by decide) (List.length_take_le ..))

theorem toNat_ofNat_leAt (bs : List Byte) (off : Nat) : (BitVec.ofNat 64 (leAt bs off 8)).toNat = leAt bs off 8 :=
  Nat.mod_eq_of_lt (leAt_lt bs off 8)

/-- The image is read through the host port. -/
theorem Tun.recipeLoad_reads {who : Issuer} (src : Dword) (idle : t.sched.loading = none) (noStart : t.sched.startBrew = none)
    (reads : t.hostReads (some 0) = true) :
    t.recipeLoad now who src = (t.modSched fun p => { p with loading := some who, loadSrc := src }).emit (.hostRead 0 0 src.toNat 64) := by
  simp [Tun.recipeLoad, idle, noStart, reads]

/-- The read of the image fails. -/
theorem Tun.recipeLoaded_unread (loading : t.sched.loading = some .reg) :
    t.recipeLoaded now none = t.modSched fun p => { p with loading := none, loadStatus := 0x0704, loadReason := 1 } := by
  simp only [Tun.recipeLoaded, loading]
  simp [Tun.loadDone, Tun.modSched]

/-- No check of an image looks at the plane (12 Table 12-5). -/
theorem Tun.headerCheck_modSched (f : Sched → Sched) (im : List Byte) : (t.modSched f).headerCheck im = t.headerCheck im := rfl
theorem Tun.recordCheck_modSched (f : Sched → Sched) (im : List Byte) (r : Recipe) :
    (t.modSched f).recordCheck im r = t.recordCheck im r := rfl

/-- The image passes every check and its Recipe is the shadow. -/
theorem Tun.recipeLoaded_passes {im : List Byte} (loading : t.sched.loading = some .reg) (header : t.headerCheck im = none)
    (records : t.recordCheck im (Recipe.ofImage im) = none) :
    t.recipeLoaded now (some im) = t.modSched fun p =>
      { p with loading := none, shadow := some (Recipe.ofImage im), shadowValid := true, loadStatus := 0, loadReason := 0 } := by
  simp only [Tun.recipeLoaded, loading, Tun.headerCheck_modSched, header, Tun.recordCheck_modSched, records]
  simp [Tun.loadDone, Tun.modSched]

/-! ### A start and a stop (12 R488, R491) -/

@[simp] theorem Tun.alignComplete_sched : t.alignComplete.sched = t.sched := rfl

theorem Tun.keeperAlign_plane (was : Bool) : (t.keeperAlign was).sched.plane = t.sched.plane := by
  unfold Tun.keeperAlign
  split
  · split
    · split <;> rfl
    · rfl
  · split <;> rfl

/-- A designation that comes into force leaves the state of the plane. -/
theorem Tun.keeperTakes_plane : t.keeperTakes.sched.plane = t.sched.plane := Tun.keeperAlign_plane _

theorem Tun.brewStart_accepted {who : Issuer} {f : BitVec 48} (ok : t.startRefusal f = none) :
    t.brewStart now who f = t.keeperTakes.modSched fun p =>
      { p with startBrew := some f, starter := who, armState := 1, plane := if p.plane = .stopping then .stopping else .armed } := by
  simp only [Tun.brewStart, ok]

/-- A running Recipe stops at the Brew asked for, or at the next one when that has passed (12 R491). -/
theorem Tun.brewStop_running (b : BitVec 48) (running : t.sched.plane = .running) :
    t.brewStop now .reg b = t.modSched fun p => { p with
      plane := .stopping, lastStatus := 0, stopBrew := some (if b.toNat ≤ t.sched.brew.toNat then t.sched.brew + 1 else b) } := by
  simp only [Tun.brewStop, running]
  rfl

/-! ### The check of the peers (12 R489) -/

/-- A mismatch moves ARM_STATE to 2. -/
theorem Tun.armMismatch_found {bad : Bool} (h : bad = true) : (t.armMismatch bad).sched.armState = 2 := by rw [h]; rfl

/-- A peer without an answer has not agreed (assumption 97, DEDUCED). -/
theorem Tun.armCheck_unanswered {f : BitVec 48} {as : List ArmAnswer} {id : Nat} (start : t.sched.startBrew = some f)
    (peer : id ∈ t.armPeers) (silent : as.find? (fun a => a.port == id) = none) : (t.armCheck now as).sched.armState = 2 := by
  simp only [Tun.armCheck, start]
  exact Tun.armMismatch_found (List.any_eq_true.mpr ⟨id, peer, by simp only [silent]⟩)

/-- A peer that shows a mismatch passes it on. -/
theorem Tun.armRecheck_mismatch {as : List ArmAnswer} {a : ArmAnswer} (start : t.sched.startBrew.isSome = true) (peer : a.port ∈ t.armPeers)
    (answer : a ∈ as) (shows : a.state = 2) : (t.armRecheck now as).sched.armState = 2 := by
  rw [Tun.armRecheck, if_pos start]
  exact Tun.armMismatch_found (List.any_eq_true.mpr ⟨a.port, peer, List.any_eq_true.mpr ⟨a, answer, by simp [shows]⟩⟩)

/-! ### Brew F (12 R485, R488) -/

/-- A start that BREW_CTRL asked for ends (12 Table 12-9). -/
theorem Tun.endStart_register (st : Half) (start : t.sched.startBrew.isSome = true) (starter : t.sched.starter = .reg) :
    t.endStart now st = t.modSched fun p => { p with startBrew := none, armState := 0, starter := .reg, lastStatus := st } := by
  simp only [Tun.endStart, start, starter]
  rfl

theorem Tun.endStart_none (st : Half) (noStart : t.sched.startBrew = none) : t.endStart now st = t := by
  simp [Tun.endStart, noStart]

@[simp] theorem Tun.wakeCircuits_sched (now : Nat) : (t.wakeCircuits now).sched = t.sched :=
  (Tun.same_wakeCircuits (part := .sched) (by decide) now).mpr Part.same_self

/-- The armed Recipe becomes the loaded one, and the start that BREW_CTRL asked for completes. -/
theorem Tun.armedDue_runs {r : Recipe} (armed : t.sched.plane = .armed) (due : t.sched.startBrew = some t.sched.brew)
    (agreed : t.sched.armState = 1) (starter : t.sched.starter = .reg) (recipe : t.sched.toArm = some r)
    (ready : t.bindingsReady r = true) :
    (t.armedDue now).sched = { t.sched with
      plane := .running, loaded := some r, storeBad := false, shadow := if t.sched.shadowValid then none else t.sched.shadow,
      shadowValid := false, startBrew := none, armState := 0, starter := .reg, lastStatus := 0 } := by
  rw [Tun.armedDue, if_pos ⟨armed, due⟩]
  simp only [Tun.armedBegin, armed, agreed, recipe, ready, ne_eq, not_true_eq_false, if_false]
  rw [Tun.endStart_register _ (by simp [Tun.modSched, due]) (by simpa [Tun.modSched] using starter)]
  simp [Tun.modSched]

/-! ### A release that is due (12 R485, R486) -/

/-- A release with no binding to end. -/
theorem Tun.releaseWork_idle (noBinding : t.sched.runBinds = []) :
    t.releaseWork now = t.modSched fun p => { p with stopBrew := none, releaseDue := none, runBinds := [] } := by
  simp [Tun.releaseWork, noBinding]

section
variable (noStart : t.sched.startBrew = none) (noBinding : t.sched.runBinds = []) (noCommand : t.bm.cmds = [])
include noStart noBinding noCommand

/-- The plane stops for a cause of R485, with its status. -/
theorem Tun.planeDue_released {st : Half} (due : t.sched.releaseDue = some st) (running : t.sched.plane = .running) :
    t.planeDue now = t.modSched fun p =>
      { p with plane := .stopped, lastStatus := st, stopBrew := none, releaseDue := none, runBinds := [] } := by
  simp only [Tun.planeDue, due]
  rw [Tun.releaseStopped, if_neg (by simp [running])]
  dsimp only
  rw [Tun.releaseWork_idle (by exact noBinding), Tun.endStart_none _ (by exact noStart), Tun.arbitrate_empty _ _ (by exact noCommand)]
  rfl

/-- The plane stops at its stop Brew. -/
theorem Tun.planeDue_stopped {b : BitVec 48} (noRelease : t.sched.releaseDue = none) (stopping : t.sched.plane = .stopping)
    (due : t.sched.stopBrew = some b) (past : b.toNat ≤ t.sched.brew.toNat) :
    t.planeDue now = t.modSched fun p => { p with plane := .stopped, stopBrew := none, releaseDue := none, runBinds := [] } := by
  simp only [Tun.planeDue, noRelease, stopping, due, if_pos past]
  rw [Tun.releaseWork_idle (by exact noBinding), Tun.arbitrate_empty _ _ (by exact noCommand)]
  simp [Tun.modSched, noStart]

end

/-- Settles O40, by what each operation leaves of the plane. -/
theorem planeCommandsComplete : Obligations.PlaneCommandsComplete := by
  unfold Obligations.PlaneCommandsComplete
  intro s x u
  refine ⟨fun hold full gen => ?registers, fun c alone serves started => ?commands, fun loading => ?loaded, fun f as id start peer => ?peers,
    fun r armed due agreed starter recipe ready => ?begins, fun noStart noBinding noCommand => ?release⟩
  case registers =>
    have window : WindowOpen u := ⟨hold, by simp [full], by simp [full]⟩
    have live : u.svc.state ≠ .fenced := by simp [full]
    refine ⟨fun idle noStart reads => ?load, fun ok stopped => ?start, fun running => ?halts, fun noStart => ?discard⟩
    case load =>
      refine answers_planeRegister rfl window fun t e only => ?_
      rw [e, Tun.writeBrewCtrl_load _ gen live, Tun.recipeLoad_reads _ idle noStart reads]
      exact ⟨rfl, rfl, rfl, only⟩
    case start =>
      refine answers_planeRegister rfl window fun t e only => ?_
      rw [e, Tun.writeBrewCtrl_start _ gen live, Tun.brewStart_accepted ok]
      exact ⟨if_neg (by rw [Tun.keeperTakes_plane, stopped]; decide), rfl, rfl, only⟩
    case halts =>
      refine answers_planeRegister rfl window fun t e only => ?_
      rw [e, Tun.writeBrewCtrl_stop _ gen, Tun.brewStop_running _ running]
      exact ⟨rfl, only⟩
    case discard =>
      refine answers_planeRegister rfl window fun t e only => ?_
      rw [e, Tun.writeBrewCtrl_discard _ gen, Tun.shadowDiscard_no_start _ noStart]
      exact ⟨rfl, only⟩
  case commands =>
    refine ⟨fun hop idle noStart reads => ?_, fun hop idle noStart _ => ?_⟩
    · refine answers_planeCommand rfl (alone.startedCmd serves started hop) (by simp [u, idle]) (by simp [u, noStart]) fun t e only => ?_
      rw [e, Tun.recipeLoad_reads _ idle noStart reads]
      exact ⟨rfl, by rw [toNat_ofNat_leAt]; rfl, only⟩
    · refine answers_planeCommand rfl (alone.startedCmd serves started hop) (by simp [u, idle]) (by simp [u, noStart]) fun t e only => ?_
      obtain ⟨recorded, sched⟩ := alone.planeDone (fun p => { p with shadowValid := false, shadow := none }) s.now 0
      rw [e, Tun.shadowDiscard_no_start _ noStart, sched]
      exact ⟨rfl, rfl, recorded, only⟩
  case loaded =>
    refine ⟨answers_tun rfl fun t e only => ?_, fun im header records => answers_tun rfl fun t e only => ?_⟩
    · rw [e, Tun.recipeLoaded_unread loading]
      exact ⟨rfl, only⟩
    · rw [e, Tun.recipeLoaded_passes loading header records]
      exact ⟨rfl, only⟩
  case peers =>
    refine ⟨fun silent => ?_, fun a answer port shows => ?_⟩
    · exact answers_tun rfl fun t e only => ⟨e ▸ Tun.armCheck_unanswered start peer silent, only⟩
    · exact answers_tun rfl fun t e only =>
        ⟨e ▸ Tun.armRecheck_mismatch (by rw [start]; rfl) (port ▸ peer) answer shows, only⟩
  case begins =>
    refine answers_tun rfl fun t e only => ?_
    rw [e, Tun.armedDue_runs armed due agreed starter recipe ready]
    exact ⟨rfl, rfl, rfl, rfl, rfl, only⟩
  case release =>
    refine ⟨fun st due running => answers_tun rfl fun t e only => ?_,
      fun b noRelease stopping due past => answers_tun rfl fun t e only => ?_⟩
    · rw [e, Tun.planeDue_released noStart noBinding noCommand due running]
      exact ⟨by rw [← noBinding]; rfl, only⟩
    · rw [e, Tun.planeDue_stopped noStart noBinding noCommand noRelease stopping due past]
      exact ⟨by rw [← noBinding, ← noRelease]; rfl, only⟩

end Sys2Proof.Machine
end

section
/-! SUPPORT. The events of the scheduled plane: the Brew boundary and the markers, an engine's output sent in its slot, and the commands
that timed steps and bindings start (12 R444-R472, 15 R610). -/

namespace Sys2Proof.Machine
open Sys2Proof

variable {t u : Tun} {s : State} {x : TunId} {now : Nat}

/-! ### Alignment lost and the Brew boundary (12 R444, R453) -/

theorem Tun.alignLost_runs (runs : t.sched.plane = .running ∨ t.sched.plane = .stopping) :
    t.alignLost = t.modSched fun p => { p with aligned := false, goodRun := 0, wideRun := 0, releaseDue := some 0x0709 } := if_pos runs

theorem Tun.alignLost_rests (rests : ¬ (t.sched.plane = .running ∨ t.sched.plane = .stopping)) :
    t.alignLost = t.modSched fun p => { p with aligned := false, goodRun := 0, wideRun := 0 } := if_neg rests

/-- Of the plane, lost alignment changes what it says of the alignment and what is due. -/
theorem Tun.alignLost_sched :
    ∃ due, t.alignLost.sched = { t.sched with aligned := false, goodRun := 0, wideRun := 0, releaseDue := due } := by
  by_cases runs : t.sched.plane = .running ∨ t.sched.plane = .stopping
  · exact ⟨_, congrArg Tun.sched (Tun.alignLost_runs runs)⟩
  · exact ⟨_, congrArg Tun.sched (Tun.alignLost_rests runs)⟩

/-- The share of a plane that is STOPPED ends: the marker taken in it is noted. -/
theorem Tun.shareEnds_stopped (stopped : t.sched.plane = .stopped) : ∃ aligned missed good wide,
    t.shareEnds = t.modSched fun p => { p with
      markerOk := p.taken, taken := false, best := none, aligned := aligned, missedRun := missed, goodRun := good, wideRun := wide } := by
  unfold Tun.shareEnds
  extract_lets p missed ended
  split
  · exact ⟨_, _, _, _, Tun.alignLost_rests (by simp [show ended.sched.plane = .stopped from stopped])⟩
  · exact ⟨_, _, _, _, rfl⟩

theorem Tun.planeDue_idle (stopped : t.sched.plane = .stopped) (nothing : t.sched.releaseDue = none) : t.planeDue now = t := by
  simp only [Tun.planeDue, stopped, nothing]

theorem Tun.armedDue_idle (stopped : t.sched.plane = .stopped) : t.armedDue now = t := by
  simp [Tun.armedDue, stopped]

/-- The boundary of a plane that is STOPPED and has nothing due ends the share and moves the counter on. -/
theorem Tun.brewBoundary_stopped (counting : t.sched.counting = true) (stopped : t.sched.plane = .stopped)
    (nothing : t.sched.releaseDue = none) :
    t.brewBoundary now = t.shareEnds.modSched fun p => { p with brew := p.brew + 1, boundary := now } := by
  obtain ⟨_, _, _, _, ended⟩ := Tun.shareEnds_stopped stopped
  rw [Tun.brewBoundary, if_neg (by simp [counting]), Tun.planeDue_idle, Tun.armedDue_idle]
  all_goals rw [ended]; assumption

/-! ### Markers (12 R446-R452) -/

@[simp] theorem Tun.sendMarks_sched (now : Nat) (brew : BitVec 48) (kRow kCol hops : Byte) :
    (t.sendMarks now brew kRow kCol hops).sched = t.sched :=
  (Tun.same_sendMarks (part := .sched) (by decide) now brew kRow kCol hops).mpr Part.same_self

/-- A native marker is kept when it is the first of its share. -/
theorem Tun.markReceive_first {id : Nat} {b : List Byte} (serves : t.serving = true) (up : t.portUp id = true)
    (gen2 : (t.port id).genNow = false) (counting : t.sched.counting = true) (native : t.markNative (markOf now id b) = true)
    (follows : t.isKeeper = false) (noneTaken : t.sched.taken = false) (first : t.sched.best = none) :
    t.markReceive now id b = t.modSched fun p => { p with best := some (markOf now id b) } := by
  simp [Tun.markReceive, serves, up, gen2, counting, native, follows, noneTaken, Tun.modSched, first]

/-- What a Tun notes of the marker it takes, whatever the marker does to its alignment. -/
theorem Tun.takeMark_notes (m : Marker) :
    (t.takeMark m).sched.taken = true ∧ (t.takeMark m).sched.best = none ∧ (t.takeMark m).sched.parent = BitVec.ofNat 9 m.port ∧
      (t.takeMark m).sched.hops = BitVec.ofNat 4 (m.hops.toNat + 1) ∧ (t.takeMark m).sched.missedRun = 0 := by
  have lost (v : Tun) : v.alignLost.sched.taken = v.sched.taken ∧ v.alignLost.sched.best = v.sched.best ∧
      v.alignLost.sched.parent = v.sched.parent ∧ v.alignLost.sched.hops = v.sched.hops ∧
      v.alignLost.sched.missedRun = v.sched.missedRun := by
    obtain ⟨due, e⟩ := v.alignLost_sched
    rw [e]
    exact ⟨rfl, rfl, rfl, rfl, rfl⟩
  unfold Tun.takeMark
  extract_lets p port est e noted good wide timed
  split
  · exact ⟨rfl, rfl, rfl, rfl, rfl⟩
  · split
    · exact lost timed
    · split <;> exact ⟨rfl, rfl, rfl, rfl, rfl⟩

theorem Tun.markTake_takes {m : Marker} (serves : t.serving = true) (best : t.sched.best = some m) (follows : t.isKeeper = false) :
    t.markTake now = (t.takeMark m).sendMarks now m.brew m.keeperRow m.keeperCol (m.hops + 1) := by
  simp [Tun.markTake, best, follows, serves]

/-- With one port that takes markers, one marker is sent. -/
theorem Tun.sendMarks_one {id : Nat} (port : t.markPorts = [id]) (brew : BitVec 48) (kRow kCol hops : Byte) :
    t.sendMarks now brew kRow kCol hops = t.putOrdered now id ftMark (markPayload brew kRow kCol (BitVec.ofNat 8 t.row)
      (BitVec.ofNat 8 t.col.num) hops (BitVec.ofInt 32 ((now : Int) - t.sched.boundary))) := by
  simp only [Tun.sendMarks, port, List.foldl_cons, List.foldl_nil]

/-! ### An engine's output in its slot (12 R462) -/

/-- A payload that fits the first flit is one flit (09 R300). -/
theorem packetFlits_one (hdr : List Byte) {payload : List Byte} (cls : BitVec 3) (vc : Bool) (fits : payload.length ≤ 212) :
    packetFlits hdr payload cls vc =
      [{ fseq := 0, ftype := ftOnly, cls := cls, ringVc := vc, payload := flitPayload (hdr ++ payload) }] := by
  simp [packetFlits, flitCount, fits, cutMid, ftOf, List.take_of_length_le fits]

@[simp] theorem Tun.sendPort_sched (now o : Nat) (p : Packet) : (t.sendPort now o p).sched = t.sched :=
  (Tun.same_sendPort (part := .sched) (by decide) now o p).mpr Part.same_self

section
variable {id : Nat} (live : (t.port id).link = .linked) (up : (t.port id).up = true) (room : (t.port id).replayFull = false)
include live up room

/-- The only flit queued at a port that is up leaves it. -/
theorem Tun.pump_sent {h : HeldFlit} (queued : (t.port id).txq = [h]) : SentFlit t (t.pump now id) id h.ftype h.payload := by
  have held : (t.modPort id fun p => { p with
      txq := [], replay := p.replay ++ [{ h with fseq := (t.port id).nextSeq }], nextSeq := p.nextSeq + 1 }).port id = _ :=
    Tun.port_modPort_live _ (by simp [live])
  have sent := Tun.putFlit_sent _ now id { h with fseq := (t.port id).nextSeq } ((congrArg Port.link held :).trans live)
  have one : (t.port id).txq.length = 1 := by rw [queued]; rfl
  rw [Tun.pump, one]
  simp only [Tun.pumpN, queued, room, up, Bool.not_true, Bool.or_self, Bool.false_eq_true, if_false]
  unfold SentFlit
  split
  · rw [Tun.bump_out, Tun.peak_out]
    exact sent
  · rw [Tun.peak_out]
    exact sent

/-- A short packet that its port may send, with nothing before it, leaves in one flit. -/
theorem Tun.sendPort_sent {p : Packet} (key : t.pkeyEgress id p = true) (gen2 : (t.port id).genNow = false) (empty : (t.port id).txq = [])
    (fits : p.payload.length ≤ 212) : SentFlit t (t.sendPort now id p) id ftOnly (flitPayload (p.header ++ p.payload)) := by
  have queued : (t.modPort id fun x => { x with txq := x.txq ++ packetFlits p.header p.payload p.cls false }).port id = _ :=
    Tun.port_modPort_live _ (by simp [live])
  rw [Tun.sendPort, if_neg (by simp [key])]
  simp only [gen2, Bool.false_eq_true, if_false]
  exact Tun.pump_sent (h := { fseq := 0, ftype := ftOnly, cls := p.cls, ringVc := false, payload := flitPayload (p.header ++ p.payload) })
    ((congrArg Port.link queued :).trans live) ((congrArg Port.up queued :).trans up) ((congrArg Port.replayFull queued :).trans room)
    (by rw [queued, empty, packetFlits_one _ _ _ fits]; rfl)

end

/-- The slot of a circuit that carries one packet takes the only output, which is for it and fits. -/
theorem Tun.circuitSend_one {w : Dword} {o : EngineOut} (outputs : t.sched.outputs = [o]) (unit : o.unit = cirIn w)
    (port : o.port = cirOut w) (peer : o.pkt.dst.toNat = cirPeer w) (fits : o.pkt.payload.length ≤ 2048) :
    t.circuitSend now w 1 = (t.modSched fun p => { p with outputs := [] }).sendPort now (cirOut w)
      ({ o.pkt with circuit := true, slot := BitVec.ofNat 14 (cirSlot w) } : Packet).sealed := by
  have capacity : 2048 ≤ t.slotBytes (cirOut w) := by unfold Tun.slotBytes; split <;> decide
  have found : (t.sched.outputs.find? fun o => o.unit == cirIn w && o.port == cirOut w && o.pkt.dst.toNat == cirPeer w &&
      decide (o.pkt.payload.length ≤ t.slotBytes (cirOut w))) = some o := by
    simp [outputs, unit, port, peer, Nat.le_trans fits capacity]
  simp only [Tun.circuitSend, found]
  simp [Tun.modSched, outputs]

theorem Tun.engineSlot_sends {n : Nat} {r : Recipe} {w : Dword} (recipe : t.sched.inForce = some r) (record : r.circuits[n]? = some w)
    (kind : cirKind w = 2) (runs : t.suspended w = false) : t.engineSlot now n = t.circuitSend now w (cirPackets w) := by
  simp [Tun.engineSlot, recipe, record, kind, runs]

/-! ### Commands that the plane starts (12 R470, 15 R610) -/

@[simp] theorem Tun.modSched_sched (f : Sched → Sched) : (t.modSched f).sched = f t.sched := rfl

theorem Tun.modCmd_only {c : Cmd} (only : t.bm.cmds = [c]) (f : Cmd → Cmd) : (t.modCmd c.id f).bm.cmds = [f c] := by
  simp [Tun.modCmd, Tun.modBm, only]

@[simp] theorem Tun.startTimed_sched (c : Cmd) (us : List Nat) (p : Pre) : (t.startTimed c us p).sched = t.sched :=
  (Tun.same_startTimed (part := .sched) (by decide) c us p).mpr Part.same_self

/-- The only command, started on the units it is given. -/
theorem Tun.startTimed_only {c k : Cmd} (us : List Nat) (p : Pre) (only : t.bm.cmds = [k]) (same : k.id = c.id) :
    ∃ e, (t.startTimed c us p).bm.cmds = [e] ∧ e.id = k.id ∧ e.queue = k.queue ∧ e.phase = .started ∧ e.timed = true ∧ e.units = us := by
  unfold Tun.startTimed
  rw [← same]
  refine ⟨_, Tun.modCmd_only ?_ _, rfl, rfl, rfl, rfl, rfl⟩
  exact (foldl_keeps (fun v : Tun => v.bm.cmds) _ _ _ (by exact fun _ _ => rfl)).trans only

@[simp] theorem Tun.fetchNext_sched (q : Nat) (admin : List Byte) (fails : Bool) : (t.fetchNext q admin fails).2.sched = t.sched := rfl

@[simp] theorem Tun.fetchNext_id (q : Nat) (admin : List Byte) (fails : Bool) : (t.fetchNext q admin fails).1.id = t.bm.nextCmd := rfl

/-- The command fetched is the last of Brewmaster's. -/
@[simp] theorem Tun.fetchNext_cmds (q : Nat) (admin : List Byte) (fails : Bool) :
    (t.fetchNext q admin fails).2.bm.cmds = t.bm.cmds ++ [(t.fetchNext q admin fails).1] := rfl

/-- With none fetched already, the next descriptor of a queue is fetched now. -/
theorem Tun.nextOf_fetches {q : Nat} (noneFetched : t.bm.cmds = []) (held : (t.queue q).held ≠ 0) :
    t.nextOf q = some ((t.fetchNext q [] false).1, (t.fetchNext q [] false).2) := by
  simp [Tun.nextOf, noneFetched, held]

/-- A timed step or a binding marks the command it starts and starts it. -/
theorem Tun.startTimed_marked {c : Cmd} (d : Cmd) (us : List Nat) (p : Pre) (only : t.bm.cmds = [c]) (same : c.id = d.id) :
    ∃ e, ((t.modCmd c.id fun k => { k with timed := true }).startTimed d us p).bm.cmds = [e] ∧ e.id = c.id ∧ e.queue = c.queue ∧
      e.phase = .started ∧ e.timed = true ∧ e.units = us :=
  Tun.startTimed_only (k := { c with timed := true }) us p (Tun.modCmd_only only _) same

/-- The slot of a step whose unit is free starts the next command of its queue. -/
theorem Tun.timedStep_starts {n : Nat} {r : Recipe} {w : Dword} {c : Cmd} {v : Tun} {p : Pre} (starts : t.startsCommands = true)
    (recipe : t.sched.inForce = some r) (record : r.steps[n]? = some w) (resident : (t.ctx (stepCtx w)).state = .resident)
    (valid : (t.queue (stepQueue w)).valid = true) (free : t.sched.runSteps = []) (noneHeld : t.bm.held = [])
    (next : t.nextOf (stepQueue w) = some (c, v))
    (ok : (v.modCmd c.id fun k => { k with timed := true }).timedChecks { c with timed := true } = .ok p) :
    t.timedStep now n = (((v.modCmd c.id fun k => { k with timed := true }).startTimed { c with timed := true } [stepUnit w] p).modSched
      fun k => { k with runSteps := k.runSteps ++ [{ unit := stepUnit w, cmd := c.id }] }) := by
  simp [Tun.timedStep, recipe, record, starts, resident, valid, free, noneHeld, next, ok]

/-- The PUSH_COLLECTIVE that was fetched already is the next of its queue. -/
theorem Tun.nextPush_waiting {c : Cmd} (only : t.bm.cmds = [c]) (waits : c.running = false) (push : c.op = 0x48) :
    t.nextPush c.queue = some (c, t) := by
  simp [Tun.nextPush, only, waits, push]

/-- The first slot of a binding whose context is pinned starts the next PUSH_COLLECTIVE of its group's queue. -/
theorem Tun.bindingStart_starts {n : Nat} {r : Recipe} {w : Dword} {g : Group} {c : Cmd} {v : Tun} {p : Pre}
    (starts : t.startsCommands = true) (recipe : t.sched.inForce = some r) (record : r.bindings[n]? = some w)
    (group : t.group (bindGroup w) = some g) (next : t.nextPush g.queue = some (c, v)) (pinned : (v.ctx (bindCtx w)).pin = true)
    (ok : (v.modCmd c.id fun k => { k with timed := true }).timedChecks { c with timed := true } = .ok p) :
    t.bindingStart now n = (((v.modCmd c.id fun k => { k with timed := true }).startTimed c
      (pipeList (bindPipes w)) p).modSched fun k => { k with runBinds := k.runBinds ++ [(c.id, bindPipes w)] }) := by
  simp [Tun.bindingStart, recipe, record, starts, group, next, pinned, ok]

/-- A command past its budget is marked once and counted; without outputs that wait nothing leaves late (12 R462, R472). -/
theorem Tun.budgetEnd_marks {id un : Nat} (step : t.sched.runSteps = [⟨un, id, false⟩]) (noneOut : t.sched.outputs = []) :
    (t.budgetEnd now id).sched =
      { t.sched with runSteps := [⟨un, id, true⟩], stepOverrun := satInc t.sched.stepOverrun } := by
  simp [Tun.budgetEnd, step, Tun.lateOutputs, Tun.modSched, Tun.modCmd, Tun.modBm, noneOut]

/-- Settles O39, by what each event leaves of the plane, its ports and its commands. -/
theorem brewEventsComplete : Obligations.BrewEventsComplete := by
  unfold Obligations.BrewEventsComplete
  intro s x u
  refine ⟨fun counting stopped nothing => ?boundary, fun id serves keeper ref counting port live => ?keeper,
    fun id b serves up gen2 counting native follows noneTaken first => ?receive, fun m serves best follows => ?take,
    fun aligned follows => ?loss,
    fun n r w o recipe record kind one runs outputs unit port peer key gen2 live up empty room fits => ?slot,
    fun n r w p starts recipe record resident valid held free noneHeld noneFetched ok => ?step,
    fun id un step noneOut => ?budget, fun n r w g c p starts recipe record group only queue waits push pinned ok => ?binding⟩
  case boundary =>
    refine answers_tun rfl fun t e only => ?_
    obtain ⟨_, _, _, _, ended⟩ := Tun.shareEnds_stopped stopped
    rw [e, Tun.brewBoundary_stopped counting stopped nothing, ended]
    exact ⟨rfl, rfl, rfl, rfl, rfl, only⟩
  case keeper =>
    refine answers_tun rfl fun t e only => ?_
    rw [e, Tun.keeperMark, if_pos ⟨serves, keeper, ref, counting⟩, Tun.sendMarks_one port]
    exact ⟨Tun.putOrdered_sent _ _ live, only⟩
  case receive =>
    refine answers_tun rfl fun t e only => ?_
    rw [e, Tun.markReceive_first serves up gen2 counting native follows noneTaken first]
    exact ⟨rfl, only⟩
  case take =>
    refine answers_tun rfl fun t e only => ?_
    obtain ⟨taken, noBest, parent, hops, missed⟩ := Tun.takeMark_notes (t := u) m
    rw [e, Tun.markTake_takes serves best follows, Tun.sendMarks_sched]
    exact ⟨taken, noBest, parent, hops, missed, only⟩
  case loss =>
    refine answers_tun rfl fun t e only => ?_
    obtain ⟨due, lost⟩ := u.alignLost_sched
    rw [e, Tun.alignLossEvent, if_pos ⟨aligned, by simpa using follows⟩]
    exact ⟨by rw [lost], fun running => by rw [Tun.alignLost_runs (.inl running)]; rfl, only⟩
  case slot =>
    refine answers_tun rfl fun t e only => ?_
    rw [e, Tun.engineSlot_sends recipe record kind runs, one,
      Tun.circuitSend_one outputs unit port peer (Nat.le_trans (m := 212) fits (by decide))]
    have sent := Tun.sendPort_sent (t := u.modSched fun p => { p with outputs := [] }) (now := s.now) live up room key gen2 empty fits
    exact ⟨by rw [Tun.sendPort_sched]; rfl, sent, only⟩
  case step =>
    refine answers_tun rfl fun t e only => ?_
    rw [e, Tun.timedStep_starts starts recipe record resident valid free noneHeld (Tun.nextOf_fetches noneFetched held) ok]
    have fetched := (u.fetchNext_cmds (stepQueue w) [] false).trans (congrArg (· ++ [_]) noneFetched)
    obtain ⟨k, cmds, hid, hqueue, phase, timed, units⟩ := Tun.startTimed_marked
      { (u.fetchNext (stepQueue w) [] false).1 with timed := true } [stepUnit w] p fetched rfl
    refine ⟨?_, ⟨k, cmds, hid, hqueue, phase, timed, units⟩, only⟩
    rw [Tun.modSched_sched, Tun.startTimed_sched, Tun.modCmd_sched, Tun.fetchNext_sched]
    simp [free]
  case budget =>
    refine answers_tun rfl fun t e only => ?_
    rw [e, Tun.budgetEnd_marks step noneOut]
    exact ⟨rfl, rfl, only⟩
  case binding =>
    refine answers_tun rfl fun t e onlyTun => ?_
    rw [e, Tun.bindingStart_starts starts recipe record group (queue ▸ Tun.nextPush_waiting only waits push) pinned ok]
    obtain ⟨k, cmds, hid, -, phase, timed, units⟩ := Tun.startTimed_marked c (pipeList (bindPipes w)) p only rfl
    refine ⟨?_, ⟨k, cmds, hid, phase, timed, units⟩, onlyTun⟩
    rw [Tun.modSched_sched, Tun.startTimed_sched, Tun.modCmd_sched]

end Sys2Proof.Machine
end

section
/-! SUPPORT. Doorbells: what arbitration leaves alone of the registers they change, what a producer doorbell makes of its queue and a head
doorbell of its ring, and the doorbells that come as packets (13 R502-R505, R521). -/

namespace Sys2Proof.Machine
open Sys2Proof

variable {t u : Tun} {s : State} {x : TunId} {now : Nat}

/-! ### What arbitration keeps -/

/-- What doorbells change beside the rings: the queues and the count of stale indices. -/
def Tun.doorbells (t : Tun) : Tab Queue × Byte := (t.bm.queues, t.bm.dbStale)

/-- A fold keeps the queues when each of its steps does. -/
theorem Tun.doorbells_foldl {α : Type} {f : Tun → α → Tun} (h : ∀ t a, (f t a).doorbells = t.doorbells) (l : List α) (t : Tun) :
    (l.foldl f t).doorbells = t.doorbells := by
  induction l generalizing t with
  | nil => rfl
  | cons a l ih => exact (ih _).trans (h t a)

@[simp] theorem Tun.drop_doorbells (code port : Nat) (p : Packet) : (t.drop code port p).doorbells = t.doorbells := by
  unfold Tun.drop; dsimp only; split <;> rfl

@[simp] theorem Tun.queueOut_doorbells (ps : List Packet) : (t.queueOut now ps).doorbells = t.doorbells := by
  simp [Tun.queueOut, Tun.refillEngine, Tun.doorbells]

@[simp] theorem Tun.dropAnswered_doorbells (code port : Nat) (p : Packet) : (t.dropAnswered now code port p).doorbells = t.doorbells := by
  unfold Tun.dropAnswered
  split
  · split <;> simp
  · simp

@[simp] theorem Tun.formOwn_doorbells (p : Packet) : (t.formOwn now p).2.doorbells = t.doorbells := by
  unfold Tun.formOwn
  extract_lets own
  split
  · split
    · exact Tun.drop_doorbells ..
    · exact Tun.doorbells_foldl (fun _ _ => Tun.drop_doorbells ..) ..
  · split
    · exact Tun.dropAnswered_doorbells ..
    · split <;> rfl

@[simp] theorem Tun.originate_doorbells (p : Packet) : (t.originate now p).doorbells = t.doorbells := by simp [Tun.originate]

@[simp] theorem Tun.hostWrite_doorbells (fn : Option Nat) (a : Nat) (bs : List Byte) (p : Bool) :
    (t.hostWrite fn a bs p).doorbells = t.doorbells := by
  unfold Tun.hostWrite
  split
  · split <;> rfl
  · rfl

@[simp] theorem Tun.msi_doorbells (fn : Option Nat) (v : Nat) : (t.msi fn v).doorbells = t.doorbells :=
  congrArg (fun b : Bm => (b.queues, b.dbStale)) ((Tun.same_msi (part := .bm) (by decide) fn v).mpr Part.same_self)

@[simp] theorem Tun.putAt_doorbells (k : Ring) (i : Nat) (bs : List Byte) : (t.putAt now k i bs).doorbells = t.doorbells := by
  unfold Tun.putAt
  dsimp only
  split
  · simp
  · split <;> simp

@[simp] theorem Tun.modRing_doorbells (r : Nat) (f : Ring → Ring) : (t.modRing r f).doorbells = t.doorbells := rfl

@[simp] theorem Tun.putRecord_doorbells (r : Nat) (bs ext : List Byte) : (t.putRecord now r bs ext).doorbells = t.doorbells := by
  unfold Tun.putRecord
  split
  · simp [Tun.putSlot]
  · simp [Tun.putPair]

theorem Tun.bump_doorbells (g c i : Nat) : (t.bump g c i).doorbells = t.doorbells := rfl

@[simp] theorem Tun.writeRecord_doorbells (c : Cmd) (st : Half) (r0 : Dword) (r1 : BitVec 48) (ext : List Byte) :
    (t.writeRecord now c st r0 r1 ext).doorbells = t.doorbells := by
  unfold Tun.writeRecord
  extract_lets k r b counted put g
  have kept : put.doorbells = t.doorbells := (Tun.putRecord_doorbells ..).trans (Tun.bump_doorbells ..)
  split
  · rfl
  · split
    · exact (Tun.msi_doorbells ..).trans kept
    · exact kept

@[simp] theorem Tun.killWork_doorbells (c : Cmd) : (t.killWork c).doorbells = t.doorbells :=
  Tun.doorbells_foldl (fun _ _ => Tun.bump_doorbells ..) c.units _

@[simp] theorem Tun.killRerun_doorbells (c : Cmd) : (t.killRerun now c).doorbells = t.doorbells := by
  have killed : (t.killCmd c).doorbells = t.doorbells := by
    rw [Tun.killCmd, Tun.killWork_doorbells]
    split <;> rfl
  unfold Tun.killRerun
  dsimp only
  split
  · rw [Tun.writeRecord_doorbells]; exact killed
  · exact killed

@[simp] theorem Tun.startCmd_doorbells (c : Cmd) (us : List Nat) : (t.startCmd c us).doorbells = t.doorbells := by
  unfold Tun.startCmd
  extract_lets n counted marked run award
  have started : marked.doorbells = t.doorbells := by simp only [marked]; split <;> rfl
  have ran : run.doorbells = t.doorbells := (Tun.doorbells_foldl (by exact fun _ _ => rfl) us marked).trans started
  exact (show award.doorbells = run.doorbells by simp only [award]; split <;> rfl).trans ran

/-- No decision on the units of waiting commands moves an index of a queue. -/
theorem Tun.arbitrateN_doorbells (n : Nat) (tried : List Nat) : (t.arbitrateN now n tried).doorbells = t.doorbells := by
  induction n generalizing tried t with
  | zero => rfl
  | succ n ih =>
    unfold Tun.arbitrateN
    split
    · rfl
    · split
      · rw [ih, Tun.startCmd_doorbells]
      · split
        · rw [ih]
        · next ks _ =>
          have killed := Tun.doorbells_foldl (fun v c => Tun.killRerun_doorbells (t := v) (now := now) c) ks t
          rw [ih]
          split
          · rw [Tun.startCmd_doorbells, killed]
          · exact killed

theorem Tun.arbitrate_doorbells : (t.arbitrate now).doorbells = t.doorbells := by
  unfold Tun.arbitrate
  split
  · exact Tun.arbitrateN_doorbells ..
  · rfl

theorem Tun.arbitrate_queue (q : Nat) : (t.arbitrate now).queue q = t.queue q :=
  congrArg (fun d : Tab Queue × Byte => Tab.get ({} : Queue) d.1 q) Tun.arbitrate_doorbells

theorem Tun.arbitrate_dbStale : (t.arbitrate now).bm.dbStale = t.bm.dbStale := congrArg Prod.snd Tun.arbitrate_doorbells

/-! ### A doorbell on its queue or ring -/

/-- A queue left valid reads what was written to it. -/
theorem Tun.queue_modQueue (q : Nat) (f : Queue → Queue) (valid : (f (t.queue q)).valid = true) :
    (t.modQueue q f).queue q = f (t.queue q) :=
  Tab.get_set_listed _ _ _ fun e => by rw [e] at valid; cases valid

/-- A ring left valid reads what was written to it. -/
theorem Tun.ring_modRing (r : Nat) (f : Ring → Ring) (valid : (f (t.ring r)).valid = true) :
    (t.modRing r f).ring r = f (t.ring r) :=
  Tab.get_set_listed _ _ _ fun e => by rw [e] at valid; cases valid

theorem Tun.ring_modRing_other {r m : Nat} (f : Ring → Ring) (h : m ≠ r) : (t.modRing r f).ring m = t.ring m :=
  Tab.get_set_other _ _ _ h

/-- A queue has at most 2^15 - 1 free slots. -/
theorem queueFree_lt (q : Nat) (k : Queue) : queueFree q k < 32768 := by
  have depth : 2 ^ k.log2.toNat ≤ 2 ^ 15 := Nat.pow_le_pow_right (by decide) (by omega)
  unfold queueFree queueDepth
  split <;> omega

/-- The rows of Table 13-3, whatever is decided afterwards. -/
theorem Tun.producerDoorbell_outcome {q : Nat} (i : Half) (valid : (t.queue q).valid = true) :
    ProducerOutcome t ((t.producerDoorbell q i).arbitrate now) q i := by
  unfold ProducerOutcome
  extract_lets k n f
  have rows : t.producerDoorbell q i =
      if ¬ k.valid ∨ n = 0 then t
      else if n ≤ f then t.modQueue q fun k => { k with p := i }
      else if n < 32768 then
        t.modQueue q fun k => { k with p := k.p + BitVec.ofNat 16 f, overrun := true, overrunCount := satInc k.overrunCount }
      else t.modBm fun b => { b with dbStale := satInc b.dbStale } := rfl
  have bound : f < 32768 := queueFree_lt q k
  have acts (moves : n ≠ 0) : ¬ (¬ k.valid = true ∨ n = 0) := fun ignored => ignored.elim (fun unlisted => unlisted valid) moves
  rw [Tun.arbitrate_queue, Tun.arbitrate_dbStale, rows]
  refine ⟨fun same => ?ignored, fun ⟨moves, room⟩ => ?advanced, fun ⟨past, near⟩ => ?clipped, fun far => ?stale⟩
  case ignored =>
    rw [if_pos (.inr same)]
    exact ⟨rfl, rfl⟩
  case advanced =>
    rw [if_neg (acts (by omega)), if_pos room]
    exact ⟨Tun.queue_modQueue _ _ valid, rfl⟩
  case clipped =>
    rw [if_neg (acts (by omega)), if_neg (by omega), if_pos (by omega)]
    exact ⟨Tun.queue_modQueue _ _ valid, rfl⟩
  case stale =>
    rw [if_neg (acts (by omega)), if_neg (by omega), if_neg (by omega)]
    exact ⟨rfl, rfl⟩

/-- The ranges of R521. -/
theorem Tun.headDoorbell_outcome {r : Nat} (i : Half) (valid : (t.ring r).valid = true) : HeadOutcome t (t.headDoorbell r i) r i := by
  unfold HeadOutcome
  extract_lets k n a
  have ranges : t.headDoorbell r i =
      if ¬ k.valid ∨ n = 0 then t
      else if n ≤ a then t.modRing r fun k => { k with head := i }
      else if n < 32768 then t.modRing r fun k => { k with head := k.tail, overrun := true }
      else t.modBm fun b => { b with dbStale := satInc b.dbStale } := rfl
  have acts (moves : n ≠ 0) : ¬ (¬ k.valid = true ∨ n = 0) := fun ignored => ignored.elim (fun unlisted => unlisted valid) moves
  rw [ranges]
  refine ⟨fun ⟨moves, held⟩ => ?released, fun ⟨past, near⟩ => ?clipped, fun ⟨past, far⟩ => ?stale, fun same => ?ignored⟩
  case released =>
    rw [if_neg (acts (by omega)), if_pos held]
    exact ⟨Tun.ring_modRing _ _ valid, rfl⟩
  case clipped =>
    rw [if_neg (acts (by omega)), if_neg (by omega), if_pos (by omega)]
    exact ⟨Tun.ring_modRing _ _ valid, rfl⟩
  case stale =>
    rw [if_neg (acts (by omega)), if_neg (by omega), if_neg (by omega)]
    exact ⟨rfl, rfl⟩
  case ignored =>
    rw [if_pos (.inr same)]
    exact ⟨rfl, rfl⟩

/-- A head doorbell reaches no command, no other ring and nothing outside the Tun. -/
theorem Tun.headDoorbell_keeps (r : Nat) (i : Half) : (t.headDoorbell r i).bm.cmds = t.bm.cmds ∧
    (∀ m, m ≠ r → (t.headDoorbell r i).ring m = t.ring m) ∧ (t.headDoorbell r i).out = t.out := by
  unfold Tun.headDoorbell
  extract_lets k n a
  split
  · exact ⟨rfl, fun _ _ => rfl, rfl⟩
  · split
    · exact ⟨rfl, fun _ other => Tun.ring_modRing_other _ other, rfl⟩
    · split
      · exact ⟨rfl, fun _ other => Tun.ring_modRing_other _ other, rfl⟩
      · exact ⟨rfl, fun _ _ => rfl, rfl⟩

/-! ### A DOORBELL packet of one word (13 R502, R503) -/

/-- A command that may write a Tun's registers, where the proxy's BUSY stays as it is. -/
theorem answers_onTunP {c : Instr} {f g : Tun → Tun} {P : State → Prop} (e : exec c s = onTunP x s f) (h : f (s.tun x) = g (s.tun x))
    (quiet : (g (s.tun x)).proxy.busy = (s.tun x).proxy.busy) (p : P (s.modTun x g)) : Answers c s P :=
  .of_next (by rw [e, onTunP, State.modTun_congr h, State.relayProxy_same (by rw [State.tun_modTun, quiet])]) p

/-- A packet at its consumer that leaves the proxy as it is: the Tun takes it, and nothing else happens. -/
theorem Reaches.answers {c : Instr} {port : BitVec 9} {ty : BitVec 6} {p : Packet} {P : State → Prop}
    (e : exec c s = packetRow x port [ty] p s) (h : Reaches (s.tun x) ty p)
    (quiet : ((s.tun x).consume s.now port.toNat p).proxy.busy = (s.tun x).proxy.busy)
    (holds : ∀ t : State, t.tun x = (s.tun x).consume s.now port.toNat p → P t) : Answers c s P := by
  obtain ⟨takes, type, addressed, known⟩ := h
  exact answers_onTunP (g := fun u => u.consume s.now port.toNat p) e (if_pos ⟨takes, by simp [type], addressed, known⟩) quiet
    (holds _ (State.tun_modTun ..))

/-- One good word: what it asks for, then a decision on the units. -/
theorem Tun.takeDoorbell_one {p : Packet} (good : p.poison = false) (word : p.payload.length = 4) :
    t.takeDoorbell now p = (t.doorbellWord p (BitVec.ofNat 32 (leAt p.payload 0 4))).arbitrate now := by
  simp [Tun.takeDoorbell, good, word]

theorem Tun.doorbellWord_proxy (p : Packet) (w : Word) : (t.doorbellWord p w).proxy = t.proxy := by
  have same : Part.proxy.same t (t.doorbellWord p w) := by simp [Tun.doorbellWord, Tun.dbRefuse]
  exact same

theorem Tun.doorbellWord_producer {p : Packet} {w : Word} {q : Nat} (hq : (w.extractLsb' 0 10).toNat = q) (kind : w.getLsbD 15 = false)
    (takes : t.refusesSubmit q p.ctx = false) : t.doorbellWord p w = t.producerDoorbell q (w.extractLsb' 16 16) := by
  subst hq
  simp only [Tun.doorbellWord, bitsOf, kind, takes, Bool.false_eq_true, if_false]

theorem Tun.doorbellWord_head {p : Packet} {w : Word} {r : Nat} (hr : (w.extractLsb' 0 10).toNat = r) (kind : w.getLsbD 15 = true)
    (valid : (t.ring r).valid = true) (endpoint : (t.ring r).endpoint = true) (own : (t.ring r).dest = p.srcEp) :
    t.doorbellWord p w = t.headDoorbell r (w.extractLsb' 16 16) := by
  subst hr
  simp only [Tun.doorbellWord, bitsOf, kind, valid, endpoint, own, beq_self_eq_true, Bool.and_self, if_true]

theorem Tun.refusesSubmit_admits {q : Nat} {c : Byte} (group : q ≠ 0) (valid : (t.queue q).valid = true)
    (submit : (t.queue q).endpointSubmit = true) (own : (t.queue q).ctx = c) : t.refusesSubmit q c = false := by
  simp [Tun.refusesSubmit, group, valid, submit, own]

/-- What a DOORBELL packet of one good word answers. -/
theorem Reaches.answers_doorbell {port : BitVec 9} {p : Packet} {P : State → Prop} (h : Reaches (s.tun x) 0x09 p)
    (good : p.poison = false) (word : p.payload.length = 4)
    (holds : ∀ t : State, t.tun x = ((s.tun x).doorbellWord p (BitVec.ofNat 32 (leAt p.payload 0 4))).arbitrate s.now → P t) :
    Answers (.doorbellPacket x port p) s P := by
  have ⟨_, type, _⟩ := h
  have taken : (s.tun x).consume s.now port.toNat p = (s.tun x).takeDoorbell s.now p := by
    simp [Tun.consume, type, tyMgmt, tyFenceNotice, tyWrite, tyReadReq, tyAtomicReq, tyReadResp, tyAtomicResp, tyCmd, tyDoorbell]
  rw [Tun.takeDoorbell_one good word] at taken
  have quiet (w : Word) : (((s.tun x).doorbellWord p w).arbitrate s.now).proxy = (s.tun x).proxy :=
    ((Tun.same_arbitrate (part := .proxy) (by decide) s.now).mpr Part.same_self).trans (Tun.doorbellWord_proxy p w)
  exact h.answers rfl (by rw [taken, quiet]) fun t e => holds t (e.trans taken)

/-- Settles O44: arbitration moves no index, so the row of Table 13-3 is read off the doorbell alone. -/
theorem producerDoorbellTable : Obligations.ProducerDoorbellTable := by
  unfold Obligations.ProducerDoorbellTable
  intro s x u
  refine ⟨fun q i window valid => ?register, fun port p reach good word kind group valid submit own => ?packet⟩
  case register =>
    refine answers_planeRegister rfl window fun t e only => ⟨?_, only⟩
    rw [e]
    exact Tun.producerDoorbell_outcome i valid
  case packet =>
    refine reach.answers_doorbell good word fun t e => ?_
    rw [e, Tun.doorbellWord_producer rfl kind (Tun.refusesSubmit_admits group valid submit own)]
    exact Tun.producerDoorbell_outcome _ valid

/-- Settles O45: by its register a head doorbell reaches its ring alone, and with no command held no decision follows a packet's. -/
theorem headDoorbellRule : Obligations.HeadDoorbellRule := by
  unfold Obligations.HeadDoorbellRule
  intro s x u
  refine ⟨fun r i window valid => ?register, fun port p reach good idle word kind valid endpoint own => ?packet⟩
  case register =>
    refine answers_planeRegister rfl window fun t e only => ?_
    rw [e]
    exact ⟨Tun.headDoorbell_outcome i valid, only, Tun.headDoorbell_keeps ..⟩
  case packet =>
    refine reach.answers_doorbell good word fun t e => ?_
    rw [e, Tun.doorbellWord_head rfl kind valid endpoint own, Tun.arbitrate_empty _ _ ((Tun.headDoorbell_keeps ..).1.trans idle)]
    exact Tun.headDoorbell_outcome _ valid

end Sys2Proof.Machine
end

section
/-! SUPPORT. A command that waits in a queue which a step of the running Recipe names (13 R531, Table 13-11). -/

namespace Sys2Proof.Machine
open Sys2Proof

/-- A NOP of context 5, fetched from queue 1 and not started. -/
def waitingNop : Cmd := { id := 3, queue := 1, ctx := 5, op := 0, desc := List.replicate 64 0, index := 0 }

/-- A Tun in FULL that runs a Recipe with one step, which names queue 1 and its context 5; the queue has its fetched command waiting. -/
def stepQueueTun : Tun :=
  { col := .t0, svc := { state := .full }
    sched := { plane := .running, loaded := some { steps := [BitVec.ofNat 64 (5 * 2 ^ 34 + 2 ^ 24)] } }
    bm := {
      queues := ⟨[(1, { valid := true, log2 := 6, ctx := 5, cring := 1, p := 1, c := 1 })]⟩
      rings := ⟨[(1, { valid := true, log2 := 6, ctx := 5 })]⟩
      ctxs := ⟨[(5, { state := .resident, pkey := 7, share := 1, slot := some 2, blocks := [9] })]⟩
      cmds := [waitingNop] } }

/-- The tray of that Tun. -/
def stepQueueTray : State := { tuns := ⟨stepQueueTun, { col := .t1 }, { col := .t2 }, { col := .t3 }⟩ }

/-- Every check of Table 13-7 passes, and the command asks for no unit. -/
theorem stepQueueTun_checks : stepQueueTun.checks waitingNop = .ok {} := rfl

/-- Its slot alone starts the command: COMMAND_START changes nothing. -/
theorem stepQueueTray_waits : exec (.commandStart .t0 1) stepQueueTray = .next stepQueueTray := rfl

/-- Refutes O32: its clause on COMMAND_START is stated for every queue, also for one that a step of the running Recipe names. A command
fetched from that queue before the Recipe ran waits for its slot (13 R531, Table 13-11), whatever its checks say. -/
theorem not_queueCommandsComplete : ¬ Obligations.QueueCommandsComplete := by
  unfold Obligations.QueueCommandsComplete
  intro h
  obtain ⟨-, -, -, -, -, starts, -⟩ := h stepQueueTray .t0
  obtain ⟨t, answered, ⟨d, only, -, started, -⟩, -⟩ := starts 1 waitingNop ⟨rfl, rfl⟩ rfl rfl rfl rfl (by decide)
    (by decide +kernel) (by decide +kernel) (by decide +kernel) stepQueueTun_checks
  cases stepQueueTray_waits.symm.trans answered
  cases only
  cases started

end Sys2Proof.Machine
end

section
/-! SUPPORT. What the started token commands stage: table binds, tokens, text, Lauter state and the records of a sampling step (chapter 17). -/

namespace Sys2Proof.Machine
open Sys2Proof

variable {t : Tun} {s : State} {x : TunId} {c : Cmd} {now : Nat}

/-! ### A started command and what it stages -/

/-- The work of a started command is done on its Tun. -/
theorem answers_started {i : Instr} {op : Nat} {f : Cmd → Tun → Tun} {P : State → Prop} (e : exec i s = execOn x c.id [op] f s)
    (serves : (s.tun x).serving = true) (found : (s.tun x).cmd c.id = some c) (started : c.phase = .started) (hop : c.op = op)
    (p : ∀ t : State, t.tun x = f c (s.tun x) → OnlyTun x s t → P t) : Answers i s P :=
  answers_onTun (g := f c) e (by simp [Tun.startedCmd, found, serves, started, hop]) (p _ (State.tun_modTun ..) (onlyTun_mod ..))

/-- The command read back after a change that keeps its number. -/
theorem Tun.cmd_modCmd_found (found : t.cmd c.id = some c) (f : Cmd → Cmd) (named : ∀ k, (f k).id = k.id) :
    (t.modCmd c.id f).cmd c.id = some (f c) := by
  rw [Tun.cmd_modCmd _ _ _ fun k e => (named k).trans e, found, Option.map_some]

/-- Counted work changes the counters alone. -/
theorem Tun.work_eq (c : Cmd) (kind : List Nat) (n : Nat) : ∃ h, t.work c kind n = { t with hyd := h } := by
  unfold Tun.work
  split
  · exact ⟨_, rfl⟩
  · exact ⟨t.hyd, rfl⟩

@[simp] theorem Tun.work_cmd (c : Cmd) (kind : List Nat) (n id : Nat) : (t.work c kind n).cmd id = t.cmd id := by
  obtain ⟨h, e⟩ := t.work_eq c kind n
  rw [e]; rfl

/-- With every read answered the plan was made and carried out. -/
theorem Cmd.fetched_plan (fetched : c.fetched = true) : c.planned = true ∧ c.fetches.length = c.plan.length := by
  simp only [Cmd.fetched, Bool.and_eq_true, beq_iff_eq] at fetched
  obtain ⟨⟨planned, all⟩, -⟩ := fetched
  exact ⟨planned, all⟩

/-- Nothing is left to send. -/
theorem Tun.issueReads_fetched (found : t.cmd c.id = some c) (fetched : c.fetched = true) : t.issueReads now c.id = t := by
  obtain ⟨-, all⟩ := Cmd.fetched_plan fetched
  simp [Tun.issueReads, found, all, Tun.issueN]

/-- So the work goes on. -/
theorem Tun.withReads_fetched (found : t.cmd c.id = some c) (fetched : c.fetched = true) (plan : Tun → List Piece) (k : Cmd → Tun → Tun) :
    t.withReads now c plan k = k c t := by
  obtain ⟨planned, -⟩ := Cmd.fetched_plan fetched
  simp only [Tun.withReads, planned, if_true, Tun.issueReads_fetched found fetched, found, fetched]

/-! ### Table binds, Grist, Lauter -/

theorem Tun.tableWork_unbinds (unbind : byteAt c.desc 17 = 1) : t.tableWork now c = t.stage c.id 0 0 0 [] := by
  rw [Tun.tableWork]
  exact if_pos unbind

/-- An image that may be bound is staged with its slot (17 R666, R668). -/
theorem Tun.tableWork_binds {off len : Nat} (hoff : leAt c.desc 20 4 = off) (hlen : leAt (t.shareRead c.ctx (off + 8) 4) 0 4 = len)
    (bind : byteAt c.desc 17 ≠ 1) (header : (t.ctx c.ctx).inUsable off 64 = true) (whole : (t.ctx c.ctx).inUsable off len = true)
    (good : t.sharePoison c.ctx off (max 64 len) = false) (valid : tableReason (t.shareRead c.ctx off len) = none)
    (noAutomaton : imgKind (t.shareRead c.ctx off len) ≠ 5) (apart : t.bindOverlaps c.ctx (byteAt c.desc 16).toNat off len = false) :
    t.tableWork now c = (t.modCmd c.id fun k => { k with
      binds := [((byteAt c.desc 16).toNat, imgKind (t.shareRead c.ctx off len), off, len)] }).stage c.id 0 0 0 [] := by
  subst hoff hlen
  simp only [Tun.tableWork, bind, header, whole, good, valid, noAutomaton, apart, if_false, not_true_eq_false, Bool.false_eq_true]

/-- The text encodes into tokens that fit (17 R670-R678). -/
theorem Tun.encodeWork_stages {trie : List Byte} (found : t.cmd c.id = some c) (fetched : c.fetched = true)
    (good : anyPoison c.fetchedP = false) (tables : t.tablePoison c [(byteAt c.desc 44).toNat, (byteAt c.desc 45).toNat] = false)
    (bound : t.boundImage c (byteAt c.desc 44).toNat = some trie) (lenient : byteAt c.desc 46 ≠ 2) :
    let bs := pbytes c.fetchedP
    let r := utf8All (byteAt c.desc 46).toNat bs.length 0 bs
    let toks := encodeItems trie (if byteAt c.desc 45 = 0xFF then none else t.boundImage c (byteAt c.desc 45).toNat) [] r.items
    toks.length ≤ leAt c.desc 40 4 →
    t.encodeWork now c = (t.work c gristUnits bs.length).stage c.id 0 (BitVec.ofNat 64 toks.length) (BitVec.ofNat 48 r.bad)
      (wortEffects c.ctx (leAt c.desc 36 4) (plain (tokenWords toks))) := by
  intro bs r toks fits
  have policy : (byteAt c.desc 46).toNat ≠ 2 := fun e => lenient (BitVec.eq_of_toNat_eq e)
  have norm : ((byteAt c.desc 45).toNat = 0xFF) = (byteAt c.desc 45 = 0xFF) := by rw [← BitVec.toNat_inj]; rfl
  simp only [Tun.encodeWork, Tun.withReads_fetched found fetched, good, tables, bound, if_neg policy, Bool.or_self, Bool.false_eq_true,
    if_false, norm]
  exact if_neg (Nat.not_lt.mpr fits)

/-- The tokens of the table decode into text that fits (17 R677, R685). -/
theorem Tun.decodeWork_stages {im : List Byte} (bound : t.boundImage c (byteAt c.desc 24).toNat = some im)
    (good : t.sharePoison c.ctx (leAt c.desc 16 4) (4 * leAt c.desc 20 4) = false)
    (tables : t.tablePoison c [(byteAt c.desc 24).toNat] = false) :
    let bs := t.shareRead c.ctx (leAt c.desc 16 4) (4 * leAt c.desc 20 4)
    let toks := (List.range (leAt c.desc 20 4)).map fun i => leAt bs (4 * i) 4
    let text := toks.flatMap (tokenBytes im)
    (∀ k ∈ toks, k < imgVocab im) → text.length ≤ leAt c.desc 32 4 →
    t.decodeWork now c = (t.work c gristUnits text.length).stage c.id 0 (BitVec.ofNat 64 text.length) 0
      (if (byteAt c.desc 25).getLsbD 0 then [.text (leAt c.desc 26 2) text] else wortEffects c.ctx (leAt c.desc 28 4) (plain text)) := by
  intro bs toks text known fits
  have noneBad : ((List.range (leAt c.desc 20 4)).find? fun i => decide (imgVocab im ≤ toks.getD i 0)) = none := by
    refine List.find?_eq_none.mpr fun i hi => ?_
    have at_i : toks.getD i 0 ∈ toks := by
      have inside : i < toks.length := by simpa [toks] using hi
      rw [List.getD_eq_getElem?_getD, List.getElem?_eq_getElem inside, Option.getD_some]
      exact List.getElem_mem inside
    simpa using known _ at_i
  simp only [Tun.decodeWork, good, tables, bound, Bool.or_self, Bool.false_eq_true, if_false]
  rw [noneBad]
  by_cases streamed : (byteAt c.desc 25).getLsbD 0 = true
  · simp only [if_pos streamed]
    rfl
  · simp only [if_neg streamed]
    exact if_neg (Nat.not_lt.mpr fits)

theorem Tun.streamOpenWork_stages (shut : (t.tstream (leAt c.desc 16 2)).isOpen = false) :
    t.streamOpenWork now c = t.stage c.id 0 0 0 [] := by
  simp [Tun.streamOpenWork, shut]

/-- With no table named, the bytes the action writes are staged (17 R694). -/
theorem Tun.lauterWork_stages (noTable : byteAt c.desc 23 = 0xFF)
    (good : t.sharePoison c.ctx (leAt c.desc 16 4 + 64 * leAt c.desc 20 2) 64 = false) :
    let off := leAt c.desc 16 4 + 64 * leAt c.desc 20 2
    let w (o : Nat) (bs : List Byte) : Effect := .wort c.ctx (off + o) bs false
    t.lauterWork now c = t.stage c.id 0 (BitVec.ofNat 64 (leAt (t.shareRead c.ctx off 8) 0 8)) 0
      (if byteAt c.desc 22 = 0 then [w 0 (bytesLE 4 (leAt c.desc 24 4))]
       else if byteAt c.desc 22 = 1 then [w 8 [0], w 12 (List.replicate 48 0)]
       else if byteAt c.desc 22 = 2 then [w 4 (bytesLE 2 (leAt c.desc 28 2) ++ [0, 0])]
       else [w 4 [0xFF, 0xFF, 0, 0]]) := by
  intro off w
  unfold Tun.lauterWork
  extract_lets d range act slot im past old write es
  have slotNone : slot = 0xFF := by simp only [slot, d, noTable]; rfl
  have inRange (v : Nat) (n : List Byte → Nat) : past v n = false := by
    simp only [past, slotNone]
    clear_value im
    cases im <;> rfl
  rw [if_neg (by simp [slotNone, range, d, good]), if_neg (by simp [inRange])]

/-! ### SAMPLE_STEP (17 R699-R704) -/

theorem Tun.group_modGroup {n : Nat} {g : Group} (formed : t.group n = some g) (f : Group → Group) :
    (t.modGroup n f).group n = some (f g) := by
  obtain ⟨e, found, rfl⟩ := Option.map_eq_some_iff.mp formed
  have number : e.1 = n := by simpa using List.find?_some found
  have keeps : ((fun e : Nat × Group => e.1 == n) ∘ fun e => if e.1 = n then (n, f e.2) else e) = fun e => e.1 == n := by
    funext e
    by_cases h : e.1 = n <;> simp [h]
  simp only [Tun.group, Tun.modGroup, List.find?_map, keeps, found, Option.map_some, if_pos number]

theorem Group.place_setPlace (g : Group) (p : Place) : (g.setPlace p).place p.inst = p := by
  have others : (g.places.filter (·.inst != p.inst)).find? (·.inst == p.inst) = none :=
    List.find?_eq_none.mpr fun q hq => by simpa using (List.mem_filter.mp hq).2
  simp only [Group.place, Group.setPlace, List.find?_append, others, List.find?_singleton, beq_self_eq_true, if_true]
  rfl

/-- In a group where nothing is open the oldest number is taken with nothing that came early (15 R602). -/
theorem Group.openInst_first {g : Group} {n : Nat} (fresh : g.places = []) (oldest : g.oldest = n) (id : Nat) :
    (g.openInst n id).place n = { inst := n, cmd := some id } := by
  have first : g.ahead n = 0 := by rw [Group.ahead, oldest]; omega
  have unopened : g.place n = { inst := n } := by rw [Group.place, fresh]; rfl
  simp only [Group.openInst, first]
  exact (congrArg (Group.place · n) (by simp [unopened])).trans (Group.place_setPlace g { inst := n, cmd := some id })

theorem Tun.openInstance_first {g : Group} (formed : t.group c.groupNo = some g) (fresh : g.places = []) (oldest : g.oldest = c.instanceNo) :
    t.openInstance c = (t.modGroup c.groupNo (Group.openInst c.instanceNo c.id)).modGroup c.groupNo
      (Group.setPlace { inst := c.instanceNo, cmd := some c.id }) := by
  have opened := Group.openInst_first fresh oldest c.id
  simp only [Tun.openInstance, Tun.group_modGroup formed, opened]
  rfl

/-- A sampling step first takes its place in the group (17 R701). -/
theorem Tun.sampleWork_opens {g : Group} (formed : t.group c.groupNo = some g) (fresh : g.places = [])
    (owns : t.sampleOwn c g ≠ []) : t.sampleWork now c = t.openInstance c := by
  have free : t.holdsInstance c = false := by simp [Tun.holdsInstance, formed, Group.place, fresh]
  simp [Tun.sampleWork, formed, free, owns]

/-- With every row read, the entries the Tun owns are sampled. -/
theorem Tun.sampleWork_runs {g : Group} (found : t.cmd c.id = some c) (formed : t.group c.groupNo = some g)
    (holds : (g.place c.instanceNo).cmd = some c.id) (fetched : c.fetched = true) :
    t.sampleWork now c = t.sampleRun now c g (t.sampleOwn c g) := by
  obtain ⟨planned, -⟩ := Cmd.fetched_plan fetched
  simp [Tun.sampleWork, formed, Tun.holdsInstance, holds, planned, Tun.issueReads_fetched found fetched, found, fetched]

/-- The outputs of the entries, one after the other. -/
theorem flatMap_sampled {α β γ : Type} (es : List α) (f : Nat → α → β) (out : α → β → List γ) :
    ((List.range es.length).filterMap fun i => es[i]?.map fun e => (e, f i e)).flatMap (fun r => out r.1 r.2) =
      (List.range es.length).flatMap fun i => (es[i]?).toList.flatMap fun e => out e (f i e) := by
  generalize List.range es.length = is
  induction is with
  | nil => rfl
  | cons i is ih => cases h : es[i]? <;> simp [h, ih]

theorem length_sampled {α β : Type} (es : List α) (f : Nat → α → β) :
    ((List.range es.length).filterMap fun i => es[i]?.map fun e => (e, f i e)).length = es.length := by
  rw [List.length_filterMap_eq_countP, List.countP_eq_length.mpr, List.length_range]
  intro i hi
  simpa using hi

/-- Entries without a state record and with good data are sampled, and a record each is staged (17 R704). -/
theorem Tun.sampleRun_stages {g : Group} {es : List SEntry} (found : t.cmd c.id = some c)
    (tables : t.tablePoison c ((sampleDecode c).toList ++ (sampleList c).toList ++ (sampleAuto c).toList) = false)
    (good : c.fetches.any (·.poison) = false) (noRecord : ∀ e ∈ es, e.lslot = 0xFFFF) :
    ∃ e, (t.sampleRun now c g es).cmd c.id = some e ∧ e.phase = .staged ∧ e.result1 = BitVec.ofNat 48 es.length ∧
      e.effects = (List.range es.length).flatMap fun i => (es[i]?).toList.flatMap fun k =>
        t.sampleOutputs c g k (t.sampleEntry c k (c.tables.getD i []) (c.logitsOf g.members.length i)) := by
  unfold Tun.sampleRun
  extract_lets slots masksBad recsBad rs fx skipped clash st text masks marked worked
  have masksGood : masksBad = false := List.any_eq_false.mpr fun y hy => by
    simpa using fun _ => List.any_eq_false.mp good y.2 (List.of_mem_zip hy).2
  have recsGood : recsBad = false := List.any_eq_false.mpr fun e he => by simp [noRecord e he]
  rw [if_neg (by rw [show t.tablePoison c slots = false from tables, masksGood, recsGood]; decide)]
  have progressed : worked.cmd c.id = some { c with progress := clash } := by
    simp only [worked, Tun.work_cmd]
    exact Tun.cmd_modCmd_found found (fun k => { k with progress := clash }) fun _ => rfl
  have outputs := flatMap_sampled es (fun i e => t.sampleEntry c e (c.tables.getD i []) (c.logitsOf g.members.length i)) (t.sampleOutputs c g)
  exact ⟨_, Tun.stage_staged (c := { c with progress := clash }) st _ _ fx progressed, rfl,
    congrArg (BitVec.ofNat 48) (length_sampled es _), outputs⟩

end Sys2Proof.Machine
end

section
/-! SUPPORT. What Racking publishes of a command that is alone, and how it reads back (14 R561, chapters 16 and 17). -/

namespace Sys2Proof.Machine
open Sys2Proof

variable {t u v : Tun} {s : State} {x : TunId} {c : Cmd} {now : Nat}

/-! ### The record of a command that has published -/

/-- The end of a Racking: the command completes, if nothing it published has ended it. -/
def Tun.rackEnd (now : Nat) (c : Cmd) (st : Half) (r0 : Dword) (r1 : BitVec 48) (t : Tun) : Tun :=
  match t.cmd c.id with
  | some c => t.completeExt now c st r0 r1 c.ext
  | none => t

/-- Racking publishes what a staged command has staged. -/
theorem Alone.answers_racking {P : State → Prop} (h : Alone (s.tun x) c) (staged : c.phase = .staged) (serves : (s.tun x).serving = true)
    (p : ∀ t : State, t.tun x = (s.tun x).rackCmd s.now c → OnlyTun x s t → P t) : Answers (.racking x c.id) s P :=
  answers_onTun (g := fun u => u.rackCmd s.now c) rfl (by simp [h.cmd, staged, serves]) (p _ (State.tun_modTun ..) (onlyTun_mod ..))

/-- What is published leaves what a record is made from and goes through. -/
def SameRecords (u v : Tun) : Prop :=
  v.bm.cmds = u.bm.cmds ∧ v.bm.queues = u.bm.queues ∧ v.bm.rings = u.bm.rings ∧ v.host = u.host ∧ v.out = u.out

/-- Of a Tun that has published, the command's record leaves the contexts, Wort, the Cellar and the token engines. -/
theorem Alone.rackEnd (h : Alone u c) (noExt : c.ext = []) (same : SameRecords u v) (now : Nat) (st : Half) (r0 : Dword) (r1 : BitVec 48) :
    Recorded u (v.rackEnd now c st r0 r1) c st r0 r1 ∧ (v.rackEnd now c st r0 r1).bm.ctxs = v.bm.ctxs ∧
      (v.rackEnd now c st r0 r1).bm.wort = v.bm.wort ∧ (v.rackEnd now c st r0 r1).cellar = v.cellar ∧
      (v.rackEnd now c st r0 r1).token = v.token := by
  obtain ⟨cmds, queues, rings, host, out⟩ := same
  have alone := h.congr cmds queues rings host
  have ends : v.rackEnd now c st r0 r1 = v.finishCmd now c st r0 r1 [] := by
    rw [← alone.completeNow_eq]
    simp only [Tun.rackEnd, alone.cmd, noExt, Tun.completeNow]
  obtain ⟨recorded, m, hy, sc, o, ou, re, rg, left, -⟩ := alone.finish now st r0 r1
  rw [ends]
  refine ⟨recorded.congr queues rings out, ?_⟩
  rw [left]
  exact ⟨rfl, rfl, rfl, rfl⟩

/-- What Racking of a command that is alone answers: the Tun has published, and the record is written. -/
theorem Alone.answers_published {P : State → Prop} {st : Half} {r0 : Dword} {r1 : BitVec 48} (h : Alone (s.tun x) c)
    (staged : c.phase = .staged) (serves : (s.tun x).serving = true) (noExt : c.ext = [])
    (racks : (s.tun x).rackCmd s.now c = v.rackEnd s.now c st r0 r1) (same : SameRecords (s.tun x) v)
    (p : ∀ t : State, (t.tun x).bm.ctxs = v.bm.ctxs → (t.tun x).bm.wort = v.bm.wort → (t.tun x).cellar = v.cellar →
      (t.tun x).token = v.token → Recorded (s.tun x) (t.tun x) c st r0 r1 → OnlyTun x s t → P t) : Answers (.racking x c.id) s P := by
  refine h.answers_racking staged serves fun t e only => ?_
  obtain ⟨recorded, ctxs, wort, cellar, token⟩ := h.rackEnd noExt same s.now st r0 r1
  rw [← racks, ← e] at recorded ctxs wort cellar token
  exact p t ctxs wort cellar token recorded only

/-! ### What each opcode publishes -/

theorem Tun.rackCmd_timestamp (hop : c.op = 0x04) :
    t.rackCmd now c = t.rackEnd now c 0 (BitVec.ofNat 64 now) t.sched.brew := by
  rw [Tun.rackCmd]
  exact if_pos hop

/-- NOP and WRITE_IMM publish their outputs. -/
theorem Tun.rackCmd_outputs (hop : c.op = 0x00 ∨ c.op = 0x01) :
    t.rackCmd now c = (t.publish now c c.effects).rackEnd now c c.status c.result0 c.result1 := by
  rcases hop with hop | hop <;> (simp only [Tun.rackCmd, hop, Nat.reduceEqDiff, or_self, reduceIte]; rfl)

/-- A free lock goes to the command's context (16 R651). -/
theorem Tun.rackCmd_lock {q : CSeq} (hop : c.op = 0x32) (held : t.cseq (t.ctx c.ctx).pkey (leAt c.desc 16 4) = some q)
    (free : q.holder = none) (kept : q.orphaned = false) :
    t.rackCmd now c = (t.modSeq (t.ctx c.ctx).pkey (leAt c.desc 16 4) fun q => { q with holder := some c.ctx, orphaned := false }).rackEnd
      now c 0 0 0 := by
  simp only [Tun.rackCmd, hop, Tun.lockPublish, held, free, kept, Nat.reduceEqDiff, or_self, or_false, Bool.false_eq_true, reduceIte]
  rfl

theorem Tun.rackCmd_streamOpen (hop : c.op = 0x62) (shut : (t.tstream (leAt c.desc 16 2)).isOpen = false) :
    t.rackCmd now c = (t.streamOpenPublish c).rackEnd now c c.status c.result0 c.result1 := by
  simp only [Tun.rackCmd, hop, shut, Nat.reduceEqDiff, or_self, Bool.false_eq_true, reduceIte]
  rfl

/-- A stream that holds no bytes closes without text (17 R684). -/
theorem Tun.rackCmd_streamClose (hop : c.op = 0x63) (empty : (t.tstream (leAt c.desc 16 2)).held = []) :
    t.rackCmd now c = ((t.work c gristUnits 0).modStream (leAt c.desc 16 2) fun x => { x with isOpen := false, held := [] }).rackEnd
      now c 0 0 0 := by
  simp only [Tun.rackCmd, hop, Tun.streamClosePublish, empty, List.isEmpty_nil, List.length_nil, Nat.reduceEqDiff, or_self, reduceIte]
  rfl

theorem Tun.rackCmd_table (hop : c.op = 0x64) :
    t.rackCmd now c = (t.tablePublish c).rackEnd now c c.status c.result0 c.result1 := by
  simp only [Tun.rackCmd, hop, Nat.reduceEqDiff, or_self, reduceIte]
  rfl

theorem Tun.rackCmd_params (hop : c.op = 0x67) :
    t.rackCmd now c = (t.paramsPublish c).rackEnd now c c.status c.result0 c.result1 := by
  simp only [Tun.rackCmd, hop, Nat.reduceEqDiff, or_self, reduceIte]
  rfl

/-! ### What is published reads back -/

/-- Bytes written one after the other at addresses that differ read back. -/
theorem Tun.wortByte_wortSets (g : Nat → Nat) (b : Nat → Byte) (wf : t.bm.wort.wf 0 = true) {n : Nat}
    (apart : ∀ i j, i < n → j < n → g i = g j → i = j) {j : Nat} (hj : j < n) :
    ((List.range n).foldl (fun t i => t.wortSet (g i) (b i)) t).wortByte (g j) = b j := by
  induction n with
  | zero => omega
  | succ n ih =>
    obtain ⟨w, before, canonical, -⟩ := Tun.wortSets_eq g b (fun _ => false) (List.range n) t
    simp only [Bool.false_eq_true, if_false] at before
    rw [List.range_succ, List.foldl_append, List.foldl_cons, List.foldl_nil]
    by_cases last : j = n
    · rw [last, Tun.wortByte_wortSet_same _ _ (by rw [before]; exact canonical wf)]
    · have earlier : j < n := by omega
      rw [Tun.wortByte_wortSet_other _ fun e => last (apart j n hj (by omega) e),
        ih (fun i j hi hj => apart i j (by omega) (by omega)) earlier]

/-- Inside one block of a share addresses rise with the offset (14 R542). -/
theorem Ctx.wortAddr_add (k : Ctx) {off i : Nat} (inside : off % blockSize + i < blockSize) :
    k.wortAddr (off + i) = k.wortAddr off + i := by
  have block : (off + i) / blockSize = off / blockSize := by unfold blockSize at *; omega
  have place : (off + i) % blockSize = off % blockSize + i := by unfold blockSize at *; omega
  simp only [Ctx.wortAddr, block, place, Nat.add_assoc]

/-- Bytes read from a share are those of Wort at its addresses. -/
theorem Tun.shareRead_congr {k off len : Nat} (ctxs : v.bm.ctxs = u.bm.ctxs) (wort : v.bm.wort = u.bm.wort) :
    v.shareRead k off len = u.shareRead k off len := by
  simp only [Tun.shareRead, Tun.wortByte, Tun.ctx, ctxs, wort]

/-- A store inside one block of a share reads back. -/
theorem Tun.shareRead_shareStore {k off : Nat} {bs : List Byte} (p : Bool) (wf : t.bm.wort.wf 0 = true)
    (inside : off % blockSize + bs.length ≤ blockSize) : (t.shareStore k off bs p).shareRead k off bs.length = bs := by
  have rising (i : Nat) (hi : i < bs.length) : (t.ctx k).wortAddr (off + i) = (t.ctx k).wortAddr off + i :=
    Ctx.wortAddr_add _ (by omega)
  obtain ⟨w, wrote, -⟩ := t.shareWrite_eq k off bs
  obtain ⟨m, marked, -⟩ := (t.shareWrite k off bs).shareMark_eq k off bs.length p
  refine List.ext_getElem (by simp [Tun.shareRead]) fun i _ hi => ?_
  have stored : (t.shareWrite k off bs).wortByte ((t.ctx k).wortAddr (off + i)) = byteAt bs i :=
    Tun.wortByte_wortSets (fun i => (t.ctx k).wortAddr (off + i)) (byteAt bs) wf
      (fun i j hi hj e => by rw [rising i hi, rising j hj] at e; omega) hi
  have share : (t.shareStore k off bs p).ctx k = t.ctx k := by rw [Tun.shareStore, marked, wrote]; rfl
  simp only [Tun.shareRead, List.getElem_map, List.getElem_range, share]
  rw [Tun.shareStore, marked]
  exact stored.trans (by simp [byteAt, hi])

/-- A sequence read back after a change that keeps its name (16 R629). -/
theorem Tun.cseq_modSeq {k : Half} {id : Nat} {q : CSeq} (held : t.cseq k id = some q) (f : CSeq → CSeq)
    (named : ∀ q, (f q).pkey = q.pkey ∧ (f q).id = q.id) : (t.modSeq k id f).cseq k id = some (f q) := by
  have keeps : ((fun q : CSeq => q.pkey == k && q.id == id) ∘ fun q => if q.pkey = k ∧ q.id = id then f q else q) =
      fun q => q.pkey == k && q.id == id := by
    funext q
    obtain ⟨key, number⟩ := named q
    by_cases h : q.pkey = k ∧ q.id = id <;> simp [h, key, number]
  have name : q.pkey = k ∧ q.id = id := by simpa using List.find?_some held
  unfold Tun.cseq at held
  simp only [Tun.cseq, Tun.modSeq, Tun.modCellar, List.find?_map, keeps, held, Option.map_some, if_pos name]

theorem Tun.cseq_congr (k : Half) (id : Nat) (cellar : v.cellar = u.cellar) : v.cseq k id = u.cseq k id := by
  simp only [Tun.cseq, cellar]

/-- A stream left open reads what was written to it. -/
theorem Tun.tstream_modStream (n : Nat) (f : TStream → TStream) (live : (f (t.tstream n)).isOpen = true) :
    (t.modStream n f).tstream n = f (t.tstream n) :=
  Tab.get_set_listed _ _ _ fun e => by rw [e] at live; cases live

theorem Tun.tstream_congr (n : Nat) (token : v.token = u.token) : v.tstream n = u.tstream n := by
  simp only [Tun.tstream, token]

theorem Tun.tslot_congr (k n : Nat) (token : v.token = u.token) : v.tslot k n = u.tslot k n := by
  simp only [Tun.tslot, token]

/-- A table bound to a slot (17 R666). -/
theorem Tun.tslot_tablePublish {b : Nat × Nat × Nat × Nat} (bind : byteAt c.desc 17 ≠ 1) (one : c.binds = [b]) (kind : b.2.1 ≠ 0) :
    (t.tablePublish c).tslot c.ctx (byteAt c.desc 16).toNat = ⟨b.2.1, b.2.2.1, b.2.2.2⟩ := by
  simp only [Tun.tablePublish, if_neg bind, one]
  exact Tab.get_set_listed _ _ _ fun e => kind (congrArg TableSlot.kind e)

/-- A head within the text written moves (17 R683). -/
theorem Tun.streamHead_within {n : Nat} {i : Word} (live : (t.tstream n).isOpen = true)
    (inside : (i - (t.tstream n).head).toNat ≤ ((t.tstream n).tail - (t.tstream n).head).toNat) :
    (t.streamHead n i).tstream n = { t.tstream n with head := i } := by
  by_cases rests : i = (t.tstream n).head
  · simp [Tun.streamHead, rests]
  · have moves : (i - (t.tstream n).head).toNat ≠ 0 := fun e => rests (by bv_omega)
    have within : t.streamHead n i = t.modStream n fun x => { x with head := i } := by
      simp only [Tun.streamHead, live, moves, inside, not_true_eq_false, or_self, if_false, if_true]
    rw [within]
    exact Tun.tstream_modStream _ _ live

/-! ### The token commands -/

/-- Settles O38: each opcode stages what the lemma of its work says, and its Racking publishes and records it. -/
theorem tokenCommandsComplete : Obligations.TokenCommandsComplete := by
  unfold Obligations.TokenCommandsComplete
  intro s x c u d
  refine ⟨fun alone staged serves noExt => ?racking, fun serves found started => ?work, fun n i hold full live inside => ?head⟩
  case racking =>
    have published {v P st r0 r1} := alone.answers_published (v := v) (P := P) (st := st) (r0 := r0) (r1 := r1) staged serves noExt
    refine ⟨fun hop nothing => ?nop, fun hop => ?timestamp, fun off bs hop effects wf inside => ?writeImm, fun q hop held free kept => ?lock,
      fun hop shut => ?streamOpen, fun hop live empty wf => ?streamClose, fun b hop bind one kind => ?table, fun hop => ?params⟩
    case nop =>
      exact published ((Tun.rackCmd_outputs (.inl hop)).trans (by rw [nothing]; rfl)) (v := u) ⟨rfl, rfl, rfl, rfl, rfl⟩
        fun t _ _ _ _ recorded only => ⟨recorded, only⟩
    case timestamp =>
      exact published (Tun.rackCmd_timestamp hop) ⟨rfl, rfl, rfl, rfl, rfl⟩ fun t _ _ _ _ recorded only => ⟨recorded, only⟩
    case writeImm =>
      obtain ⟨w, m, stored, -⟩ := Tun.shareStore_eq c.ctx off bs false u
      exact published ((Tun.rackCmd_outputs (.inr hop)).trans (by rw [effects]; rfl)) (v := u.shareStore c.ctx off bs false)
        (by rw [stored]; exact ⟨rfl, rfl, rfl, rfl, rfl⟩)
        fun t ctxs wort _ _ recorded only =>
          ⟨(Tun.shareRead_congr ctxs wort).trans (Tun.shareRead_shareStore false wf inside), recorded, only⟩
    case lock =>
      refine published (Tun.rackCmd_lock hop held free kept) ⟨rfl, rfl, rfl, rfl, rfl⟩ fun t _ _ cellar _ recorded only => ⟨?_, recorded, only⟩
      have taken := Tun.cseq_modSeq held (fun q => { q with holder := some c.ctx, orphaned := false }) fun _ => ⟨rfl, rfl⟩
      exact (Tun.cseq_congr _ _ cellar).trans
        (taken.trans (congrArg (fun o => some { q with holder := some c.ctx, orphaned := o }) kept.symm))
    case streamOpen =>
      exact published (Tun.rackCmd_streamOpen hop shut) ⟨rfl, rfl, rfl, rfl, rfl⟩ fun t _ _ _ token recorded only =>
        ⟨(Tun.tstream_congr _ token).trans (Tun.tstream_modStream _ _ rfl), recorded, only⟩
    case streamClose =>
      obtain ⟨h, worked⟩ := u.work_eq c gristUnits 0
      refine published (Tun.rackCmd_streamClose hop empty) (by rw [worked]; exact ⟨rfl, rfl, rfl, rfl, rfl⟩)
        fun t _ _ _ token recorded only => ⟨(Tun.tstream_congr _ token).trans ?_, recorded, only⟩
      rw [worked]
      refine (Tab.get_set_same _ _ _ wf).trans ?_
      exact congrArg (fun held => { u.tstream (leAt d 16 2) with isOpen := false, held := held }) empty.symm
    case table =>
      exact published (Tun.rackCmd_table hop) ⟨rfl, rfl, rfl, rfl, rfl⟩ fun t _ _ _ token recorded only =>
        ⟨(Tun.tslot_congr _ _ token).trans (Tun.tslot_tablePublish bind one kind), recorded, only⟩
    case params =>
      refine published (Tun.rackCmd_params hop) ⟨rfl, rfl, rfl, rfl, rfl⟩ fun t _ _ _ token recorded only => ⟨?_, recorded, only⟩
      rw [token]
      exact Tab.get_set_listed _ _ _ fun e => by cases congrArg ParamSet.stops e
  case work =>
    refine ⟨fun hop unbind => ?unbinds, fun hop bind => ?binds, fun trie hop fetched good tables bound lenient => ?encode,
      fun im hop bound good tables => ?decode, fun hop shut => ?streamOpens, fun hop => ?streamCloses, fun hop noTable => ?lauter,
      fun hop => ?pourParams, fun g hop formed => ⟨fun fresh oldest owns => ?opens, fun holds fetched tables _ good noRecord => ?samples⟩⟩
    case unbinds =>
      refine answers_started rfl serves found started hop fun t e only => ⟨?_, only⟩
      rw [e, Tun.tableWork_unbinds unbind]
      exact Tun.stage_staged _ _ _ _ found
    case binds =>
      intro off len im header whole good valid noAutomaton apart
      refine answers_started rfl serves found started hop fun t e only => ⟨?_, only⟩
      rw [e, Tun.tableWork_binds rfl rfl bind header whole good valid noAutomaton apart]
      have bound := Tun.cmd_modCmd_found found (fun k => { k with binds := [((byteAt d 16).toNat, imgKind im, off, len)] }) fun _ => rfl
      exact Tun.stage_staged (c := { c with binds := [((byteAt d 16).toNat, imgKind im, off, len)] }) 0 0 0 [] bound
    case encode =>
      intro bs r toks fits
      refine answers_started rfl serves found started hop fun t e only => ⟨?_, only⟩
      rw [e, Tun.encodeWork_stages found fetched good tables bound lenient fits]
      exact Tun.stage_staged _ _ _ _ ((Tun.work_cmd ..).trans found)
    case decode =>
      intro bs toks text known fits
      refine answers_started rfl serves found started hop fun t e only => ⟨?_, only⟩
      rw [e, Tun.decodeWork_stages bound good tables known fits]
      exact Tun.stage_staged _ _ _ _ ((Tun.work_cmd ..).trans found)
    case streamOpens =>
      refine answers_started rfl serves found started hop fun t e only => ⟨?_, only⟩
      rw [e, Tun.streamOpenWork_stages shut]
      exact Tun.stage_staged _ _ _ _ found
    case streamCloses =>
      exact answers_started rfl serves found started hop fun t e only => ⟨e ▸ Tun.stage_staged _ _ _ _ found, only⟩
    case lauter =>
      intro off w good
      refine answers_started rfl serves found started hop fun t e only => ⟨?_, only⟩
      rw [e, Tun.lauterWork_stages noTable good]
      exact Tun.stage_staged _ _ _ _ found
    case pourParams =>
      exact answers_started rfl serves found started hop fun t e only => ⟨e ▸ Tun.stage_staged _ _ _ _ found, only⟩
    case opens =>
      refine answers_started rfl serves found started hop fun t e only => ?_
      rw [e, Tun.sampleWork_opens formed fresh owns, Tun.openInstance_first formed fresh oldest]
      have opened := Tun.group_modGroup formed (Group.openInst c.instanceNo c.id)
      exact ⟨⟨_, Tun.group_modGroup opened _, congrArg Place.cmd (Group.place_setPlace _ { inst := c.instanceNo, cmd := some c.id })⟩,
        found, only⟩
    case samples =>
      refine answers_started rfl serves found started hop fun t e only => ⟨?_, only⟩
      rw [e, Tun.sampleWork_runs found formed holds fetched]
      exact Tun.sampleRun_stages found tables good noRecord
  case head =>
    refine answers_planeRegister (reg := Tun.streamHead n.toNat i) rfl ⟨hold, by simp [u, full], by simp [u, full]⟩ fun t e only => ⟨?_, only⟩
    rw [e]
    exact Tun.streamHead_within live inside

end Sys2Proof.Machine
end

section
/-! SUPPORT. The step of a queue, the head of a stream, and Hydrometer's rounds and export settings. -/

namespace Sys2Proof.Machine
open Sys2Proof

/-- Settles O1: the step looks at the queue alone. -/
theorem stepRunsTheFront : Obligations.StepRunsTheFront := fun s c rest front => by
  simp only [step, front]

/-- A command whose answer has any property answers. -/
theorem Sat.next {o : Res} {P : State → Prop} (h : Sat o P) : ∃ t, o = .next t ∧ P t := by
  cases o with
  | next t => exact ⟨t, rfl, h⟩
  | fault => exact h.elim
  | refused => exact h.elim

/-- Every command answers: none faults and none is refused. -/
theorem exec_answers (c : Instr) (s : State) : ∃ t, exec c s = .next t :=
  let ⟨t, runs, _⟩ := (exec_sameTime (s := s) c).next
  ⟨t, runs⟩

/-- Settles O7: the idle step answers by its definition, every other step by its command. -/
theorem nothingStops : Obligations.NothingStops := by
  refine ⟨exec_answers, fun s => ?_⟩
  cases front : s.pending with
  | nil => exact ⟨idle s, by simp only [step, front]⟩
  | cons c rest =>
    obtain ⟨t, runs⟩ := exec_answers c { s with pending := rest }
    exact ⟨t, (stepRunsTheFront s c rest front).trans runs⟩

section
variable {s : State} {x : TunId} {t : Tun}

/-- A command on one Tun that its Tun is not changed by changes nothing. -/
theorem onTun_same {f : Tun → Tun} (same : f (s.tun x) = s.tun x) : onTun x s f = .next s := by
  rw [onTun, State.modTun, same, State.setTun_tun]

theorem onTun_congr {f g : Tun → Tun} (agree : f (s.tun x) = g (s.tun x)) : onTun x s f = .next (s.modTun x g) :=
  congrArg Host.Outcome.next (State.modTun_congr agree)

/-! ### The head of a stream (17 R683) -/

section
variable {n : Nat} {i : Word}

theorem Tun.streamHead_inside (live : (t.tstream n).isOpen = true) (moves : (i - (t.tstream n).head).toNat ≠ 0)
    (inside : (i - (t.tstream n).head).toNat ≤ ((t.tstream n).tail - (t.tstream n).head).toNat) :
    t.streamHead n i = t.modStream n fun k => { k with head := i } := by
  simp only [Tun.streamHead, live, moves, inside, not_true_eq_false, or_self, if_false, if_true]

theorem Tun.streamHead_past (live : (t.tstream n).isOpen = true)
    (past : ((t.tstream n).tail - (t.tstream n).head).toNat < (i - (t.tstream n).head).toNat)
    (ahead : (i - (t.tstream n).head).toNat < 2 ^ 31) :
    t.streamHead n i = t.modStream n fun k => { k with head := k.tail, overrun := true } := by
  rw [Tun.streamHead, if_neg (not_or.mpr ⟨not_not.mpr live, Nat.ne_zero_of_lt past⟩), if_neg (Nat.not_le.mpr past), if_pos ahead]

theorem Tun.streamHead_behind (past : ((t.tstream n).tail - (t.tstream n).head).toNat < (i - (t.tstream n).head).toNat)
    (behind : 2 ^ 31 ≤ (i - (t.tstream n).head).toNat) : t.streamHead n i = t := by
  rw [Tun.streamHead]
  split
  · rfl
  · rw [if_neg (by omega), if_neg (by omega)]

theorem Tun.streamHead_still (still : (i - (t.tstream n).head).toNat = 0) : t.streamHead n i = t := if_pos (.inr still)

end

/-- What a head write on an open window answers is what the head rule makes of its Tun. -/
theorem exec_streamHead (n : Byte) (i : Word) (opened : WindowOpen (s.tun x)) :
    exec (.streamHead x n i) s = onTun x s (Tun.streamHead n.toNat i) :=
  exec_planeRegister rfl opened rfl

/-- Settles O46, by the four ranges of R521 over 32-bit indices. -/
theorem streamHeadRule : Obligations.StreamHeadRule := by
  intro s x n i u k d a opened live
  rw [exec_streamHead n i opened]
  refine ⟨fun moves inside => ?inside, fun past ahead => ?past, fun past behind => ?behind, fun still => ?still,
    fun f kept => ⟨?own, fun m other => ?others⟩⟩
  case inside => exact onTun_congr (Tun.streamHead_inside live (Nat.pos_iff_ne_zero.mp moves) inside)
  case past => exact onTun_congr (Tun.streamHead_past live past (Nat.lt_of_le_pred (by decide) ahead))
  case behind => exact onTun_same (Tun.streamHead_behind past behind)
  case still => exact onTun_same (Tun.streamHead_still still)
  case own => exact Tab.get_set_listed _ _ _ kept
  case others => exact Tab.get_set_other _ _ _ other

/-! ### A round that falls due (20 R780) -/

/-- Settles O49. -/
theorem roundSkipped : Obligations.RoundSkipped := by
  intro s x counts due left
  exact onTun_congr (by simp [counts, Tun.exportRound, due, left, Tun.modHyd])

/-! ### Export settings (20 R786) -/

theorem Tun.openWrite_open {f : Tun → Tun} (hold : t.svc.hold = .none_) (on : t.svc.state ≠ .off) : t.openWrite f = f t := by
  simp [Tun.openWrite, hold, on]

theorem exec_hydConfigWrite (reg : BitVec 2) (v : Word) (hold : (s.tun x).svc.hold = .none_) (on : (s.tun x).svc.state ≠ .off) :
    exec (.hydConfigWrite x reg v) s = onTun x s (Tun.writeHydConfig reg v) :=
  onTun_congr (Tun.openWrite_open hold on)

/-! #### What each register takes -/

section
variable {v : Word}

theorem Tun.writeHydConfig_dest (within : v.getLsbD 31 = true → (v.extractLsb' 0 10).toNat < 192 ∨ 256 ≤ (v.extractLsb' 0 10).toNat) :
    t.writeHydConfig 3 v = t.modHyd fun h => { h with destValid := v.getLsbD 31, dest := v.extractLsb' 0 10 } := by
  rw [Tun.writeHydConfig, if_neg (by decide), if_pos rfl]
  exact if_neg fun out => out.2 (within out.1)

/-- A destination from 192 to 255 is not taken with VALID. -/
theorem Tun.writeHydConfig_badDest (valid : v.getLsbD 31 = true) (low : 192 ≤ (v.extractLsb' 0 10).toNat)
    (high : (v.extractLsb' 0 10).toNat ≤ 255) : t.writeHydConfig 3 v = t := by
  rw [Tun.writeHydConfig, if_neg (by decide), if_pos rfl]
  exact if_pos ⟨valid, fun out => out.elim (Nat.not_lt.mpr low) (Nat.not_le.mpr (Nat.lt_succ_of_le high))⟩

/-- The address of a valid ring stays. -/
theorem Tun.writeHydConfig_heldAddr {reg : BitVec 2} (address : reg ≠ 0 ∧ reg ≠ 3) (valid : t.hyd.ringValid = true) :
    t.writeHydConfig reg v = t := by
  rw [Tun.writeHydConfig, if_neg address.1, if_neg address.2, if_pos valid]

theorem Tun.writeHydConfig_addr {reg : BitVec 2} (address : reg ≠ 0 ∧ reg ≠ 3) (free : t.hyd.ringValid = false) :
    t.writeHydConfig reg v = t.modHyd fun h => { h with
      ringAddr := if reg = 1 then h.ringAddr.extractLsb' 32 32 ++ v else v ++ h.ringAddr.extractLsb' 0 32 } := by
  rw [Tun.writeHydConfig, if_neg address.1, if_neg address.2, if_neg (by simp [free])]

/-- A write to a valid ring's settings that only clears VALID. -/
def Hyd.onlyClears (h : Hyd) (v : Word) : Prop :=
  v.getLsbD 31 = false ∧ v.getLsbD 30 = h.ringInt ∧ v.extractLsb' 24 5 = h.ringLog2 ∧ v.extractLsb' 0 11 = h.ringVector

theorem Tun.writeHydConfig_clears (valid : t.hyd.ringValid = true) (only : t.hyd.onlyClears v) :
    t.writeHydConfig 0 v = t.modHyd fun h => { h with ringValid := false } := by
  obtain ⟨clear, int, depth, vector⟩ := only
  rw [Tun.writeHydConfig, if_pos rfl, Tun.writeRingCfgHyd]
  exact (if_pos valid).trans (if_pos ⟨Bool.eq_false_iff.mp clear, int, depth, vector⟩)

theorem Tun.writeHydConfig_heldRing (valid : t.hyd.ringValid = true) (more : ¬ t.hyd.onlyClears v) : t.writeHydConfig 0 v = t := by
  rw [Tun.writeHydConfig, if_pos rfl, Tun.writeRingCfgHyd]
  refine (if_pos valid).trans (if_neg fun ⟨clear, int, depth, vector⟩ => more ⟨Bool.eq_false_iff.mpr clear, int, depth, vector⟩)

theorem Tun.writeHydConfig_opens (free : t.hyd.ringValid = false) (valid : v.getLsbD 31 = true)
    (range : ringRange t.hyd.ringAddr (v.extractLsb' 24 5) (v.extractLsb' 0 11) = true) :
    t.writeHydConfig 0 v = t.modHyd fun h => { h with
      ringValid := true, ringInt := v.getLsbD 30, ringLog2 := v.extractLsb' 24 5, ringVector := v.extractLsb' 0 11, tail := 0, head := 0 } := by
  rw [Tun.writeHydConfig, if_pos rfl, Tun.writeRingCfgHyd]
  exact (if_neg (by simp [free])).trans ((if_pos valid).trans (if_pos range))

theorem Tun.writeHydConfig_badRing (free : t.hyd.ringValid = false) (valid : v.getLsbD 31 = true)
    (range : ringRange t.hyd.ringAddr (v.extractLsb' 24 5) (v.extractLsb' 0 11) = false) : t.writeHydConfig 0 v = t := by
  rw [Tun.writeHydConfig, if_pos rfl, Tun.writeRingCfgHyd]
  exact (if_neg (by simp [free])).trans ((if_pos valid).trans (if_neg (Bool.eq_false_iff.mp range)))

theorem ringRange_false {a : Dword} {l : BitVec 5} {w : BitVec 11}
    (out : l.toNat < 8 ∨ 16 < l.toNat ∨ 1024 ≤ w.toNat ∨ a.toNat % (2 ^ l.toNat * 32) ≠ 0) : ringRange a l w = false := by
  rcases out with h | h | h | h <;> simp [ringRange, h]

end

/-! ### What a round under way keeps -/

/-- What a round takes at its start: its number, its snapshot and the paths it is emitted on (20 R778, R779). -/
def Tun.roundPlan (t : Tun) : Half × Tab Dword × Bool × Bool := (t.hyd.round, t.hyd.snap, t.hyd.onInband, t.hyd.onRing)

section
variable {now : Nat}

/-- A fold keeps the plan when each of its steps does. -/
theorem Tun.roundPlan_foldl {α : Type} {f : Tun → α → Tun} (h : ∀ t a, (f t a).roundPlan = t.roundPlan) (l : List α) (t : Tun) :
    (l.foldl f t).roundPlan = t.roundPlan := by
  induction l generalizing t with
  | nil => rfl
  | cons a l ih => exact (ih _).trans (h t a)

@[simp] theorem Tun.drop_roundPlan (code port : Nat) (p : Packet) : (t.drop code port p).roundPlan = t.roundPlan := by
  unfold Tun.drop; dsimp only; split <;> rfl

@[simp] theorem Tun.queueOut_roundPlan (ps : List Packet) : (t.queueOut now ps).roundPlan = t.roundPlan := by
  unfold Tun.queueOut Tun.refillEngine Tun.peak; dsimp only; split <;> rfl

@[simp] theorem Tun.dropAnswered_roundPlan (code port : Nat) (p : Packet) : (t.dropAnswered now code port p).roundPlan = t.roundPlan := by
  unfold Tun.dropAnswered
  split
  · split <;> simp
  · simp

@[simp] theorem Tun.formOwn_roundPlan (p : Packet) : (t.formOwn now p).2.roundPlan = t.roundPlan := by
  unfold Tun.formOwn
  extract_lets own
  split
  · split
    · exact Tun.drop_roundPlan ..
    · exact Tun.roundPlan_foldl (fun _ _ => Tun.drop_roundPlan ..) ..
  · split
    · exact Tun.dropAnswered_roundPlan ..
    · split <;> rfl

@[simp] theorem Tun.exportInband_roundPlan (r : List Byte) : (t.exportInband now r).roundPlan = t.roundPlan := by
  simp [Tun.exportInband, Tun.originate]

@[simp] theorem Tun.hostWrite_roundPlan (fn : Option Nat) (a : Nat) (bs : List Byte) (p : Bool) :
    (t.hostWrite fn a bs p).roundPlan = t.roundPlan := by
  unfold Tun.hostWrite
  split
  · split <;> rfl
  · rfl

@[simp] theorem Tun.msi_roundPlan (fn : Option Nat) (v : Nat) : (t.msi fn v).roundPlan = t.roundPlan := by
  unfold Tun.msi
  dsimp only
  repeat' split
  all_goals rfl

@[simp] theorem Tun.exportRing_roundPlan (r : List Byte) : (t.exportRing r).roundPlan = t.roundPlan := by
  unfold Tun.exportRing
  dsimp only
  split
  · rfl
  · exact Tun.hostWrite_roundPlan ..

@[simp] theorem Tun.exportShare_roundPlan : (t.exportShare now).roundPlan = t.roundPlan := by
  have emitted {f : Tun → List Byte → Tun} (keeps : ∀ t r, (f t r).roundPlan = t.roundPlan) (rs : List (List Byte)) (on : Prop) [Decidable on]
      (u : Tun) : (if on then rs.foldl f u else u).roundPlan = u.roundPlan := by
    split
    · exact Tun.roundPlan_foldl keeps ..
    · rfl
  unfold Tun.exportShare
  extract_lets h rs left inband ring
  have kept : ring.roundPlan = t.roundPlan :=
    (emitted (fun _ _ => Tun.exportRing_roundPlan _) ..).trans (emitted (fun _ _ => Tun.exportInband_roundPlan _) ..)
  split
  · rfl
  · split
    · exact (Tun.msi_roundPlan ..).trans kept
    · exact kept

end

/-- A round that starts is numbered next, takes a snapshot, and is emitted on the paths that are enabled with valid settings. -/
theorem Tun.exportRound_starts (now : Nat) (due : t.roundDue = true) (done : t.hyd.left = []) :
    (t.exportRound now).roundPlan =
      (t.hyd.round + 1, t.snapshot.hyd.snap, t.hyd.exportEn && t.hyd.destValid, t.hyd.ringEn && t.hyd.ringValid) := by
  rw [Tun.exportRound, if_neg (by simp [due]), if_neg (by simp [done])]
  dsimp only
  split
  · rfl
  · exact Tun.exportShare_roundPlan

/-- Settles O60: the registers refuse as R786 lists, and a round is planned from the settings. -/
theorem exportSettings : Obligations.ExportSettings := by
  intro s x v u h hold on
  simp only [exec_hydConfigWrite _ v hold on]
  refine ⟨fun valid low high => ?dest, fun valid => ⟨?low, ?high, fun more => ?more, fun only => ?only⟩, fun free valid out => ?range,
    fun counts due done => ?round⟩
  case dest => exact onTun_same (Tun.writeHydConfig_badDest valid low high)
  case low => exact onTun_same (Tun.writeHydConfig_heldAddr (by decide) valid)
  case high => exact onTun_same (Tun.writeHydConfig_heldAddr (by decide) valid)
  case more => exact onTun_same (Tun.writeHydConfig_heldRing valid more)
  case only => exact onTun_congr (Tun.writeHydConfig_clears valid only)
  case range => exact onTun_same (Tun.writeHydConfig_badRing free valid (ringRange_false out))
  case round =>
    refine answers_tun rfl fun t e only => ?_
    rw [e, if_pos counts]
    have plan := Tun.exportRound_starts s.now due done
    exact ⟨congrArg (·.2.2.1) plan, congrArg (·.2.2.2) plan⟩

/-! ### Hydrometer's commands -/

/-- The model's match on the path a read comes by. -/
theorem Tun.hydLatch_hyd (p : Path) : (t.hydLatch p).hyd = match p with
    | .pcie => { t.hyd with hiPcie := t.hydRead.extractLsb' 32 32 }
    | .inband => { t.hyd with hiInband := t.hydRead.extractLsb' 32 32 }
    | .sideband => { t.hyd with hiSideband := t.hydRead.extractLsb' 32 32 } := by cases p <;> rfl

/-- A ring head within the records written moves, or rests where it was. -/
theorem Tun.hydHead_within {i : Half} (valid : t.hyd.ringValid = true)
    (inside : (i - t.hyd.head).toNat ≤ (t.hyd.tail - t.hyd.head).toNat) : (t.hydHead i).hyd = { t.hyd with head := i } := by
  by_cases rests : i = t.hyd.head
  · simp [Tun.hydHead, rests]
  · have moves : (i - t.hyd.head).toNat ≠ 0 := fun e => rests (by bv_omega)
    rw [Tun.hydHead, if_neg (not_or.mpr ⟨not_not.mpr valid, moves⟩), if_pos inside]
    rfl

/-- The last record of a round on a ring with room. -/
theorem Tun.exportShare_last {r : List Byte} (now : Nat) (left : t.hyd.left = [r]) (inband : t.hyd.onInband = false)
    (ring : t.hyd.onRing = true) (int : t.hyd.ringInt = false) (live : t.hyd.dropping = false)
    (room : (t.hyd.tail - t.hyd.head).toNat ≠ t.hyd.ringDepth - 1) (reach : t.hostReach 0 = true) (found : t.host.lost = false) :
    t.exportShare now = { t with
      out := t.out ++ [.hostWrite 0 (t.hyd.ringAddr.toNat + 32 * (t.hyd.tail.toNat % t.hyd.ringDepth))
        (r.take 31 ++ [if t.hyd.tail.toNat / t.hyd.ringDepth % 2 = 0 then 0x80 else 0]) false],
      hyd := { t.hyd with left := [], tail := t.hyd.tail + 1 } } := by
  have sent : (t.modHyd fun h => { h with left := [] }).exportRing r = { t with
      out := t.out ++ [.hostWrite 0 (t.hyd.ringAddr.toNat + 32 * (t.hyd.tail.toNat % t.hyd.ringDepth))
        (r.take 31 ++ [if t.hyd.tail.toNat / t.hyd.ringDepth % 2 = 0 then 0x80 else 0]) false],
      hyd := { t.hyd with left := [], tail := t.hyd.tail + 1 } } := by
    rw [Tun.exportRing]
    refine (if_neg (not_or.mpr ⟨Bool.eq_false_iff.mp live, room⟩)).trans ?_
    exact if_pos (by rw [Bool.and_eq_true, Bool.not_eq_true']; exact ⟨reach, found⟩)
  have one : t.exportShare now = (t.modHyd fun h => { h with left := [] }).exportRing r := by
    simp [Tun.exportShare, left, inband, ring, int, Tun.modHyd]
  exact one.trans sent

/-- Settles O43. -/
theorem hydrometerCommandsComplete : Obligations.HydrometerCommandsComplete := by
  intro s x u
  refine ⟨fun hold on => ?window, fun counts due => ⟨fun left => ?skip, fun done inband en valid _ => ?start⟩,
    fun r counts left inband ring int live room reach found => ?goesOn⟩
  case window =>
    have opened (f : Tun → Tun) : u.openWrite f = f u := Tun.openWrite_open hold on
    refine ⟨fun done => ?snap, fun p => ?latch, fun i valid inside => ?head, fun v free => ⟨?low, ?high, fun valid range => ?ring⟩,
      fun v within => ?dest⟩
    case snap =>
      refine answers_tun rfl fun t e only => ?_
      have taken : t.tun x = u.snapshot := by rw [e, opened, Tun.snapWrite, if_pos (by simp [u, done])]
      exact ⟨taken, by rw [taken]; rfl, only⟩
    case latch => exact answers_tun rfl fun t e only => ⟨by rw [e, opened]; exact Tun.hydLatch_hyd p, only⟩
    case head => exact answers_tun rfl fun t e only => ⟨by rw [e, opened]; exact Tun.hydHead_within valid inside, only⟩
    case low =>
      refine answers_tun rfl fun t e only => ⟨?_, only⟩
      rw [e, opened, Tun.writeHydConfig_addr (by decide) free]
      rfl
    case high =>
      refine answers_tun rfl fun t e only => ⟨?_, only⟩
      rw [e, opened, Tun.writeHydConfig_addr (by decide) free]
      rfl
    case ring =>
      refine answers_tun rfl fun t e only => ⟨?_, only⟩
      rw [e, opened, Tun.writeHydConfig_opens free valid range]
      rfl
    case dest =>
      refine answers_tun rfl fun t e only => ⟨?_, only⟩
      rw [e, opened, Tun.writeHydConfig_dest fun _ => .inl within]
      rfl
  case skip =>
    rw [Answers, roundSkipped s x counts due left]
    exact ⟨_, rfl, congrArg Tun.hyd (State.tun_modTun ..), onlyTun_mod ..⟩
  case start =>
    refine answers_tun rfl fun t e only => ?_
    rw [e, if_pos counts]
    have plan := Tun.exportRound_starts s.now due done
    exact ⟨congrArg (·.1) plan, congrArg (·.2.1) plan, (congrArg (·.2.2.2) plan).trans (by simp [u, en, valid]), only⟩
  case goesOn =>
    refine answers_tun rfl fun t e only => ?_
    rw [e, if_pos counts, Tun.exportShare_last s.now left inband ring int live room reach found]
    exact ⟨rfl, rfl, only⟩

end

end Sys2Proof.Machine
end

section
/-! SUPPORT. What each of a Tun's operations does to its memory: the tables of Wort, Cask, contexts and streams stay in canonical form, and
the operations outside the storing ones leave every byte and every poison mark as it was. -/

namespace Sys2Proof.Machine
open Sys2Proof
set_option Elab.async false

/-- Wort, Cask, their poison marks, the contexts and the streams are tables in canonical form. -/
def Tun.MemForm (u : Tun) : Prop :=
  u.bm.wort.wf 0 = true ∧ u.bm.poison.wf false = true ∧ u.cellar.cask.wf 0 = true ∧ u.cellar.poison.wf false = true ∧
    u.bm.ctxs.wf {} = true ∧ u.token.streams.wf {} = true

/-- From `u` to `t` the tables keep their canonical form, and unless the memory may be written (`w`) its bytes and poison marks are as they
were. -/
structure MemKept (w : Bool) (u t : Tun) : Prop where
  form : u.MemForm → t.MemForm
  same : w = false → SameMemory u t

variable {w : Bool} {u t : Tun}

/-! ### The ways a Tun is changed -/

theorem MemKept.refl : MemKept w u u := ⟨id, fun _ => ⟨rfl, rfl, rfl, rfl⟩⟩

theorem MemKept.trans {v : Tun} (h : MemKept w u t) (k : MemKept w t v) : MemKept w u v := by
  refine ⟨fun f => k.form (h.form f), fun e => ?_⟩
  obtain ⟨a1, a2, a3, a4⟩ := h.same e
  obtain ⟨b1, b2, b3, b4⟩ := k.same e
  exact ⟨b1.trans a1, b2.trans a2, b3.trans a3, b4.trans a4⟩

/-- What keeps Brewmaster, the Cellar and the token engines keeps the memory and the tables. -/
theorem MemKept.of_same {v : Tun} (h : MemKept w u t) (hb : Part.bm.same t v) (hc : Part.cellar.same t v) (ht : Part.token.same t v) :
    MemKept w u v := by
  change v.bm = t.bm at hb
  change v.cellar = t.cellar at hc
  change v.token = t.token at ht
  obtain ⟨f, s⟩ := h
  constructor
  · simpa [Tun.MemForm, hb, hc, ht] using f
  · simpa [SameMemory, hb, hc] using s

theorem MemKept.ite {c : Prop} [Decidable c] {a b : Tun} (ha : MemKept w u a) (hb : MemKept w u b) :
    MemKept w u (if c then a else b) := by split <;> assumption

/-- A change made under a condition. -/
theorem MemKept.when {c : Prop} [Decidable c] {v : Tun} (h : MemKept w u t) (f : MemKept w u t → MemKept w u v) :
    MemKept w u (if c then v else t) := .ite (f h) h

theorem MemKept.unless {c : Prop} [Decidable c] {v : Tun} (h : MemKept w u t) (f : MemKept w u t → MemKept w u v) :
    MemKept w u (if c then t else v) := .ite h (f h)

theorem MemKept.branch {c : Prop} [Decidable c] {a b : Tun} (h : MemKept w u t) (f : MemKept w u t → MemKept w u a)
    (g : MemKept w u t → MemKept w u b) : MemKept w u (if c then a else b) := .ite (f h) (g h)

/-- A fold keeps what each of its steps keeps. -/
theorem MemKept.foldl {α : Type} {f : Tun → α → Tun} {l : List α} (h : MemKept w u t)
    (hf : ∀ {t : Tun} {a : α}, MemKept w u t → MemKept w u (f t a)) : MemKept w u (l.foldl f t) := by
  induction l generalizing t with
  | nil => exact h
  | cons a l ih => exact ih (hf h)

section
variable (h : MemKept w u t)
include h
theorem MemKept.with_svc {x : Svc} : MemKept w u { t with svc := x } := h.of_same rfl rfl rfl
theorem MemKept.with_clk {x : Clk} : MemKept w u { t with clk := x } := h.of_same rfl rfl rfl
theorem MemKept.with_rack {x : Rack} : MemKept w u { t with rack := x } := h.of_same rfl rfl rfl
theorem MemKept.with_conflict {x : Conflict} : MemKept w u { t with conflict := x } := h.of_same rfl rfl rfl
theorem MemKept.with_proxy {x : Proxy} : MemKept w u { t with proxy := x } := h.of_same rfl rfl rfl
theorem MemKept.with_ports {x : Tab Port} : MemKept w u { t with ports := x } := h.of_same rfl rfl rfl
theorem MemKept.with_plane {x : Plane} : MemKept w u { t with plane := x } := h.of_same rfl rfl rfl
theorem MemKept.with_hyd {x : Hyd} : MemKept w u { t with hyd := x } := h.of_same rfl rfl rfl
theorem MemKept.with_sched {x : Sched} : MemKept w u { t with sched := x } := h.of_same rfl rfl rfl
theorem MemKept.with_mash {x : Mash} : MemKept w u { t with mash := x } := h.of_same rfl rfl rfl
theorem MemKept.with_host {x : HPort} : MemKept w u { t with host := x } := h.of_same rfl rfl rfl
theorem MemKept.with_err {x : Err} : MemKept w u { t with err := x } := h.of_same rfl rfl rfl
theorem MemKept.with_rel {x : Rel} : MemKept w u { t with rel := x } := h.of_same rfl rfl rfl
theorem MemKept.with_junction {x : Junction} : MemKept w u { t with junction := x } := h.of_same rfl rfl rfl
theorem MemKept.with_out {x : List TunEmit} : MemKept w u { t with out := x } := h.of_same rfl rfl rfl

/-- A change of Brewmaster beside its memory and its contexts. -/
theorem MemKept.with_bm {x : Bm} (hw : x.wort = t.bm.wort := by rfl) (hp : x.poison = t.bm.poison := by rfl) (hc : x.ctxs = t.bm.ctxs := by rfl) :
    MemKept w u { t with bm := x } := by
  obtain ⟨f, s⟩ := h
  constructor
  · simpa [Tun.MemForm, hw, hp, hc] using f
  · simpa [SameMemory, hw, hp] using s

theorem MemKept.modBm {f : Bm → Bm} (hw : (f t.bm).wort = t.bm.wort := by rfl) (hp : (f t.bm).poison = t.bm.poison := by rfl)
    (hc : (f t.bm).ctxs = t.bm.ctxs := by rfl) : MemKept w u (t.modBm f) := h.with_bm hw hp hc

/-- A change of the Cellar beside its memory. -/
theorem MemKept.with_cellar {x : Cellar} (hc : x.cask = t.cellar.cask := by rfl) (hp : x.poison = t.cellar.poison := by rfl) :
    MemKept w u { t with cellar := x } := by
  obtain ⟨f, s⟩ := h
  constructor
  · simpa [Tun.MemForm, hc, hp] using f
  · simpa [SameMemory, hc, hp] using s

theorem MemKept.modCellar {f : Cellar → Cellar} (hc : (f t.cellar).cask = t.cellar.cask := by rfl)
    (hp : (f t.cellar).poison = t.cellar.poison := by rfl) : MemKept w u (t.modCellar f) := h.with_cellar hc hp

/-- A change of the token engines beside their streams. -/
theorem MemKept.with_token {x : Token} (hs : x.streams = t.token.streams := by rfl) : MemKept w u { t with token := x } := by
  obtain ⟨f, s⟩ := h
  constructor
  · simpa [Tun.MemForm, hs] using f
  · exact s

theorem MemKept.modToken {f : Token → Token} (hs : (f t.token).streams = t.token.streams := by rfl) : MemKept w u (t.modToken f) :=
  h.with_token hs

theorem MemKept.modCtx {c : Nat} {f : Ctx → Ctx} : MemKept w u (t.modCtx c f) := by
  refine ⟨fun m => ?_, h.same⟩
  obtain ⟨a1, a2, a3, a4, a5, a6⟩ := h.form m
  exact ⟨a1, a2, a3, a4, Tab.set_wf _ _ _ a5, a6⟩

theorem MemKept.modStream {n : Nat} {f : TStream → TStream} : MemKept w u (t.modStream n f) := by
  refine ⟨fun m => ?_, h.same⟩
  obtain ⟨a1, a2, a3, a4, a5, a6⟩ := h.form m
  exact ⟨a1, a2, a3, a4, a5, Tab.set_wf _ _ _ a6⟩

end

/-- A write to Wort and its marks that keeps their form. -/
theorem MemKept.wortMem {x : Tab Byte} {m : Tab Bool} (h : MemKept true u t) (hw : t.bm.wort.wf 0 = true → x.wf 0 = true)
    (hp : t.bm.poison.wf false = true → m.wf false = true) :
    MemKept true u { t with bm := { t.bm with wort := x, poison := m } } := by
  refine ⟨fun f => ?_, nofun⟩
  obtain ⟨a1, a2, a3, a4, a5, a6⟩ := h.form f
  exact ⟨hw a1, hp a2, a3, a4, a5, a6⟩

/-- A write to Cask and its marks that keeps their form. -/
theorem MemKept.caskMem {x : Tab Byte} {m : Tab Bool} (h : MemKept true u t) (hw : t.cellar.cask.wf 0 = true → x.wf 0 = true)
    (hp : t.cellar.poison.wf false = true → m.wf false = true) :
    MemKept true u { t with cellar := { t.cellar with cask := x, poison := m } } := by
  refine ⟨fun f => ?_, nofun⟩
  obtain ⟨a1, a2, a3, a4, a5, a6⟩ := h.form f
  exact ⟨a1, a2, hw a3, hp a4, a5, a6⟩

theorem MemKept.proxyAnswer (h : MemKept w u t) {bs : List Byte} :
    MemKept w u (t.proxyAnswer bs) := h.of_same (by simp) (by simp) (by simp)

theorem MemKept.proxyFail (h : MemKept w u t) :
    MemKept w u t.proxyFail := h.of_same (by simp) (by simp) (by simp)

theorem MemKept.bumpBy (h : MemKept w u t) {g c i n : Nat} :
    MemKept w u (t.bumpBy g c i n) := h.of_same (by simp) (by simp) (by simp)

theorem MemKept.bump (h : MemKept w u t) {g c i : Nat} :
    MemKept w u (t.bump g c i) := h.of_same (by simp) (by simp) (by simp)

theorem MemKept.peak (h : MemKept w u t) {g c i v : Nat} :
    MemKept w u (t.peak g c i v) := h.of_same (by simp) (by simp) (by simp)

theorem MemKept.emit (h : MemKept w u t) {e : TunEmit} :
    MemKept w u (t.emit e) := h.of_same (by simp) (by simp) (by simp)

theorem MemKept.modPort (h : MemKept w u t) {id : Nat} {f : Port → Port} :
    MemKept w u (t.modPort id f) := h.of_same (by simp) (by simp) (by simp)

theorem MemKept.windowWrite (h : MemKept w u t) {f : Tun → Tun} (hf : ∀ {t : Tun}, MemKept w u t → MemKept w u (f t)) :
    MemKept w u (t.windowWrite f) := .ite h (h.branch (·.with_svc) hf)

theorem MemKept.openWrite (h : MemKept w u t) {f : Tun → Tun} (hf : ∀ {t : Tun}, MemKept w u t → MemKept w u (f t)) :
    MemKept w u (t.openWrite f) := h.unless hf

theorem MemKept.wakeTx (h : MemKept w u t) {now id : Nat} :
    MemKept w u (t.wakeTx now id) := h.of_same (by simp) (by simp) (by simp)

theorem MemKept.putFlit (h : MemKept w u t) {now id : Nat} {f : HeldFlit} :
    MemKept w u (t.putFlit now id f) := h.of_same (by simp) (by simp) (by simp)

theorem MemKept.putOrdered (h : MemKept w u t) {now id : Nat} {ft : BitVec 4} {payload : List Byte} :
    MemKept w u (t.putOrdered now id ft payload) := h.of_same (by simp) (by simp) (by simp)

theorem MemKept.putOrderedN (h : MemKept w u t) {now id : Nat} {ft : BitVec 4} {payload : List Byte} {n : Nat} :
    MemKept w u (t.putOrderedN now id ft payload n) := h.of_same (by simp) (by simp) (by simp)

theorem MemKept.pumpN (h : MemKept w u t) {now id n : Nat} : MemKept w u (t.pumpN now id n) := h.of_same (by simp) (by simp) (by simp)

theorem MemKept.pump (h : MemKept w u t) {now id : Nat} :
    MemKept w u (t.pump now id) := h.of_same (by simp) (by simp) (by simp)

theorem MemKept.resend (h : MemKept w u t) {now id : Nat} {hs : List HeldFlit} :
    MemKept w u (t.resend now id hs) := h.of_same (by simp) (by simp) (by simp)

theorem MemKept.ringLinkDown (h : MemKept w u t) {now id : Nat} :
    MemKept w u (t.ringLinkDown now id) := h.of_same (by simp) (by simp) (by simp)

theorem MemKept.sendRate (h : MemKept w u t) {id : Nat} :
    MemKept w u (t.sendRate id) := h.of_same (by simp) (by simp) (by simp)

theorem MemKept.latchTraining (h : MemKept w u t) {id : Nat} :
    MemKept w u (t.latchTraining id) := h.of_same (by simp) (by simp) (by simp)

theorem MemKept.trainAnew (h : MemKept w u t) {id : Nat} :
    MemKept w u (t.trainAnew id) := h.of_same (by simp) (by simp) (by simp)

theorem MemKept.portDown (h : MemKept w u t) {now id : Nat} {cause : BitVec 4} {wait : Bool} :
    MemKept w u (t.portDown now id cause wait) := h.of_same (by simp) (by simp) (by simp)

theorem MemKept.startReplay (h : MemKept w u t) {now id : Nat} {from_ : BitVec 12} {counted : Bool} :
    MemKept w u (t.startReplay now id from_ counted) := h.of_same (by simp) (by simp) (by simp)

theorem MemKept.wantNak (h : MemKept w u t) {now id : Nat} :
    MemKept w u (t.wantNak now id) :=
  h.unless (·.modPort.putOrdered.bump)

theorem MemKept.fencePort (h : MemKept w u t) {now scope : Nat} {back : Bool} {id : Nat} :
    MemKept w u (t.fencePort now scope back id) := h.of_same (by simp) (by simp) (by simp)

theorem MemKept.fencePorts (h : MemKept w u t) {now : Nat} {ids : List Nat} {scope : Nat} {back : Bool} :
    MemKept w u (t.fencePorts now ids scope back) := h.of_same (by simp) (by simp) (by simp)

theorem MemKept.fenceLinks (h : MemKept w u t) {now scope : Nat} {back : Bool} :
    MemKept w u (t.fenceLinks now scope back) := h.of_same (by simp) (by simp) (by simp)

theorem MemKept.signalLost (h : MemKept w u t) {now id : Nat} :
    MemKept w u (t.signalLost now id) := h.of_same (by simp) (by simp) (by simp)

theorem MemKept.portsOffline (h : MemKept w u t) {now : Nat} {ids : List Nat} :
    MemKept w u (t.portsOffline now ids) :=
  h.foldl fun h => h.unless (·.modPort.ringLinkDown)

theorem MemKept.idleFlit (h : MemKept w u t) {now id : Nat} :
    MemKept w u (t.idleFlit now id) :=
  h.when (·.putOrdered)

theorem MemKept.idleFlits (h : MemKept w u t) {now : Nat} :
    MemKept w u (t.idleFlits now) :=
  h.foldl fun h => h.idleFlit

theorem MemKept.announceState (h : MemKept w u t) {now : Nat} :
    MemKept w u (t.announceState now) := h.of_same (by simp) (by simp) (by simp)

theorem MemKept.modErr (h : MemKept w u t) {f : Err → Err} :
    MemKept w u (t.modErr f) :=
  h.with_err

theorem MemKept.modRel (h : MemKept w u t) {f : Rel → Rel} :
    MemKept w u (t.modRel f) := h.of_same (by simp) (by simp) (by simp)

theorem MemKept.logError (h : MemKept w u t) {now : Nat} {src : Byte} {cls : Nat} {at_ : ErrAt} :
    MemKept w u (t.logError now src cls at_) := h.of_same (by simp) (by simp) (by simp)

theorem MemKept.refillEngine (h : MemKept w u t) {now : Nat} :
    MemKept w u (t.refillEngine now) := h.of_same (by simp) (by simp) (by simp)

theorem MemKept.drop (h : MemKept w u t) {code port : Nat} {p : Packet} :
    MemKept w u (t.drop code port p) :=
  (h.bump.when (·.with_bm)).with_plane

theorem MemKept.takeSeq (h : MemKept w u t) {dst ch : Nat} :
    MemKept w u ((t.takeSeq dst ch).2) := h.of_same (by simp) (by simp) (by simp)

theorem MemKept.queueOut (h : MemKept w u t) {now : Nat} {ps : List Packet} :
    MemKept w u (t.queueOut now ps) := h.of_same (by simp) (by simp) (by simp)

theorem MemKept.dropAnswered (h : MemKept w u t) {now code port : Nat} {p : Packet} :
    MemKept w u (t.dropAnswered now code port p) := by
  unfold Tun.dropAnswered
  dsimp only
  split
  · split
    · exact h.drop.queueOut
    · exact h.drop
  · exact h.drop

theorem MemKept.formOwn (h : MemKept w u t) {now : Nat} {p : Packet} : MemKept w u (t.formOwn now p).2 := by
  unfold Tun.formOwn
  extract_lets own
  split
  · split
    · exact h.drop
    · exact h.foldl (·.drop)
  · split
    · exact h.dropAnswered
    · split
      · exact h.takeSeq
      · exact h

theorem MemKept.originate (h : MemKept w u t) {now : Nat} {p : Packet} :
    MemKept w u (t.originate now p) :=
  h.formOwn.queueOut

theorem MemKept.linkLoss (h : MemKept w u t) {id : Nat} :
    MemKept w u (t.linkLoss id) :=
  ((h.when (·.drop)).foldl fun h => h.drop).when (·.drop)

theorem MemKept.discardLink (h : MemKept w u t) {id : Nat} :
    MemKept w u (t.discardLink id) :=
  h.linkLoss.modPort

theorem MemKept.holdPacket (h : MemKept w u t) {now id : Nat} {vc : Bool} {p : Packet} :
    MemKept w u (t.holdPacket now id vc p) :=
  (h.when (fun h => h.foldl fun h => h.drop)).unless (·.branch (·.with_plane.peak) (·.with_plane.peak))

theorem MemKept.holdForfeit (h : MemKept w u t) {now id : Nat} {p : Packet} :
    MemKept w u (t.holdForfeit now id p) :=
  h.with_plane

theorem MemKept.dropStreams (h : MemKept w u t) {subject : Nat} :
    MemKept w u (t.dropStreams subject) :=
  h.foldl fun h => (h.foldl fun h => h.drop).with_plane

theorem MemKept.recordDeparture (h : MemKept w u t) {now subject : Nat} :
    MemKept w u (t.recordDeparture now subject) := h.of_same (by simp) (by simp) (by simp)

theorem MemKept.sendNotices (h : MemKept w u t) {now subject scope : Nat} {incarn : Byte} :
    MemKept w u (t.sendNotices now subject scope incarn) :=
  h.foldl fun h => h.originate

theorem MemKept.forwardNotice (h : MemKept w u t) {now subject scope : Nat} {incarn : Byte} :
    MemKept w u (t.forwardNotice now subject scope incarn) :=
  h.foldl fun h => h.originate

theorem MemKept.modQueue (h : MemKept w u t) {q : Nat} {f : Queue → Queue} :
    MemKept w u (t.modQueue q f) :=
  h.modBm

theorem MemKept.modRing (h : MemKept w u t) {r : Nat} {f : Ring → Ring} :
    MemKept w u (t.modRing r f) :=
  h.modBm

theorem MemKept.modSem (h : MemKept w u t) {n : Nat} {f : Sem → Sem} :
    MemKept w u (t.modSem n f) :=
  h.modBm

theorem MemKept.modCmd (h : MemKept w u t) {id : Nat} {f : Cmd → Cmd} :
    MemKept w u (t.modCmd id f) :=
  h.modBm

theorem MemKept.removeCmd (h : MemKept w u t) {id : Nat} :
    MemKept w u (t.removeCmd id) :=
  h.modBm

theorem MemKept.producerDoorbell (h : MemKept w u t) {q : Nat} {i : Half} :
    MemKept w u (t.producerDoorbell q i) :=
  h.unless (·.branch (·.modQueue) (·.branch (·.modQueue) (·.modBm)))

theorem MemKept.headDoorbell (h : MemKept w u t) {r : Nat} {i : Half} :
    MemKept w u (t.headDoorbell r i) :=
  h.unless (·.branch (·.modRing) (·.branch (·.modRing) (·.modBm)))

theorem MemKept.wortSet (h : MemKept true u t) {a : Nat} {b : Byte} : MemKept true u (t.wortSet a b) :=
  h.wortMem (Tab.set_wf _ _ _) id

theorem MemKept.shareWrite (h : MemKept true u t) {c off : Nat} {bs : List Byte} :
    MemKept true u (t.shareWrite c off bs) :=
  h.foldl fun h => h.wortSet

theorem MemKept.shareMark (h : MemKept true u t) {c off len : Nat} {p : Bool} : MemKept true u (t.shareMark c off len p) := by
  unfold Tun.shareMark
  exact h.foldl fun h => h.when fun h => h.wortMem id (Tab.set_wf _ _ _)

theorem MemKept.shareStore (h : MemKept true u t) {c off : Nat} {bs : List Byte} {p : Bool} :
    MemKept true u (t.shareStore c off bs p) :=
  h.shareWrite.shareMark

theorem MemKept.hostWrite (h : MemKept w u t) {fn : Option Nat} {addr : Nat} {bs : List Byte} {poison : Bool} :
    MemKept w u (t.hostWrite fn addr bs poison) := h.of_same (by simp) (by simp) (by simp)

theorem MemKept.msi (h : MemKept w u t) {fn : Option Nat} {vector : Nat} :
    MemKept w u (t.msi fn vector) := h.of_same (by simp) (by simp) (by simp)

theorem MemKept.putAt (h : MemKept w u t) {now : Nat} {k : Ring} {i : Nat} {bs : List Byte} :
    MemKept w u (t.putAt now k i bs) :=
  h.branch (·.originate) (·.branch (·.hostWrite.hostWrite) (·.hostWrite))

theorem MemKept.putSlot (h : MemKept w u t) {now r : Nat} {bs : List Byte} :
    MemKept w u (t.putSlot now r bs) :=
  h.modRing.putAt

theorem MemKept.putPair (h : MemKept w u t) {now r : Nat} {bs ext : List Byte} :
    MemKept w u (t.putPair now r bs ext) :=
  h.modRing.putAt.putAt

theorem MemKept.putRecord (h : MemKept w u t) {now r : Nat} {bs ext : List Byte} :
    MemKept w u (t.putRecord now r bs ext) :=
  h.branch (·.putSlot) (·.putPair)

theorem MemKept.writeRecord (h : MemKept w u t) {now : Nat} {c : Cmd} {status : Half} {r0 : Dword} {r1 : BitVec 48} {ext : List Byte} :
    MemKept w u (t.writeRecord now c status r0 r1 ext) :=
  h.bump.branch (·.modBm) (·.putRecord.when (·.msi))

theorem MemKept.startCmd (h : MemKept w u t) {c : Cmd} {us : List Nat} :
    MemKept w u (t.startCmd c us) :=
  (((h.modBm.unless (·.modCtx)).foldl fun h => h.modBm).unless (·.modBm)).modCmd

theorem MemKept.releaseEntries (h : MemKept w u t) {id : Nat} : MemKept w u (t.releaseEntries id) := by
  unfold Tun.releaseEntries
  exact h.modBm

theorem MemKept.genAdvance (h : MemKept w u t) {n : Nat} :
    MemKept w u (t.genAdvance n) :=
  h.modCtx

theorem MemKept.killWork (h : MemKept w u t) {c : Cmd} :
    MemKept w u (t.killWork c) :=
  (((h.releaseEntries.foldl fun h => h.bump).modBm).with_sched).modCmd

theorem MemKept.killCmd (h : MemKept w u t) {c : Cmd} :
    MemKept w u (t.killCmd c) :=
  (h.unless (·.genAdvance)).killWork

theorem MemKept.killRerun (h : MemKept w u t) {now : Nat} {c : Cmd} :
    MemKept w u (t.killRerun now c) :=
  h.killCmd.modCmd.when (·.writeRecord)

theorem MemKept.arbitrateN (h : MemKept w u t) {now n : Nat} {tried : List Nat} : MemKept w u (t.arbitrateN now n tried) := by
  induction n generalizing tried t with
  | zero => exact h
  | succ n ih =>
    unfold Tun.arbitrateN
    split
    · exact h
    · split
      · exact ih h.startCmd
      · split
        · exact ih h
        next ks _ =>
          have killed : MemKept w u (ks.foldl (fun t v => t.killRerun now v) t) := h.foldl (·.killRerun)
          dsimp only
          split
          · exact ih killed.startCmd
          · exact ih killed

theorem MemKept.arbitrate (h : MemKept w u t) {now : Nat} :
    MemKept w u (t.arbitrate now) :=
  h.when (·.arbitrateN)

theorem MemKept.semTake (h : MemKept w u t) {n : Nat} {c : Option Nat} :
    MemKept w u (t.semTake n c) :=
  h.modSem

theorem MemKept.semGrant (h : MemKept w u t) {n : Nat} {notice : Bool} :
    MemKept w u (t.semGrant n notice) := by
  unfold Tun.semGrant
  split
  · exact h
  · split
    · exact h.semTake.modCmd
    · exact h

theorem MemKept.semRelease (h : MemKept w u t) {n : Nat} {c : Option Nat} :
    MemKept w u (t.semRelease n c) :=
  h.branch (·.branch (·.modSem.semGrant) (·.modBm)) (·.when (·.branch (·.modBm) (·.modSem.semGrant)))

theorem MemKept.semForce (h : MemKept w u t) {n : Nat} :
    MemKept w u (t.semForce n) :=
  h.modSem.semGrant

theorem MemKept.modGroup (h : MemKept w u t) {n : Nat} {f : Group → Group} :
    MemKept w u (t.modGroup n f) := h.of_same (by simp) (by simp) (by simp)

theorem MemKept.instDone (h : MemKept w u t) {c : Cmd} :
    MemKept w u (t.instDone c) := h.of_same (by simp) (by simp) (by simp)

theorem MemKept.finishCmd (h : MemKept w u t) {now : Nat} {c : Cmd} {status : Half} {r0 : Dword} {r1 : BitVec 48} {ext : List Byte} :
    MemKept w u (t.finishCmd now c status r0 r1 ext) :=
  (((h.instDone.releaseEntries.removeCmd.foldl fun h => h.bump).with_sched).branch (·.bump) (·.writeRecord)).arbitrate

theorem MemKept.semGiveBack (h : MemKept w u t) {c : Cmd} :
    MemKept w u (t.semGiveBack c) := by
  unfold Tun.semGiveBack
  split
  · exact h.semRelease
  · exact h

theorem MemKept.failWith (h : MemKept w u t) {now : Nat} {c : Cmd} {status : Half} {r0 : Dword} :
    MemKept w u (t.failWith now c status r0) :=
  h.semGiveBack.finishCmd

theorem MemKept.failCmd (h : MemKept w u t) {now : Nat} {c : Cmd} {status : Half} :
    MemKept w u (t.failCmd now c status) :=
  h.failWith

theorem MemKept.completeExt (h : MemKept w u t) {now : Nat} {c : Cmd} {status : Half} {r0 : Dword} {r1 : BitVec 48} {ext : List Byte} :
    MemKept w u (t.completeExt now c status r0 r1 ext) := by
  unfold Tun.completeExt
  dsimp only
  split
  · exact h.semRelease.finishCmd
  · exact h.finishCmd

theorem MemKept.completeNow (h : MemKept w u t) {now : Nat} {c : Cmd} {status : Half} {r0 : Dword} {r1 : BitVec 48} :
    MemKept w u (t.completeNow now c status r0 r1) :=
  h.completeExt

theorem MemKept.stage (h : MemKept w u t) {id : Nat} {status : Half} {r0 : Dword} {r1 : BitVec 48} {effects : List Effect} :
    MemKept w u (t.stage id status r0 r1 effects) :=
  h.modCmd

theorem MemKept.issueNext (h : MemKept w u t) {now id : Nat} :
    MemKept w u (t.issueNext now id) := by
  unfold Tun.issueNext
  dsimp only
  split
  · exact h
  · split
    · exact h
    · split
      · exact h.modCmd
      · split
        · exact h.modCmd.when (·.emit)
        · split
          · exact h
          · exact h.modBm.modCmd.originate

theorem MemKept.issueN (h : MemKept w u t) {now id n : Nat} : MemKept w u (t.issueN now id n) := by
  induction n generalizing t with
  | zero => exact h
  | succ n ih => exact ih h.issueNext

theorem MemKept.issueReads (h : MemKept w u t) {now id : Nat} :
    MemKept w u (t.issueReads now id) := by
  unfold Tun.issueReads
  split
  · exact h.issueN
  · exact h

theorem MemKept.planReads (h : MemKept w u t) {now id : Nat} {ps : List Piece} :
    MemKept w u (t.planReads now id ps) :=
  h.modCmd.issueReads

theorem MemKept.maskFail (h : MemKept w u t) {id entry : Nat} {st : Half} : MemKept w u (t.maskFail id entry st) := by
  unfold Tun.maskFail
  exact h.modCmd.modBm

theorem MemKept.notice (h : MemKept w u t) {now gn : Nat} {g : Group} {inst kind dst : Nat} {gen : Byte} {through : Nat} {st : Half} :
    MemKept w u (t.notice now gn g inst kind dst gen through st) :=
  h.originate

theorem MemKept.doneNotices (h : MemKept w u t) {now : Nat} {c : Cmd} {g : Group} {st : Half} {keep : List Nat} :
    MemKept w u (t.doneNotices now c g st keep) :=
  h.unless (fun h => h.foldl fun h => h.notice)

theorem MemKept.pushEnd (h : MemKept w u t) {now : Nat} {c : Cmd} {st : Half} :
    MemKept w u (t.pushEnd now c st) := by
  unfold Tun.pushEnd
  dsimp only
  split
  · exact (h.with_mash.branch (·.completeNow) (·.semGiveBack.finishCmd)).doneNotices
  · exact h.with_mash.branch (·.completeNow) (·.semGiveBack.finishCmd)

theorem MemKept.abortAll (h : MemKept w u t) {now c : Nat} {status : Half} :
    MemKept w u (t.abortAll now c status) :=
  h.genAdvance.foldl fun h => h.branch (·.modCmd) (·.killWork.finishCmd)

theorem MemKept.modSched (h : MemKept w u t) {f : Sched → Sched} :
    MemKept w u (t.modSched f) := h.of_same (by simp) (by simp) (by simp)

theorem MemKept.countForfeit (h : MemKept w u t) {cause port slot : Nat} :
    MemKept w u (t.countForfeit cause port slot) := h.of_same (by simp) (by simp) (by simp)

theorem MemKept.alignComplete (h : MemKept w u t) :
    MemKept w u t.alignComplete := h.of_same (by simp) (by simp) (by simp)

theorem MemKept.keeperAlign (h : MemKept w u t) {was : Bool} :
    MemKept w u (t.keeperAlign was) := h.of_same (by simp) (by simp) (by simp)

theorem MemKept.keeperTakes (h : MemKept w u t) :
    MemKept w u t.keeperTakes := h.of_same (by simp) (by simp) (by simp)

theorem MemKept.planeDone (h : MemKept w u t) {now : Nat} {who : Issuer} {st : Half} :
    MemKept w u (t.planeDone now who st) := by
  unfold Tun.planeDone
  dsimp only
  split
  · exact h.modSched
  · split
    · exact h.modSched.branch (·.completeNow) (·.failCmd)
    · exact h.modSched

theorem MemKept.endStart (h : MemKept w u t) {now : Nat} {st : Half} :
    MemKept w u (t.endStart now st) :=
  h.when (·.modSched.planeDone)

theorem MemKept.releaseWork (h : MemKept w u t) {now : Nat} :
    MemKept w u (t.releaseWork now) :=
  h.modSched.foldl fun h => (by
    split
    · exact h.pushEnd
    · exact h)

theorem MemKept.releaseStopped (h : MemKept w u t) {now : Nat} {st : Half} :
    MemKept w u (t.releaseStopped now st) :=
  h.unless (·.modSched.releaseWork.endStart.modSched.arbitrate)

theorem MemKept.planeRelease (h : MemKept w u t) {now : Nat} :
    MemKept w u (t.planeRelease now) :=
  h.releaseStopped

theorem MemKept.storeFails (h : MemKept w u t) :
    MemKept w u t.storeFails := h.of_same (by simp) (by simp) (by simp)

theorem MemKept.brewStart (h : MemKept w u t) {now : Nat} {who : Issuer} {f : BitVec 48} :
    MemKept w u (t.brewStart now who f) := by
  unfold Tun.brewStart
  split
  · exact h.planeDone
  · exact h.keeperTakes.modSched

theorem MemKept.brewStop (h : MemKept w u t) {now : Nat} {who : Issuer} {b : BitVec 48} :
    MemKept w u (t.brewStop now who b) := by
  unfold Tun.brewStop
  dsimp only
  split
  · exact h.planeDone
  · exact h.modSched.endStart.planeDone
  · exact h.modSched.planeDone
  · exact h.endStart.planeDone

theorem MemKept.shadowDiscard (h : MemKept w u t) {now : Nat} {who : Issuer} :
    MemKept w u (t.shadowDiscard now who) :=
  h.branch (·.planeDone) (·.modSched.planeDone)

theorem MemKept.loadDone (h : MemKept w u t) {now : Nat} {who : Issuer} {st : Half} {reason : Byte} :
    MemKept w u (t.loadDone now who st reason) := by
  unfold Tun.loadDone
  dsimp only
  split
  · exact h.modSched
  · split
    · exact h.modSched.branch (·.completeNow) (·.finishCmd)
    · exact h.modSched

theorem MemKept.recipeLoad (h : MemKept w u t) {now : Nat} {who : Issuer} {src : Dword} :
    MemKept w u (t.recipeLoad now who src) :=
  h.branch (·.loadDone) (·.branch (·.loadDone) (·.branch (·.with_host.loadDone) (·.modSched.emit)))

theorem MemKept.recipeLoaded (h : MemKept w u t) {now : Nat} {image : Option (List Byte)} :
    MemKept w u (t.recipeLoaded now image) := by
  unfold Tun.recipeLoaded
  dsimp only
  split
  · exact h
  · split
    · exact h.modSched.loadDone
    · split
      · exact h.modSched.loadDone
      · split
        · exact h.modSched.modSched.loadDone
        · exact h.modSched.modSched.modSched.loadDone

theorem MemKept.wakeCircuits (h : MemKept w u t) {now : Nat} :
    MemKept w u (t.wakeCircuits now) := h.of_same (by simp) (by simp) (by simp)

theorem MemKept.armedBegin (h : MemKept w u t) {now : Nat} :
    MemKept w u (t.armedBegin now) := by
  unfold Tun.armedBegin
  dsimp only
  split
  · exact h
  · split
    · exact h.modSched.endStart
    · split
      · exact h.modSched.endStart
      · exact h.branch (·.modSched.endStart) (·.modSched.wakeCircuits.endStart)

theorem MemKept.planeDrain (h : MemKept w u t) :
    MemKept w u t.planeDrain := h.of_same (by simp) (by simp) (by simp)

theorem MemKept.alignLost (h : MemKept w u t) :
    MemKept w u t.alignLost := h.of_same (by simp) (by simp) (by simp)

theorem MemKept.sendMarks (h : MemKept w u t) {now : Nat} {brew : BitVec 48} {kRow kCol hops : Byte} :
    MemKept w u (t.sendMarks now brew kRow kCol hops) := h.of_same (by simp) (by simp) (by simp)

theorem MemKept.takeMark (h : MemKept w u t) {m : Marker} :
    MemKept w u (t.takeMark m) := h.of_same (by simp) (by simp) (by simp)

theorem MemKept.setStream (h : MemKept w u t) {k : Nat} {s : Stream} :
    MemKept w u (t.setStream k s) :=
  h.with_plane

theorem MemKept.streamAccept (h : MemKept w u t) {now port : Nat} {p : Packet} : MemKept w u (t.streamAccept now port p).1 := by
  have dropped (l : List (Half × Nat × Nat × Packet)) : MemKept w u (l.foldl (fun t h => t.drop 0x0D h.2.2.1 h.2.2.2) t) :=
    h.foldl (·.drop)
  unfold Tun.streamAccept
  dsimp only
  split
  · exact h.drop
  · exact h
  · split
    · exact (dropped _).setStream.drop
    · split
      · exact (dropped _).setStream
      · exact (dropped _).setStream.peak

theorem MemKept.holeSkip (h : MemKept w u t) {k : Nat} : MemKept w u (t.holeSkip k).1 := by
  unfold Tun.holeSkip
  dsimp only
  split
  · exact h
  · exact h.setStream.with_plane

theorem MemKept.ringJoin (h : MemKept w u t) {north continuing vc : Bool} {p : Packet} :
    MemKept w u (t.ringJoin north continuing vc p) :=
  h.with_plane.peak

theorem MemKept.ringSend (h : MemKept w u t) {now : Nat} {north : Bool} {n : Nat} : MemKept w u (t.ringSend now north n) :=
  h.of_same (by simp) (by simp) (by simp)

theorem MemKept.ringPump (h : MemKept w u t) {now : Nat} :
    MemKept w u (t.ringPump now) := h.of_same (by simp) (by simp) (by simp)

theorem MemKept.pumpLink (h : MemKept w u t) {now id : Nat} :
    MemKept w u (t.pumpLink now id) := h.of_same (by simp) (by simp) (by simp)

theorem MemKept.takeFrom (h : MemKept w u t) {r : HoldRef} {x : Waiting} {now : Nat} : MemKept w u (t.takeFrom r x now) := by
  cases r with
  | engine => exact h.with_plane.refillEngine
  | inj | forfeit | landing => exact h.with_plane

theorem MemKept.putBack (h : MemKept w u t) {r : HoldRef} {x y : Waiting} : MemKept w u (t.putBack r x y) := by
  cases r <;> exact h.with_plane

theorem MemKept.countDeflection (h : MemKept w u t) {o : Nat} {before after : Packet} :
    MemKept w u (t.countDeflection o before after) :=
  ((h.foldl fun h => h.bump).bump).when (·.bump)

theorem MemKept.sendPort (h : MemKept w u t) {now o : Nat} {p : Packet} :
    MemKept w u (t.sendPort now o p) := by
  unfold Tun.sendPort
  split
  · exact h.dropAnswered
  · split
    · exact h.drop
    · exact h.modPort.pump

theorem MemKept.placeLink (h : MemKept w u t) {now o : Nat} {tgt : Bool} {x : Waiting} : MemKept w u (t.placeLink now o tgt x) := by
  unfold Tun.placeLink
  extract_lets p turned plane rotated q north
  have k : MemKept w u rotated := .ite h h.countDeflection.with_plane
  split
  · split
    · exact k.drop
    · split
      · exact k.modPort.pump
      · exact k.ringJoin.ringPump
  · exact k.sendPort

theorem MemKept.ejectRing (h : MemKept w u t) {r : HoldRef} {x : Waiting} : MemKept w u (t.ejectRing r x) := by
  unfold Tun.ejectRing
  exact h.unless fun h => h.branch (·.putBack) (·.when fun h => h.putBack.with_plane)

theorem MemKept.dropUnroutable (h : MemKept w u t) {now : Nat} :
    MemKept w u (t.dropUnroutable now) :=
  h.foldl fun h => h.when (·.takeFrom.dropAnswered)

theorem MemKept.caskTxn (h : MemKept w u t) {now : Nat} {write : Bool} {a len : Nat} :
    MemKept w u (t.caskTxn now write a len) := h.of_same (by simp) (by simp) (by simp)

theorem MemKept.caskWriteP (h : MemKept true u t) {now a : Nat} {ps : List PByte} : MemKept true u (t.caskWriteP now a ps) := by
  obtain ⟨m, p, r, y, e, hm, hp, -⟩ := t.caskWriteP_eq now a ps
  rw [e]
  exact (h.caskMem hm hp).with_rel.with_hyd

theorem MemKept.modSeq (h : MemKept w u t) {k : Half} {id : Nat} {f : CSeq → CSeq} :
    MemKept w u (t.modSeq k id f) :=
  h.modCellar

theorem MemKept.newPage (h : MemKept w u t) {n l : Nat} {v : Tun} (e : t.newPage = some (n, l, v)) : MemKept w u v := by
  unfold Tun.newPage at e
  dsimp only at e
  split at e
  · cases e
  · split at e
    · cases e
    · cases e
      exact h.modCellar

theorem MemKept.addPage (h : MemKept w u t) {k : Half} {id : Nat} {mirror : Bool} {layer g : Nat} :
    MemKept w u (t.addPage k id mirror layer g) := by
  unfold Tun.addPage
  split
  next e => exact (h.newPage e).modSeq
  · exact h.modSeq

theorem MemKept.putToken (h : MemKept true u t) {now : Nat} {k : Half} {id : Nat} {mirror : Bool} {layer tok : Nat} {key val : List PByte} :
    MemKept true u (t.putToken now k id mirror layer tok key val) := by
  unfold Tun.putToken
  dsimp only
  split
  · exact h
  · split
    · exact h.unless (·.addPage)
    · exact ((h.unless (·.addPage)).caskWriteP).unless (·.caskWriteP)

theorem MemKept.appendLayer (h : MemKept true u t) {now : Nat} {k : Half} {e : BEntry} {j : Nat} :
    MemKept true u (t.appendLayer now k e j) := by
  unfold Tun.appendLayer
  dsimp only
  split
  · exact h
  · exact (h.foldl fun h => h.foldl fun h => h.putToken).modSeq

theorem MemKept.applyEntry (h : MemKept true u t) {now : Nat} {c : Cmd} {steeps : List Nat} {e : BEntry} :
    MemKept true u (t.applyEntry now c steeps e) := by
  unfold Tun.applyEntry
  dsimp only
  split
  · exact h
  · split
    · split
      · exact h
      · exact h.modCellar
    · exact (h.when (·.modCellar)).unless (fun h => h.foldl fun h => h.appendLayer)

theorem MemKept.lockPass (h : MemKept w u t) {k : Half} {id : Nat} {orphan : Bool} :
    MemKept w u (t.lockPass k id orphan) := by
  unfold Tun.lockPass
  split
  · exact h.modSeq.modCmd
  · exact h.modSeq

theorem MemKept.orphanLocks (h : MemKept w u t) {c : Nat} :
    MemKept w u (t.orphanLocks c) :=
  h.foldl fun h => h.lockPass.modCellar

theorem MemKept.failLockWaiters (h : MemKept w u t) {now : Nat} {k : Half} {id : Nat} :
    MemKept w u (t.failLockWaiters now k id) :=
  h.foldl fun h => h.failCmd

theorem MemKept.space4Txn (h : MemKept w u t) {now : Nat} {c : Cmd} {l : Loc} {len : Nat} :
    MemKept w u (t.space4Txn now c l len) := h.of_same (by simp) (by simp) (by simp)

theorem MemKept.landBytesAt (h : MemKept true u t) {gn inst m off : Nat} {c : Cmd} {bs : List Byte} {poison : Bool} {v : Tun}
    (e : t.landBytesAt gn c inst m off bs poison = some v) : MemKept true u v := by
  unfold Tun.landBytesAt at e
  split at e
  · cases e
  · dsimp only at e
    split at e
    · cases e
    · cases e
      exact h.shareStore.modGroup

theorem MemKept.modMash (h : MemKept w u t) {f : Mash → Mash} :
    MemKept w u (t.modMash f) := h.of_same (by simp) (by simp) (by simp)

theorem MemKept.discardContrib (h : MemKept w u t) :
    MemKept w u t.discardContrib := h.of_same (by simp) (by simp) (by simp)

theorem MemKept.landData (h : MemKept true u t) {gn inst m off : Nat} {bs : List Byte} {poison forfeit : Bool} :
    MemKept true u (t.landData gn inst m off bs poison forfeit) := by
  unfold Tun.landData
  dsimp only
  split
  · exact h.discardContrib
  · split
    · exact h.discardContrib
    · split
      · split
        next e => exact (h.landBytesAt e).when (·.modCmd)
        · exact h.discardContrib
      · exact h.modGroup

/-- Data that came early lands when its collective opens, or is discarded. -/
theorem MemKept.landEarly (h : MemKept true u t) {gn inst m off : Nat} {c : Cmd} {bs : List Byte} {poison : Bool} :
    MemKept true u ((t.landBytesAt gn c inst m off bs poison).getD t.discardContrib) := by
  cases e : t.landBytesAt gn c inst m off bs poison with
  | none => exact h.discardContrib
  | some v => exact h.landBytesAt e

theorem MemKept.openInstance (h : MemKept true u t) {c : Cmd} : MemKept true u (t.openInstance c) := by
  unfold Tun.openInstance
  dsimp only
  split
  · exact h.modGroup
  · have landed (early : List (Nat × Nat × List Byte × Bool)) (f : Group → Group) : MemKept true u (early.foldl
        (fun t e => (t.landBytesAt c.groupNo c c.instanceNo e.1 e.2.1 e.2.2.1 e.2.2.2).getD t.discardContrib)
        ((t.modGroup c.groupNo (Group.openInst c.instanceNo c.id)).modGroup c.groupNo f)) := h.modGroup.modGroup.foldl (·.landEarly)
    exact (landed _ _).when (·.modCmd)

theorem MemKept.collEnd (h : MemKept w u t) {now : Nat} {c : Cmd} {st : Half} {ext : List Byte} :
    MemKept w u (t.collEnd now c st ext) := by
  unfold Tun.collEnd
  dsimp only
  split
  · exact h.failCmd
  · exact h.doneNotices.branch (·.completeExt) (·.semGiveBack.finishCmd)

theorem MemKept.runFail (h : MemKept w u t) {now : Nat} {c : Cmd} {st : Half} :
    MemKept w u (t.runFail now c st) :=
  h.branch (·.collEnd) (·.failCmd)

theorem MemKept.applyLocal (h : MemKept true u t) {now : Nat} {c : Cmd} {e : Effect} :
    MemKept true u (t.applyLocal now c e) := by
  unfold Tun.applyLocal
  split
  · exact h.shareStore
  · split
    · exact h.unless (·.caskWriteP)
    · exact h
  · exact h

theorem MemKept.handOut (h : MemKept w u t) {now : Nat} {c : Cmd} {p : Packet} :
    MemKept w u (t.handOut now c p) :=
  h.formOwn.foldl fun h => (by
    split
    · exact h.modSched
    · exact h.queueOut)

theorem MemKept.applyRemote (h : MemKept w u t) {now : Nat} {c : Cmd} {e : Effect} :
    MemKept w u (t.applyRemote now c e) := by
  unfold Tun.applyRemote
  split
  · exact h.handOut
  · exact h.hostWrite
  · exact h

theorem MemKept.applyEffects (h : MemKept true u t) {now : Nat} {c : Cmd} {es : List Effect} :
    MemKept true u (t.applyEffects now c es) :=
  (h.foldl fun h => h.applyLocal).foldl fun h => h.applyRemote

theorem MemKept.modTap (h : MemKept w u t) {n : Nat} {f : TapSlot → TapSlot} :
    MemKept w u (t.modTap n f) := h.of_same (by simp) (by simp) (by simp)

theorem MemKept.tapAdvance (h : MemKept w u t) {now n k : Nat} : MemKept w u (t.tapAdvance now n k) := by
  induction k generalizing t with
  | zero => exact h
  | succ k ih =>
    unfold Tun.tapAdvance
    split
    · exact h
    · exact h.unless fun h => ih (h.modTap.bump.foldl fun h => h.originate)

theorem MemKept.tapTake (h : MemKept w u t) {now : Nat} {p : Packet} :
    MemKept w u (t.tapTake now p) := by
  unfold Tun.tapTake
  dsimp only
  split
  · exact h.modMash
  · exact h.branch (·.modMash) (·.branch (·.branch (·.modMash) (·.modTap.bump.tapAdvance)) (·.branch (·.branch (·.modMash) (·.modTap.bump)) (·.modMash)))

theorem MemKept.ringText (h : MemKept w u t) {n : Nat} {bs : List Byte} :
    MemKept w u (t.ringText n bs) :=
  h.unless (fun h => ((h.hostWrite.unless (·.hostWrite)).modStream).hostWrite)

theorem MemKept.putText (h : MemKept w u t) {n : Nat} {bs : List Byte} :
    MemKept w u (t.putText n bs) :=
  h.branch (·.modToken) (·.modStream.ringText)

theorem MemKept.streamHead (h : MemKept w u t) {n : Nat} {i : Word} :
    MemKept w u (t.streamHead n i) :=
  h.unless (·.branch (·.modStream) (·.when (·.modStream)))

theorem MemKept.appendDescs (h : MemKept true u t) {q : Nat} {ds : List (List Byte)} : MemKept true u (t.appendDescs q ds) := by
  induction ds generalizing t with
  | nil => exact h
  | cons d ds ih => exact ih (h.unless fun h => h.shareStore).modQueue

theorem MemKept.takeCmd (h : MemKept true u t) {now : Nat} {p : Packet} : MemKept true u (t.takeCmd now p) := by
  unfold Tun.takeCmd
  extract_lets q k refuse n f appended extended
  have refused : MemKept true u (refuse t) := h.modBm
  have grown : MemKept true u extended := h.appendDescs.unless (·.modQueue)
  exact .ite refused (.ite (.ite refused h.putSlot) grown.arbitrate)

theorem MemKept.dbRefuse (h : MemKept w u t) :
    MemKept w u t.dbRefuse :=
  h.modBm

theorem MemKept.doorbellWord (h : MemKept w u t) {p : Packet} {x : Word} : MemKept w u (t.doorbellWord p x) := by
  unfold Tun.doorbellWord
  exact h.branch (·.branch (·.headDoorbell) (·.dbRefuse)) (·.branch (·.dbRefuse) (·.producerDoorbell))

theorem MemKept.takeDoorbell (h : MemKept w u t) {now : Nat} {p : Packet} :
    MemKept w u (t.takeDoorbell now p) :=
  h.branch (·.dbRefuse) (fun h => (h.foldl fun h => h.doorbellWord).arbitrate)

theorem MemKept.fetchNext (h : MemKept w u t) {q : Nat} {admin : List Byte} {fails : Bool} : MemKept w u (t.fetchNext q admin fails).2 := by
  unfold Tun.fetchNext
  exact h.modBm.modQueue.bump

theorem MemKept.descriptorFetch (h : MemKept w u t) {q : Nat} {admin : List Byte} {fails : Bool} :
    MemKept w u (t.descriptorFetch q admin fails) :=
  h.when (·.fetchNext)

theorem MemKept.check8 (h : MemKept w u t) {c : Cmd} :
    MemKept w u (t.check8 c) := by
  unfold Tun.check8
  dsimp only
  split
  · exact h.modCmd
  · exact h.branch (·.semTake.modCmd.modCmd) (·.modCmd)

theorem MemKept.commandStart (h : MemKept w u t) {now q : Nat} :
    MemKept w u (t.commandStart now q) := by
  unfold Tun.commandStart
  dsimp only
  split
  · exact h
  · split
    · exact h
    · split
      · exact h.arbitrate
      · split
        · exact h
        · split
          · exact h.failWith
          · exact h.unless (·.modCmd.check8.arbitrate)

theorem MemKept.hostReadFail (h : MemKept w u t) {now : Nat} {c : Cmd} :
    MemKept w u (t.hostReadFail now c) :=
  h.with_host.runFail

theorem MemKept.planOrFail (h : MemKept w u t) {now : Nat} {c : Cmd} {ps : List Piece} :
    MemKept w u (t.planOrFail now c ps) :=
  h.branch (·.hostReadFail) (·.planReads)

theorem MemKept.withReads (h : MemKept w u t) {now : Nat} {c : Cmd} {plan : Tun → List Piece} {k : Cmd → Tun → Tun}
    (hk : ∀ {t : Tun} {c : Cmd}, MemKept w u t → MemKept w u (k c t)) : MemKept w u (t.withReads now c plan k) := by
  have read := h.branch (c := c.planned) (fun h => h.issueReads (now := now) (id := c.id)) (fun h => h.planOrFail (now := now) (c := c) (ps := plan t))
  unfold Tun.withReads
  dsimp only
  split
  · exact read.when hk
  · exact read

theorem MemKept.work (h : MemKept w u t) {c : Cmd} {kind : List Nat} {n : Nat} :
    MemKept w u (t.work c kind n) := h.of_same (by simp) (by simp) (by simp)

theorem MemKept.applyOut (h : MemKept w u t) {now : Nat} {c : Cmd} {e : Effect} :
    MemKept w u (t.applyOut now c e) := by
  unfold Tun.applyOut
  split
  · exact h.putText
  · exact h.applyRemote

theorem MemKept.publish (h : MemKept true u t) {now : Nat} {c : Cmd} {es : List Effect} :
    MemKept true u (t.publish now c es) :=
  (h.foldl fun h => h.applyLocal).foldl fun h => h.applyOut

theorem MemKept.remoteTimeout (h : MemKept w u t) {now entry : Nat} :
    MemKept w u (t.remoteTimeout now entry) := by
  unfold Tun.remoteTimeout
  split
  · exact h
  · split
    · exact h.branch (·.maskFail) (·.runFail)
    · exact h.modBm

theorem MemKept.writeHeld (h : MemKept w u t) {now : Nat} :
    MemKept w u (t.writeHeld now) := by
  unfold Tun.writeHeld
  dsimp only
  split
  · exact h
  · exact h.modBm.putRecord.when (·.msi)

theorem MemKept.setUp (h : MemKept w u t) {f : Tun → Tun} (hf : ∀ {t : Tun}, MemKept w u t → MemKept w u (f t)) :
    MemKept w u (t.setUp f) := h.unless hf

theorem MemKept.queueRefuse (h : MemKept w u t) {q : Nat} :
    MemKept w u (t.queueRefuse q) :=
  h.modQueue

theorem MemKept.ringRefuse (h : MemKept w u t) {r : Nat} :
    MemKept w u (t.ringRefuse r) :=
  h.modRing

theorem MemKept.writeQueueCfg (h : MemKept w u t) {v : Word} :
    MemKept w u (t.writeQueueCfg v) :=
  h.branch (·.queueRefuse) (·.branch (·.unless (·.queueRefuse)) (·.branch (·.branch (·.modQueue) (·.queueRefuse)) (·.modQueue)))

theorem MemKept.writeQueueRing (h : MemKept w u t) {v : Word} :
    MemKept w u (t.writeQueueRing v) :=
  h.branch (·.queueRefuse) (·.unless (·.branch (·.queueRefuse) (·.modQueue)))

theorem MemKept.writeRingCfg (h : MemKept w u t) {v : Word} :
    MemKept w u (t.writeRingCfg v) :=
  h.branch (·.branch (·.modRing) (·.ringRefuse)) (·.branch (·.branch (·.modRing) (·.ringRefuse)) (·.modRing))

theorem MemKept.writeRingOther (h : MemKept w u t) {reg : BitVec 2} {v : Word} :
    MemKept w u (t.writeRingOther reg v) :=
  h.branch (·.ringRefuse) (·.modRing)

theorem MemKept.copyWork (h : MemKept w u t) {now : Nat} {c : Cmd} : MemKept w u (t.copyWork now c) := by
  unfold Tun.copyWork
  exact (h.unless (·.space4Txn)).withReads fun h => (h.when (·.modCmd)).stage

theorem MemKept.ctxDefine (h : MemKept w u t) {now : Nat} {c : Cmd} :
    MemKept w u (t.ctxDefine now c) :=
  h.branch (·.failCmd) (·.modCtx.modToken.completeNow)

theorem MemKept.ctxEnd (h : MemKept w u t) {n : Nat} : MemKept w u (t.ctxEnd n) := by
  unfold Tun.ctxEnd
  exact (((h.foldl fun h => h.semForce).foldl fun h => h.modSem).orphanLocks.modCellar).foldl fun h => h.when (·.modStream)

theorem MemKept.ctxUndefine (h : MemKept w u t) {now : Nat} {c : Cmd} :
    MemKept w u (t.ctxUndefine now c) :=
  h.branch (·.failCmd) (·.ctxEnd.modCtx.completeNow)

theorem MemKept.ctxReside (h : MemKept w u t) {now : Nat} {c : Cmd} : MemKept w u (t.ctxReside now c) := by
  unfold Tun.ctxReside
  exact h.unless fun h => h.branch (·.failCmd) fun h => h.withReads fun h => h.branch (fun h => h.modCmd.modBm) (·.failCmd)

theorem MemKept.evict (h : MemKept w u t) {now n : Nat} : MemKept w u (t.evict now n) := by
  unfold Tun.evict
  exact (h.abortAll.foldl fun h => h.failCmd).modCtx.with_mash.modBm

theorem MemKept.zeroBlocks (h : MemKept true u t) {bs : List Nat} : MemKept true u (t.zeroBlocks bs) := by
  obtain ⟨wort, marks, e, hw, hp⟩ := t.zeroBlocks_eq bs
  rw [e]
  exact h.wortMem hw hp

theorem MemKept.resideTurn (h : MemKept true u t) {now : Nat} :
    MemKept true u (t.resideTurn now) := by
  unfold Tun.resideTurn
  dsimp only
  split
  · exact h
  · split
    · exact h
    · split
      · exact h.modBm.failCmd
      · split
        · exact h.modBm.failCmd
        · exact ((((((h.modBm.foldl fun h => h.evict).zeroBlocks).modCtx).with_host).modBm).modCmd).planReads

theorem MemKept.copyPreloads (h : MemKept true u t) {n : Nat} {ps : List (Nat × Nat × Nat)} {ds : List (List Byte)} :
    MemKept true u (t.copyPreloads n ps ds) := by
  induction ps generalizing t ds with
  | nil => exact h
  | cons p ps ih =>
    cases ds with
    | nil => exact h
    | cons d ds => exact ih h.shareStore

theorem MemKept.resideDone (h : MemKept true u t) {now : Nat} : MemKept true u (t.resideDone now) := by
  unfold Tun.resideDone
  split
  · exact h
  · split
    · exact h
    · exact h.unless fun h => h.copyPreloads.modBm.modCtx.completeNow

theorem MemKept.resideFail (h : MemKept w u t) {now : Nat} :
    MemKept w u (t.resideFail now) := by
  unfold Tun.resideFail
  dsimp only
  split
  · exact h
  · split
    · exact h.with_host.modBm.modCtx.failCmd
    · exact h.with_host.modBm.modCtx

theorem MemKept.ctxEvict (h : MemKept w u t) {now : Nat} {c : Cmd} :
    MemKept w u (t.ctxEvict now c) :=
  h.branch (·.failCmd) (·.branch (·.failCmd) (·.evict.completeNow))

theorem MemKept.ctxSetPriority (h : MemKept w u t) {now : Nat} {c : Cmd} :
    MemKept w u (t.ctxSetPriority now c) :=
  h.branch (·.failCmd) (·.branch (·.failCmd) (·.modCtx.completeNow))

theorem MemKept.ctxReset (h : MemKept w u t) {now n : Nat} :
    MemKept w u (t.ctxReset now n) :=
  h.abortAll.modCtx.orphanLocks

theorem MemKept.ctxKill (h : MemKept w u t) {now : Nat} {c : Cmd} :
    MemKept w u (t.ctxKill now c) :=
  h.branch (·.failCmd) (fun h => (h.branch (·.ctxReset) (fun h => h.foldl fun h => h.killRerun)).completeNow)

theorem MemKept.semInit (h : MemKept w u t) {now : Nat} {c : Cmd} :
    MemKept w u (t.semInit now c) :=
  h.branch (·.failCmd) (·.modSem.completeNow)

theorem MemKept.leaseExpiry (h : MemKept w u t) {now n : Nat} :
    MemKept w u (t.leaseExpiry now n) := by
  unfold Tun.leaseExpiry
  dsimp only
  split
  · exact h
  · split
    · exact h
    · exact (h.semForce.modBm.when (fun h => (h.modCtx.abortAll.foldl fun h => h.semForce).orphanLocks)).arbitrate

theorem MemKept.groupForm (h : MemKept w u t) {now : Nat} {c : Cmd} :
    MemKept w u (t.groupForm now c) := by
  unfold Tun.groupForm
  dsimp only
  split
  · exact h.failCmd
  · exact h.branch (·.failCmd) (·.branch (·.failCmd) (·.modMash.completeNow))

theorem MemKept.groupStale (h : MemKept w u t) {now n : Nat} {g : Group} {keep : List Nat} {gen : Option Byte} :
    MemKept w u (t.groupStale now n g keep gen) :=
  (h.foldl fun h => ((h.unless (·.doneNotices)).semGiveBack).finishCmd).foldl fun h => h.failCmd

theorem MemKept.groupReform (h : MemKept w u t) {now : Nat} {c : Cmd} :
    MemKept w u (t.groupReform now c) := by
  unfold Tun.groupReform
  dsimp only
  split
  · exact h.failCmd
  · split
    · exact h.failCmd
    · split
      · exact h.failCmd
      · exact h.branch (·.failCmd) (·.groupStale.modGroup.completeNow)

theorem MemKept.groupDisband (h : MemKept w u t) {now : Nat} {c : Cmd} :
    MemKept w u (t.groupDisband now c) := by
  unfold Tun.groupDisband
  dsimp only
  split
  · exact h.failCmd
  · exact h.branch (·.failCmd) (·.groupStale.modMash.completeNow)

theorem MemKept.collOpen (h : MemKept true u t) {now : Nat} {c : Cmd} :
    MemKept true u (t.collOpen now c) := by
  unfold Tun.collOpen
  dsimp only
  split
  · exact h.failCmd
  · split
    · exact h
    · split
      · split
        · exact h.openInstance.completeNow
        · exact h.openInstance
      · exact h.openInstance

theorem MemKept.chunkReady (h : MemKept w u t) {now : Nat} {c : Cmd} :
    MemKept w u (t.chunkReady now c) := by
  unfold Tun.chunkReady
  dsimp only
  split
  · exact h
  · exact h.unless (·.branch (·.modCmd) (·.branch (·.issueReads) (·.when (·.planOrFail))))

theorem MemKept.collFinish (h : MemKept w u t) {now : Nat} {c : Cmd} {g : Group} :
    MemKept w u (t.collFinish now c g) :=
  h.branch (·.bump.collEnd) (·.collEnd)

theorem MemKept.chunkRack (h : MemKept true u t) {now : Nat} {c : Cmd} :
    MemKept true u (t.chunkRack now c) := by
  unfold Tun.chunkRack
  dsimp only
  split
  · exact h
  · split
    · exact h
    · split
      · exact ((h.work.applyEffects.when (fun h => h.foldl fun h => h.notice)).modCmd).when (·.collFinish)
      · exact (h.work.applyEffects.when (fun h => h.foldl fun h => h.notice)).modCmd

theorem MemKept.pushProduce (h : MemKept true u t) {now : Nat} {c : Cmd} {a b : Nat} :
    MemKept true u (t.pushProduce now c a b) := by
  unfold Tun.pushProduce
  dsimp only
  split
  · exact h
  · exact (h.foldl fun h => h.applyEffects.modCmd).modMash

theorem MemKept.pushTile (h : MemKept true u t) {now : Nat} {c : Cmd} {g : Group} {m off : Nat} {bs : List Byte} {poison forfeit : Bool} {pipe : Option Nat} :
    MemKept true u (t.pushTile now c g m off bs poison forfeit pipe) := by
  unfold Tun.pushTile
  dsimp only
  split
  · exact h.discardContrib
  · split
    · exact ((h.modMash.when (·.modCmd)).bumpBy).pushProduce
    · exact h.modMash.when (·.modCmd)

theorem MemKept.pushOpen (h : MemKept true u t) {now : Nat} {c : Cmd} :
    MemKept true u (t.pushOpen now c) := by
  unfold Tun.pushOpen
  dsimp only
  split
  · exact h
  · exact h.modGroup.foldl fun h => (by
      split
      · exact h.pushTile
      · exact h)

theorem MemKept.pushSpanEnd (h : MemKept w u t) {now : Nat} {c : Cmd} :
    MemKept w u (t.pushSpanEnd now c) := by
  unfold Tun.pushSpanEnd
  dsimp only
  split
  · exact (h.modSched.foldl fun h => h.countForfeit.queueOut).pushEnd
  · exact h.modSched.foldl fun h => h.countForfeit.queueOut

theorem MemKept.takeContrib (h : MemKept true u t) {now : Nat} {p : Packet} {forfeit : Bool} {pipe : Option Nat} :
    MemKept true u (t.takeContrib now p forfeit pipe) := by
  unfold Tun.takeContrib
  dsimp only
  split
  · exact h.discardContrib
  · split
    · exact h.discardContrib
    · split
      · exact h.modMash
      · split
        · split
          · exact h.modMash
          · split
            · exact h.discardContrib
            · split
              · exact h.modGroup.when (·.modCmd)
              · exact h.modGroup
        · split
          · exact h.pushTile
          · exact h.landData

theorem MemKept.tapGroupSet (h : MemKept w u t) {now : Nat} {c : Cmd} :
    MemKept w u (t.tapGroupSet now c) := by
  unfold Tun.tapGroupSet
  dsimp only
  split
  · exact h.branch (·.failCmd) (·.modMash.completeNow)
  · split
    · exact h.failCmd
    · exact h.branch (·.failCmd) (·.branch (·.failCmd) (·.modMash.completeNow))

theorem MemKept.tapPop (h : MemKept w u t) {now : Nat} :
    MemKept w u (t.tapPop now) := by
  unfold Tun.tapPop
  split
  · exact h
  · exact h.modMash.tapTake

theorem MemKept.cellarFull (h : MemKept w u t) {now : Nat} {c : Cmd} {need room : Nat} {out : List (BEntry × Bool × Bool × Bool)} :
    MemKept w u (t.cellarFull now c need room out) :=
  h.modCellar.branch (·.semGiveBack.finishCmd) (·.failWith)

theorem MemKept.batchWork (h : MemKept w u t) {now : Nat} {c : Cmd} :
    MemKept w u (t.batchWork now c) := by
  unfold Tun.batchWork
  dsimp only
  split
  · exact h.failWith
  · exact h.branch (·.cellarFull) (·.modCmd.work.stage)

theorem MemKept.batchPublish (h : MemKept true u t) {now : Nat} {c : Cmd} :
    MemKept true u (t.batchPublish now c) :=
  (h.foldl fun h => h.applyEntry).foldl fun h => h.failLockWaiters

theorem MemKept.pageRelease (h : MemKept w u t) : MemKept w u t.pageRelease := by
  unfold Tun.pageRelease
  exact h.modCellar

theorem MemKept.lockWork (h : MemKept w u t) {now : Nat} {c : Cmd} :
    MemKept w u (t.lockWork now c) := by
  unfold Tun.lockWork
  dsimp only
  split
  · exact h.failCmd
  · exact h.branch (·.failCmd) (·.branch (·.branch (·.stage) (·.failCmd)) (·.branch (·.failCmd) (·.stage)))

theorem MemKept.lockPublish (h : MemKept w u t) {c : Cmd} {r : Half × Tun} (e : t.lockPublish c = .ok (some r)) : MemKept w u r.2 := by
  unfold Tun.lockPublish at e
  dsimp only at e
  split at e
  · cases e
  · split at e
    · split at e
      · cases e
        exact h.lockPass
      · cases e
    · split at e
      · split at e
        · cases e
          exact h
        · split at e <;> cases e
      · cases e
        exact h.modSeq

theorem MemKept.fetchWork (h : MemKept w u t) {now : Nat} {c : Cmd} :
    MemKept w u (t.fetchWork now c) := by
  unfold Tun.fetchWork
  dsimp only
  split
  · exact h.failCmd
  · exact h.branch (·.failCmd) (fun h => (((h.when (·.modCmd)).foldl fun h => h.caskTxn).work).stage)

theorem MemKept.steepWork (h : MemKept w u t) {now : Nat} {c : Cmd} :
    MemKept w u (t.steepWork now c) := by
  unfold Tun.steepWork
  dsimp only
  split
  · exact h.failCmd
  · exact ((h.modCmd.foldl fun h => h.caskTxn).work).stage

theorem MemKept.steepPublish (h : MemKept true u t) {c : Cmd} :
    MemKept true u (t.steepPublish c) :=
  h.foldl fun h => h.landData

theorem MemKept.loseSeqs (h : MemKept w u t) {p : CSeq → Bool} : MemKept w u (t.loseSeqs p) := by
  unfold Tun.loseSeqs
  exact h.modCellar

theorem MemKept.abortLostReaders (h : MemKept w u t) {now n : Nat} :
    MemKept w u (t.abortLostReaders now n) :=
  h.foldl fun h => h.failCmd

theorem MemKept.stackOffline (h : MemKept w u t) {now n cause : Nat} :
    MemKept w u (t.stackOffline now n cause) :=
  h.unless (·.modRel.logError.abortLostReaders.modCellar.loseSeqs)

theorem MemKept.caskPllLost (h : MemKept w u t) {now n : Nat} :
    MemKept w u (t.caskPllLost now n) :=
  h.when (·.with_clk.stackOffline)

theorem MemKept.tableWork (h : MemKept w u t) {now : Nat} {c : Cmd} :
    MemKept w u (t.tableWork now c) := by
  unfold Tun.tableWork
  dsimp only
  split
  · exact h.stage
  · split
    · exact h.failCmd
    · split
      · exact h.failCmd
      · split
        · exact h.failCmd
        · split
          · exact h.failWith
          · split
            · exact h.failCmd
            · split
              · exact h.failCmd
              · exact h.modCmd.stage

theorem MemKept.tablePublish (h : MemKept w u t) {c : Cmd} : MemKept w u (t.tablePublish c) := by
  unfold Tun.tablePublish
  exact h.modToken

theorem MemKept.encodeWork (h : MemKept w u t) {now : Nat} {c : Cmd} : MemKept w u (t.encodeWork now c) := by
  unfold Tun.encodeWork
  refine h.withReads fun h => h.branch (·.failCmd) fun h => ?_
  dsimp only
  split
  · exact h.failWith
  · exact h.failCmd
  · exact h.branch (·.failWith) fun h => h.work.stage

theorem MemKept.decodeWork (h : MemKept w u t) {now : Nat} {c : Cmd} :
    MemKept w u (t.decodeWork now c) := by
  unfold Tun.decodeWork
  dsimp only
  split
  · exact h.failCmd
  · split
    · exact h.failCmd
    · split
      · exact h.failWith
      · exact h.branch (·.work.stage) (·.branch (·.failWith) (·.work.stage))

theorem MemKept.streamOpenWork (h : MemKept w u t) {now : Nat} {c : Cmd} :
    MemKept w u (t.streamOpenWork now c) :=
  h.branch (·.failCmd) (·.stage)

theorem MemKept.streamOpenPublish (h : MemKept w u t) {c : Cmd} : MemKept w u (t.streamOpenPublish c) := by
  unfold Tun.streamOpenPublish
  exact h.modStream

theorem MemKept.streamClosePublish (h : MemKept w u t) {c : Cmd} : MemKept w u (t.streamClosePublish c).2 := by
  unfold Tun.streamClosePublish
  extract_lets n x held t'
  have k : MemKept w u t' := .ite h h.ringText
  dsimp only
  exact k.work.modStream

theorem MemKept.lauterWork (h : MemKept w u t) {now : Nat} {c : Cmd} :
    MemKept w u (t.lauterWork now c) := by
  unfold Tun.lauterWork
  dsimp only
  split
  · exact h.failCmd
  · exact h.branch (·.failCmd) (·.stage)

theorem MemKept.paramsPublish (h : MemKept w u t) {c : Cmd} : MemKept w u (t.paramsPublish c) := by
  unfold Tun.paramsPublish
  exact h.modToken

theorem MemKept.samplePlan (h : MemKept w u t) {now : Nat} {c : Cmd} {g : Group} {es : List SEntry} :
    MemKept w u (t.samplePlan now c g es) := by
  unfold Tun.samplePlan
  dsimp only
  split
  · exact h
  · exact (((h.foldl fun h => h.caskTxn).modToken).modCmd).planReads

theorem MemKept.sampleRun (h : MemKept w u t) {now : Nat} {c : Cmd} {g : Group} {es : List SEntry} :
    MemKept w u (t.sampleRun now c g es) := by
  unfold Tun.sampleRun
  dsimp only
  split
  · exact h.failCmd
  · exact h.modCmd.work.work.work.stage

theorem MemKept.sampleWork (h : MemKept true u t) {now : Nat} {c : Cmd} :
    MemKept true u (t.sampleWork now c) := by
  unfold Tun.sampleWork
  dsimp only
  split
  · exact h.failCmd
  · split
    · split
      · split
        · exact h.openInstance.completeNow
        · exact h.openInstance
      · exact h.openInstance
    · split
      · exact h.samplePlan
      · split
        · exact h.issueReads.when (·.sampleRun)
        · exact h.issueReads

theorem MemKept.samplePublish (h : MemKept w u t) {c : Cmd} : MemKept w u (t.samplePublish c) := by
  unfold Tun.samplePublish
  exact h.modToken

theorem MemKept.rackRefuse (h : MemKept w u t) {now : Nat} {c : Cmd} {st : Half} :
    MemKept w u (t.rackRefuse now c st) :=
  h.failCmd

theorem MemKept.rackCmd (h : MemKept true u t) {now : Nat} {c : Cmd} : MemKept true u (t.rackCmd now c) := by
  have fin {t : Tun} (h : MemKept true u t) (st : Half) (r0 : Dword) (r1 : BitVec 48) : MemKept true u (match t.cmd c.id with
      | some c => t.completeExt now c st r0 r1 c.ext
      | none => t) := by
    split
    · exact h.completeExt
    · exact h
  unfold Tun.rackCmd
  extract_lets fin' done r
  refine .ite (fin h ..) (.ite (fin h.batchPublish ..) (.ite ?_ (.ite (fin h.steepPublish.publish ..) (.ite ?_ (.ite ?_
    (.ite (fin h.tablePublish ..) (.ite (fin h.samplePublish.publish ..) (.ite (fin h.paramsPublish ..) (fin h.publish ..)))))))))
  · split
    · exact h.rackRefuse
    · exact h.modCmd
    next e => exact fin (h.lockPublish e) ..
  · exact .ite h.rackRefuse (fin h.streamOpenPublish ..)
  · exact .ite (fin h.streamClosePublish ..) (fin h.streamClosePublish ..)

theorem MemKept.releaseGone (h : MemKept w u t) {now entry : Nat} : MemKept w u (t.releaseGone now entry) := by
  unfold Tun.releaseGone
  split
  · exact h
  · split
    · exact h.branch (·.maskFail) (·.branch (·.modBm) (·.killCmd.runFail))
    · exact h.modBm

theorem MemKept.cellarDeparts (h : MemKept w u t) {n : Nat} : MemKept w u (t.cellarDeparts n) := by
  unfold Tun.cellarDeparts
  exact h.modCellar

theorem MemKept.departed (h : MemKept w u t) {now subject scope : Nat} {incarn : Byte} {own : Bool} :
    MemKept w u (t.departed now subject scope incarn own) :=
  h.unless (fun h => (((h.recordDeparture.dropStreams.foldl fun h => h.releaseGone).foldl fun h => h.runFail).when (·.cellarDeparts)).branch (·.sendNotices) (·.forwardNotice))

theorem MemKept.departedOn (h : MemKept w u t) {now id scope : Nat} {incarn : Byte} : MemKept w u (t.departedOn now id scope incarn) := by
  unfold Tun.departedOn
  split
  · exact h.departed
  · exact h

theorem MemKept.takeNotice (h : MemKept w u t) {now : Nat} {p : Packet} :
    MemKept w u (t.takeNotice now p) :=
  h.when (·.departed)

theorem MemKept.modPorts (h : MemKept w u t) {f : Port → Port} :
    MemKept w u (t.modPorts f) := h.of_same (by simp) (by simp) (by simp)

theorem MemKept.warmClear (h : MemKept true u t) : MemKept true u t.warmClear := by
  refine ⟨fun f => ?_, nofun⟩
  obtain ⟨_, _, cask, poison, _, _⟩ := (h.modPorts (f := Port.warmed)).form f
  exact ⟨rfl, rfl, cask, poison, rfl, rfl⟩

theorem MemKept.coldReset (_ : MemKept true u t) : MemKept true u t.coldReset := ⟨fun _ => ⟨rfl, rfl, rfl, rfl, rfl, rfl⟩, nofun⟩

theorem MemKept.startBrewCount (h : MemKept w u t) {now : Nat} :
    MemKept w u (t.startBrewCount now) := h.of_same (by simp) (by simp) (by simp)

theorem MemKept.stepDown (h : MemKept w u t) {now round : Nat} :
    MemKept w u (t.stepDown now round) := h.of_same (by simp) (by simp) (by simp)

theorem MemKept.selfRefreshAll (h : MemKept w u t) :
    MemKept w u t.selfRefreshAll := h.of_same (by simp) (by simp) (by simp)

theorem MemKept.cellarOpen (h : MemKept w u t) :
    MemKept w u t.cellarOpen :=
  h.modCellar.modRel

theorem MemKept.fenceAll (h : MemKept w u t) {now : Nat} :
    MemKept w u (t.fenceAll now) :=
  h.with_svc.fenceLinks.modPorts.releaseStopped

theorem MemKept.holdCold {now : Nat} {cause : BitVec 4} (h : MemKept true u t) : MemKept true u (t.holdCold now cause) :=
  h.fenceLinks.coldReset.with_svc

theorem MemKept.coldRequest (h : MemKept true u t) {now : Nat} {cause : BitVec 4} :
    MemKept true u (t.coldRequest now cause) :=
  h.unless (·.holdCold)

theorem MemKept.warmRequest (h : MemKept true u t) {now : Nat} {cause : BitVec 4} :
    MemKept true u (t.warmRequest now cause) :=
  h.unless (·.fenceLinks.warmClear.with_svc)

theorem MemKept.powerOff (h : MemKept true u t) :
    MemKept true u t.powerOff :=
  h.coldReset.with_svc

theorem MemKept.assertTrip (h : MemKept w u t) {now : Nat} :
    MemKept w u (t.assertTrip now) := h.of_same (by simp) (by simp) (by simp)

theorem MemKept.presentRoutes (h : MemKept w u t) :
    MemKept w u t.presentRoutes :=
  h.with_plane

theorem MemKept.refMissing (h : MemKept w u t) {now : Nat} :
    MemKept w u (t.refMissing now) :=
  h.when (·.with_clk.keeperAlign.planeRelease)

theorem MemKept.holdoverEnd (h : MemKept w u t) :
    MemKept w u t.holdoverEnd := h.of_same (by simp) (by simp) (by simp)

theorem MemKept.slewEnd (h : MemKept w u t) :
    MemKept w u t.slewEnd := h.of_same (by simp) (by simp) (by simp)

theorem MemKept.refReturns (h : MemKept w u t) :
    MemKept w u t.refReturns := h.of_same (by simp) (by simp) (by simp)

theorem MemKept.pllLock (h : MemKept w u t) {now : Nat} {k : PllLocks} :
    MemKept w u (t.pllLock now k) := h.of_same (by simp) (by simp) (by simp)

theorem MemKept.warmRelease (h : MemKept w u t) {now : Nat} :
    MemKept w u (t.warmRelease now) :=
  h.when (·.with_svc.modPorts.startBrewCount)

theorem MemKept.beginTraining (h : MemKept w u t) :
    MemKept w u t.beginTraining := h.of_same (by simp) (by simp) (by simp)

theorem MemKept.beginAlign (h : MemKept w u t) :
    MemKept w u t.beginAlign := h.of_same (by simp) (by simp) (by simp)

theorem MemKept.nextStage (h : MemKept w u t) :
    MemKept w u t.nextStage := h.of_same (by simp) (by simp) (by simp)

theorem MemKept.enterPale (h : MemKept w u t) {now : Nat} :
    MemKept w u (t.enterPale now) := h.of_same (by simp) (by simp) (by simp)

theorem MemKept.trainingDone (h : MemKept w u t) {codes : List (BitVec 4)} :
    MemKept w u (t.trainingDone codes) := h.of_same (by simp) (by simp) (by simp)

theorem MemKept.rateRound (h : MemKept w u t) {now : Nat} :
    MemKept w u (t.rateRound now) := h.of_same (by simp) (by simp) (by simp)

theorem MemKept.alignTimeout (h : MemKept w u t) :
    MemKept w u t.alignTimeout := h.of_same (by simp) (by simp) (by simp)

theorem MemKept.enterFull (h : MemKept w u t) {now : Nat} :
    MemKept w u (t.enterFull now) :=
  h.when (·.with_svc.cellarOpen.announceState)

theorem MemKept.refuse (h : MemKept w u t) :
    MemKept w u t.refuse := h.of_same (by simp) (by simp) (by simp)

theorem MemKept.request (h : MemKept w u t) {f : Tun → Tun} (hf : ∀ {t : Tun}, MemKept w u t → MemKept w u (f t)) :
    MemKept w u (t.request f) := h.unless (·.branch (·.refuse) hf)

theorem MemKept.fenceRequest (h : MemKept w u t) {now : Nat} {cause : BitVec 2} :
    MemKept w u (t.fenceRequest now cause) :=
  h.request (fun h => h.branch (·.refuse) (·.fenceAll.with_svc))

theorem MemKept.beginDrain (h : MemKept w u t) {now : Nat} {back : BitVec 2} :
    MemKept w u (t.beginDrain now back) := h.of_same (by simp) (by simp) (by simp)

theorem MemKept.drainRequest (h : MemKept w u t) {now : Nat} :
    MemKept w u (t.drainRequest now) := h.of_same (by simp) (by simp) (by simp)

theorem MemKept.resumeRequest (h : MemKept w u t) {now : Nat} :
    MemKept w u (t.resumeRequest now) :=
  h.request (fun h => h.branch (·.with_svc.nextStage.announceState.arbitrate) (·.refuse))

theorem MemKept.retryCask (h : MemKept w u t) :
    MemKept w u t.retryCask := h.of_same (by simp) (by simp) (by simp)

theorem MemKept.setStayPale (h : MemKept w u t) {v : Bool} :
    MemKept w u (t.setStayPale v) := h.of_same (by simp) (by simp) (by simp)

theorem MemKept.writeServiceCtrl (h : MemKept w u t) {now : Nat} {p : Path} {v : Word} :
    MemKept w u (t.writeServiceCtrl now p v) :=
  h.unless (·.setStayPale.branch (·.fenceRequest) (·.branch (·.drainRequest) (·.branch (·.resumeRequest) (·.when (·.retryCask)))))

theorem MemKept.writeResetCtrl (h : MemKept true u t) {now : Nat} {p : Path} {v : Word} :
    MemKept true u (t.writeResetCtrl now p v) :=
  h.unless (·.branch (·.coldRequest) (·.when (·.warmRequest)))

theorem MemKept.drainDoneEvent (h : MemKept w u t) :
    MemKept w u t.drainDoneEvent := h.of_same (by simp) (by simp) (by simp)

theorem MemKept.drainTimeoutEvent (h : MemKept w u t) :
    MemKept w u t.drainTimeoutEvent := h.of_same (by simp) (by simp) (by simp)

theorem MemKept.portEnable (h : MemKept w u t) {id : Nat} :
    MemKept w u (t.portEnable id) := h.of_same (by simp) (by simp) (by simp)

theorem MemKept.sendRequest (h : MemKept w u t) {id lane : Nat} :
    MemKept w u (t.sendRequest id lane) := h.of_same (by simp) (by simp) (by simp)

theorem MemKept.detectLock (h : MemKept w u t) {id : Nat} {peerFull : Bool} {lanes : List LaneTx} :
    MemKept w u (t.detectLock id peerFull lanes) := h.of_same (by simp) (by simp) (by simp)

theorem MemKept.detectTimeout (h : MemKept w u t) {id : Nat} :
    MemKept w u (t.detectTimeout id) := h.of_same (by simp) (by simp) (by simp)

theorem MemKept.equalizeReceive (h : MemKept w u t) {id lane : Nat} {req : Byte} :
    MemKept w u (t.equalizeReceive id lane req) := h.of_same (by simp) (by simp) (by simp)

theorem MemKept.equalizeDone (h : MemKept w u t) {id : Nat} :
    MemKept w u (t.equalizeDone id) := h.of_same (by simp) (by simp) (by simp)

theorem MemKept.sendIdentity (h : MemKept w u t) {now id : Nat} :
    MemKept w u (t.sendIdentity now id) := h.of_same (by simp) (by simp) (by simp)

theorem MemKept.deskewDone (h : MemKept w u t) {now id : Nat} :
    MemKept w u (t.deskewDone now id) := h.of_same (by simp) (by simp) (by simp)

theorem MemKept.trainFail (h : MemKept w u t) {now id : Nat} {cause : BitVec 4} :
    MemKept w u (t.trainFail now id cause) := h.of_same (by simp) (by simp) (by simp)

theorem MemKept.attemptLimit (h : MemKept w u t) {now id : Nat} :
    MemKept w u (t.attemptLimit now id) := h.of_same (by simp) (by simp) (by simp)

theorem MemKept.coldRetry (h : MemKept w u t) {id : Nat} :
    MemKept w u (t.coldRetry id) := h.of_same (by simp) (by simp) (by simp)

theorem MemKept.identityReceive (h : MemKept w u t) {now id : Nat} {b : List Byte} :
    MemKept w u (t.identityReceive now id b) := h.of_same (by simp) (by simp) (by simp)

theorem MemKept.identifyComplete (h : MemKept w u t) {now id : Nat} : MemKept w u (t.identifyComplete now id) := by
  unfold Tun.identifyComplete
  dsimp only
  split
  · split
    · exact h
    · split
      · exact h.modPort.resend.pumpLink
      · split
        · exact (h.discardLink.modPort.unless (·.departedOn)).pumpLink
        · exact h.discardLink.modPort.pumpLink
  · exact h

theorem MemKept.identifyTimeout (h : MemKept w u t) {now id : Nat} :
    MemKept w u (t.identifyTimeout now id) := h.of_same (by simp) (by simp) (by simp)

theorem MemKept.retrainNotice (h : MemKept w u t) {now id : Nat} {sent : Bool} :
    MemKept w u (t.retrainNotice now id sent) := h.of_same (by simp) (by simp) (by simp)

theorem MemKept.replayTimeout (h : MemKept w u t) {now id : Nat} :
    MemKept w u (t.replayTimeout now id) := h.of_same (by simp) (by simp) (by simp)

theorem MemKept.replayDiscard (h : MemKept w u t) {id : Nat} :
    MemKept w u (t.replayDiscard id) :=
  h.unless (·.discardLink.modPort)

theorem MemKept.replayWindow (h : MemKept w u t) {id : Nat} {oneSecond : Bool} :
    MemKept w u (t.replayWindow id oneSecond) := h.of_same (by simp) (by simp) (by simp)

theorem MemKept.fenceReceive (h : MemKept w u t) {now id : Nat} {scope leaving : Byte} :
    MemKept w u (t.fenceReceive now id scope leaving) :=
  h.unless (·.discardLink.modPort.ringLinkDown.departedOn)

theorem MemKept.fenceRepeat (h : MemKept w u t) {now id : Nat} :
    MemKept w u (t.fenceRepeat now id) := h.of_same (by simp) (by simp) (by simp)

theorem MemKept.portReset (h : MemKept w u t) {now id : Nat} :
    MemKept w u (t.portReset now id) :=
  h.unless (·.fencePort.discardLink.modPort.ringLinkDown)

theorem MemKept.portDisable (h : MemKept w u t) {now id : Nat} {v : Bool} :
    MemKept w u (t.portDisable now id v) :=
  h.unless (·.branch (·.branch (·.modPort) (·.fencePort.discardLink.modPort.ringLinkDown)) (·.modPort))

theorem MemKept.portInject (h : MemKept w u t) {id : Nat} :
    MemKept w u (t.portInject id) := h.of_same (by simp) (by simp) (by simp)

theorem MemKept.writePortCtrl (h : MemKept w u t) {now id : Nat} {v : Word} :
    MemKept w u (t.writePortCtrl now id v) :=
  h.unless (fun h => (((h.modPort.when (·.wakeTx)).portDisable).when (·.portReset)).when (·.portInject))

theorem MemKept.delayStart (h : MemKept w u t) {now id : Nat} :
    MemKept w u (t.delayStart now id) := h.of_same (by simp) (by simp) (by simp)

theorem MemKept.delayEcho (h : MemKept w u t) {id probe t1 t2 t3 t4 : Nat} :
    MemKept w u (t.delayEcho id probe t1 t2 t3 t4) := h.of_same (by simp) (by simp) (by simp)

theorem MemKept.probeReceive (h : MemKept w u t) {now id : Nat} {probe : Byte} {t1 : Nat} :
    MemKept w u (t.probeReceive now id probe t1) := h.of_same (by simp) (by simp) (by simp)

theorem MemKept.delayTimeout (h : MemKept w u t) {id : Nat} :
    MemKept w u (t.delayTimeout id) := h.of_same (by simp) (by simp) (by simp)

theorem MemKept.napEntry (h : MemKept w u t) {now id : Nat} :
    MemKept w u (t.napEntry now id) := h.of_same (by simp) (by simp) (by simp)

theorem MemKept.napReceive (h : MemKept w u t) {id : Nat} :
    MemKept w u (t.napReceive id) := h.of_same (by simp) (by simp) (by simp)

theorem MemKept.rxWake (h : MemKept w u t) {id : Nat} :
    MemKept w u (t.rxWake id) := h.of_same (by simp) (by simp) (by simp)

theorem MemKept.modHost (h : MemKept w u t) {f : HPort → HPort} :
    MemKept w u (t.modHost f) := h.of_same (by simp) (by simp) (by simp)

theorem MemKept.hostTrained (h : MemKept w u t) {cfg : HostCfg} {speed : BitVec 4} {width : BitVec 6} {flit : Bool} :
    MemKept w u (t.hostTrained cfg speed width flit) := h.of_same (by simp) (by simp) (by simp)

theorem MemKept.hostPerst (h : MemKept w u t) {asserted : Bool} :
    MemKept w u (t.hostPerst asserted) := h.of_same (by simp) (by simp) (by simp)

theorem MemKept.failHostReads (h : MemKept w u t) {now : Nat} : MemKept w u (t.failHostReads now) := by
  unfold Tun.failHostReads
  extract_lets loaded streamed
  have k : MemKept w u loaded := .ite h.modHost.recipeLoaded h
  have r : MemKept w u streamed := by
    unfold streamed
    split
    · exact k.when (·.resideFail)
    · exact k
  exact r.foldl (·.hostReadFail)

theorem MemKept.hostLinkLoss (h : MemKept w u t) {now : Nat} :
    MemKept w u (t.hostLinkLoss now) :=
  h.unless (·.modHost.failHostReads)

theorem MemKept.vfFlr (h : MemKept w u t) {now n : Nat} :
    MemKept w u (t.vfFlr now n) := by
  unfold Tun.vfFlr
  dsimp only
  split
  · exact h
  · split
    · exact h.modHost.ctxReset
    · exact h.modHost

theorem MemKept.pfFlr (h : MemKept true u t) {now : Nat} :
    MemKept true u (t.pfFlr now) :=
  h.unless (·.warmRequest.modHost)

theorem MemKept.vfRefuse (h : MemKept w u t) :
    MemKept w u t.vfRefuse := h.of_same (by simp) (by simp) (by simp)

theorem MemKept.vfDoorbell (h : MemKept w u t) {now n off : Nat} {v : Word} :
    MemKept w u (t.vfDoorbell now n off v) :=
  h.unless (·.branch (·.unless (·.branch (·.producerDoorbell.arbitrate) (·.vfRefuse))) (·.branch (·.branch (·.headDoorbell) (·.vfRefuse)) (·.when (·.branch (·.streamHead) (·.vfRefuse)))))

theorem MemKept.vfWrite (h : MemKept true u t) {n off : Nat} {bs : List Byte} : MemKept true u (t.vfWrite n off bs) := by
  unfold Tun.vfWrite
  split
  · exact h.vfRefuse
  · exact h.branch (·.shareStore) (·.vfRefuse)

theorem MemKept.wortWindow (h : MemKept true u t) {off : Nat} {bs : List Byte} : MemKept true u (t.wortWindow off bs) := by
  obtain ⟨wort, marks, e, hw, hp, -⟩ := t.wortWindow_eq off bs
  rw [e]
  exact h.wortMem hw hp

theorem MemKept.hostReadDone (h : MemKept w u t) {now id i : Nat} {data : Option (List Byte)} :
    MemKept w u (t.hostReadDone now id i data) := by
  unfold Tun.hostReadDone
  split
  · exact h
  · split
    · refine h.unless fun h => ?_
      split
      · exact h.branch (·.resideFail) (·.hostReadFail)
      · exact h.unless (·.modCmd)
    · exact h

theorem MemKept.msixMask (h : MemKept w u t) {fn vector : Nat} {mask : Bool} :
    MemKept w u (t.msixMask fn vector mask) := h.of_same (by simp) (by simp) (by simp)

theorem MemKept.poisonUnit (h : MemKept true u t) {src addr : Nat} : MemKept true u (t.poisonUnit src addr) := by
  unfold Tun.poisonUnit
  exact h.branch (fun h => h.caskMem id (Tab.set_wf _ _ _)) fun h => h.wortMem id (Tab.set_wf _ _ _)

theorem MemKept.writeBack (h : MemKept w u t) {src addr : Nat} :
    MemKept w u (t.writeBack src addr) := h.of_same (by simp) (by simp) (by simp)

theorem MemKept.errorDetect (h : MemKept true u t) {now src cls : Nat} {at_ : ErrAt} :
    MemKept true u (t.errorDetect now src cls at_) :=
  h.unless (·.unless (·.logError.branch (·.writeBack) (·.branch (·.poisonUnit) (·.branch (·.branch (·.descriptorFetch) (·.storeFails)) (·.branch (·.unless (·.fenceRequest)) (·.branch (·.unless (·.fenceRequest)) (·.warmRequest)))))))

theorem MemKept.scrubFinds (h : MemKept true u t) {now src : Nat} {f : Nat × Bool} :
    MemKept true u (scrubFinds now src t f) :=
  h.branch (·.errorDetect) (·.errorDetect)

theorem MemKept.scrubStack (h : MemKept true u t) {now n units : Nat} {found : List (Nat × Bool)} :
    MemKept true u (t.scrubStack now n units found) :=
  h.unless (fun h => h.modRel.bumpBy.foldl fun h => h.scrubFinds)

theorem MemKept.scrubWort (h : MemKept true u t) {now units : Nat} {found : List (Nat × Bool)} :
    MemKept true u (t.scrubWort now units found) :=
  h.modRel.foldl fun h => h.scrubFinds

theorem MemKept.calibrate (h : MemKept w u t) {now n : Nat} :
    MemKept w u (t.calibrate now n) := h.of_same (by simp) (by simp) (by simp)

theorem MemKept.caskTemp (h : MemKept w u t) {now n : Nat} {v : Half} :
    MemKept w u (t.caskTemp now n v) :=
  h.unless (·.modRel.when (·.stackOffline))

theorem MemKept.selfRefresh (h : MemKept w u t) {n : Nat} :
    MemKept w u (t.selfRefresh n) := h.of_same (by simp) (by simp) (by simp)

theorem MemKept.serdesRecal (h : MemKept w u t) {now id : Nat} :
    MemKept w u (t.serdesRecal now id) := h.of_same (by simp) (by simp) (by simp)

theorem MemKept.junctionSample (h : MemKept w u t) {now : Nat} {readings : List Half} :
    MemKept w u (t.junctionSample now readings) := h.of_same (by simp) (by simp) (by simp)

theorem MemKept.writeSparge (h : MemKept w u t) {v : Word} :
    MemKept w u (t.writeSparge v) :=
  h.modRel

theorem MemKept.modHyd (h : MemKept w u t) {f : Hyd → Hyd} :
    MemKept w u (t.modHyd f) := h.of_same (by simp) (by simp) (by simp)

theorem MemKept.snapshot (h : MemKept w u t) :
    MemKept w u t.snapshot := h.of_same (by simp) (by simp) (by simp)

theorem MemKept.snapWrite (h : MemKept w u t) :
    MemKept w u t.snapWrite := h.of_same (by simp) (by simp) (by simp)

theorem MemKept.hydLatch (h : MemKept w u t) {p : Path} :
    MemKept w u (t.hydLatch p) := h.of_same (by simp) (by simp) (by simp)

theorem MemKept.exportInband (h : MemKept w u t) {now : Nat} {r : List Byte} :
    MemKept w u (t.exportInband now r) :=
  h.originate

theorem MemKept.exportRing (h : MemKept w u t) {r : List Byte} :
    MemKept w u (t.exportRing r) := h.of_same (by simp) (by simp) (by simp)

theorem MemKept.exportShare (h : MemKept w u t) {now : Nat} :
    MemKept w u (t.exportShare now) :=
  h.unless (fun h => ((h.modHyd.when (fun h => h.foldl fun h => h.exportInband)).when (fun h => h.foldl fun h => h.exportRing)).when (·.msi))

theorem MemKept.exportRound (h : MemKept w u t) {now : Nat} :
    MemKept w u (t.exportRound now) :=
  h.unless (·.branch (·.modHyd) (·.snapshot.modHyd.unless (·.modHyd.exportShare)))

theorem MemKept.hydHead (h : MemKept w u t) {i : Half} :
    MemKept w u (t.hydHead i) := h.of_same (by simp) (by simp) (by simp)

theorem MemKept.writeRingCfgHyd (h : MemKept w u t) {v : Word} :
    MemKept w u (t.writeRingCfgHyd v) := h.of_same (by simp) (by simp) (by simp)

theorem MemKept.writeHydConfig (h : MemKept w u t) {reg : BitVec 2} {v : Word} :
    MemKept w u (t.writeHydConfig reg v) := h.of_same (by simp) (by simp) (by simp)

theorem MemKept.writeHydCtrl (h : MemKept w u t) {v : Word} :
    MemKept w u (t.writeHydCtrl v) :=
  h.modHyd.when (·.snapWrite)

theorem MemKept.writeHydSel (h : MemKept w u t) {v : Word} :
    MemKept w u (t.writeHydSel v) :=
  h.modHyd

theorem MemKept.gaugeCycle (h : MemKept w u t) :
    MemKept w u t.gaugeCycle :=
  h.foldl fun h => h.modHyd

theorem MemKept.refreshCycle (h : MemKept w u t) {now : Nat} :
    MemKept w u (t.refreshCycle now) :=
  h.unless (fun h => h.foldl fun h => h.bumpBy)

theorem MemKept.cycle (h : MemKept w u t) {now : Nat} :
    MemKept w u (t.cycle now) :=
  ((((((((h.foldl fun h => h.bump).foldl fun h => h.bump).foldl fun h => h.bump).foldl fun h => h.bump).foldl fun h => h.bump).foldl fun h => h.bump).foldl fun h => h.bump).refreshCycle).gaugeCycle

/-- A write that a list of registers answers: the one it names, and what is left of the list. -/
theorem MemKept.atKey {o k : Nat} {f : Tun → Tun} {l : List (Nat × (Tun → Tun))} (hf : MemKept w u (f t)) (hl : MemKept w u (runAt o l t)) :
    MemKept w u (runAt o ((k, f) :: l) t) := by
  unfold runAt lookupD
  split
  · exact hf
  · exact hl

theorem MemKept.readAccess (h : MemKept w u t) {now : Nat} {p : Path} {off bytes : Nat} : MemKept w u (t.readAccess now p off bytes).2 := by
  unfold Tun.readAccess
  split
  · exact h
  · split
    · exact h
    · exact h.when (·.hydLatch)

theorem MemKept.writeRackConfig (h : MemKept w u t) {v : Word} :
    MemKept w u (t.writeRackConfig v) := h.of_same (by simp) (by simp) (by simp)

theorem MemKept.conflictClear (h : MemKept w u t) :
    MemKept w u t.conflictClear := h.of_same (by simp) (by simp) (by simp)

theorem MemKept.proxySendWrite (h : MemKept w u t) :
    MemKept w u t.proxySendWrite :=
  h.branch (·.with_proxy) (·.with_proxy)

theorem MemKept.proxyBufWrite (h : MemKept w u t) {o : Nat} {v : Word} :
    MemKept w u (t.proxyBufWrite o v) :=
  h.unless (·.with_proxy)

theorem MemKept.writeWin0 (h : MemKept true u t) {now : Nat} {p : Path} {o : Nat} {v : Word} : MemKept true u (t.writeWin0 now p o v) :=
  h.branch (·.unless (·.proxyBufWrite)) fun h => h.branch (·.when (·.proxySendWrite)) fun h =>
    .atKey (h.when (·.with_svc)) <| .atKey h.writeServiceCtrl <| .atKey (h.when (·.conflictClear)) <| .atKey h.writeRackConfig h

theorem MemKept.writeBlock (h : MemKept w u t) {now id o : Nat} {v : Word} :
    MemKept w u (t.writeBlock now id o v) :=
  h.unless (·.branch (·.writePortCtrl) (·.unless (·.branch (·.with_plane) (·.when (·.with_plane)))))

theorem MemKept.writePkeyLow (h : MemKept w u t) {i : Nat} {v : Word} :
    MemKept w u (t.writePkeyLow i v) := h.of_same (by simp) (by simp) (by simp)

theorem MemKept.writePkeyHigh (h : MemKept w u t) {i : Nat} {v : Word} :
    MemKept w u (t.writePkeyHigh i v) := h.of_same (by simp) (by simp) (by simp)

theorem MemKept.writeRankDesc (h : MemKept w u t) {i : Nat} {v : Word} :
    MemKept w u (t.writeRankDesc i v) := h.of_same (by simp) (by simp) (by simp)

theorem MemKept.writeRankData (h : MemKept w u t) {v : Word} :
    MemKept w u (t.writeRankData v) := h.of_same (by simp) (by simp) (by simp)

theorem MemKept.writeRouteData (h : MemKept w u t) {v : Word} :
    MemKept w u (t.writeRouteData v) := h.of_same (by simp) (by simp) (by simp)

theorem MemKept.modPlane (h : MemKept w u t) {f : Plane → Plane} :
    MemKept w u (t.modPlane f) := h.of_same (by simp) (by simp) (by simp)

theorem MemKept.writeWin5 (h : MemKept w u t) {o : Nat} {v : Word} : MemKept w u (t.writeWin5 o v) :=
  h.branch (·.branch (·.writePkeyLow) (·.writePkeyHigh)) fun h => h.branch (·.writeRankDesc) fun h =>
    .atKey h.modPlane <| .atKey h.modPlane <| .atKey h.modPlane <| .atKey h.writeRouteData <| .atKey h.modPlane <|
      .atKey h.writeRankData <| .atKey h.modPlane <| .atKey h.modPlane h

theorem MemKept.vorlaufApply (h : MemKept w u t) :
    MemKept w u t.vorlaufApply := h.of_same (by simp) (by simp) (by simp)

theorem MemKept.writeVorlauf (h : MemKept w u t) {v : Word} :
    MemKept w u (t.writeVorlauf v) :=
  h.modPlane.vorlaufApply

theorem MemKept.writeWin6 (h : MemKept w u t) {o : Nat} {v : Word} : MemKept w u (t.writeWin6 o v) :=
  .atKey h.writeVorlauf <| .atKey h.modPlane h

theorem MemKept.writeBrewCtrl (h : MemKept w u t) {now : Nat} {v : Word} :
    MemKept w u (t.writeBrewCtrl now v) := by
  unfold Tun.writeBrewCtrl
  dsimp only
  split
  · exact h.branch (·.modSched) (·.modSched)
  · split
    · exact h
    · split
      · exact h.recipeLoad
      · exact h.brewStop
      · exact h.brewStart
      · exact h.shadowDiscard
      · exact h.modSched

theorem MemKept.writeWin7 (h : MemKept w u t) {now o : Nat} {v : Word} : MemKept w u (t.writeWin7 now o v) :=
  .atKey h.writeBrewCtrl <| .atKey h.modSched <| .atKey h.modSched <| .atKey h.modSched <| .atKey h.modSched h

theorem MemKept.writeWin8 (h : MemKept w u t) {now o : Nat} {v : Word} : MemKept w u (t.writeWin8 now o v) :=
  h.branch (·.when (·.producerDoorbell.arbitrate)) fun h => h.branch (·.when (·.headDoorbell)) fun h =>
    .atKey h.modBm <| .atKey h.modBm <| .atKey (h.setUp (·.writeQueueCfg)) <| .atKey (h.setUp (·.writeQueueRing)) <| .atKey h.modQueue <|
      .atKey h.modBm <| .atKey (h.setUp (·.writeRingCfg)) <| .atKey (h.setUp (·.writeRingOther)) <|
      .atKey (h.setUp (·.writeRingOther)) <| .atKey (h.setUp (·.writeRingOther)) <| .atKey h.modRing <| .atKey h.modBm <|
      .atKey h.modBm h

theorem MemKept.writeWin9 (h : MemKept w u t) {o : Nat} {v : Word} : MemKept w u (t.writeWin9 o v) := .atKey h.modMash <| .atKey h.modMash h

theorem MemKept.writeWinA (h : MemKept w u t) {o : Nat} {v : Word} : MemKept w u (t.writeWinA o v) := .atKey h.modCellar <|
  .atKey h.modCellar h

theorem MemKept.writeWinB (h : MemKept w u t) {o : Nat} {v : Word} : MemKept w u (t.writeWinB o v) :=
  h.branch (·.when (·.streamHead)) fun h => .atKey h.modToken <| .atKey h.modStream <| .atKey h.modToken h

theorem MemKept.writeWinC (h : MemKept w u t) {o : Nat} {v : Word} :
    MemKept w u (t.writeWinC o v) :=
  h.when (·.writeSparge)

theorem MemKept.writeWinD (h : MemKept w u t) {o : Nat} {v : Word} : MemKept w u (t.writeWinD o v) :=
  .atKey h.writeHydCtrl <| .atKey h.writeHydConfig <| .atKey h.modHyd <| .atKey h.writeHydSel <| .atKey h.writeHydConfig <|
    .atKey h.writeHydConfig <| .atKey h.writeHydConfig <| .atKey h.hydHead h

theorem MemKept.writeWinE (h : MemKept w u t) {o : Nat} {v : Word} : MemKept w u (t.writeWinE o v) := .atKey h.modErr <| .atKey h.modErr h

theorem MemKept.writeWinF (h : MemKept true u t) {now : Nat} {p : Path} {o : Nat} {v : Word} : MemKept true u (t.writeWinF now p o v) :=
  .atKey h.writeResetCtrl <| .atKey (h.when (·.modHost)) h

theorem MemKept.writeWord (h : MemKept true u t) {now : Nat} {p : Path} {off : Nat} {v : Word} :
    MemKept true u (t.writeWord now p off v) := by
  unfold Tun.writeWord
  dsimp only
  split
  · exact h.writeBlock
  · split
    · exact h.writeWin0
    · exact h.writeWin5
    · exact h.writeWin6
    · exact h.writeWin7
    · exact h.writeWin8
    · exact h.writeWin9
    · exact h.writeWinA
    · exact h.writeWinB
    · exact h.writeWinC
    · exact h.writeWinD
    · exact h.writeWinE
    · exact h.writeWinF
    · exact h

theorem MemKept.gateWrite (h : MemKept w u t) {off : Nat} {f : Tun → Tun} (hf : ∀ {t : Tun}, MemKept w u t → MemKept w u (f t)) :
    MemKept w u (t.gateWrite off f) := h.branch (·.when hf) (·.branch (·.with_svc) hf)

theorem MemKept.writeAccess (h : MemKept true u t) {now : Nat} {w : RegWrite} :
    MemKept true u (t.writeAccess now w) :=
  h.unless (fun h => h.gateWrite (fun h => h.writeWord.when (·.writeWord)))

theorem MemKept.countConflict (h : MemKept w u t) {ws : List RegWrite} :
    MemKept w u (t.countConflict ws) := by
  unfold Tun.countConflict
  dsimp only
  split
  · exact h
  · exact h.with_conflict

theorem MemKept.cycleWrites (h : MemKept true u t) {now : Nat} {ws : List RegWrite} :
    MemKept true u (t.cycleWrites now ws) :=
  (h.foldl fun h => h.writeAccess).unless (·.countConflict)

theorem MemKept.writeReg (h : MemKept true u t) {now : Nat} {p : Path} {off : Nat} {v : Word} :
    MemKept true u (t.writeReg now p off v) :=
  h.cycleWrites

theorem MemKept.sidebandRead (h : MemKept w u t) {now off n : Nat} : MemKept w u (t.sidebandRead now off n).2 := by
  induction n generalizing t off with
  | zero => exact h
  | succ n ih => exact ih h.readAccess

theorem MemKept.planeDue (h : MemKept w u t) {now : Nat} :
    MemKept w u (t.planeDue now) := by
  unfold Tun.planeDue
  dsimp only
  split
  · exact h.releaseStopped
  · split
    · exact h.when (·.modSched.releaseWork.arbitrate)
    · exact h

theorem MemKept.armedDue (h : MemKept w u t) {now : Nat} :
    MemKept w u (t.armedDue now) :=
  h.when (·.armedBegin)

theorem MemKept.shareEnds (h : MemKept w u t) :
    MemKept w u t.shareEnds := h.of_same (by simp) (by simp) (by simp)

theorem MemKept.brewBoundary (h : MemKept w u t) {now : Nat} :
    MemKept w u (t.brewBoundary now) :=
  h.unless (·.shareEnds.modSched.planeDue.armedDue)

theorem MemKept.keeperMark (h : MemKept w u t) {now : Nat} :
    MemKept w u (t.keeperMark now) := h.of_same (by simp) (by simp) (by simp)

theorem MemKept.markReceive (h : MemKept w u t) {now id : Nat} {payload : List Byte} :
    MemKept w u (t.markReceive now id payload) := h.of_same (by simp) (by simp) (by simp)

theorem MemKept.markTake (h : MemKept w u t) {now : Nat} :
    MemKept w u (t.markTake now) := h.of_same (by simp) (by simp) (by simp)

theorem MemKept.alignLossEvent (h : MemKept w u t) :
    MemKept w u t.alignLossEvent := h.of_same (by simp) (by simp) (by simp)

theorem MemKept.circuitSend (h : MemKept w u t) {now : Nat} {d : Dword} {n : Nat} : MemKept w u (t.circuitSend now d n) := by
  induction n generalizing t with
  | zero => exact h
  | succ n ih =>
    unfold Tun.circuitSend
    split
    · exact h
    · exact ih h.modSched.sendPort

theorem MemKept.engineSlot (h : MemKept w u t) {now i : Nat} : MemKept w u (t.engineSlot now i) := by
  unfold Tun.engineSlot
  split
  · exact h
  · exact h.when (·.circuitSend)

theorem MemKept.stepMiss (h : MemKept w u t) :
    MemKept w u t.stepMiss := h.of_same (by simp) (by simp) (by simp)

theorem MemKept.startTimed (h : MemKept w u t) {c : Cmd} {us : List Nat} {p : Pre} :
    MemKept w u (t.startTimed c us p) :=
  (h.modBm.modCtx.foldl fun h => h.modBm).modCmd

theorem MemKept.nextOf (h : MemKept w u t) {q : Nat} {r : Cmd × Tun} (e : t.nextOf q = some r) : MemKept w u r.2 := by
  unfold Tun.nextOf at e
  split at e
  · cases e
    exact h
  · split at e
    · cases e
    · cases e
      exact h.fetchNext

theorem MemKept.timedStep (h : MemKept w u t) {now i : Nat} : MemKept w u (t.timedStep now i) := by
  unfold Tun.timedStep
  dsimp only
  split
  · exact h
  · split
    · exact h.stepMiss
    · split
      · exact h.stepMiss
      next e =>
        have k := h.nextOf e
        split
        · exact k.modCmd.failWith
        · exact k.modCmd.startTimed.modSched

theorem MemKept.lateOutputs (h : MemKept w u t) {now id : Nat} :
    MemKept w u (t.lateOutputs now id) := h.of_same (by simp) (by simp) (by simp)

theorem MemKept.budgetEnd (h : MemKept w u t) {now id : Nat} :
    MemKept w u (t.budgetEnd now id) :=
  h.branch (·.modSched.modCmd.lateOutputs) (·.lateOutputs)

theorem MemKept.nextPush (h : MemKept w u t) {q : Nat} {c : Cmd} {v : Tun} (e : t.nextPush q = some (c, v)) : MemKept w u v := by
  have fetched := h.fetchNext (q := q) (admin := []) (fails := false)
  unfold Tun.nextPush at e
  split at e
  · split at e
    · cases e
      exact h
    · cases e
  · split at e
    · cases e
    · dsimp only at e
      split at e
      · rw [Option.some.inj e] at fetched
        exact fetched
      · cases e

theorem MemKept.bindingStart (h : MemKept w u t) {now i : Nat} : MemKept w u (t.bindingStart now i) := by
  unfold Tun.bindingStart
  dsimp only
  split
  · exact h
  · split
    · exact h.stepMiss
    · split
      · exact h.stepMiss
      next e =>
        obtain ⟨g, -, e⟩ := Option.bind_eq_some_iff.mp e
        have k := h.nextPush e
        split
        · exact k.stepMiss.failCmd
        · split
          · exact k.modCmd.failWith
          · exact k.modCmd.startTimed.modSched

theorem MemKept.armReads (h : MemKept w u t) {now : Nat} {offs : List Nat} :
    MemKept w u (t.armReads now offs) :=
  h.foldl fun h => h.foldl fun h => h.originate

theorem MemKept.armMismatch (h : MemKept w u t) {bad : Bool} :
    MemKept w u (t.armMismatch bad) := h.of_same (by simp) (by simp) (by simp)

theorem MemKept.armCheck (h : MemKept w u t) {now : Nat} {as : List ArmAnswer} :
    MemKept w u (t.armCheck now as) := by
  unfold Tun.armCheck
  dsimp only
  split
  · exact h
  · exact h.armReads.armMismatch

theorem MemKept.armRecheck (h : MemKept w u t) {now : Nat} {as : List ArmAnswer} :
    MemKept w u (t.armRecheck now as) :=
  h.when (·.armReads.armMismatch)

theorem MemKept.rowWrite (h : MemKept w u t) {off : Nat} {f : Tun → Tun} (hf : ∀ {t : Tun}, MemKept w u t → MemKept w u (f t)) :
    MemKept w u (t.rowWrite off f) := h.unless (·.gateWrite hf)

theorem MemKept.placeNow (h : MemKept w u t) {now : Nat} {q : Packet} : MemKept w u (t.placeNow now q) := by
  unfold Tun.placeNow
  split
  · exact h.drop
  · exact h.unless (·.placeLink)

theorem MemKept.takeMgmt (h : MemKept true u t) {now : Nat} {p : Packet} :
    MemKept true u (t.takeMgmt now p) :=
  h.unless (fun h => h.branch (·.originate) (fun h => h.branch (·.originate) (fun h => h.branch (·.readAccess.originate) (fun h => h.branch (fun h => (h.formOwn.foldl fun h => h.placeNow).cycleWrites) (·.cycleWrites.originate)))))

theorem MemKept.takeWrite (h : MemKept true u t) {p : Packet} :
    MemKept true u (t.takeWrite p) :=
  h.branch (·.shareStore) (·.modBm)

theorem MemKept.maskChunk (h : MemKept w u t) {now : Nat} {p : Packet} : MemKept w u (t.maskChunk now p).2.2 := by
  unfold Tun.maskChunk
  dsimp only
  split
  · exact h
  · split
    · exact h
    · split
      · exact h
      · dsimp only
        exact h.caskTxn

theorem MemKept.serveRead (h : MemKept w u t) {now : Nat} {p : Packet} : MemKept w u (t.serveRead now p) := by
  unfold Tun.serveRead
  dsimp only
  split
  · exact h.maskChunk.queueOut
  · exact h.queueOut

theorem MemKept.takeAtomic (h : MemKept true u t) {now : Nat} {p : Packet} :
    MemKept true u (t.takeAtomic now p) := by
  unfold Tun.takeAtomic
  dsimp only
  split
  · exact h.queueOut
  · split
    · exact h.queueOut
    · exact h.branch (·.queueOut) (·.branch (·.queueOut) (·.shareStore.queueOut))

theorem MemKept.readFilled (h : MemKept w u t) {now entry i : Nat} {c : Cmd} {p : Packet} :
    MemKept w u (t.readFilled now entry i c p) :=
  h.modBm.modCmd.issueReads

theorem MemKept.takeResponse (h : MemKept w u t) {now port : Nat} {p : Packet} :
    MemKept w u (t.takeResponse now port p) := by
  unfold Tun.takeResponse
  dsimp only
  split
  · exact h.drop.modBm
  · split
    · exact h.modBm
    · split
      · exact h.branch (·.maskFail) (·.runFail)
      · split
        · exact h
        · exact h.when (·.readFilled)

theorem MemKept.consume (h : MemKept true u t) {now code : Nat} {p : Packet} :
    MemKept true u (t.consume now code p) :=
  h.branch (·.takeMgmt) (·.branch (·.takeNotice) (·.branch (·.takeWrite) (·.branch (·.serveRead) (·.branch (·.takeAtomic) (·.branch (·.takeResponse) (·.branch (·.takeCmd) (·.branch (·.takeDoorbell) (·.branch (·.takeContrib) (·.when (·.modMash))))))))))

theorem MemKept.consumeAll (h : MemKept true u t) {now : Nat} {ps : List (Nat × Packet)} :
    MemKept true u (t.consumeAll now ps) :=
  h.foldl fun h => h.consume

theorem MemKept.deliver (h : MemKept true u t) {now code : Nat} {p : Packet} :
    MemKept true u (t.deliver now code p) :=
  h.branch (·.dropAnswered) (·.streamAccept.consumeAll)

theorem MemKept.ingress (h : MemKept w u t) {now id : Nat} {vc : Bool} {first : Nat} {p : Packet} :
    MemKept w u (t.ingress now id vc first p) := by
  unfold Tun.ingress
  dsimp only
  split
  · exact h.bump.dropAnswered
  · exact h.bump.holdPacket

theorem MemKept.circuitArrive (h : MemKept true u t) {now from_ id : Nat} {p : Packet} {first last : Int} :
    MemKept true u (t.circuitArrive now from_ id p first last) := by
  unfold Tun.circuitArrive
  dsimp only
  split
  · exact h.bump.dropAnswered
  · split
    · exact h.bump.countForfeit.holdForfeit
    · exact h.bump.branch (·.sendPort) (·.branch (·.holdForfeit.modMash) (·.branch (·.deliver) (·.holdForfeit.with_plane)))

theorem MemKept.refuseFirst (h : MemKept w u t) {now id : Nat} {circuit : Bool} :
    MemKept w u (t.refuseFirst now id circuit) :=
  h.bump.modPort.wantNak

theorem MemKept.gildWaiting (h : MemKept w u t) {r : HoldRef} {i : Nat} : MemKept w u (t.gildWaiting r i) :=
  h.of_same (by simp) (by simp) (by simp)

theorem MemKept.releaseLanding (h : MemKept w u t) {id i : Nat} :
    MemKept w u (t.releaseLanding id i) := h.of_same (by simp) (by simp) (by simp)

theorem MemKept.copyMulticast (h : MemKept w u t) {now id : Nat} :
    MemKept w u (t.copyMulticast now id) := h.of_same (by simp) (by simp) (by simp)

theorem MemKept.countRefusals (h : MemKept w u t) {free : List Nat} :
    MemKept w u (t.countRefusals free) :=
  h.unless (fun h => h.foldl fun h => h.branch (·.with_plane) (·.when (·.modMash)))

theorem MemKept.keepAwards (h : MemKept w u t) {now : Nat} {outs : List Nat} {bs0 bs : List Bid} :
    MemKept w u (t.keepAwards now outs bs0 bs) :=
  h.foldl fun h => (by
    split
    · exact h
    · exact h.with_plane)

theorem MemKept.placeBid (h : MemKept true u t) {now : Nat} {b : Bid} :
    MemKept true u (Tun.placeBid now t b) := by
  unfold Tun.placeBid
  dsimp only
  split
  · exact h
  · exact h.takeFrom.branch (·.deliver) (·.placeLink)

theorem MemKept.awardCycle (h : MemKept true u t) {now : Nat} {free : List Nat} :
    MemKept true u (t.awardCycle now free) :=
  (h.dropUnroutable.countRefusals.keepAwards.foldl fun h => h.ejectRing).foldl fun h => h.placeBid

theorem MemKept.rxCounts (h : MemKept w u t) {id : Nat} {r : RxEvents} : MemKept w u (t.rxCounts id r) := by
  unfold Tun.rxCounts
  exact h.bumpBy.bumpBy.bumpBy.bumpBy.modPort

theorem MemKept.packetIn (h : MemKept true u t) {now id : Nat} {vc : Bool} {first : Nat} {p : Packet} :
    MemKept true u (t.packetIn now id vc first p) :=
  h.branch (·.circuitArrive) (·.ingress)

theorem MemKept.assemble (h : MemKept true u t) {now id : Nat} {vc : Bool} {f : Flit} :
    MemKept true u (t.assemble now id vc f) :=
  h.branch (fun h => (h.unless (·.modPort)).packetIn) (·.branch (·.modPort) (·.unless (·.branch (·.modPort) (·.modPort.packetIn))))

theorem MemKept.sequencedFlit (h : MemKept true u t) {now id : Nat} {f : Flit} :
    MemKept true u (t.sequencedFlit now id f) :=
  h.branch (·.wantNak) (fun h => h.branch (·.refuseFirst) (fun h => ((h.modPort.when (·.modPlane)).putOrdered).assemble))

theorem MemKept.orderedSet (h : MemKept w u t) {now id : Nat} {f : Flit} :
    MemKept w u (t.orderedSet now id f) :=
  h.branch (·.when (·.retrainNotice)) (·.branch (·.fenceReceive) (·.branch (·.markReceive) (·.branch (·.probeReceive) (·.branch (·.delayEcho) (·.when (·.napReceive))))))

theorem MemKept.staleFlit (h : MemKept w u t) {id : Nat} {f : Flit} :
    MemKept w u (t.staleFlit id f) :=
  h.modPort.drop

theorem MemKept.flitAcks (h : MemKept w u t) {now id : Nat} {f : Flit} :
    MemKept w u (t.flitAcks now id f) :=
  (h.when (·.modPort)).branch (fun h => ((h.when (·.modPort)).startReplay).pumpLink) (·.pumpLink)

theorem MemKept.upFlit (h : MemKept true u t) {now id : Nat} {f : Flit} :
    MemKept true u (t.upFlit now id f) :=
  h.flitAcks.unless (fun h => h.branch (·.sequencedFlit) (fun h => (h.when (·.wantNak)).orderedSet))

theorem MemKept.peerShows (h : MemKept w u t) {id : Nat} {f : Flit} :
    MemKept w u (t.peerShows id f) :=
  h.unless (·.modPort)

theorem MemKept.goodFlit (h : MemKept true u t) {now id : Nat} {f : Flit} :
    MemKept true u (t.goodFlit now id f) := by
  unfold Tun.goodFlit
  dsimp only
  split
  · exact h
  · split
    · exact h.peerShows.identityReceive
    · split
      · exact h.staleFlit
      · split
        · exact h.peerShows.branch (·.when (·.retrainNotice)) (·.when (·.fenceReceive))
        · exact h.peerShows.upFlit
        · exact h.peerShows.upFlit
        · exact h.peerShows.when (·.retrainNotice)
        · exact h.peerShows.when (·.retrainNotice)
        · exact h.peerShows

theorem MemKept.badFlit (h : MemKept w u t) {now id : Nat} :
    MemKept w u (t.badFlit now id) :=
  h.bump.when (·.wantNak)

theorem MemKept.flitReceive (h : MemKept true u t) {now id : Nat} {bytes : List Byte} {badBlock : Bool} {rx : RxEvents} :
    MemKept true u (t.flitReceive now id bytes badBlock rx) := by
  unfold Tun.flitReceive
  dsimp only
  split
  · exact h.rxCounts
  · split
    · exact h.rxCounts.rxWake.badFlit
    · exact h.rxCounts.rxWake.branch (·.badFlit) (·.bump.goodFlit)

theorem MemKept.idle (h : MemKept w u t) {now : Nat} :
    MemKept w u (t.idle now) :=
  h.idleFlits.when (·.cycle)

end Sys2Proof.Machine
end

section
/-! SUPPORT. What each command does to the memory of every Tun, operation by operation; the form of the tables and the frame of the memory
follow (O5, O10). -/

namespace Sys2Proof.Machine
open Sys2Proof
set_option Elab.async false
variable {w : Bool}

/-! ### The tray -/

/-- Every Tun of `t` keeps the memory of the same Tun of `s`. -/
structure TrayKept (w : Bool) (s t : State) : Prop where
  tun : ∀ x, MemKept w (s.tun x) (t.tun x)

section
variable {s t : State} {x : TunId}

theorem TrayKept.refl : TrayKept w s s := ⟨fun _ => .refl⟩

/-- What leaves every Tun as it was keeps the tray's memory. -/
theorem TrayKept.of_tuns {v : State} (h : TrayKept w s t) (e : v.tuns = t.tuns) : TrayKept w s v := ⟨fun x => by
  have same : v.tun x = t.tun x := congrArg (Quad.get · x) e
  exact same ▸ h.tun x⟩

theorem TrayKept.ite {c : Prop} [Decidable c] {a b : State} (ha : TrayKept w s a) (hb : TrayKept w s b) :
    TrayKept w s (if c then a else b) := by split <;> assumption

/-- A change made under a condition. -/
theorem TrayKept.when {c : Prop} [Decidable c] {v : State} (h : TrayKept w s t) (f : TrayKept w s t → TrayKept w s v) :
    TrayKept w s (if c then v else t) := .ite (f h) h

theorem TrayKept.unless {c : Prop} [Decidable c] {v : State} (h : TrayKept w s t) (f : TrayKept w s t → TrayKept w s v) :
    TrayKept w s (if c then t else v) := .ite h (f h)

theorem TrayKept.branch {c : Prop} [Decidable c] {a b : State} (h : TrayKept w s t) (f : TrayKept w s t → TrayKept w s a)
    (g : TrayKept w s t → TrayKept w s b) : TrayKept w s (if c then a else b) := .ite (f h) (g h)

/-- A fold keeps what each of its steps keeps. -/
theorem TrayKept.foldl {α : Type} {f : State → α → State} {l : List α} (h : TrayKept w s t)
    (hf : ∀ {t : State} {a : α}, TrayKept w s t → TrayKept w s (f t a)) : TrayKept w s (l.foldl f t) := by
  induction l generalizing t with
  | nil => exact h
  | cons a l ih => exact ih (hf h)

section
variable (h : TrayKept w s t)
include h
theorem TrayKept.with_now {v : Nat} : TrayKept w s { t with now := v } := ⟨h.tun⟩
theorem TrayKept.with_tray {v : Tray} : TrayKept w s { t with tray := v } := ⟨h.tun⟩
theorem TrayKept.with_bays {v : List Bay} : TrayKept w s { t with bays := v } := ⟨h.tun⟩
theorem TrayKept.with_malt {v : Malt} : TrayKept w s { t with malt := v } := ⟨h.tun⟩
theorem TrayKept.with_fw {v : Fw} : TrayKept w s { t with fw := v } := ⟨h.tun⟩

theorem TrayKept.setTun {v : Tun} (hv : MemKept w (s.tun x) v) : TrayKept w s (t.setTun x v) := ⟨fun y => by
  by_cases e : y = x
  · subst e
    rwa [State.tun_setTun]
  · rw [State.tun_setTun_other _ _ _ e]
    exact h.tun y⟩

theorem TrayKept.modTun {f : Tun → Tun} (hf : ∀ {u t : Tun}, MemKept w u t → MemKept w u (f t)) : TrayKept w s (t.modTun x f) :=
  h.setTun (hf (h.tun x))

theorem TrayKept.modAllTuns {f : Tun → Tun} (hf : ∀ {u t : Tun}, MemKept w u t → MemKept w u (f t)) : TrayKept w s (t.modAllTuns f) :=
  ⟨fun y => by
    rw [State.tun_modAllTuns]
    exact hf (h.tun y)⟩
end

theorem TrayKept.modTray (h : TrayKept w s t) {f : Tray → Tray} : TrayKept w s (t.modTray f) := by
  unfold State.modTray
  exact h.with_tray

theorem TrayKept.modMalt (h : TrayKept w s t) {f : Malt → Malt} : TrayKept w s (t.modMalt f) := by
  unfold State.modMalt
  exact h.with_malt

theorem TrayKept.modFw (h : TrayKept w s t) {f : Fw → Fw} : TrayKept w s (t.modFw f) := by
  unfold State.modFw
  exact h.with_fw

theorem TrayKept.modMTun (h : TrayKept w s t) {x : TunId} {f : MTun → MTun} : TrayKept w s (t.modMTun x f) := by
  unfold State.modMTun
  exact h.with_malt

theorem TrayKept.modBay (h : TrayKept w s t) {n : Nat} {f : Bay → Bay} : TrayKept w s (t.modBay n f) := by
  unfold State.modBay
  exact h.with_bays

theorem TrayKept.modBus (h : TrayKept w s t) {b : Bus} {f : SbBus → SbBus} : TrayKept w s (t.modBus b f) := by
  unfold State.modBus
  exact h.with_malt

theorem TrayKept.modRaw (h : TrayKept w s t) {p : RawPath} {f : RawState → RawState} : TrayKept w s (t.modRaw p f) := by
  unfold State.modRaw
  exact h.with_malt

theorem TrayKept.emitMalt (h : TrayKept w s t) {e : MaltEmit} : TrayKept w s (t.emitMalt e) := by
  unfold State.emitMalt
  exact h.with_malt

theorem TrayKept.ibiNow (h : TrayKept w s t) {b : Bus} : TrayKept w s (t.ibiNow b) := by
  unfold State.ibiNow
  exact h.when (·.with_malt)

theorem TrayKept.raise (h : TrayKept w s t) {n : Nat} : TrayKept w s (t.raise n) := by
  unfold State.raise
  exact h.unless (·.with_malt)

theorem TrayKept.ackAlert (h : TrayKept w s t) : TrayKept w s t.ackAlert := by
  unfold State.ackAlert
  exact h.with_malt

theorem TrayKept.logRecord (h : TrayKept w s t) {sev src event : Nat} {data : List Byte} : TrayKept w s (t.logRecord sev src event data) := by
  unfold State.logRecord
  exact h.with_malt.with_fw.when (·.raise)

theorem TrayKept.log (h : TrayKept w s t) {sev src event : Nat} {data : List Byte} : TrayKept w s (t.log sev src event data) := by
  unfold State.log
  exact h.logRecord.unless (fun h => ((h.when (·.logRecord)).when (·.logRecord)).when (·.logRecord.modFw))

theorem TrayKept.emitMctp (h : TrayKept w s t) {b : Bus} {tag : BitVec 3} {frame : List Byte} : TrayKept w s (t.emitMctp b tag frame) := by
  unfold State.emitMctp
  exact h.emitMalt

theorem TrayKept.reply (h : TrayKept w s t) {src : Src} {q : Req} {status : Half} {payload : List Byte} : TrayKept w s (t.reply src q status payload) := by
  unfold State.reply
  dsimp only
  split
  · exact h.modRaw
  · exact h.modMalt.emitMctp

theorem TrayKept.finishWhere (h : TrayKept w s t) {p : Executing → Bool} {status : Half} {payload : List Byte} : TrayKept w s (t.finishWhere p status payload) := by
  unfold State.finishWhere
  exact h.modMalt.foldl fun h => h.foldl fun h => h.reply

theorem TrayKept.finishObj (h : TrayKept w s t) {o : WinObj} {status : Half} {payload : List Byte} : TrayKept w s (t.finishObj o status payload) := by
  unfold State.finishObj
  exact h.finishWhere

theorem TrayKept.finish (h : TrayKept w s t) {obj : Byte} {status : Half} {payload : List Byte} : TrayKept w s (t.finish obj status payload) := by
  unfold State.finish
  exact h.finishObj

theorem TrayKept.setFlash (h : TrayKept w s t) {x : TunId} {f : TunFlash} : TrayKept w s (t.setFlash x f) := by
  unfold State.setFlash
  exact h.modFw

theorem TrayKept.setPower (h : TrayKept w s t) {x : TunId} {p : BitVec 3} : TrayKept w s (t.setPower x p) := by
  unfold State.setPower
  exact h.unless (·.modMTun.raise)

theorem TrayKept.openMain (h : TrayKept w s t) : TrayKept w s t.openMain := by
  unfold State.openMain
  exact h.of_tuns rfl

theorem TrayKept.openIfDone (h : TrayKept w s t) : TrayKept w s t.openIfDone := by
  unfold State.openIfDone
  exact h.when (·.openMain)

theorem TrayKept.refusePower (h : TrayKept w s t) {x : TunId} {st : Half} : TrayKept w s (t.refusePower x st) := by
  unfold State.refusePower
  exact h.log.when (·.setPower)

theorem TrayKept.startUp (h : TrayKept w s t) {x : TunId} : TrayKept w s (t.startUp x) := by
  unfold State.startUp
  exact h.setPower.branch (·.modMTun) (·.modMTun)

theorem TrayKept.acceptOn (h : TrayKept w s t) {x : TunId} : TrayKept w s (t.acceptOn x) := by
  unfold State.acceptOn
  exact h.modMTun.startUp

theorem TrayKept.powerDown (h : TrayKept true s t) {x : TunId} {cause : Byte} {record : Bool} : TrayKept true s (t.powerDown x cause record) := by
  unfold State.powerDown
  exact ((h.modTun (fun h => h.unless (·.holdCold))).setPower).modMTun

theorem TrayKept.finishOn (h : TrayKept w s t) {x : TunId} {status : Half} : TrayKept w s (t.finishOn x status) := by
  unfold State.finishOn
  exact h.finishWhere

theorem TrayKept.finishTun (h : TrayKept w s t) {x : TunId} {status : Half} : TrayKept w s (t.finishTun x status) := by
  unfold State.finishTun
  exact h.finish

theorem TrayKept.abandonOn (h : TrayKept w s t) {x : TunId} : TrayKept w s (t.abandonOn x) := by
  unfold State.abandonOn
  exact (h.modMTun.when (·.setPower)).finishOn

theorem TrayKept.downWithAll (h : TrayKept true s t) {cause : Byte} {record : Bool} {x : TunId} : TrayKept true s (t.downWithAll cause record x) := by
  unfold State.downWithAll
  dsimp only
  split
  · exact h.abandonOn
  · exact h.abandonOn.when (·.powerDown)

theorem TrayKept.powerDownAll (h : TrayKept true s t) {cause : Byte} {record : Bool} : TrayKept true s (t.powerDownAll cause record) := by
  unfold State.powerDownAll
  exact h.foldl fun h => h.downWithAll

theorem TrayKept.reflashWrites (h : TrayKept w s t) {x : TunId} : TrayKept w s (t.reflashWrites x) := by
  unfold State.reflashWrites
  exact h.when (·.setFlash)

theorem TrayKept.startReflash (h : TrayKept w s t) {x : TunId} {status : Half} : TrayKept w s (t.startReflash x status) := by
  unfold State.startReflash
  exact h.modMTun.reflashWrites

theorem TrayKept.dropPower (h : TrayKept true s t) {x : TunId} {cause : Byte} : TrayKept true s (t.dropPower x cause) := by
  unfold State.dropPower
  exact h.abandonOn.when (fun h => (((((h.modTun (fun h => h.powerOff)).reflashWrites).setPower).modMTun).log).finishTun)

theorem TrayKept.cutPower (h : TrayKept true s t) : TrayKept true s t.cutPower := by
  unfold State.cutPower
  exact h.foldl fun h => (h.modTun (fun h => h.powerOff)).modMTun

theorem TrayKept.railFault (h : TrayKept true s t) {x : TunId} {k : Nat} {status : Half} {phase : Byte} : TrayKept true s (t.railFault x k status phase) := by
  unfold State.railFault
  exact h.log.powerDown.setPower.modMTun.finishOn

theorem TrayKept.resumeOn (h : TrayKept w s t) {x : TunId} : TrayKept w s (t.resumeOn x) := by
  unfold State.resumeOn
  dsimp only
  split
  · split
    · exact h.startUp
    · exact h.modMTun.setPower.refusePower.finishOn
  · exact h

theorem TrayKept.reachOff (h : TrayKept true s t) {x : TunId} : TrayKept true s (t.reachOff x) := by
  unfold State.reachOff
  exact (((((((h.modTun (fun h => h.powerOff)).reflashWrites).modMTun).setPower).log).unless (·.finishTun)).resumeOn).openIfDone

theorem TrayKept.pwrEnLow (h : TrayKept true s t) : TrayKept true s t.pwrEnLow := by
  unfold State.pwrEnLow
  exact h.powerDownAll.modTray.openIfDone

theorem TrayKept.actPwrEn (h : TrayKept true s t) {level : Bool} : TrayKept true s (t.actPwrEn level) := by
  unfold State.actPwrEn
  exact h.unless (·.modTray.log.unless (·.pwrEnLow))

theorem TrayKept.closeMain (h : TrayKept w s t) : TrayKept w s t.closeMain := by
  unfold State.closeMain
  exact h.of_tuns rfl

theorem TrayKept.releaseCold (h : TrayKept w s t) {cause : BitVec 4} {inc : Byte} : TrayKept w s (t.releaseCold x cause inc) := by
  unfold State.releaseCold
  extract_lets m released
  have k : TrayKept w s released := h.modTun fun h => h.of_same rfl rfl rfl
  exact k.modMTun

theorem TrayKept.reportTrip (h : TrayKept w s t) {x : TunId} : TrayKept w s (t.reportTrip x) := by
  unfold State.reportTrip
  exact h.log.raise.abandonOn.setPower.reflashWrites.modMTun.log.finishTun.openIfDone

theorem TrayKept.leak (h : TrayKept true s t) : TrayKept true s t.leak := by
  unfold State.leak
  extract_lets low logged down tray opened
  have k : TrayKept true s down := h.modTray.raise.log.powerDownAll
  clear_value down
  have o : TrayKept true s opened := k.of_tuns rfl
  exact o.openIfDone

theorem TrayKept.restartMalt (h : TrayKept true s t) : TrayKept true s t.restartMalt := by
  have k : TrayKept true s (if t.tray.removing && t.tray.mainClosed then t.cutPower.openMain else t) := h.when (·.cutPower.openMain)
  refine ⟨fun y => ?_⟩
  rw [State.tun_restartMalt]
  exact (k.tun y).proxyFail

theorem TrayKept.reevalTun (h : TrayKept true s t) {errLow : Bool} {x : TunId} : TrayKept true s (t.reevalTun errLow x) := by
  unfold State.reevalTun
  exact h.branch (·.modMTun.reportTrip) (·.branch (·.modMTun.setPower) (·.branch (·.branch (·.modMTun.setPower) (·.modMTun.setPower)) (·.powerDown)))

theorem TrayKept.reevalTuns (h : TrayKept true s t) {f : Quad Bool} : TrayKept true s (t.reevalTuns f) := by
  unfold State.reevalTuns
  exact h.foldl fun h => h.reevalTun

theorem TrayKept.fenceBay (h : TrayKept w s t) {n : Nat} : TrayKept w s (t.fenceBay n) := by
  unfold State.fenceBay
  exact h.foldl fun h => h.modTun (fun h => h.fencePorts.portsOffline)

theorem TrayKept.trainBay (h : TrayKept w s t) {n : Nat} : TrayKept w s (t.trainBay n) := by
  unfold State.trainBay
  exact (h.foldl fun h => h.modTun (fun h => h.unless (fun h => h.foldl fun h => h.when (·.modPort)))).modBay

theorem TrayKept.bringUpBay (h : TrayKept w s t) {n : Nat} : TrayKept w s (t.bringUpBay n) := by
  unfold State.bringUpBay
  exact h.when (·.branch (·.trainBay) (·.when (·.modBay)))

theorem TrayKept.readRom (h : TrayKept w s t) {n : Nat} {rom : List Byte} : TrayKept w s (t.readRom n rom) := by
  unfold State.readRom
  exact h.modBay.branch (fun h => (h.log.unless (·.log)).bringUpBay) (·.fenceBay.modBay.raise.log)

theorem TrayKept.romFailed (h : TrayKept w s t) {n : Nat} : TrayKept w s (t.romFailed n) := by
  unfold State.romFailed
  exact h.fenceBay.modBay.raise.log

theorem TrayKept.unlatchBay (h : TrayKept w s t) {n : Nat} : TrayKept w s (t.unlatchBay n) := by
  unfold State.unlatchBay
  exact h.fenceBay.modBay

theorem TrayKept.bayDark (h : TrayKept w s t) {n : Nat} : TrayKept w s (t.bayDark n) := by
  unfold State.bayDark
  exact h.foldl fun h => h.modTun (fun h => h.foldl fun h => h.signalLost)

theorem TrayKept.reevalBay (h : TrayKept w s t) {n : Nat} {f : BayFound} : TrayKept w s (t.reevalBay n f) := by
  unfold State.reevalBay
  dsimp only
  split
  · split
    · exact (h.modBay.unless (·.unlatchBay)).readRom
    · exact h.modBay.unless (·.unlatchBay)
  · exact (h.when (·.bayDark)).modBay

theorem TrayKept.reevalBays (h : TrayKept w s t) {n : Nat} {fs : List BayFound} : TrayKept w s (reevalBays n fs t) := by
  induction fs generalizing n t with
  | nil => exact h
  | cons f fs ih => exact ih h.reevalBay

theorem TrayKept.recordIncarn (h : TrayKept w s t) {x : TunId} {cause : BitVec 4} : TrayKept w s (t.recordIncarn x cause) := by
  unfold State.recordIncarn
  exact h.when (·.modMTun)

theorem TrayKept.stageReply (h : TrayKept w s t) {status : Half} {payload : List Byte} : TrayKept w s (t.stageReply status payload) := by
  unfold State.stageReply
  exact h.when (·.modFw.finish)

theorem TrayKept.unpendTuns (h : TrayKept w s t) {st : BankState} : TrayKept w s (t.unpendTuns st) := by
  unfold State.unpendTuns
  exact h.modFw

theorem TrayKept.unpendMalt (h : TrayKept w s t) {st : BankState} : TrayKept w s (t.unpendMalt st) := by
  unfold State.unpendMalt
  exact h.modFw

theorem TrayKept.beginStage (h : TrayKept w s t) {o : Owner} {kind len : Nat} : TrayKept w s (t.beginStage o kind len) := by
  unfold State.beginStage
  exact (h.branch (·.unpendMalt) (·.unpendTuns)).with_fw

theorem TrayKept.stageBegin (h : TrayKept w s t) {o : Owner} {kind len : Nat} : TrayKept w s (t.stageBegin o kind len).2 := by
  unfold State.stageBegin
  split
  · exact h
  · split
    · exact h
    · split
      · exact h
      · exact h.stageReply.beginStage

theorem TrayKept.program (h : TrayKept w s t) {data : List Byte} : TrayKept w s (t.program data) := by
  unfold State.program
  exact h.with_fw

theorem TrayKept.stageData (h : TrayKept w s t) {o : Owner} {off : Nat} {data : List Byte} : TrayKept w s (t.stageData o off data).2 := by
  unfold State.stageData
  split
  · exact h
  · split
    · exact h.program
    · exact h

theorem TrayKept.stageCommit (h : TrayKept w s t) {o : Owner} {kind : Nat} : TrayKept w s (t.stageCommit o kind).2 := by
  unfold State.stageCommit
  split
  · exact h
  · split
    · dsimp only
      exact h.modFw
    · exact h

theorem TrayKept.stageAbort (h : TrayKept w s t) {o : Owner} : TrayKept w s (t.stageAbort o).2 := by
  unfold State.stageAbort
  dsimp only
  split
  · exact h
  · split
    · exact h
    · dsimp only
      exact h.stageReply.unpendTuns.unpendMalt.modFw

theorem TrayKept.requestData (h : TrayKept w s t) : TrayKept w s t.requestData := by
  unfold State.requestData
  exact h.modFw.emitMalt

theorem TrayKept.arm (h : TrayKept w s t) : TrayKept w s t.arm := by
  unfold State.arm
  exact h.modFw.log

theorem TrayKept.stageTell (h : TrayKept w s t) {cmd : Byte} {status : Half} : TrayKept w s (t.stageTell cmd status) := by
  unfold State.stageTell
  exact h.branch (·.emitMalt) (·.stageReply)

theorem TrayKept.stageFails (h : TrayKept w s t) {status : Half} : TrayKept w s (t.stageFails status) := by
  unfold State.stageFails
  exact (h.when (·.log)).modFw

theorem TrayKept.putCopies (h : TrayKept w s t) {k : Bank} : TrayKept w s (t.putCopies k) := by
  unfold State.putCopies
  exact h.foldl fun h => h.unless (·.setFlash)

theorem TrayKept.beginCopy (h : TrayKept w s t) : TrayKept w s t.beginCopy := by
  unfold State.beginCopy
  exact h.putCopies

theorem TrayKept.recheck (h : TrayKept w s t) : TrayKept w s t.recheck := by
  unfold State.recheck
  dsimp only
  split
  · exact h
  · exact ((h.foldl fun h => h.setFlash).log).modFw

theorem TrayKept.selectTuns (h : TrayKept w s t) : TrayKept w s t.selectTuns := by
  unfold State.selectTuns
  exact h.unless (fun h => h.foldl fun h => h.when (·.setFlash))

theorem TrayKept.finishActivation (h : TrayKept w s t) : TrayKept w s t.finishActivation := by
  unfold State.finishActivation
  exact h.with_fw.log

theorem TrayKept.maltWrite (h : TrayKept w s t) {page off : Nat} {value mask : Word} : TrayKept w s (t.maltWrite page off value mask) := by
  unfold State.maltWrite
  dsimp only
  split
  · exact h.with_malt
  · exact h.with_malt.when (·.ibiNow.ibiNow)
  · exact h.modBus.modBus
  · exact h.when (·.modTray)
  · exact h.with_malt
  · exact h.when (·.modTray)
  · exact h.when (·.modBay)

theorem TrayKept.opPowerOn (h : TrayKept w s t) {x : TunId} : TrayKept w s (t.opPowerOn x).2 := by
  unfold State.opPowerOn
  split
  · exact h.refusePower
  · split
    · exact h
    · exact h.acceptOn

theorem TrayKept.opPowerOff (h : TrayKept true s t) {x : TunId} : TrayKept true s (t.opPowerOff x).2 := by
  unfold State.opPowerOff
  dsimp only
  split
  · split
    · dsimp only
      exact h.modMTun
    · exact h.modMTun.powerDown
  · split
    · exact h.modMTun.modMTun.setPower
    · exact h

theorem TrayKept.opPowerCycle (h : TrayKept true s t) {x : TunId} {offMs : Nat} : TrayKept true s (t.opPowerCycle x offMs).2 := by
  unfold State.opPowerCycle
  dsimp only
  split
  · exact h.refusePower
  · split
    · split
      · dsimp only
        exact h.modMTun
      · exact h.modMTun.powerDown
    · dsimp only
      exact h.modMTun.modMTun

theorem TrayKept.opTunWrite (h : TrayKept true s t) {x : TunId} {off : Nat} {v : Word} {silent : Half} : TrayKept true s (t.opTunWrite x off v silent).2 := by
  unfold State.opTunWrite
  split
  · exact h
  · split
    · exact h.modTun (fun h => h.writeReg)
    · exact h

theorem TrayKept.opLocate (h : TrayKept w s t) {obj : Byte} {on : Bool} {secs : Half} : TrayKept w s (t.opLocate obj on secs) := by
  unfold State.opLocate
  exact h.branch (·.with_malt) (·.branch (·.with_malt) (·.with_malt))

theorem TrayKept.runOp (h : TrayKept true s t) {src : Src} {q : Req} : TrayKept true s (t.runOp src q).2 := by
  unfold State.runOp
  dsimp only
  split
  · exact h
  · exact h
  · exact h.maltWrite
  · exact h
  · dsimp only
    exact h.modMalt
  · exact h
  · exact h.opPowerOn
  · exact h.opPowerOff
  · exact h.opPowerCycle
  · exact h.opTunWrite
  · exact h.opTunWrite
  · split
    · exact h
    · split
      · exact h
      · exact h.setTun (h.tun _).sidebandRead
  · exact h.opTunWrite
  · exact h
  · exact h
  · exact h
  · exact h.when (·.ackAlert)
  · exact h.opLocate
  · split
    · exact h.stageBegin.with_fw
    · exact h.stageBegin
  · exact h.stageData
  · split
    · exact h.stageCommit.with_fw
    · exact h.stageCommit
  · exact h.stageAbort
  · exact h
  · exact h

/-- What an opcode leaves, read off its answer. -/
theorem TrayKept.of_runOp (h : TrayKept true s t) {src : Src} {q : Req} {r : Option (Half × List Byte)} {v : State}
    (e : t.runOp src q = (r, v)) : TrayKept true s v := by
  have ran := h.runOp (src := src) (q := q)
  rwa [e] at ran

theorem TrayKept.runNow (h : TrayKept true s t) {src : Src} {q : Req} : TrayKept true s (t.runNow src q) := by
  unfold State.runNow
  split
  next e => exact (h.of_runOp e).reply
  next e => exact h.of_runOp e

theorem TrayKept.runWinner (h : TrayKept true s t) {q : Req} {srcs : List Held} : TrayKept true s (t.runWinner q srcs) := by
  unfold State.runWinner
  dsimp only
  split
  next v e =>
    have replied (st : Half) (d : List Byte) : TrayKept true s (srcs.foldl (fun s h => s.reply h.src h.req st d) v) :=
      (h.of_runOp e).foldl (·.reply)
    split
    · exact replied _ _
    · split
      · exact (replied _ _).modMalt
      · exact (replied _ _).restartMalt
  next e => exact (h.of_runOp e).modMalt

theorem TrayKept.holdCommand (h : TrayKept w s t) {src : Src} {q : Req} : TrayKept w s (t.holdCommand src q) := by
  unfold State.holdCommand
  exact h.modMalt

theorem TrayKept.closeWindow (h : TrayKept true s t) {o : WinObj} : TrayKept true s (t.closeWindow o) := by
  unfold State.closeWindow
  split
  · exact h
  · dsimp only
    split
    · exact h
    · split
      · exact h
      · have k (running : Bool) : TrayKept true s (if running then t.finishObj o stConflictLost [] else t) := h.when (·.finishObj)
        exact ((k _).modMalt.foldl fun h => h.modMalt.reply).runWinner

theorem TrayKept.acceptReq (h : TrayKept true s t) {src : Src} {q : Req} : TrayKept true s (t.acceptReq src q) := by
  unfold State.acceptReq
  split
  · exact h.reply
  · exact h.branch (·.holdCommand) (·.runNow)

theorem TrayKept.rawArrive (h : TrayKept true s t) {p : RawPath} {frame : List Byte} : TrayKept true s (t.rawArrive p frame) := by
  unfold State.rawArrive
  dsimp only
  split
  · exact h.modRaw
  · split
    · exact h.modRaw.acceptReq
    · split
      · exact h.modRaw.modBus.reply
      · exact h.modRaw.reply

theorem TrayKept.restartAfter (h : TrayKept true s t) {r : Option Reply} : TrayKept true s (t.restartAfter r) := by
  unfold State.restartAfter
  split
  · exact h.when (·.restartMalt)
  · exact h

theorem TrayKept.setReceiver (h : TrayKept w s t) {b : Bus} {enable eid : Byte} : TrayKept w s (t.setReceiver b enable eid) := by
  unfold State.setReceiver
  exact h.modMalt

theorem TrayKept.pldmRequest (h : TrayKept w s t) {b : Bus} {type cmd : Byte} {data : List Byte} : TrayKept w s (t.pldmRequest b type cmd data).1 := by
  unfold State.pldmRequest
  dsimp only
  split
  · dsimp only
    exact h.modMalt
  · exact h
  · exact h
  · exact h
  · split
    · exact h
    · exact h
  · exact h.setReceiver
  · split
    · exact h
    · exact h
  · split
    · exact h
    · exact h
  · exact h
  · exact h
  · exact h

theorem TrayKept.proxySend (h : TrayKept true s t) {x : TunId} : TrayKept true s (t.proxySend x) := by
  unfold State.proxySend
  exact h.branch (fun h => h.modTun (fun h => h.with_proxy)) (fun h => (h.modTun (fun h => h.with_proxy)).when (·.rawArrive))

theorem TrayKept.relayProxy (h : TrayKept true s t) {x : TunId} {was : Bool} : TrayKept true s (t.relayProxy x was) := by
  unfold State.relayProxy
  exact h.when (·.rawArrive)

theorem execPwrEnChange_kept {level : Bool} : Sat (execPwrEnChange level s) (TrayKept true s) := by
  have h : TrayKept true s s := .refl
  unfold execPwrEnChange
  dsimp only
  split
  · exact h.modTray.actPwrEn
  · exact h.modTray

theorem execMainPathClose_kept : Sat (execMainPathClose s) (TrayKept w s) := by
  have h : TrayKept w s s := .refl
  unfold execMainPathClose
  dsimp only
  split
  · exact h.modTray.closeMain
  · exact h.modTray

theorem execMainPathTrip_kept {high : Bool} {mv : Half} : Sat (execMainPathTrip high mv s) (TrayKept true s) := by
  have h : TrayKept true s s := .refl
  unfold execMainPathTrip
  dsimp only
  split
  · split
    · exact ((h.openMain.modTray.foldl fun h => h.dropPower).raise).log
    · exact h.openMain.modTray.cutPower
  · exact h

theorem execMainPathReclose_kept : Sat (execMainPathReclose s) (TrayKept w s) := by
  have h : TrayKept w s s := .refl
  unfold execMainPathReclose
  split
  · exact h.closeMain
  · exact h

theorem execPartialSeating_kept : Sat (execPartialSeating s) (TrayKept w s) := by
  have h : TrayKept w s s := .refl
  unfold execPartialSeating
  dsimp only
  split
  · exact h
  · split
    · exact h.modTray.modTray.log
    · exact h.modTray

theorem execPrsntSNBreak_kept : Sat (execPrsntSNBreak s) (TrayKept true s) := by
  unfold execPrsntSNBreak
  extract_lets wasClosed seen logged fenced down
  have k : TrayKept true s logged := .when (TrayKept.refl.modTray) (·.log)
  have f : TrayKept true s fenced := k.modAllTuns fun h => h.fenceLinks
  split
  · split
    · exact f.powerDownAll.modTray.openIfDone
    · exact f.cutPower.openMain
  · exact k

theorem execTunSequenceStart_kept {x : TunId} : Sat (execTunSequenceStart x s) (TrayKept w s) := by
  have h : TrayKept w s s := .refl
  unfold execTunSequenceStart
  dsimp only
  split
  · split
    · exact h.acceptOn
    · exact h.modMTun
  · exact h

theorem execRailPowerGood_kept {x : TunId} {k : Nat} : Sat (execRailPowerGood x k s) (TrayKept w s) := by
  have h : TrayKept w s s := .refl
  unfold execRailPowerGood
  dsimp only
  split
  · exact h.modMTun
  · exact h

theorem execRailTimeout_kept {x : TunId} {k : Nat} {status : Half} : Sat (execRailTimeout x k status s) (TrayKept true s) := by
  have h : TrayKept true s s := .refl
  unfold execRailTimeout
  split
  · exact h.railFault
  · exact h

theorem execTunColdResetRelease_kept {x : TunId} : Sat (execTunColdResetRelease x s) (TrayKept w s) := by
  have h : TrayKept w s s := .refl
  unfold execTunColdResetRelease
  dsimp only
  split
  · exact (((h.releaseCold.modTun (fun h => h.modPorts)).modMTun).setPower).log
  · exact h

theorem execPowerDownRailStep_kept {x : TunId} : Sat (execPowerDownRailStep x s) (TrayKept true s) := by
  have h : TrayKept true s s := .refl
  unfold execPowerDownRailStep
  split
  · split
    · exact h.reachOff
    · exact h.modMTun
    · exact h
  · exact h

theorem execRailFault_kept {x : TunId} {k : Nat} {status : Half} : Sat (execRailFault x k status s) (TrayKept true s) := by
  have h : TrayKept true s s := .refl
  unfold execRailFault
  dsimp only
  split
  · exact h.modMTun.railFault
  · exact h

theorem execPmbusPoll_kept {power : Half} {reads : List RailRead} {input : Option (Half × Half × Half)} :
    Sat (execPmbusPoll x power reads input s) (TrayKept true s) := by
  unfold execPmbusPoll
  split
  · extract_lets regs taken
    have k : TrayKept true s taken := by
      cases input with
      | none => exact TrayKept.refl.modMTun
      | some read => exact TrayKept.refl.modMTun.modTray
    split
    · unfold execRailFault
      dsimp only
      split
      · exact k.modMTun.railFault
      · exact k
    · exact k
  · exact .refl

theorem execThermtripLatch_kept {x : TunId} : Sat (execThermtripLatch x s) (TrayKept true s) := by
  have h : TrayKept true s s := .refl
  unfold execThermtripLatch
  dsimp only
  split
  · exact (h.modTun (fun h => h.assertTrip.powerOff)).modMTun
  · exact h

theorem execThermalTripReport_kept {x : TunId} : Sat (execThermalTripReport x s) (TrayKept w s) := by
  have h : TrayKept w s s := .refl
  unfold execThermalTripReport
  dsimp only
  split
  · exact h.reportTrip
  · exact h

theorem execErrNEdge_kept {x : TunId} {falling : Bool} : Sat (execErrNEdge x falling s) (TrayKept w s) := by
  have h : TrayKept w s s := .refl
  unfold execErrNEdge
  dsimp only
  split
  · split
    · exact h.modMTun.modMTun.raise.log
    · exact h.modMTun
  · exact h

theorem execErrNRearm_kept {x : TunId} : Sat (execErrNRearm x s) (TrayKept w s) := by
  have h : TrayKept w s s := .refl
  unfold execErrNRearm
  dsimp only
  split
  · exact h.modMTun.log
  · exact h

theorem execErrStormWindow_kept {x : TunId} : Sat (execErrStormWindow x s) (TrayKept w s) := by
  have h : TrayKept w s s := .refl
  unfold execErrStormWindow
  dsimp only
  split
  · split
    · exact h.modMTun.log
    · split
      · exact h.modMTun.log
      · exact h.modMTun
  · exact h

theorem execWarnNChange_kept {x : TunId} {asserted : Bool} : Sat (execWarnNChange x asserted s) (TrayKept w s) := by
  have h : TrayKept w s s := .refl
  unfold execWarnNChange
  dsimp only
  split
  · split
    · exact h.modMTun.modMalt.raise.log
    · exact h.modMTun.log
  · exact h

theorem execPinFaultSet_kept {x : TunId} : Sat (execPinFaultSet x s) (TrayKept w s) := by
  have h : TrayKept w s s := .refl
  unfold execPinFaultSet
  dsimp only
  split
  · exact h.modMTun.log
  · exact h

theorem execPinFaultClear_kept {x : TunId} : Sat (execPinFaultClear x s) (TrayKept w s) := by
  have h : TrayKept w s s := .refl
  unfold execPinFaultClear
  dsimp only
  split
  · exact h.modMTun.log
  · exact h

theorem execHeartbeatWindow_kept {edges : Nat} : Sat (execHeartbeatWindow x edges s) (TrayKept w s) := by
  unfold execHeartbeatWindow
  split
  · extract_lets m b data counted beat m2
    have k : TrayKept w s beat := by
      clear_value b
      cases b with
      | good => exact TrayKept.refl.modMTun.modMTun
      | fast => exact TrayKept.refl.modMTun.unless (·.modMTun.log)
      | bad => exact TrayKept.refl.modMTun
    split
    · exact k.modMTun.log
    · split
      · exact k.modMTun.log
      · exact k
  · exact .refl

theorem execLeakAsserted_kept : Sat (execLeakAsserted s) (TrayKept true s) := by
  have h : TrayKept true s s := .refl
  unfold execLeakAsserted
  split
  · exact h.leak
  · exact h

theorem execLeakDeasserted_kept : Sat (execLeakDeasserted s) (TrayKept w s) := by
  have h : TrayKept w s s := .refl
  unfold execLeakDeasserted
  split
  · exact h.modTray.log
  · exact h

theorem execSdaStuck_kept {b : Bus} {at35ms : Bool} : Sat (execSdaStuck b at35ms s) (TrayKept w s) := by
  have h : TrayKept w s s := .refl
  unfold execSdaStuck
  dsimp only
  split
  · split
    · split
      · exact h
      · exact h.modBus.log
    · exact h.modBus.emitMalt
  · exact h

theorem execBusRecoveryPulse_kept {b : Bus} : Sat (execBusRecoveryPulse b s) (TrayKept w s) := by
  have h : TrayKept w s s := .refl
  unfold execBusRecoveryPulse
  split
  · exact h.emitMalt
  · exact h

theorem execBusServedAgain_kept {b : Bus} : Sat (execBusServedAgain b s) (TrayKept w s) := by
  have h : TrayKept w s s := .refl
  unfold execBusServedAgain
  dsimp only
  split
  · split
    · exact h.modBus.log
    · exact h.modBus
  · exact h

theorem execSmbusTimeout_kept {b : Bus} {stillLow35 : Bool} : Sat (execSmbusTimeout b stillLow35 s) (TrayKept w s) := by
  unfold execSmbusTimeout
  split
  · exact execSdaStuck_kept
  · exact .refl

theorem execAlertNHeld_kept : Sat (execAlertNHeld s) (TrayKept w s) := by
  have h : TrayKept w s s := .refl
  unfold execAlertNHeld
  split
  · exact h.modMalt.log
  · exact h

theorem execAlertNReleased_kept : Sat (execAlertNReleased s) (TrayKept w s) := by
  have h : TrayKept w s s := .refl
  unfold execAlertNReleased
  split
  · exact h.modMalt.log
  · exact h

theorem execTunPoll_kept {x : TunId} {answers : Bool} {took : Nat} : Sat (execTunPoll x answers took s) (TrayKept w s) := by
  have h : TrayKept w s s := .refl
  unfold execTunPoll
  dsimp only
  split
  · split
    · split
      · exact h.modMTun
      · exact h.modMTun.raise.log
    · split
      · exact h.modMTun.log
      · exact h.modMTun
  · exact h

theorem execMaltsterWatchdogExpiry_kept : Sat (execMaltsterWatchdogExpiry s) (TrayKept true s) := by
  have h : TrayKept true s s := .refl
  unfold execMaltsterWatchdogExpiry
  split
  · exact h.restartMalt.log
  · exact h

theorem execMaltsterRestart_kept : Sat (execMaltsterRestart s) (TrayKept true s) := by
  have h : TrayKept true s s := .refl
  unfold execMaltsterRestart
  exact h.restartMalt

theorem execLocateSecondTick_kept : Sat (execLocateSecondTick s) (TrayKept w s) := by
  have h : TrayKept w s s := .refl
  unfold execLocateSecondTick
  dsimp only
  split
  · split
    · exact h.with_malt
    · exact h.with_malt
  · exact h

theorem execLocateButtonPress_kept : Sat (execLocateButtonPress s) (TrayKept w s) := by
  unfold execLocateButtonPress
  extract_lets m early on lit
  split
  · have k : TrayKept w s lit := TrayKept.refl.of_tuns rfl
    exact k.log
  · exact .refl

theorem execKegPresenceAsserted_kept {n : Nat} {rom : Option (List Byte)} : Sat (execKegPresenceAsserted n rom s) (TrayKept w s) := by
  have h : TrayKept w s s := .refl
  unfold execKegPresenceAsserted
  dsimp only
  split
  · split
    · exact h.modBay.readRom
    · exact h.modBay
  · exact h

theorem execKegEepromRetry_kept {n : Nat} {rom : Option (List Byte)} : Sat (execKegEepromRetry n rom s) (TrayKept w s) := by
  have h : TrayKept w s s := .refl
  unfold execKegEepromRetry
  dsimp only
  split
  · split
    · exact h.readRom
    · split
      · exact h.modBay.romFailed
      · exact h.modBay
  · exact h

theorem execKegLatched_kept {n : Nat} : Sat (execKegLatched n s) (TrayKept w s) := by
  have h : TrayKept w s s := .refl
  unfold execKegLatched
  split
  · exact h.modBay.bringUpBay
  · exact h

theorem execKegPowerReady_kept {n : Nat} : Sat (execKegPowerReady n s) (TrayKept w s) := by
  have h : TrayKept w s s := .refl
  unfold execKegPowerReady
  dsimp only
  split
  · exact h.trainBay
  · exact h

theorem execKegUnlatched_kept {n : Nat} : Sat (execKegUnlatched n s) (TrayKept w s) := by
  have h : TrayKept w s s := .refl
  unfold execKegUnlatched
  split
  · exact h.unlatchBay
  · exact h

theorem execKegPresenceDeasserted_kept {n : Nat} : Sat (execKegPresenceDeasserted n s) (TrayKept w s) := by
  have h : TrayKept w s s := .refl
  unfold execKegPresenceDeasserted
  dsimp only
  split
  · exact (h.bayDark.modBay.when (·.raise.log)).log
  · exact h

theorem execKegOvercurrent_kept {n : Nat} : Sat (execKegOvercurrent n s) (TrayKept w s) := by
  have h : TrayKept w s s := .refl
  unfold execKegOvercurrent
  split
  · exact h.modBay.log
  · exact h

theorem execMaltsterReevaluate_kept {f : Found} : Sat (execMaltsterReevaluate f s) (TrayKept true s) := by
  have h : TrayKept true s s := .refl
  unfold execMaltsterReevaluate
  dsimp only
  split
  · split
    · exact ((h.modMalt.log.reevalTuns.actPwrEn.when (·.pwrEnLow)).reevalBays).leak
    · exact (h.modMalt.log.reevalTuns.actPwrEn.when (·.pwrEnLow)).reevalBays
  · exact h

theorem execWarmResetRelease_kept {x : TunId} : Sat (execWarmResetRelease x s) (TrayKept w s) := by
  have h : TrayKept w s s := .refl
  unfold execWarmResetRelease
  exact (h.modTun (fun h => h.warmRelease)).recordIncarn

theorem execColdResetHoldEnd_kept {x : TunId} : Sat (execColdResetHoldEnd x s) (TrayKept w s) := by
  have h : TrayKept w s s := .refl
  unfold execColdResetHoldEnd
  dsimp only
  split
  · exact ((h.modMTun.modTun (fun h => h.modPorts)).releaseCold).recordIncarn
  · exact h

theorem execMaltsterBootVerify_kept : Sat (execMaltsterBootVerify s) (TrayKept w s) := by
  unfold execMaltsterBootVerify
  split
  · exact .refl
  · extract_lets sel run code mark
    split
    · exact TrayKept.refl.modMalt
    · split
      · exact TrayKept.refl.modMalt
      · extract_lets note
        have noted {v : State} (e : v.tuns = s.tuns) (b : BitVec 2) : TrayKept w s (note v b) := (TrayKept.refl.of_tuns e).log
        split
        · exact noted (by rfl) _
        · split
          · exact noted (by rfl) _
          · exact TrayKept.refl.modMalt

theorem execTunHeaderCheck_kept {x : TunId} : Sat (execTunHeaderCheck x s) (TrayKept w s) := by
  have h : TrayKept w s s := .refl
  unfold execTunHeaderCheck
  dsimp only
  split
  · split
    · exact h.startReflash
    · split
      · exact h
      · exact h.startReflash
  · exact h

theorem execTunBootLoad_kept {x : TunId} {flashOk : Bool} : Sat (execTunBootLoad x flashOk s) (TrayKept w s) := by
  have h : TrayKept w s s := .refl
  unfold execTunBootLoad
  dsimp only
  split
  · exact (h.modTun (fun h => h.with_svc)).reflashWrites
  · exact h

theorem execBootResultPoll_kept {x : TunId} : Sat (execBootResultPoll x s) (TrayKept true s) := by
  have h : TrayKept true s s := .refl
  unfold execBootResultPoll
  dsimp only
  split
  · split
    · exact h
    · split
      · exact h.finishOn
      · split
        · exact h.powerDown.setPower.modMTun.finishOn
        · exact h.powerDown.modMTun.startReflash
  · exact h

theorem execGoldenReflashDone_kept {x : TunId} : Sat (execGoldenReflashDone x s) (TrayKept w s) := by
  have h : TrayKept w s s := .refl
  unfold execGoldenReflashDone
  dsimp only
  split
  · exact h.setFlash.log.modMTun.resumeOn
  · exact h

theorem execStageEraseDone_kept : Sat (execStageEraseDone s) (TrayKept w s) := by
  have h : TrayKept w s s := .refl
  unfold execStageEraseDone
  dsimp only
  split
  · split
    · exact h.modFw.requestData
    · exact h.modFw.stageReply
  · exact h

theorem execStageVerifyDone_kept : Sat (execStageVerifyDone s) (TrayKept w s) := by
  have h : TrayKept w s s := .refl
  unfold execStageVerifyDone
  dsimp only
  split
  · split
    · split
      · exact (h.with_fw.branch (·.stageTell.stageTell) (·.stageTell)).arm
      · exact h.with_fw.stageFails.stageTell
    · split
      · split
        · exact h.modFw.beginCopy.stageTell
        · exact h.modFw.beginCopy
      · exact h.modFw.stageFails.stageTell
  · exact h

theorem execStageCopyDone_kept {writeOk : Bool} : Sat (execStageCopyDone writeOk s) (TrayKept w s) := by
  have h : TrayKept w s s := .refl
  unfold execStageCopyDone
  dsimp only
  split
  · split
    · exact h.putCopies.stageFails.stageTell
    · split
      · exact h.putCopies.modFw.stageTell.arm
      · exact h.putCopies.modFw.stageTell
  · exact h

theorem execStageRestartRecovery_kept : Sat (execStageRestartRecovery s) (TrayKept w s) := by
  have h : TrayKept w s s := .refl
  unfold execStageRestartRecovery
  dsimp only
  split
  · split
    · exact h.modFw.modFw
    · exact h.modFw.modFw
    · split
      · exact h.modFw.beginCopy
      · exact h.modFw.modFw.stageFails
    · split
      · exact h.modFw.recheck
      · exact h.modFw
    · split
      · exact h.modFw.recheck
      · exact h.modFw
    · exact h.modFw
    · exact h.modFw
    · exact h.modFw
  · exact h

theorem execActivation_kept : Sat (execActivation s) (TrayKept true s) := by
  have h : TrayKept true s s := .refl
  unfold execActivation
  dsimp only
  split
  · split
    · exact h.selectTuns.finishActivation
    · split
      · split
        · exact h.modFw.selectTuns.modFw.restartMalt
        · exact h.modFw.selectTuns.finishActivation
      · exact h
  · exact h

theorem execFirmwareDataReceive_kept {data : List Byte} : Sat (execFirmwareDataReceive data s) (TrayKept w s) := by
  have h : TrayKept w s s := .refl
  unfold execFirmwareDataReceive
  dsimp only
  split
  · exact h
  · split
    · split
      · exact h.program.modFw.modFw.emitMalt
      · exact h.program.modFw.requestData
    · exact h

theorem execFirmwareDataRetry_kept : Sat (execFirmwareDataRetry s) (TrayKept w s) := by
  have h : TrayKept w s s := .refl
  unfold execFirmwareDataRetry
  split
  · exact h
  · split
    · exact h
    · split
      · exact h.modFw.emitMalt
      · exact h.modFw

theorem execWindowClose_kept {o : WinObj} : Sat (execWindowClose o s) (TrayKept true s) := by
  have h : TrayKept true s s := .refl
  unfold execWindowClose
  split
  · exact h.closeWindow
  · exact h

theorem execRawFrameReceive_kept {p : RawPort} {frame : List Byte} {pecOk : Option Bool} : Sat (execRawFrameReceive p frame pecOk s) (TrayKept true s) := by
  have h : TrayKept true s s := .refl
  unfold execRawFrameReceive
  split
  · split
    · split
      · exact h.rawArrive
      · exact h.modBus
    · exact h.rawArrive
  · exact h

theorem execRawReplyRead_kept {p : RawPort} : Sat (execRawReplyRead p s) (TrayKept true s) := by
  have h : TrayKept true s s := .refl
  unfold execRawReplyRead
  dsimp only
  split
  · exact h.modRaw.emitMalt.restartAfter
  · exact h

theorem execAlertResponseRead_kept {b : Bus} : Sat (execAlertResponseRead b s) (TrayKept w s) := by
  have h : TrayKept w s s := .refl
  unfold execAlertResponseRead
  dsimp only
  split
  · exact h.ackAlert.emitMalt
  · exact h

theorem execI3cCcc_kept {b : Bus} {c : Ccc} : Sat (execI3cCcc b c s) (TrayKept w s) := by
  have h : TrayKept w s s := .refl
  unfold execI3cCcc
  extract_lets bus assign read
  have assigned (a : BitVec 7) : TrayKept w s (assign a) := h.modBus.ibiNow
  have answered (bs : List Byte) : Sat (read bs) (TrayKept w s) := by
    unfold read
    split
    · exact h.emitMalt
    · exact h
  split
  · split
    · exact h.unless (·.modBus.ibiNow)
    · exact h.modBus
    · exact h.modBus
    · exact .ite (assigned _) h
    · exact .ite (assigned _) h
    all_goals exact answered _
  · exact h

theorem execMctpControl_kept {d : McDest} {cmd : Byte} {data : List Byte} : Sat (execMctpControl d cmd data s) (TrayKept w s) := by
  have h : TrayKept w s s := .refl
  unfold execMctpControl
  dsimp only
  split
  · split
    · split
      · exact h.modBus.emitMalt
      · exact h.emitMalt
    · exact h.emitMalt
    · exact h.emitMalt
    · exact h.emitMalt
    · exact h.emitMalt
    · exact h.emitMalt
    · exact h.emitMalt
  · exact h

theorem execMctpVendorMessage_kept {b : Bus} {tag : BitVec 3} {body : VendorBody} : Sat (execMctpVendorMessage b tag body s) (TrayKept true s) := by
  have h : TrayKept true s s := .refl
  unfold execMctpVendorMessage
  dsimp only
  split
  · split
    · exact h.emitMctp
    · split
      · exact h.modMalt.acceptReq
      · exact h.modMalt.modBus.reply
  · exact h

theorem execPlatformEventSend_kept {sensor : Nat} : Sat (execPlatformEventSend sensor s) (TrayKept w s) := by
  have h : TrayKept w s s := .refl
  unfold execPlatformEventSend
  dsimp only
  split
  · exact h
  · split
    · exact h.modMalt.emitMalt
    · exact h

theorem execPlatformEventRetry_kept {sensor : Nat} : Sat (execPlatformEventRetry sensor s) (TrayKept w s) := by
  have h : TrayKept w s s := .refl
  unfold execPlatformEventRetry
  dsimp only
  split
  · exact h
  · split
    · exact h
    · split
      · exact h.modMalt.emitMalt
      · exact h.modMalt

theorem execSbModeApply_kept {b : Bus} : Sat (execSbModeApply b s) (TrayKept w s) := by
  have h : TrayKept w s s := .refl
  unfold execSbModeApply
  split
  · exact h.modBus
  · exact h

theorem execPowerCycleWaitEnd_kept {x : TunId} : Sat (execPowerCycleWaitEnd x s) (TrayKept w s) := by
  have h : TrayKept w s s := .refl
  unfold execPowerCycleWaitEnd
  dsimp only
  split
  · split
    · exact h.modMTun.refusePower.finishOn
    · exact h.modMTun.acceptOn
  · exact h

theorem execProxySend_kept {x : TunId} : Sat (execProxySend x s) (TrayKept true s) := by
  have h : TrayKept true s s := .refl
  unfold execProxySend
  split
  · exact h.proxySend
  · exact h

theorem execProxyReplyCollect_kept {x : TunId} : Sat (execProxyReplyCollect x s) (TrayKept true s) := by
  have h : TrayKept true s s := .refl
  unfold execProxyReplyCollect
  dsimp only
  split
  · split
    · exact h
    · exact ((h.modTun (fun h => h.proxyAnswer)).modRaw).restartAfter
  · exact h

theorem execStandbyPowerLoss_kept : Sat (execStandbyPowerLoss s) (TrayKept true s) := by
  unfold execStandbyPowerLoss
  extract_lets cut off tray dark
  have k : TrayKept true s off := TrayKept.refl.cutPower.openMain.modMalt
  clear_value off
  have d : TrayKept true s dark := k.of_tuns rfl
  exact d.restartMalt

/-! ### The kinds of rows -/

theorem onTun_kept {f : Tun → Tun} (hf : ∀ {u t : Tun}, MemKept w u t → MemKept w u (f t)) : Sat (onTun x s f) (TrayKept w s) :=
  TrayKept.refl.modTun hf

theorem execOn_kept {id : Nat} {ops : List Nat} {f : Cmd → Tun → Tun}
    (hf : ∀ {c : Cmd} {u t : Tun}, MemKept w u t → MemKept w u (f c t)) : Sat (execOn x id ops f s) (TrayKept w s) :=
  onTun_kept fun h => by
    split
    · exact hf h
    · exact h

theorem planeOp_kept {id : Option Nat} {op : Nat} {reg : Tun → Tun} {f : Cmd → Tun → Tun}
    (hr : ∀ {u t : Tun}, MemKept w u t → MemKept w u (reg t)) (hf : ∀ {c : Cmd} {u t : Tun}, MemKept w u t → MemKept w u (f c t)) :
    Sat (planeOp x id op reg f s) (TrayKept w s) :=
  onTun_kept fun h => by
    split
    · exact h.windowWrite hr
    · split
      · exact h.unless hf
      · exact h

theorem onTunP_kept {f : Tun → Tun} (hf : ∀ {u t : Tun}, MemKept true u t → MemKept true u (f t)) :
    Sat (onTunP x s f) (TrayKept true s) :=
  (TrayKept.refl.modTun hf).relayProxy

theorem packetRow_kept {port : BitVec 9} {types : List (BitVec 6)} {p : Packet} : Sat (packetRow x port types p s) (TrayKept true s) :=
  onTunP_kept (·.when (·.consume))

theorem contribRow_kept {kind : Nat} {forfeit : Bool} {pipe : Option Nat} {p : Packet} :
    Sat (contribRow x kind forfeit pipe p s) (TrayKept true s) :=
  onTun_kept (·.when (·.takeContrib))

theorem runOpcode_kept {src : Src} {seq op o : Byte} {d : List Byte} : Sat (s.runOpcode src seq op o d) (TrayKept true s) := by
  have h : TrayKept true s s := .refl
  unfold State.runOpcode
  dsimp only
  split
  · split
    · exact h.reply
    · split
      · exact h.runWinner
      · exact h.runNow
  · exact h

theorem pldmAsk_kept {b : Bus} {type cmd : Byte} {act : State → State × Byte × List Byte} (h : TrayKept w s (act s).1) :
    Sat (s.pldmAsk b type cmd act) (TrayKept w s) := by
  unfold State.pldmAsk
  split
  · split
    · exact TrayKept.refl.emitMalt
    · exact h.emitMalt
  · exact .refl

/-- A command inside one Tun. -/
theorem exec_kept_of_tunOf {c : Instr} (inside : tunOf c = some x) : Sat (exec c s) (TrayKept (writesMemory c) s) := by
  cases c with
  | rackConfigWrite => exact onTun_kept fun h => h.rowWrite (·.writeRackConfig)
  | conflictClear => exact onTun_kept fun h => h.rowWrite (·.conflictClear)
  | refclkMissing => exact onTun_kept (·.refMissing)
  | holdoverExpiry => exact onTun_kept (·.holdoverEnd)
  | slewComplete => exact onTun_kept (·.slewEnd)
  | refclkPresent => exact onTun_kept (·.refReturns)
  | corePllLock => exact onTun_kept (·.pllLock)
  | caskPllLoss => exact onTun_kept (·.caskPllLost)
  | tunColdReset => exact onTun_kept (·.coldRequest)
  | tunWarmReset => exact onTun_kept (·.warmRequest)
  | paleWindowClose => exact onTun_kept (·.enterPale)
  | caskTrainingDone => exact onTun_kept (·.trainingDone)
  | rateStepRound => exact onTun_kept (·.rateRound)
  | alignmentTimeout => exact onTun_kept (·.alignTimeout)
  | enterFull => exact onTun_kept (·.enterFull)
  | serviceFence => exact onTun_kept (·.fenceRequest)
  | serviceDrain => exact onTun_kept (·.drainRequest)
  | serviceResume => exact onTun_kept (·.resumeRequest)
  | retryCask => exact onTun_kept (·.retryCask)
  | stayPale => exact onTun_kept (·.setStayPale)
  | drainDone => exact onTun_kept (·.drainDoneEvent)
  | drainTimeout => exact onTun_kept (·.drainTimeoutEvent)
  | proxyTimeout => exact onTun_kept (·.proxyFail)
  | portEnable => exact onTun_kept fun h => h.when (·.portEnable)
  | detectLock => exact onTun_kept (·.detectLock)
  | detectTimeout => exact onTun_kept (·.detectTimeout)
  | trainEqualizeReceive => exact onTun_kept (·.equalizeReceive)
  | equalizeDone => exact onTun_kept (·.equalizeDone)
  | deskewDone => exact onTun_kept (·.deskewDone)
  | attemptLimit => exact onTun_kept (·.attemptLimit)
  | coldAttemptRetry => exact onTun_kept (·.coldRetry)
  | trainIdentityReceive => exact onTun_kept (·.identityReceive)
  | identifyComplete => exact onTun_kept (·.identifyComplete)
  | identifyTimeout => exact onTun_kept (·.identifyTimeout)
  | retrainNotice => exact onTun_kept (·.retrainNotice)
  | lossOfSignal => exact onTun_kept (·.signalLost)
  | replayTimeout => exact onTun_kept (·.replayTimeout)
  | replayBufferDiscard => exact onTun_kept (·.replayDiscard)
  | replayWindowEnd => exact onTun_kept (·.replayWindow)
  | fenceReceive => exact onTun_kept (·.fenceReceive)
  | fenceRepeat => exact onTun_kept (·.fenceRepeat)
  | portReset => exact onTun_kept (·.portReset)
  | portDisable => exact onTun_kept fun h => h.when (·.portDisable)
  | injectCrc => exact onTun_kept fun h => h.when (·.portInject)
  | delayMeasureStart => exact onTun_kept (·.delayStart)
  | delayEchoReceive => exact onTun_kept (·.delayEcho)
  | delayProbeReceive => exact onTun_kept (·.probeReceive)
  | napEntry => exact onTun_kept (·.napEntry)
  | napReceive => exact onTun_kept (·.napReceive)
  | wake => exact onTun_kept (·.wakeTx.rxWake)
  | packetIngress => exact onTun_kept fun h => h.when (·.ingress)
  | multicastCopy => exact onTun_kept (·.copyMulticast)
  | injectAgeGild => exact onTun_kept (·.gildWaiting)
  | rowLandingRelease => exact onTun_kept (·.releaseLanding)
  | peerDeparture => exact onTun_kept fun h => h.unless (·.departedOn)
  | pkeyTableWrite => exact onTun_kept fun h => h.rowWrite (·.writePkeyLow.writePkeyHigh)
  | rankDataWrite => exact onTun_kept fun h => h.rowWrite (·.writeRankData)
  | rankDescWrite => exact onTun_kept fun h => h.rowWrite (·.writeRankDesc)
  | routeDataWrite => exact onTun_kept fun h => h.rowWrite (·.writeRouteData)
  | vorlaufModeApply => exact onTun_kept fun h => h.when (·.vorlaufApply)
  | brewBoundary => exact onTun_kept (·.brewBoundary)
  | keeperMarkSend => exact onTun_kept (·.keeperMark)
  | brewMarkReceive => exact onTun_kept (·.markReceive)
  | brewMarkTake => exact onTun_kept (·.markTake)
  | alignLoss => exact onTun_kept (·.alignLossEvent)
  | timedStepStart => exact onTun_kept (·.timedStep)
  | stepBudgetEnd => exact onTun_kept (·.budgetEnd)
  | engineCircuitSend => exact onTun_kept (·.engineSlot)
  | bindingStart => exact onTun_kept (·.bindingStart)
  | recipeLoad => exact planeOp_kept (·.writeBrewCtrl) (·.recipeLoad)
  | recipeLoadDone => exact onTun_kept (·.recipeLoaded)
  | brewStart => exact planeOp_kept (·.writeBrewCtrl) (·.brewStart)
  | brewStop => exact planeOp_kept (·.writeBrewCtrl) (·.brewStop)
  | shadowDiscard => exact planeOp_kept (·.writeBrewCtrl) (·.shadowDiscard)
  | armCheck => exact onTun_kept (·.armCheck)
  | armRecheck => exact onTun_kept (·.armRecheck)
  | armedBrewBegin => exact onTun_kept (·.armedDue)
  | planeRelease => exact onTun_kept (·.planeDue)
  | queueDoorbell => exact onTun_kept fun h => h.windowWrite (·.producerDoorbell.arbitrate)
  | cringHead => exact onTun_kept fun h => h.windowWrite (·.headDoorbell)
  | descriptorFetch => exact onTun_kept (·.descriptorFetch)
  | commandStart => exact onTun_kept (·.commandStart)
  | racking =>
    exact onTun_kept fun h => by
      split
      · exact h.when (·.rackCmd)
      · exact h
  | remoteTimeout => exact onTun_kept (·.remoteTimeout)
  | heldRecordWrite => exact onTun_kept fun h => h.when (·.writeHeld)
  | queueCfgWrite =>
    exact onTun_kept fun h => h.windowWrite fun h => h.setUp fun h => by
      split
      · exact h.writeQueueRing
      · exact h.writeQueueCfg
  | cringCfgWrite =>
    exact onTun_kept fun h => h.windowWrite fun h => h.setUp fun h => by
      split
      · exact h.writeRingCfg
      · exact h.writeRingOther
  | nop | writeImm | timestamp | streamClose | pourParams => exact execOn_kept (·.stage)
  | copy => exact execOn_kept (·.copyWork)
  | ctxDefine => exact execOn_kept (·.ctxDefine)
  | ctxUndefine => exact execOn_kept (·.ctxUndefine)
  | ctxReside => exact execOn_kept (·.ctxReside)
  | resideTurn => exact onTun_kept (·.resideTurn)
  | resideStreamDone => exact onTun_kept (·.resideDone)
  | resideReadFail => exact onTun_kept (·.resideFail)
  | ctxEvict => exact execOn_kept (·.ctxEvict)
  | ctxSetPriority => exact execOn_kept (·.ctxSetPriority)
  | ctxKill => exact execOn_kept (·.ctxKill)
  | semInit => exact execOn_kept (·.semInit)
  | leaseExpiry => exact onTun_kept (·.leaseExpiry)
  | groupForm => exact execOn_kept (·.groupForm)
  | groupReform => exact execOn_kept (·.groupReform)
  | groupDisband => exact execOn_kept (·.groupDisband)
  | allReduce | reduceScatter | allGather | broadcast | allToAll => exact execOn_kept (·.collOpen)
  | pushCollective => exact execOn_kept (·.pushOpen)
  | contribDataReceive | contribSignalReceive | pushTileReceive => exact contribRow_kept
  | chunkReady => exact execOn_kept (·.chunkReady)
  | chunkRacking => exact execOn_kept (·.chunkRack)
  | pushSpanEnd => exact execOn_kept (·.pushSpanEnd)
  | tapGroupSet => exact execOn_kept (·.tapGroupSet)
  | tapContribution => exact onTun_kept fun h => h.when (·.tapPop)
  | seqOpen | seqClose | kvAppend | batchStep => exact execOn_kept (·.batchWork)
  | seqLock | seqUnlock => exact execOn_kept (·.lockWork)
  | kvFetch => exact execOn_kept (·.fetchWork)
  | pageRelease => exact onTun_kept (·.pageRelease)
  | steepDecode => exact execOn_kept (·.steepWork)
  | stackOffline => exact onTun_kept fun h => h.unless (·.stackOffline)
  | tableLoad => exact execOn_kept (·.tableWork)
  | gristEncode => exact execOn_kept (·.encodeWork)
  | gristDecode => exact execOn_kept (·.decodeWork)
  | streamOpen => exact execOn_kept (·.streamOpenWork)
  | streamHead => exact onTun_kept fun h => h.windowWrite (·.streamHead)
  | lauterState => exact execOn_kept (·.lauterWork)
  | sampleStep => exact execOn_kept (·.sampleWork)
  | hostLinkTrain => exact onTun_kept fun h => h.unless (·.hostTrained)
  | hostPerst => exact onTun_kept (·.hostPerst)
  | hostLinkLoss => exact onTun_kept (·.hostLinkLoss)
  | hostDirectedRetrain => exact onTun_kept fun h => h.when (·.hostTrained)
  | vfFlr => exact onTun_kept (·.vfFlr)
  | pfFlr => exact onTun_kept (·.pfFlr)
  | sriovNumvfsWrite => exact onTun_kept fun h => h.when (·.modHost)
  | vfDoorbellWrite => exact onTun_kept fun h => h.when (·.vfDoorbell)
  | vfBar2Write => exact onTun_kept fun h => h.when (·.vfWrite)
  | hostReadCompletion => exact onTun_kept fun h => h.branch (·.when (·.modHost.recipeLoaded)) (·.hostReadDone)
  | msixUnmask => exact onTun_kept (·.msixMask)
  | errorDetect => exact onTun_kept (·.errorDetect)
  | spargeScrub =>
    exact onTun_kept fun h => h.unless fun h => by
      split
      · exact h.when (·.scrubStack)
      · exact h.scrubWort
  | caskCalibration => exact onTun_kept fun h => h.when (·.calibrate)
  | caskTemperatureRead => exact onTun_kept fun h => h.unless (·.caskTemp)
  | caskSelfRefreshEntry => exact onTun_kept fun h => h.when (·.selfRefresh)
  | serdesRecal => exact onTun_kept fun h => h.unless (·.serdesRecal)
  | junctionTempSample => exact onTun_kept fun h => h.unless (·.junctionSample)
  | exportRound => exact onTun_kept fun h => h.when (·.exportRound)
  | exportContinue => exact onTun_kept fun h => h.when (·.exportShare)
  | snap => exact onTun_kept fun h => h.openWrite (·.snapWrite)
  | hydRingHead => exact onTun_kept fun h => h.openWrite (·.hydHead)
  | hydValueLoRead => exact onTun_kept fun h => h.openWrite (·.hydLatch)
  | hydConfigWrite => exact onTun_kept fun h => h.openWrite (·.writeHydConfig)
  | delayEchoTimeout => exact onTun_kept (·.delayTimeout)
  | pfWortWindowWrite => exact onTun_kept fun h => h.when (·.wortWindow)
  | releasedEntryReuse => exact onTun_kept (·.modBm)
  | _ => cases inside

/-- The PLDM requests of the firmware update. -/
theorem execQueryDeviceIdentifiers_kept {b : Bus} : Sat (execQueryDeviceIdentifiers b s) (TrayKept w s) := pldmAsk_kept .refl

theorem execGetFirmwareParameters_kept {b : Bus} : Sat (execGetFirmwareParameters b s) (TrayKept w s) :=
  pldmAsk_kept (TrayKept.refl.emitMalt)

theorem execRequestUpdate_kept {b : Bus} {n : Nat} : Sat (execRequestUpdate b n s) (TrayKept w s) := by
  refine pldmAsk_kept ?_
  split
  · exact .refl
  · dsimp only
    exact TrayKept.refl.modFw

theorem execPassComponentTable_kept {b : Bus} : Sat (execPassComponentTable b s) (TrayKept w s) := pldmAsk_kept .refl

theorem execUpdateComponent_kept {b : Bus} {comp size : Nat} : Sat (execUpdateComponent b comp size s) (TrayKept w s) := by
  refine pldmAsk_kept ?_
  dsimp only
  split
  · exact .refl
  · split
    · exact TrayKept.refl.stageBegin
    · exact .refl

theorem execActivateFirmware_kept {b : Bus} {selfContained : Bool} : Sat (execActivateFirmware b selfContained s) (TrayKept w s) := by
  refine pldmAsk_kept ?_
  split
  · exact .refl
  · dsimp only
    exact TrayKept.refl.modFw

theorem execGetStatus_kept {b : Bus} : Sat (execGetStatus b s) (TrayKept w s) := pldmAsk_kept .refl

theorem execCancelUpdateComponent_kept {b : Bus} : Sat (execCancelUpdateComponent b s) (TrayKept w s) :=
  pldmAsk_kept (TrayKept.refl.when (·.modFw))

theorem execCancelUpdate_kept {b : Bus} : Sat (execCancelUpdate b s) (TrayKept w s) := by
  refine pldmAsk_kept ?_
  dsimp only
  split
  · dsimp only
    exact TrayKept.refl.stageAbort.modFw
  · exact .refl

/-- Every command keeps the canonical form of the memory's tables, and the commands outside `writesMemory` every byte and poison mark. -/
theorem exec_kept (c : Instr) : Sat (exec c s) (TrayKept (writesMemory c) s) := by
  have h {w : Bool} : TrayKept w s s := .refl
  cases c with
  | registerWrite => exact onTunP_kept (·.cycleWrites)
  | pwrEnChange => exact execPwrEnChange_kept
  | mainPathClose => exact execMainPathClose_kept
  | mainPathTrip => exact execMainPathTrip_kept
  | mainPathReclose => exact execMainPathReclose_kept
  | partialSeating => exact execPartialSeating_kept
  | prsntSNBreak => exact execPrsntSNBreak_kept
  | tunSequenceStart => exact execTunSequenceStart_kept
  | railPowerGood => exact execRailPowerGood_kept
  | railTimeout => exact execRailTimeout_kept
  | tunColdResetRelease => exact execTunColdResetRelease_kept
  | powerDownRailStep => exact execPowerDownRailStep_kept
  | railFault => exact execRailFault_kept
  | pmbusPoll => exact execPmbusPoll_kept
  | thermtripLatch => exact execThermtripLatch_kept
  | thermalTripReport => exact execThermalTripReport_kept
  | errNEdge => exact execErrNEdge_kept
  | errNRearm => exact execErrNRearm_kept
  | errStormWindow => exact execErrStormWindow_kept
  | warnNChange => exact execWarnNChange_kept
  | pinFaultSet => exact execPinFaultSet_kept
  | pinFaultClear => exact execPinFaultClear_kept
  | heartbeatWindow => exact execHeartbeatWindow_kept
  | leakAsserted => exact execLeakAsserted_kept
  | leakDeasserted => exact execLeakDeasserted_kept
  | kegPresenceAsserted => exact execKegPresenceAsserted_kept
  | kegEepromRetry => exact execKegEepromRetry_kept
  | kegLatched => exact execKegLatched_kept
  | kegPowerReady => exact execKegPowerReady_kept
  | kegUnlatched => exact execKegUnlatched_kept
  | kegPresenceDeasserted => exact execKegPresenceDeasserted_kept
  | kegOvercurrent => exact execKegOvercurrent_kept
  | sdaStuck => exact execSdaStuck_kept
  | busRecoveryPulse => exact execBusRecoveryPulse_kept
  | busServedAgain => exact execBusServedAgain_kept
  | smbusTimeout => exact execSmbusTimeout_kept
  | alertNHeld => exact execAlertNHeld_kept
  | tunPoll => exact execTunPoll_kept
  | maltsterWatchdogExpiry => exact execMaltsterWatchdogExpiry_kept
  | maltsterRestart => exact execMaltsterRestart_kept
  | maltsterReevaluate => exact execMaltsterReevaluate_kept
  | locateSecondTick => exact execLocateSecondTick_kept
  | locateButtonPress => exact execLocateButtonPress_kept
  | warmResetRelease => exact execWarmResetRelease_kept
  | rawFrameReceive => exact execRawFrameReceive_kept
  | rawReplyRead => exact execRawReplyRead_kept
  | alertResponseRead => exact execAlertResponseRead_kept
  | i3cCcc => exact execI3cCcc_kept
  | mctpControl => exact execMctpControl_kept
  | mctpVendorMessage => exact execMctpVendorMessage_kept
  | platformEventSend => exact execPlatformEventSend_kept
  | platformEventRetry => exact execPlatformEventRetry_kept
  | sbModeApply => exact execSbModeApply_kept
  | windowClose => exact execWindowClose_kept
  | getInfo | regRead | regWrite | logRead | logClear | maltRestart | tunPowerOn | tunPowerOff | tunPowerCycle | tunReset |
    tunFence | tunRegRead | tunRegWrite | tunStatus | kegStatus | kegEepromRead | alertRead | locate | stageBegin | stageData |
    stageCommit | stageAbort | stageStatus =>
    simp only [exec,
      execGetInfo, execRegRead, execRegWrite, execLogRead, execLogClear, execMaltRestart, execTunPowerOn, execTunPowerOff,
      execTunPowerCycle, execTunReset, execTunFence, execTunRegRead, execTunRegWrite, execTunStatus, execKegStatus, execKegEepromRead,
      execAlertRead, execLocate, execStageBegin, execStageData, execStageCommit, execStageAbort, execStageStatus]
    exact runOpcode_kept
  | powerCycleWaitEnd => exact execPowerCycleWaitEnd_kept
  | proxySend => exact execProxySend_kept
  | proxyReplyCollect => exact execProxyReplyCollect_kept
  | maltsterBootVerify => exact execMaltsterBootVerify_kept
  | tunHeaderCheck => exact execTunHeaderCheck_kept
  | tunBootLoad => exact execTunBootLoad_kept
  | bootResultPoll => exact execBootResultPoll_kept
  | goldenReflashDone => exact execGoldenReflashDone_kept
  | stageEraseDone => exact execStageEraseDone_kept
  | stageVerifyDone => exact execStageVerifyDone_kept
  | stageCopyDone => exact execStageCopyDone_kept
  | stageRestartRecovery => exact execStageRestartRecovery_kept
  | activation => exact execActivation_kept
  | firmwareDataReceive => exact execFirmwareDataReceive_kept
  | firmwareDataRetry => exact execFirmwareDataRetry_kept
  | flitReceive => exact onTunP_kept fun h => h.when (·.flitReceive)
  | outputAward => exact onTunP_kept fun h => h.when (·.awardCycle)
  | packetDeliverStream => exact onTunP_kept fun h => h.when (·.deliver)
  | holeTimeout => exact onTunP_kept (·.holeSkip.consumeAll)
  | fenceNoticeReceive | mgmtRequest | readReqServe | atomicExecute | shareWrite | responseReceive | cmdPacket | doorbellPacket =>
    exact packetRow_kept
  | circuitPacketArrive => exact onTunP_kept fun h => h.unless (·.branch (·.circuitArrive) (·.refuseFirst))
  | coldResetHoldEnd => exact execColdResetHoldEnd_kept
  | alertNReleased => exact execAlertNReleased_kept
  | standbyPowerLoss => exact execStandbyPowerLoss_kept
  | queryDeviceIdentifiers => exact execQueryDeviceIdentifiers_kept
  | getFirmwareParameters => exact execGetFirmwareParameters_kept
  | requestUpdate => exact execRequestUpdate_kept
  | passComponentTable => exact execPassComponentTable_kept
  | updateComponent => exact execUpdateComponent_kept
  | activateFirmware => exact execActivateFirmware_kept
  | getStatus => exact execGetStatus_kept
  | cancelUpdateComponent => exact execCancelUpdateComponent_kept
  | cancelUpdate => exact execCancelUpdate_kept
  | pldmCommand =>
    refine (Sat_ite ..).mpr ?_
    split
    · exact pldmAsk_kept h.pldmRequest
    · split
      · exact h.modMalt
      · exact h
  | _ => exact exec_kept_of_tunOf rfl

end

/-! ### The statements -/

theorem memInv_iff {s : State} : MemInv s ↔ ∀ x, (s.tun x).MemForm := Iff.rfl

theorem TrayKept.memInv {s t : State} (h : TrayKept w s t) (inv : MemInv s) : MemInv t := fun x => (h.tun x).form (inv x)

/-- Settles O5: every command, and the idle cycle of every Tun, keeps the form of the tables. -/
theorem stepKeepsMemoryForm : Obligations.StepKeepsMemoryForm := by
  intro s t inv runs
  cases front : s.pending with
  | nil =>
    have idles : t = idle s := by
      simp only [step, front] at runs
      exact (Host.Outcome.next.inj runs).symm
    have kept : TrayKept true s (idle s) := TrayKept.refl.with_now.modAllTuns (·.idle)
    exact idles ▸ kept.memInv inv
  | cons c rest =>
    rw [stepRunsTheFront s c rest front] at runs
    have kept := exec_kept (s := { s with pending := rest }) c
    rw [runs] at kept
    exact TrayKept.memInv kept inv

/-- Settles O10. -/
theorem memoryFrame : Obligations.MemoryFrame := by
  intro c s frame
  obtain ⟨t, runs, kept⟩ := (exec_kept (s := s) c).next
  exact ⟨t, runs, fun x => (kept.tun x).same frame⟩

end Sys2Proof.Machine
end

section
/-! SUPPORT. How a command that is alone ends, and what the context commands make of a context in conflict (14 R541, R578). -/

namespace Sys2Proof.Machine
open Sys2Proof

variable {t u v : Tun} {s : State} {x : TunId} {c : Cmd}

/-! ### What the end of a command leaves -/

/-- What the end of a command that is alone leaves as it was. -/
structure EndKept (u v : Tun) : Prop where
  svc : v.svc = u.svc
  cellar : v.cellar = u.cellar
  token : v.token = u.token
  host : v.host = u.host
  ctxs : v.bm.ctxs = u.bm.ctxs

/-- A command that is alone ends after changes outside its record: the record is that of its start. -/
theorem Alone.finish_after (h : Alone u c) (same : SameRecords u v) (now : Nat) (st : Half) (r0 : Dword) (r1 : BitVec 48) :
    Recorded u (v.finishCmd now c st r0 r1 []) c st r0 r1 ∧ EndKept v (v.finishCmd now c st r0 r1 []) ∧
      (pullOp c.op = false → (v.finishCmd now c st r0 r1 []).mash = v.mash) := by
  obtain ⟨cmds, queues, rings, host, out⟩ := same
  obtain ⟨recorded, m, hy, sc, o, ou, re, rg, e, mash⟩ := (h.congr cmds queues rings host).finish now st r0 r1
  exact ⟨recorded.congr queues rings out, e ▸ ⟨rfl, rfl, rfl, rfl, rfl⟩, fun pull => e ▸ mash pull⟩

/-- So it completes. -/
theorem Alone.complete_after (h : Alone u c) (same : SameRecords u v) (now : Nat) (st : Half) (r0 : Dword) (r1 : BitVec 48) :
    Recorded u (v.completeNow now c st r0 r1) c st r0 r1 ∧ EndKept v (v.completeNow now c st r0 r1) ∧
      (pullOp c.op = false → (v.completeNow now c st r0 r1).mash = v.mash) := by
  obtain ⟨cmds, queues, rings, host, -⟩ := id same
  rw [(h.congr cmds queues rings host).completeNow_eq]
  exact h.finish_after same now st r0 r1

/-- So it fails. -/
theorem Alone.fail (h : Alone u c) (now : Nat) (st : Half) :
    Recorded u (u.failCmd now c st) c st 0 0 ∧ EndKept u (u.failCmd now c st) := by
  obtain ⟨recorded, kept, -⟩ := h.finish_after (v := u) ⟨rfl, rfl, rfl, rfl, rfl⟩ now st 0 0
  rw [h.failCmd_eq]
  exact ⟨recorded, kept⟩

theorem EndKept.ctx (h : EndKept u v) (m : Nat) : v.ctx m = u.ctx m := by simp only [Tun.ctx, h.ctxs]

theorem SameRecords.refl : SameRecords u u := ⟨rfl, rfl, rfl, rfl, rfl⟩

theorem SameRecords.trans (h : SameRecords u v) (k : SameRecords v t) : SameRecords u t := by
  obtain ⟨cmds, queues, rings, host, out⟩ := h
  obtain ⟨cmds', queues', rings', host', out'⟩ := k
  exact ⟨cmds'.trans cmds, queues'.trans queues, rings'.trans rings, host'.trans host, out'.trans out⟩

theorem SameRecords.modCtx (h : SameRecords u v) (n : Nat) (f : Ctx → Ctx) : SameRecords u (v.modCtx n f) :=
  h.trans ⟨rfl, rfl, rfl, rfl, rfl⟩

/-- A fold keeps what a record is made from, and the contexts, when each of its steps does. -/
theorem SameRecords.foldl {α : Type} {f : Tun → α → Tun} (h : ∀ v a, SameRecords u v → SameRecords u (f v a) ∧ (f v a).bm.ctxs = v.bm.ctxs)
    (l : List α) (same : SameRecords u t) : SameRecords u (l.foldl f t) ∧ (l.foldl f t).bm.ctxs = t.bm.ctxs := by
  induction l generalizing t with
  | nil => exact ⟨same, rfl⟩
  | cons a l ih =>
    obtain ⟨kept, ctxs⟩ := h t a same
    obtain ⟨all, rest⟩ := ih kept
    exact ⟨all, rest.trans ctxs⟩

/-! ### The end of a context (14 R576) -/

/-- No command waits where the only one runs. -/
theorem Alone.semWaiters (h : Alone u c) (same : v.bm.cmds = u.bm.cmds) (n : Nat) : v.semWaiters n = [] := by
  obtain ⟨only, running, -⟩ := h
  have moving : (c.phase == .waitSem) = false := by
    cases e : c.phase <;> simp_all [Cmd.running]
  simp [Tun.semWaiters, same, only, moving]

/-- So a forced release has nobody to go to. -/
theorem Alone.semForce_eq (h : Alone u c) (same : v.bm.cmds = u.bm.cmds) (n : Nat) :
    v.semForce n = v.modSem n fun s => if s.mode = 1 then { s with holder := none } else { s with count := satInc s.count } := by
  have nobody (f : Sem → Sem) : (v.modSem n f).semNext n = none := by rw [Tun.semNext, h.semWaiters (v := v.modSem n f) same]; rfl
  simp only [Tun.semForce, Tun.semGrant, nobody, ite_self]

/-- No command waits for a sequence's lock either. -/
theorem Alone.lockNext (h : Alone u c) (same : v.bm.cmds = u.bm.cmds) (k : Half) (id : Nat) : v.lockNext k id = none := by
  obtain ⟨only, running, -⟩ := h
  have moving : (c.phase == .waitLock) = false := by
    cases e : c.phase <;> simp_all [Cmd.running]
  simp [Tun.lockNext, Tun.lockWaiters, same, only, moving]

/-- So a lock that is passed on goes to nobody. -/
theorem Alone.lockPass_eq (h : Alone u c) (same : v.bm.cmds = u.bm.cmds) (k : Half) (id : Nat) (orphan : Bool) :
    v.lockPass k id orphan = v.modSeq k id fun q => { q with holder := none, orphaned := orphan } := by
  simp only [Tun.lockPass, h.lockNext same]

theorem Alone.orphanLocks (h : Alone u c) (same : SameRecords u v) (n : Nat) :
    SameRecords u (v.orphanLocks n) ∧ (v.orphanLocks n).bm.ctxs = v.bm.ctxs :=
  SameRecords.foldl (fun v q kept => by
    rw [h.lockPass_eq kept.1]
    exact ⟨kept.trans ⟨rfl, rfl, rfl, rfl, rfl⟩, rfl⟩) _ same

/-- The end of a context touches no command that runs, and no context. -/
theorem Alone.ctxEnd (h : Alone u c) (n : Nat) : SameRecords u (u.ctxEnd n) ∧ (u.ctxEnd n).bm.ctxs = u.bm.ctxs := by
  have locks := SameRecords.foldl (f := fun t k => t.semForce k) (fun v k kept => by
    rw [h.semForce_eq kept.1]
    exact ⟨kept.trans ⟨rfl, rfl, rfl, rfl, rfl⟩, rfl⟩) (u.locksOf n) .refl
  unfold Tun.ctxEnd
  extract_lets freed counts orphans gone
  have counted := SameRecords.foldl (f := fun t k => t.modSem k fun x => { x with owner := none })
    (fun v k kept => ⟨kept.trans ⟨rfl, rfl, rfl, rfl, rfl⟩, rfl⟩)
    ((freed.bm.sems.entries.filter fun e => e.2.owner == some n).map (·.1)) locks.1
  have orphaned := h.orphanLocks counted.1 n
  have closed := SameRecords.foldl (f := fun t k => if (t.tstream k).isOpen && (t.tstream k).ctx == n then
      t.modStream k fun x => { x with isOpen := false, held := [] } else t)
    (fun v k kept => by split; exacts [⟨kept.trans ⟨rfl, rfl, rfl, rfl, rfl⟩, rfl⟩, ⟨kept, rfl⟩])
    (List.range 256) (t := gone) (orphaned.1.trans ⟨rfl, rfl, rfl, rfl, rfl⟩)
  exact ⟨closed.1, closed.2.trans (orphaned.2.trans (counted.2.trans locks.2))⟩

/-! ### CTX_UNDEFINE and CTX_SET_PRIORITY (14 R541, R578) -/

theorem Tun.ctxUndefine_conflict {n now : Nat} (hn : (byteAt c.desc 16).toNat = n)
    (conflict : (u.ctx n).state ≠ .defined ∨ u.ctxNamed n = true) : u.ctxUndefine now c = u.failCmd now c 0x0207 := by
  subst hn
  exact if_pos conflict

theorem Tun.ctxUndefine_ends {n now : Nat} (hn : (byteAt c.desc 16).toNat = n) (defined : (u.ctx n).state = .defined)
    (unnamed : u.ctxNamed n = false) :
    u.ctxUndefine now c = ((u.ctxEnd n).modCtx n fun x => { gen := x.gen }).completeNow now c 0 0 0 := by
  subst hn
  exact if_neg fun conflict => conflict.elim (· defined) fun named => Bool.false_ne_true (unnamed ▸ named)

/-- A context written reads what was written, in a table in canonical form; the others stay. -/
theorem Tun.ctx_modCtx (form : t.bm.ctxs.wf {} = true) (n : Nat) (f : Ctx → Ctx) : (t.modCtx n f).ctx n = f (t.ctx n) :=
  Tab.get_set_same _ _ _ form

theorem Tun.ctx_modCtx_other (f : Ctx → Ctx) {n m : Nat} (other : m ≠ n) : (t.modCtx n f).ctx m = t.ctx m :=
  Tab.get_set_other _ _ _ other

/-- Settles O47: a refused command ends with its record alone, and the end of a context reaches no other one. -/
theorem contextConflicts : Obligations.ContextConflicts := by
  refine ⟨fun s x c => ?undefine, fun s x c alone serves started hop undefined => ?priority⟩
  case undefine =>
    intro u n alone serves started hop
    refine ⟨fun conflict => ?_, fun defined unnamed form => ?_⟩
    · refine answers_started rfl serves alone.cmd started hop fun t e only => ?_
      rw [e, Tun.ctxUndefine_conflict rfl conflict]
      obtain ⟨recorded, kept⟩ := alone.fail s.now 0x0207
      exact ⟨recorded, kept.ctx, only⟩
    · refine answers_started rfl serves alone.cmd started hop fun t e only => ?_
      rw [e, Tun.ctxUndefine_ends rfl defined unnamed]
      obtain ⟨same, ctxs⟩ := alone.ctxEnd n
      obtain ⟨recorded, kept, -⟩ := alone.complete_after (same.modCtx n fun x => { gen := x.gen }) s.now 0 0 0
      have formed : (u.ctxEnd n).bm.ctxs.wf {} = true := by rw [ctxs]; exact form
      have ended := Tun.ctx_modCtx formed n fun x => { gen := x.gen }
      refine ⟨recorded, ?_, fun m other => ?_, only⟩
      · rw [kept.ctx, ended]
      · rw [kept.ctx, Tun.ctx_modCtx_other _ other, Tun.ctx, ctxs, Tun.ctx]
  case priority =>
    refine answers_started rfl serves alone.cmd started hop fun t e only => ?_
    obtain ⟨recorded, kept⟩ := alone.fail s.now 0x0207
    rw [e, show (s.tun x).ctxSetPriority s.now c = (s.tun x).failCmd s.now c 0x0207 from if_pos undefined]
    exact ⟨recorded, kept.ctx, only⟩

/-! ### LEASE_EXPIRY where two commands stand under one number (14 R574) -/

/-- A command of context 1 that waits at semaphore 0. -/
def lockWaiter : Cmd := { id := 3, queue := 1, ctx := 1, op := 0, desc := [0, 0, 1], index := 0, phase := .waitSem }

/-- CTX_DEFINE of queue 0 under the same number, which waits for its start with a place on its ring. -/
def sameNumber : Cmd := { id := 3, queue := 0, ctx := 0, op := 0x10, desc := [], index := 0, phase := .waitUnit, reserved := 1 }

/-- A Tun in DRAINING with both commands; context 0, of a lower priority than context 1, holds the LOCK. -/
def leaseTun : Tun :=
  { col := .t0, svc := { state := .draining }
    bm := { ctxs := ⟨[(1, { priority := 1 })]⟩, sems := ⟨[(0, { mode := 1, holder := some 0 })]⟩, cmds := [lockWaiter, sameNumber] } }

/-- The tray of that Tun. -/
def leaseTray : State := { tuns := ⟨leaseTun, { col := .t1 }, { col := .t2 }, { col := .t3 }⟩ }

/-- The arbitration after the expiry starts CTX_DEFINE, as DRAINING lets it (05 R170), and with it what stands under its number. -/
theorem leaseTray_starts : ((leaseTray.modTun .t0 (Tun.leaseExpiry 0 0)).tun .t0).cmd 3 =
    some { lockWaiter with semHeld := true, phase := .started, notice := true, reserved := 1 } := by decide +kernel

/-- Refutes O33: its clause on LEASE_EXPIRY asks for a waiter found by its number and does not say that the number is its alone. Where a
CTX_DEFINE stands under it too, the expiry grants the lock and the arbitration that follows starts both: the waiter is not in waitUnit. -/
theorem not_contextCommandsComplete : ¬ Obligations.ContextCommandsComplete := by
  unfold Obligations.ContextCommandsComplete
  intro h
  obtain ⟨-, expires⟩ := h leaseTray .t0 lockWaiter
  obtain ⟨t, answered, -, -, waits, -⟩ := expires 0 (by decide +kernel) rfl rfl (by decide +kernel) rfl
    fun k held => by cases held; decide
  have expiry : exec (.leaseExpiry .t0 0) leaseTray = .next (leaseTray.modTun .t0 (Tun.leaseExpiry 0 0)) := rfl
  cases expiry.symm.trans answered
  cases leaseTray_starts.symm.trans waits

end Sys2Proof.Machine
end

section
/-! SUPPORT. What the stores to Wort reach: the two windows, the WRITE and ATOMIC_REQ packets, and the Racking of a WRITE_IMM (18 R716). -/

namespace Sys2Proof.Machine
open Sys2Proof

variable {t : Tun} {s : State} {x : TunId} {c : Cmd}

/-! ### A Tun whose Wort alone is written -/

/-- From `u` to `v` Wort keeps its canonical form and every byte of the addresses outside `covered`. -/
structure WortStored (covered : Nat → Prop) (u v : Tun) : Prop where
  form : u.bm.wort.wf 0 = true → v.bm.wort.wf 0 = true
  others : ∀ a, ¬ covered a → v.wortByte a = u.wortByte a

/-- A store to a share reaches the bytes it covers, as the share's map gives them. -/
theorem Tun.shareStore_stored (k off : Nat) (bs : List Byte) (p : Bool) : ∃ w m,
    t.shareStore k off bs p = { t with bm := { t.bm with wort := w, poison := m } } ∧
    WortStored (fun a => ∃ i < bs.length, a = (t.ctx k).wortAddr (off + i)) t (t.shareStore k off bs p) := by
  obtain ⟨w, m, e, form, -, others⟩ := t.shareStore_eq k off bs p
  refine ⟨w, m, e, e ▸ form, fun a outside => ?_⟩
  rw [e]
  exact others a fun i hi at_i => outside ⟨i, hi, at_i⟩

/-- The PF's window reaches the bytes it covers at Wort's own addresses. -/
theorem Tun.wortWindow_stored (off : Nat) (bs : List Byte) : ∃ w m,
    t.wortWindow off bs = { t with bm := { t.bm with wort := w, poison := m } } ∧
    WortStored (fun a => ∃ i < bs.length, a = off + i) t (t.wortWindow off bs) := by
  obtain ⟨w, m, e, form, -, others⟩ := t.wortWindow_eq off bs
  refine ⟨w, m, e, e ▸ form, fun a outside => ?_⟩
  rw [e]
  exact others a fun i hi _ at_i => outside ⟨i, hi, at_i⟩

/-! ### A VF's window -/

/-- The outcomes of a write through a VF's window: it is counted as refused, or stored where the context of the VF's slot has it. -/
theorem Tun.vfWrite_cases (n off : Nat) (bs : List Byte) : t.vfWrite n off bs = t.vfRefuse ∨
    ∃ k, t.slotCtx (n - 1) = some k ∧ t.vfWrite n off bs = t.shareStore k off bs false := by
  unfold Tun.vfWrite
  split
  · exact .inl rfl
  · next k slot => split; exacts [.inr ⟨k, slot, rfl⟩, .inl rfl]

/-! ### Packets -/

/-- A WRITE is stored, or counted as not resident (10 R360). -/
theorem Tun.takeWrite_cases (p : Packet) :
    t.takeWrite p = t.shareStore p.ctx.toNat p.addr.toNat p.payload p.poison ∨
    t.takeWrite p = t.modBm fun b => { b with nonres := satInc b.nonres } := by
  unfold Tun.takeWrite
  dsimp only
  split
  · exact .inl rfl
  · exact .inr rfl

/-- An ATOMIC_REQ is answered, after a store of at most 8 bytes or after none (10 R361). -/
theorem Tun.takeAtomic_cases (now : Nat) (p : Packet) :
    (∃ ps, t.takeAtomic now p = t.queueOut now ps) ∨
    ∃ bs ps, bs.length ≤ 8 ∧ t.takeAtomic now p = (t.shareStore p.ctx.toNat p.addr.toNat bs false).queueOut now ps := by
  unfold Tun.takeAtomic
  extract_lets n at_ k off old answer
  have answered (st : Half) (d : List Byte) (t : Tun) : ∃ ps, answer st d t = t.queueOut now ps := ⟨_, rfl⟩
  clear_value answer
  split
  · exact .inl (answered ..)
  next shape =>
  have short : n ≤ 8 := by omega
  split
  · exact .inl (answered ..)
  · split
    · exact .inl (answered ..)
    · split
      · exact .inl (answered ..)
      · obtain ⟨ps, e⟩ := answered 0 (bytesLE 8 old.toNat) (t.shareStore k off (bytesLE n _) false)
        exact .inr ⟨_, ps, by simpa [bytesLE] using short, e⟩

theorem Tun.queueOut_keeps (now : Nat) (ps : List Packet) :
    (t.queueOut now ps).bm = t.bm ∧ (t.queueOut now ps).cellar = t.cellar ∧ (t.queueOut now ps).proxy = t.proxy :=
  ⟨(Tun.same_queueOut (part := .bm) (by decide) now ps).mpr Part.same_self, (Tun.same_queueOut (part := .cellar) (by decide) now ps).mpr Part.same_self,
    (Tun.same_queueOut (part := .proxy) (by decide) now ps).mpr Part.same_self⟩

/-! ### The Racking of a WRITE_IMM -/

/-- The end of a Racking leaves the memory and the Cellar. -/
theorem Tun.rackEnd_keeps (now : Nat) (st : Half) (r0 : Dword) (r1 : BitVec 48) :
    (t.rackEnd now c st r0 r1).bm.wort = t.bm.wort ∧ (t.rackEnd now c st r0 r1).cellar = t.cellar := by
  unfold Tun.rackEnd
  split
  · exact ⟨((MemKept.refl.completeExt).same rfl).1, (Tun.same_completeExt (part := .cellar) (by decide) ..).mpr Part.same_self⟩
  · exact ⟨rfl, rfl⟩

theorem Tun.rackCmd_wort {now k off : Nat} {data : List Byte} {p : Bool} (hop : c.op = 0x01) (staged : c.effects = [.wort k off data p]) :
    t.rackCmd now c = (t.shareStore k off data p).rackEnd now c c.status c.result0 c.result1 := by
  rw [Tun.rackCmd_outputs (.inr hop), staged]
  rfl

/-- Racking publishes what a staged command has staged, whatever other commands there are. -/
theorem answers_racking {P : State → Prop} (found : (s.tun x).cmd c.id = some c) (staged : c.phase = .staged) (serves : (s.tun x).serving = true)
    (p : ∀ t : State, t.tun x = (s.tun x).rackCmd s.now c → OnlyTun x s t → P t) : Answers (.racking x c.id) s P :=
  answers_onTun (g := fun u => u.rackCmd s.now c) rfl (by simp [found, staged, serves]) (p _ (State.tun_modTun ..) (onlyTun_mod ..))

/-! ### The statement -/

/-- Settles O15: every store is one to a share, or to Wort's own addresses, of which its bytes are known. -/
theorem storesStayInTheirBytes : Obligations.StoresStayInTheirBytes := by
  intro s x off bs u keeps
  refine ⟨?pfWindow, fun vf => ?vfWindow, fun port p reach => ?write, fun port p reach => ?atomic,
    fun c k o data poison found staged serves hop effects => ?racking⟩
  case pfWindow =>
    refine answers_tun rfl fun t e only => ?_
    split at e
    · obtain ⟨w, m, wrote, stored⟩ := u.wortWindow_stored off bs
      rw [← e] at wrote stored
      refine ⟨⟨stored.form, only, by rw [wrote]⟩, by rw [wrote], fun _ a outside => stored.others a ?_⟩
      exact fun ⟨i, hi, at_i⟩ => outside i hi at_i
    · exact ⟨⟨fun form => e ▸ form, only, by rw [e]⟩, by rw [e], fun _ a _ => by rw [e]⟩
  case vfWindow =>
    refine answers_tun rfl fun t e only => ?_
    split at e
    · rcases u.vfWrite_cases vf.toNat off bs with refused | ⟨k, slot, stores⟩
      · rw [refused] at e
        exact ⟨⟨fun form => e ▸ form, only, by rw [e]; rfl⟩, fun _ _ _ a _ => by rw [e]; rfl, fun _ => by rw [e]; rfl⟩
      · rw [stores] at e
        obtain ⟨w, m, wrote, stored⟩ := u.shareStore_stored k off bs false
        rw [← e] at wrote stored
        refine ⟨⟨stored.form, only, by rw [wrote]⟩, fun _ d owner a outside => stored.others a ?_, fun free => ?_⟩
        · obtain rfl : k = d := Option.some.inj (slot.symm.trans owner)
          exact fun ⟨i, hi, at_i⟩ => outside i hi at_i
        · cases slot.symm.trans free
    · exact ⟨⟨fun form => e ▸ form, only, by rw [e]⟩, fun _ _ _ a _ => by rw [e], fun _ => by rw [e]⟩
  case write =>
    have taken : u.consume s.now port.toNat p = u.takeWrite p := by
      simp [Tun.consume, reach.2.1, tyMgmt, tyFenceNotice, tyWrite]
    rcases u.takeWrite_cases p with stores | counts
    · obtain ⟨w, m, wrote, stored⟩ := u.shareStore_stored p.ctx.toNat p.addr.toNat p.payload p.poison
      refine reach.answers rfl (by rw [taken, stores, wrote]) fun t e => ?_
      rw [taken, stores] at e
      exact ⟨by rw [e, wrote], fun a outside => e ▸ stored.others a fun ⟨i, hi, at_i⟩ => outside i hi at_i⟩
    · refine reach.answers rfl (by rw [taken, counts]; rfl) fun t e => ?_
      rw [e, taken, counts]
      exact ⟨rfl, fun _ _ => rfl⟩
  case atomic =>
    have taken : u.consume s.now port.toNat p = u.takeAtomic s.now p := by
      simp [Tun.consume, reach.2.1, tyMgmt, tyFenceNotice, tyWrite, tyReadReq, tyAtomicReq]
    rcases u.takeAtomic_cases s.now p with ⟨ps, answered⟩ | ⟨data, ps, short, answered⟩
    · obtain ⟨bm, cellar, proxy⟩ := u.queueOut_keeps s.now ps
      refine reach.answers rfl (by rw [taken, answered, proxy]) fun t e => ?_
      rw [e, taken, answered]
      exact ⟨cellar, fun a _ => by simp only [Tun.wortByte, bm]⟩
    · obtain ⟨w, m, wrote, stored⟩ := u.shareStore_stored p.ctx.toNat p.addr.toNat data false
      obtain ⟨bm, cellar, proxy⟩ := (u.shareStore p.ctx.toNat p.addr.toNat data false).queueOut_keeps s.now ps
      refine reach.answers rfl (by rw [taken, answered, proxy, wrote]) fun t e => ?_
      rw [e, taken, answered]
      refine ⟨by rw [cellar, wrote], fun a outside => ?_⟩
      rw [Tun.wortByte, bm]
      exact stored.others a fun ⟨i, hi, at_i⟩ => outside i (Nat.lt_of_lt_of_le hi short) at_i
  case racking =>
    refine answers_racking found staged serves fun t e _ => ?_
    obtain ⟨w, m, wrote, stored⟩ := u.shareStore_stored k o data poison
    obtain ⟨wort, cellar⟩ := (u.shareStore k o data poison).rackEnd_keeps (c := c) s.now c.status c.result0 c.result1
    rw [e, Tun.rackCmd_wort hop effects]
    refine ⟨by rw [cellar, wrote], fun a outside => ?_⟩
    rw [Tun.wortByte, wort]
    exact stored.others a fun ⟨i, hi, at_i⟩ => outside i hi at_i

end Sys2Proof.Machine
end

section
/-! SUPPORT. Errors by class and the background work of a Tun (chapter 19), and the die's temperature (20 R775). -/

namespace Sys2Proof.Machine
open Sys2Proof

variable {t : Tun} {s : State} {x : TunId} {now : Nat}

/-- What a command answers is read off what it makes of its Tun. -/
theorem answers_tunOf {c : Instr} {f : Tun → Tun} {v : Tun} {P : State → Prop} (e : exec c s = onTun x s f) (made : f (s.tun x) = v)
    (p : ∀ t : State, t.tun x = v → OnlyTun x s t → P t) : Answers c s P :=
  answers_tun e fun t at_x only => p t (at_x.trans made) only

/-! ### One bit of a mask -/

theorem getLsbD_or_bit {w : Nat} (m : BitVec w) {n : Nat} (inside : n < w) : (m ||| 1#w <<< n).getLsbD n = true := by
  simp [inside]

theorem getLsbD_and_not_bit {w : Nat} (m : BitVec w) {n : Nat} (inside : n < w) : (m &&& ~~~(1#w <<< n)).getLsbD n = false := by
  simp [inside]

/-! ### ERROR_DETECT (19 R736-R743) -/

/-- Of a Tun the record of an error changes the error records alone. -/
theorem Tun.logError_eq (src : Byte) (cls : Nat) (at_ : ErrAt) : ∃ e, t.logError now src cls at_ = { t with err := e } := ⟨_, rfl⟩

theorem Tun.logError_classes (src : Byte) {cls : Nat} (inside : cls < 6) (at_ : ErrAt) :
    (t.logError now src cls at_).err.classes.getLsbD cls = true := by
  unfold Tun.logError
  extract_lets old window quiet marked counted recorded
  have counts : counted.classes = marked.classes := by
    simp only [counted]
    split
    · rfl
    · split
      · rfl
      · split <;> rfl
  have records : recorded.classes = counted.classes := by simp only [recorded]; split <;> rfl
  change recorded.classes.getLsbD cls = true
  rw [records, counts]
  exact getLsbD_or_bit _ inside

/-- An error that is not corrected always has a record (19 R736). -/
theorem Tun.logError_next (src : Byte) {cls : Nat} (uncorrected : cls ≠ 0) (at_ : ErrAt) :
    (t.logError now src cls at_).err.next = t.err.next + 1 := by
  simp [Tun.logError, uncorrected]

/-- What a detected error does, once it counts. -/
theorem Tun.errorDetect_taken {src cls : Nat} {at_ : ErrAt} (valid : errClassOk src cls = true) (reach : t.reachable = true)
    (free : t.svc.hold = .none_) (fresh : cls = 1 → t.unitPoisoned src at_.addr.toNat = false) :
    t.errorDetect now src cls at_ =
      (let t := t.logError now (BitVec.ofNat 8 src) cls at_
       if cls = 0 then t.writeBack src at_.addr.toNat
       else if cls = 1 then t.poisonUnit src at_.addr.toNat
       else if cls = 2 then (if src = 5 then t.descriptorFetch at_.inst.toNat [] true else t.storeFails)
       else if cls = 4 then (if t.svc.state = .fenced then t else t.fenceRequest now 3)
       else if t.fatalAgain now then (if t.svc.state = .fenced then t else t.fenceRequest now 3)
       else t.warmRequest now 5) := by
  rw [Tun.errorDetect, if_neg (by simp [valid, reach, free]), if_neg fun ⟨one, poisoned⟩ => by simp [fresh one] at poisoned]

theorem Tun.unitPoisoned_poisonUnit (src addr : Nat) : (t.poisonUnit src addr).unitPoisoned src addr = true := by
  unfold Tun.poisonUnit Tun.unitPoisoned
  split
  · exact Tab.get_set_listed _ _ _ (by decide)
  · exact Tab.get_set_listed _ _ _ (by decide)

/-- The parts that a detected error's class acts on are those of the Tun before its record. -/
theorem Tun.logError_keeps (src : Byte) (cls : Nat) (at_ : ErrAt) :
    (t.logError now src cls at_).svc = t.svc ∧ (t.logError now src cls at_).sched = t.sched := ⟨rfl, rfl⟩

theorem Tun.writeBack_err (src addr : Nat) : (t.writeBack src addr).err = t.err :=
  (Tun.same_writeBack (part := .err) (by decide) src addr).mpr Part.same_self

theorem Tun.poisonUnit_err (src addr : Nat) : (t.poisonUnit src addr).err = t.err :=
  (Tun.same_poisonUnit (part := .err) (by decide) src addr).mpr Part.same_self

/-! ### Sparge (19 R750, R751) -/

/-- Units short of a stack's end, none with an error, advance its pass. -/
theorem Tun.scrubStack_pos {n k : Nat} (fitted : n < t.asm.casks) (online : t.cellar.lostStacks.getLsbD n = false)
    (awake : t.rel.selfRefresh.getLsbD n = false) (on : t.rel.scrubOff = false) (some_ : 0 < k)
    (short : Tab.get 0 t.rel.scrubPos n + k < stackUnits) :
    Tab.get 0 (t.scrubStack now n k []).rel.scrubPos n = Tab.get 0 t.rel.scrubPos n + k := by
  have units : min k (stackUnits - Tab.get 0 t.rel.scrubPos n) = k := by omega
  have whole : ¬ stackUnits ≤ Tab.get 0 t.rel.scrubPos n + k := by omega
  have fits : ¬ t.asm.casks ≤ n := by omega
  simp only [Tun.scrubStack, fits, online, awake, on, units, whole, Bool.false_eq_true, or_self, if_false, List.filter_nil, List.foldl_nil,
    decide_false]
  exact Tab.get_set_listed _ _ _ (by omega)

theorem Tun.scrubWort_pos {k : Nat} (some_ : 0 < k) (short : Tab.get 0 t.rel.scrubPos 8 + k < wortUnits) :
    Tab.get 0 (t.scrubWort now k []).rel.scrubPos 8 = Tab.get 0 t.rel.scrubPos 8 + k := by
  have units : min k (wortUnits - Tab.get 0 t.rel.scrubPos 8) = k := by omega
  have whole : ¬ wortUnits ≤ Tab.get 0 t.rel.scrubPos 8 + k := by omega
  simp only [Tun.scrubWort, units, whole, if_false, List.filter_nil, List.foldl_nil]
  exact Tab.get_set_listed _ _ _ (by omega)

/-! ### Stacks and ports (19 R752-R754) -/

theorem Tun.calibrate_pending {n : Nat} (inside : n < 8) (fitted : n < t.asm.casks) (online : t.cellar.lostStacks.getLsbD n = false) :
    (t.calibrate now n).rel.calPending.getLsbD n = (t.rel.selfRefresh.getLsbD n || (t.recipeRuns && !(t.inAngel now))) := by
  have fits : ¬ t.asm.casks ≤ n := by omega
  simp only [Tun.calibrate, fits, online, Bool.false_eq_true, or_self, if_false]
  split
  · next waits =>
    have due : (t.rel.selfRefresh.getLsbD n || (t.recipeRuns && !(t.inAngel now))) = true := by simpa using waits
    exact (getLsbD_or_bit _ inside).trans due.symm
  · next runs =>
    have none_ : (t.rel.selfRefresh.getLsbD n || (t.recipeRuns && !(t.inAngel now))) = false := by simpa using runs
    exact (getLsbD_and_not_bit _ inside).trans none_.symm

/-- A stack that goes offline is marked, whatever ends with it. -/
theorem Tun.stackOffline_lost {n : Nat} (inside : n < 8) (fitted : n < t.asm.casks) (online : t.cellar.lostStacks.getLsbD n = false)
    (cause : Nat) : (t.stackOffline now n cause).cellar.lostStacks.getLsbD n = true := by
  have fits : ¬ t.asm.casks ≤ n := by omega
  rw [Tun.stackOffline, if_neg (by simp [fits, online])]
  exact getLsbD_or_bit _ inside

theorem Tun.caskTemp_cool {n : Nat} {v : Half} (fitted : n < t.asm.casks) (online : t.cellar.lostStacks.getLsbD n = false)
    (cool : v.toInt ≤ 840) : t.caskTemp now n v = t.modRel fun r => { r with temps := r.temps.set 0 n v } := by
  rw [Tun.caskTemp, if_neg (by simp [fitted, online])]
  exact if_neg (by omega)

/-- Above 105 °C the stack goes offline (19 R752). -/
theorem Tun.caskTemp_hot {n : Nat} {v : Half} (fitted : n < t.asm.casks) (online : t.cellar.lostStacks.getLsbD n = false)
    (hot : 840 < v.toInt) : t.caskTemp now n v = (t.modRel fun r => { r with temps := r.temps.set 0 n v }).stackOffline now n 3 := by
  rw [Tun.caskTemp, if_neg (by simp [fitted, online])]
  exact if_pos hot

theorem Tun.selfRefresh_set {n : Nat} (inside : n < 8) (fitted : n < t.asm.casks) (online : t.cellar.lostStacks.getLsbD n = false)
    (free : t.stackReserved n = false) : (t.selfRefresh n).rel.selfRefresh.getLsbD n = true := by
  have fits : ¬ t.asm.casks ≤ n := by omega
  rw [Tun.selfRefresh, if_neg (by simp [fits, online, free])]
  exact getLsbD_or_bit _ inside

theorem Tun.serdesRecal_pending {id : Nat} (present : t.hasPort id = true) (linked : (t.port id).link = .linked) :
    (t.serdesRecal now id).rel.recalPending.contains id = ((t.port id).rxNapped || (t.circuitNames id && !(t.inAngel now))) := by
  simp only [Tun.serdesRecal, present, linked, not_true_eq_false, ne_eq, or_self, if_false]
  split
  · next waits =>
    have due : ((t.port id).rxNapped || (t.circuitNames id && !(t.inAngel now))) = true := by simpa using waits
    rw [due]
    change (if t.rel.recalPending.contains id then t.rel.recalPending else t.rel.recalPending ++ [id]).contains id = true
    split
    · assumption
    · simp
  · next runs =>
    have none_ : ((t.port id).rxNapped || (t.circuitNames id && !(t.inAngel now))) = false := by simpa using runs
    rw [none_]
    change (t.rel.recalPending.filter (· != id)).contains id = false
    simp

/-! ### The die's temperature (20 R775, R785) -/

/-- Asserting THERMTRIP_N leaves the readings. -/
theorem Tun.assertTrip_junction : ∃ pin, (t.assertTrip now).junction = { t.junction with tripPin := pin } := by
  unfold Tun.assertTrip
  split
  · exact ⟨_, rfl⟩
  · exact ⟨true, (Tun.same_fenceLinks (part := .junction) (by decide) ..).mpr Part.same_self⟩

theorem Tun.junctionSample_reads (rs : List Half) : ∃ pin,
    (t.junctionSample now rs).junction = {
      sampled := true, now := maxReading rs
      peak := if t.junction.sampled = false ∨ t.junction.peak.toInt < (maxReading rs).toInt then maxReading rs else t.junction.peak
      warnPin := decide (840 ≤ (maxReading rs).toInt), tripPin := pin } := by
  unfold Tun.junctionSample
  simp only [Bool.not_eq_true]
  split
  · obtain ⟨pin, e⟩ := Tun.assertTrip_junction (now := now) (t := { t with junction := _ })
    exact ⟨pin, e⟩
  · exact ⟨_, rfl⟩

/-! ### The statement -/

/-- Settles O42, class by class and event by event. -/
theorem reliabilityEventsComplete : Obligations.ReliabilityEventsComplete := by
  intro s x
  dsimp only
  refine ⟨fun src cls a valid reach free => ?errors, fun n k runs opened fitted online awake on some_ short => ?scrubStack,
    fun k runs some_ short => ?scrubWort, fun n runs opened fitted online => ?calibration,
    fun n v on free fitted online real => ⟨fun cool => ?cool, fun hot => ?hot⟩, fun n runs opened fitted online free => ?selfRefresh,
    fun id on free present linked => ?recal, fun rs on hold eight => ?junction⟩
  case errors =>
    obtain ⟨⟨on, -⟩, up⟩ : ((s.tun x).svc.state ≠ .off ∧ (s.tun x).svc.hold ≠ .cold) ∧ (s.tun x).svc.mgmtUp = true := by
      simpa [Tun.reachable, Bool.and_eq_true] using reach
    have source : BitVec.ofNat 8 src.toNat = src := BitVec.ofNat_toNat .. |>.trans (BitVec.setWidth_eq src)
    refine ⟨fun zero => ?_, fun one fresh => ?_, fun two store => ?_, fun four live => ?_, fun five noFatal => ?_⟩
    · subst zero
      refine answers_tunOf rfl (Tun.errorDetect_taken valid reach free fun one => absurd one (by decide)) fun t e only => ?_
      rw [source] at e
      refine ⟨e, ?_, only⟩
      rw [e]
      exact (congrArg (fun r : Err => r.classes.getLsbD 0) (Tun.writeBack_err ..)).trans (Tun.logError_classes src (by decide) a)
    · subst one
      refine answers_tunOf rfl (Tun.errorDetect_taken valid reach free fun _ => fresh) fun t e only => ?_
      rw [e]
      exact ⟨Tun.unitPoisoned_poisonUnit .., (congrArg Err.next (Tun.poisonUnit_err ..)).trans (Tun.logError_next _ (by decide) a), only⟩
    · subst two store
      refine answers_tunOf rfl (Tun.errorDetect_taken valid reach free fun one => absurd one (by decide)) fun t e only => ?_
      rw [e]
      exact ⟨rfl, rfl, fun running => if_neg (running ▸ by decide), only⟩
    · subst four
      refine answers_tunOf rfl (Tun.errorDetect_taken valid reach free fun one => absurd one (by decide)) fun t e only => ?_
      have fenced := Tun.fenceRequest_svc (t := (s.tun x).logError s.now (BitVec.ofNat 8 src.toNat) 4 a) free up on live s.now 3
      have done : t.tun x = ((s.tun x).logError s.now (BitVec.ofNat 8 src.toNat) 4 a).fenceRequest s.now 3 := e.trans (if_neg live)
      rw [done, fenced]
      exact ⟨rfl, rfl, only⟩
    · subst five
      refine answers_tunOf rfl (Tun.errorDetect_taken valid reach free fun one => absurd one (by decide)) fun t e only => ?_
      have again : ((s.tun x).logError s.now (BitVec.ofNat 8 src.toNat) 5 a).fatalAgain s.now = false := by
        rw [Tun.fatalAgain, (Tun.logError_keeps ..).1, noFatal]
      have done : t.tun x = ((s.tun x).logError s.now (BitVec.ofNat 8 src.toNat) 5 a).warmRequest s.now 5 :=
        e.trans (if_neg (Bool.eq_false_iff.mp again))
      have taken := Tun.warmRequest_taken (t := (s.tun x).logError s.now (BitVec.ofNat 8 src.toNat) 5 a) on free up s.now 5
      rw [done, taken]
      exact ⟨rfl, rfl, only⟩
  case scrubStack =>
    refine answers_tunOf rfl (if_neg (not_not.mpr runs)) fun t e only => ⟨?_, only⟩
    rw [e]
    exact (congrArg (fun u : Tun => Tab.get 0 u.rel.scrubPos n.toNat) (if_pos opened)).trans
      (Tun.scrubStack_pos fitted online awake on some_ short)
  case scrubWort =>
    refine answers_tunOf rfl (if_neg (not_not.mpr runs)) fun t e only => ⟨?_, only⟩
    rw [e, Tun.scrubWort_pos some_ short]
  case calibration =>
    refine answers_tunOf rfl (if_pos (by simp [runs, opened])) fun t e only => ⟨?_, only⟩
    rw [e, Tun.calibrate_pending n.isLt fitted online]
  case cool =>
    refine answers_tunOf rfl (if_neg (by simp [on, free])) fun t e only => ⟨?_, only⟩
    rw [e, Tun.caskTemp_cool fitted online cool]
    exact Tab.get_set_listed _ _ _ real
  case hot =>
    refine answers_tunOf rfl (if_neg (by simp [on, free])) fun t e only => ⟨?_, only⟩
    rw [e, Tun.caskTemp_hot fitted online hot]
    exact Tun.stackOffline_lost (t := (s.tun x).modRel fun r => { r with temps := r.temps.set 0 n.toNat v }) n.isLt fitted online 3
  case selfRefresh =>
    refine answers_tunOf rfl (if_pos (by simp [runs, opened])) fun t e only => ⟨?_, only⟩
    rw [e, Tun.selfRefresh_set n.isLt fitted online free]
  case recal =>
    refine answers_tunOf rfl (if_neg (by simp [on, free])) fun t e only => ⟨?_, only⟩
    rw [e, Tun.serdesRecal_pending present linked]
  case junction =>
    refine answers_tunOf rfl (if_neg (by simp [on, hold, eight])) fun t e only => ?_
    obtain ⟨pin, reads⟩ := Tun.junctionSample_reads (t := s.tun x) (now := s.now) rs
    rw [e, reads]
    refine ⟨rfl, rfl, ?_, only⟩
    dsimp only
    split
    · exact le_rfl
    · omega

end Sys2Proof.Machine
end

section
/-! SUPPORT. The host port's events (chapter 18): what its link, its functions' resets, its doorbell pages and its windows do to a Tun. -/

namespace Sys2Proof.Machine
open Sys2Proof

variable {t u v : Tun} {s : State} {x : TunId} {now : Nat}

/-! ### The link (18 R719, R732) -/

/-- With no load, no stream and no command no host read is outstanding. -/
theorem Tun.failHostReads_none (noLoad : t.sched.loading = none) (noStream : t.bm.streaming = none) (noCmds : t.bm.cmds = []) :
    t.failHostReads now = t := by
  simp [Tun.failHostReads, noLoad, noStream, noCmds]

theorem Tun.hostLinkLoss_idle (up : t.host.linkUp = true) (noLoad : t.sched.loading = none) (noStream : t.bm.streaming = none)
    (noCmds : t.bm.cmds = []) :
    t.hostLinkLoss now = t.modHost fun h => { h with linkUp := false, lost := true, speed := 0, width := 0, flitMode := false } := by
  rw [Tun.hostLinkLoss, if_neg (by simp [up])]
  exact Tun.failHostReads_none noLoad noStream noCmds

/-! ### Resets of functions (18 R730, R731) -/

/-- With no command a lock that leaves its holder changes the Cellar alone. -/
theorem Tun.orphanLocks_idle (noCmds : t.bm.cmds = []) (n : Nat) : (t.orphanLocks n).bm = t.bm := by
  have pass (v : Tun) (idle : v.bm.cmds = []) (k : Half) (id : Nat) (orphan : Bool) : (v.lockPass k id orphan).bm = v.bm := by
    have nobody : v.lockNext k id = none := by simp [Tun.lockNext, Tun.lockWaiters, idle]
    simp only [Tun.lockPass, nobody]
    rfl
  unfold Tun.orphanLocks
  generalize (t.cellar.seqs.filter fun q => q.holder == some n) = qs
  induction qs generalizing t with
  | nil => rfl
  | cons q qs ih =>
    have step := pass t noCmds q.pkey q.id true
    rw [List.foldl_cons]
    refine (ih ?_).trans step
    exact (congrArg Bm.cmds step).trans noCmds

/-- A context reset with no command: the generation advances, and a FAULTED context is RESIDENT again (14 R564). -/
theorem Tun.ctxReset_idle (noCmds : t.bm.cmds = []) {n : Nat} (faulted : (t.ctx n).state = .faulted) :
    (t.ctxReset now n).ctx n = { t.ctx n with state := .resident, gen := (t.ctx n).gen + 1 } := by
  have nobody (v : Tun) (idle : v.bm.cmds = []) : v.runningOf n = [] := by simp [Tun.runningOf, idle]
  have aborted : t.abortAll now n 0x0203 = t.genAdvance n := by rw [Tun.abortAll, nobody t noCmds]; rfl
  have advanced : (t.genAdvance n).ctx n = { t.ctx n with gen := (t.ctx n).gen + 1 } :=
    Tab.get_set_listed _ _ _ fun e => by simpa [faulted] using congrArg Ctx.state e
  have revived : (if ((t.genAdvance n).ctx n).state = .faulted then { (t.genAdvance n).ctx n with state := .resident }
      else (t.genAdvance n).ctx n) = { t.ctx n with state := .resident, gen := (t.ctx n).gen + 1 } := by
    rw [advanced]
    exact if_pos faulted
  have reset := Tun.orphanLocks_idle (t := (t.genAdvance n).modCtx n fun x => if x.state = .faulted then { x with state := .resident } else x)
    noCmds n
  rw [Tun.ctxReset, aborted, Tun.ctx, reset]
  exact (Tab.get_set_listed _ _ _ fun e => by simpa using congrArg Ctx.state (revived.symm.trans e)).trans revived

/-- What the reset of VF `n` leaves of the host port: its configuration bits, masks and pending vectors are clear (18 R730). -/
def HPort.vfReset (n : Nat) (h : HPort) : HPort :=
  { h with
    busMaster := h.busMaster &&& ~~~(1#17 <<< n), d3hot := h.d3hot &&& ~~~(1#17 <<< n), msixEnable := h.msixEnable &&& ~~~(1#17 <<< n)
    masked := h.masked.filter fun k => k / 1024 != n, pendingBits := h.pendingBits.filter fun k => k / 1024 != n }

/-- The reset of a VF clears what is its own there, then resets the context of its slot. -/
theorem Tun.vfFlr_resets {n c : Nat} (present : t.vfExists n = true) (slot : t.slotCtx (n - 1) = some c) :
    t.vfFlr now n = (t.modHost (HPort.vfReset n)).ctxReset now c := by
  have same : (t.modHost (HPort.vfReset n)).slotCtx (n - 1) = some c := slot
  rw [Tun.vfFlr, if_neg (by simp [present])]
  change (match (t.modHost (HPort.vfReset n)).slotCtx (n - 1) with
    | some c => (t.modHost (HPort.vfReset n)).ctxReset now c
    | none => t.modHost (HPort.vfReset n)) = _
  rw [same]

/-- A context reset leaves the host port, with no command. -/
theorem Tun.ctxReset_host (noCmds : t.bm.cmds = []) (n : Nat) : (t.ctxReset now n).host = t.host := by
  have aborted : t.abortAll now n 0x0203 = t.genAdvance n := by
    have nobody : t.runningOf n = [] := by simp [Tun.runningOf, noCmds]
    rw [Tun.abortAll, nobody]
    rfl
  have kept (v : Tun) : (v.orphanLocks n).host = v.host := (Tun.same_orphanLocks (part := .host) (by decide) n).mpr Part.same_self
  rw [Tun.ctxReset, aborted, kept]
  rfl

/-! ### Doorbell pages (18 R717) -/

section
variable {n off : Nat} {w : Word}

/-- A register of the page's queues, below 0x2000. -/
theorem Tun.vfDoorbell_queue (eight : off % 8 = 0) (some_ : 0 < off / 8) (low : off / 8 < 1024) :
    t.vfDoorbell now n off w =
      if (t.queue (off / 8)).valid ∧ some (t.queue (off / 8)).ctx.toNat = t.slotCtx (n - 1) then
        (t.producerDoorbell (off / 8) (bitsOf w 0 16)).arbitrate now
      else t.vfRefuse := by
  rw [Tun.vfDoorbell, if_neg (by omega)]
  exact (if_pos (by omega)).trans (if_neg (by omega))

/-- A register of its completion rings, from 0x2000. -/
theorem Tun.vfDoorbell_ring (eight : off % 8 = 0) (from_ : 1024 ≤ off / 8) (low : off / 8 < 2048) :
    t.vfDoorbell now n off w =
      if (t.ring (off / 8 - 1024)).valid ∧ some (t.ring (off / 8 - 1024)).ctx.toNat = t.slotCtx (n - 1) then
        t.headDoorbell (off / 8 - 1024) (bitsOf w 0 16)
      else t.vfRefuse := by
  rw [Tun.vfDoorbell, if_neg (by omega)]
  exact (if_neg (by omega)).trans (if_pos (by omega))

/-- A register of its streams, from 0x4000. -/
theorem Tun.vfDoorbell_stream (eight : off % 8 = 0) (from_ : 2048 ≤ off / 8) (low : off / 8 < 2304) :
    t.vfDoorbell now n off w =
      if (t.tstream (off / 8 - 2048)).isOpen ∧ some (t.tstream (off / 8 - 2048)).ctx = t.slotCtx (n - 1) then
        t.streamHead (off / 8 - 2048) w
      else t.vfRefuse := by
  rw [Tun.vfDoorbell, if_neg (by omega)]
  exact (if_neg (by omega)).trans ((if_neg (by omega)).trans (if_pos (by omega)))

end

/-- What a doorbell page makes of its Tun, written in a size and alignment that R6 allows. -/
theorem answers_vfDoorbell {P : State → Prop} {vf : BitVec 5} {off : Half} {v : Dword} (present : (s.tun x).vfExists vf.toNat = true)
    (opened : (s.tun x).windowsOpen = true) (eight : off.toNat % 8 = 0)
    (p : ∀ t : State, t.tun x = (s.tun x).vfDoorbell s.now vf.toNat off.toNat (v.setWidth 32) → OnlyTun x s t → P t) :
    Answers (.vfDoorbellWrite x vf off 4 v) s P :=
  answers_tunOf rfl (if_pos ⟨present, opened, by simp [aligned]; omega⟩) p

theorem bitsOf_setWidth (v : Dword) : (bitsOf (v.setWidth 32 : Word) 0 16 : Half) = v.setWidth 16 := by
  apply BitVec.eq_of_toNat_eq
  simp [bitsOf]

/-- A ring's head moves to an index not past its tail (13 R521). -/
theorem Tun.headDoorbell_moves {r : Nat} {i : Half} (valid : (t.ring r).valid = true) (inside : (i - (t.ring r).head).toNat ≤ (t.ring r).unconsumed) :
    (t.headDoorbell r i).ring r = { t.ring r with head := i } := by
  obtain ⟨moves, -, -, still⟩ := Tun.headDoorbell_outcome i valid
  by_cases zero : (i - (t.ring r).head).toNat = 0
  · have same : i = (t.ring r).head := by
      have := (BitVec.toNat_eq (x := i - (t.ring r).head) (y := 0)).mpr zero
      bv_omega
    rw [(still zero).1, same]
  · exact (moves ⟨by omega, inside⟩).1

/-- A stream's head moves to an index not past its tail (17 R683). -/
theorem Tun.streamHead_moves {n : Nat} {i : Word} (live : (t.tstream n).isOpen = true)
    (inside : (i - (t.tstream n).head).toNat ≤ ((t.tstream n).tail - (t.tstream n).head).toNat) :
    (t.streamHead n i).tstream n = { t.tstream n with head := i } := by
  by_cases zero : (i - (t.tstream n).head).toNat = 0
  · have same : i = (t.tstream n).head := by
      have := (BitVec.toNat_eq (x := i - (t.tstream n).head) (y := 0)).mpr zero
      bv_omega
    rw [Tun.streamHead_still zero, same]
  · rw [Tun.streamHead_inside live zero inside]
    exact Tab.get_set_listed _ _ _ fun e => by simpa [live] using congrArg TStream.isOpen e

/-! ### The PF's window (18 R716) -/

/-- Bytes written one after the other to Wort's own addresses, but for those below a bound, read back. -/
theorem Tun.wortByte_wortSets_above (off low : Nat) (b : Nat → Byte) (wf : t.bm.wort.wf 0 = true) {n j : Nat} (hj : j < n) :
    ((List.range n).foldl (fun t i => if off + i < low then t else t.wortSet (off + i) (b i)) t).wortByte (off + j) =
      if off + j < low then t.wortByte (off + j) else b j := by
  induction n with
  | zero => omega
  | succ n ih =>
    obtain ⟨w, before, canonical, kept⟩ := Tun.wortSets_eq (fun i => off + i) b (fun i => decide (off + i < low)) (List.range n) t
    simp only [decide_eq_true_eq] at before
    rw [List.range_succ, List.foldl_append, List.foldl_cons, List.foldl_nil]
    by_cases last : j = n
    · subst last
      have unread : ({ t with bm := { t.bm with wort := w } } : Tun).wortByte (off + j) = t.wortByte (off + j) :=
        kept _ fun i hi _ => by have := List.mem_range.mp hi; omega
      split
      · rw [before, unread]
      · rw [Tun.wortByte_wortSet_same _ _ (by rw [before]; exact canonical wf)]
    · have earlier : j < n := by omega
      split
      · next below => rw [ih earlier]
      · rw [Tun.wortByte_wortSet_other _ (by omega), ih earlier]

theorem Tun.wortByte_wortWindow (off : Nat) (bs : List Byte) (wf : t.bm.wort.wf 0 = true) {i : Nat} (hi : i < bs.length) :
    (t.wortWindow off bs).wortByte (off + i) = if off + i < 32 * blockSize then t.wortByte (off + i) else byteAt bs i := by
  rw [← Tun.wortByte_wortSets_above off (32 * blockSize) (byteAt bs) wf hi]
  obtain ⟨m, marked, -⟩ := Tun.marks_eq id (fun _ => false)
    (fun u => decide (32 * blockSize ≤ 64 * u) && decide (off ≤ 64 * u) && decide (64 * u + 64 ≤ off + bs.length))
    ((List.range ((off + bs.length + 63) / 64 - off / 64)).map (off / 64 + ·))
    ((List.range bs.length).foldl (fun t i => if off + i < 32 * blockSize then t else t.wortSet (off + i) (byteAt bs i)) t)
  have read := congrArg (fun u : Tun => u.wortByte (off + i)) marked
  exact read

/-! ### Reads of host memory and interrupts (18 R719, R723) -/

/-- The only read of the only command ends with its bytes. -/
theorem Tun.hostReadDone_fills {c : Cmd} {f : Fetch} {p : Piece} {bs : List Byte} (only : t.bm.cmds = [c]) (plan : c.plan = [p])
    (fetches : c.fetches = [f]) (host : f.host = true) (waits : f.data = none) (reads : t.hostReads (t.cmdFn c) = true)
    (whole : bs.length = p.len) :
    (t.hostReadDone now c.id 0 (some bs)).bm.cmds = [{ c with fetches := [{ f with data := some bs }] }] := by
  have found : t.cmd c.id = some c := by simp [Tun.cmd, only]
  have filled : t.hostReadDone now c.id 0 (some bs) = t.modCmd c.id fun c => { c with fetches := c.fetches.set 0 { f with data := some bs } } := by
    simp [Tun.hostReadDone, found, plan, fetches, host, waits, reads, whole]
  rw [filled, Tun.modCmd_only only]
  simp [fetches]

section
variable {fn vec : Nat}

/-- The vector's mask bit can be written (18 R723). -/
def Tun.maskable (t : Tun) (fn vec : Nat) : Prop :=
  fn ≤ 16 ∧ vec < (if fn = 0 then 1024 else 64) ∧ t.host.linkUp = true ∧ (fn ≠ 0 → t.host.vfEnable = true)

theorem Tun.maskable_taken (h : t.maskable fn vec) :
    ¬ (16 < fn ∨ (if fn = 0 then 1024 else 64) ≤ vec ∨ ¬ t.host.linkUp ∨ (fn ≠ 0 ∧ ¬ t.host.vfEnable)) := by
  obtain ⟨low, inside, up, enabled⟩ := h
  rintro (high | out | down | ⟨vf, off⟩)
  · omega
  · exact Nat.lt_irrefl _ (Nat.lt_of_lt_of_le inside out)
  · exact down up
  · exact off (enabled vf)

/-- A masked vector stands in the table of masks. -/
theorem Tun.msixMask_masks (h : t.maskable fn vec) : (t.msixMask fn vec true).host.masked.contains (fn * 1024 + vec) = true := by
  rw [Tun.msixMask, if_neg (Tun.maskable_taken h)]
  change (if t.host.masked.contains (fn * 1024 + vec) then t.host.masked else t.host.masked ++ [fn * 1024 + vec]).contains (fn * 1024 + vec) = true
  split
  · assumption
  · simp

/-- A pending vector that is unmasked is sent, once (18 R723). -/
theorem Tun.msixMask_sends (h : t.maskable fn vec) (pending : t.host.pendingBits.contains (fn * 1024 + vec) = true)
    (enabled : t.host.msixEnable.getLsbD fn = true) (awake : t.host.d3hot.getLsbD fn = false) (whole : t.host.lost = false) :
    t.msixMask fn vec false = (t.modHost fun k => { k with
      masked := k.masked.filter (· != fn * 1024 + vec), pendingBits := k.pendingBits.filter (· != fn * 1024 + vec) }).emit
        (.hostMsi fn vec) := by
  rw [Tun.msixMask, if_neg (Tun.maskable_taken h)]
  simp only [pending, enabled, awake, whole, Bool.not_false, Bool.and_self, Bool.false_eq_true, if_false, if_true]

end

/-! ### The statement -/

/-- Settles O41, event by event. -/
theorem hostPortEventsComplete : Obligations.HostPortEventsComplete := by
  intro s x
  dsimp only
  refine ⟨fun cfg speed width flit fast wide => ⟨fun on hold high down => ?train, fun up => ?retrain⟩, ?perst, ?perstEnds,
    fun up noLoad noStream noCmds => ?loss, fun n c present slot faulted noCmds => ?flr, fun up on hold mgmt => ?pfFlr,
    fun n e up => ?sriov, fun vf off v present opened eight => ⟨?queue, ?ring, ?stream, ?refused⟩,
    fun vf off bs c present opened low short slot => ⟨fun inside wf block => ?vfWrites, fun outside => ?vfRefused⟩,
    fun off bs up opened low short wf => ?pfWrites, fun c f p bs only plan fetches host waits reads whole => ?read,
    fun fn vec low vf up whole => ?msix⟩
  case train =>
    refine answers_tunOf rfl (if_neg (by simp [on, hold, high, down, fast, wide])) fun t e only => ⟨?_, only⟩
    rw [e]
    simp [Tun.hostTrained, Tun.offers64, Tun.modHost]
  case retrain =>
    refine answers_tunOf rfl (if_pos ⟨up, fast, wide⟩) fun t e only => ⟨?_, only⟩
    rw [e]
    simp [Tun.hostTrained, Tun.offers64, Tun.modHost]
  case perst => exact answers_tun rfl fun t e only => ⟨by rw [e]; rfl, only⟩
  case perstEnds => exact answers_tun rfl fun t e only => ⟨by rw [e]; rfl, only⟩
  case loss =>
    refine answers_tunOf rfl (Tun.hostLinkLoss_idle up noLoad noStream noCmds) fun t e only => ⟨?_, only⟩
    rw [e]
    rfl
  case flr =>
    refine answers_tunOf rfl (Tun.vfFlr_resets present slot) fun t e only => ?_
    have inside : n.toNat < 17 := by
      simp only [Tun.vfExists, Bool.and_eq_true, decide_eq_true_eq] at present
      omega
    have host := Tun.ctxReset_host (t := (s.tun x).modHost (HPort.vfReset n.toNat)) (now := s.now) noCmds c
    have reset := Tun.ctxReset_idle (t := (s.tun x).modHost (HPort.vfReset n.toNat)) (now := s.now) noCmds faulted
    rw [e, host]
    exact ⟨reset, getLsbD_and_not_bit _ inside, getLsbD_and_not_bit _ inside, only⟩
  case pfFlr =>
    refine answers_tunOf rfl (if_neg (by simp [up])) fun t e only => ?_
    rw [e, Tun.warmRequest_taken on hold mgmt]
    exact ⟨rfl, rfl, rfl, rfl, rfl, only⟩
  case sriov =>
    refine answers_tun rfl fun t e only => ⟨?_, only⟩
    rw [e]
    by_cases runs : (s.tun x).svc.fwRunning = true
    · rw [if_pos ⟨up, runs⟩, if_pos runs]
      rfl
    · rw [if_neg fun both => runs both.2, if_neg runs]
  case queue =>
    intro some_ low valid own moves fits noCmds
    refine answers_vfDoorbell present opened eight fun t e only => ⟨?_, only⟩
    obtain ⟨-, taken, -, -⟩ := Tun.producerDoorbell_outcome (now := s.now) (v.setWidth 16 : Half) valid
    rw [e, Tun.vfDoorbell_queue eight some_ low, if_pos ⟨valid, own⟩, bitsOf_setWidth]
    exact (taken ⟨by bv_omega, fits⟩).1
  case ring =>
    intro from_ low valid own inside
    refine answers_vfDoorbell present opened eight fun t e only => ⟨?_, only⟩
    rw [e, Tun.vfDoorbell_ring eight from_ low, if_pos ⟨valid, own⟩, bitsOf_setWidth]
    exact Tun.headDoorbell_moves valid inside
  case stream =>
    intro from_ low live own inside
    refine answers_vfDoorbell present opened eight fun t e only => ⟨?_, only⟩
    rw [e, Tun.vfDoorbell_stream eight from_ low, if_pos ⟨live, own⟩]
    exact Tun.streamHead_moves live inside
  case refused =>
    intro some_ low other
    refine answers_vfDoorbell present opened eight fun t e only => ?_
    rw [e, Tun.vfDoorbell_queue eight some_ low, if_neg other]
    exact ⟨rfl, rfl, only⟩
  case vfWrites =>
    refine answers_tunOf rfl (if_pos ⟨present, opened, low, short⟩) fun t e only => ⟨?_, only⟩
    have stores : (s.tun x).vfWrite vf.toNat off bs = (s.tun x).shareStore c off bs false := by
      simp only [Tun.vfWrite, slot, inside, if_true]
    rw [e, stores]
    exact Tun.shareRead_shareStore false wf block
  case vfRefused =>
    refine answers_tunOf rfl (if_pos ⟨present, opened, low, short⟩) fun t e only => ?_
    have refuses : (s.tun x).vfWrite vf.toNat off bs = (s.tun x).vfRefuse := by
      simp only [Tun.vfWrite, slot, outside, Bool.false_eq_true, if_false]
    rw [e, refuses]
    exact ⟨rfl, rfl, only⟩
  case pfWrites =>
    refine answers_tunOf rfl (if_pos ⟨up, opened, low, short⟩) fun t e only => ⟨fun i hi => ?_, only⟩
    rw [e, Tun.wortByte_wortWindow off bs wf hi]
  case read =>
    refine answers_tunOf rfl (if_neg (by omega)) fun t e only' => ⟨?_, only'⟩
    have command : 65536 * (c.id + 1) / 65536 - 1 = c.id := by omega
    have first : 65536 * (c.id + 1) % 65536 = 0 := by omega
    rw [e, command, first]
    exact Tun.hostReadDone_fills only plan fetches host waits reads whole
  case msix =>
    have maskable : (s.tun x).maskable fn.toNat vec.toNat := by
      refine ⟨low, ?_, up, fun some_ => (vf fun zero => some_ (congrArg BitVec.toNat zero)).2⟩
      split
      · exact vec.isLt
      · next some_ => exact (vf fun zero => some_ (congrArg BitVec.toNat zero)).1
    refine ⟨fun pending enabled awake => ?_, ?_⟩
    · refine answers_tunOf rfl (Tun.msixMask_sends maskable pending enabled awake whole) fun t e only => ?_
      rw [e]
      exact ⟨rfl, by simp [Tun.emit, Tun.modHost], by simp [Tun.emit, Tun.modHost], only⟩
    · refine answers_tun rfl fun t e only => ⟨?_, only⟩
      rw [e, Tun.msixMask_masks maskable]

end Sys2Proof.Machine
end

section
/-! SUPPORT. The Cellar and Steep commands (chapter 16): what a batch step stages, what a fetch and an attention stage, and a stack that
goes offline. -/

namespace Sys2Proof.Machine
open Sys2Proof

variable {t : Tun} {s : State} {x : TunId} {c : Cmd} {now : Nat}

/-! ### Batch steps (16 R640-R647) -/

/-- A step that passes its entry checks and its page check stages its entries with their staging. -/
theorem Tun.batchWork_stages {es : List BEntry} (checked : t.entriesStart c (t.batchOf c) = .ok es)
    (granted : t.grant c.ctx (t.ctx c.ctx).pkey (es.filter fun e => !e.skip && e.action != 2) t.freePages [] (65536 - t.seqEntries) = []) :
    ∃ bad n, t.batchWork now c = ((t.modCmd c.id fun k => { k with batch := es.map (t.readStaging c), poisoned := k.poisoned || bad }).work
      c cellarUnits n).stage c.id 0 0 0 [] := by
  simp only [Tun.batchWork, checked, granted, List.isEmpty_nil, not_true_eq_false, if_false]
  exact ⟨_, _, rfl⟩

/-- The command of such a step stands staged with the entries. -/
theorem Tun.batchWork_cmd (found : t.cmd c.id = some c) {es : List BEntry} (checked : t.entriesStart c (t.batchOf c) = .ok es)
    (granted : t.grant c.ctx (t.ctx c.ctx).pkey (es.filter fun e => !e.skip && e.action != 2) t.freePages [] (65536 - t.seqEntries) = []) :
    ∃ e, (t.batchWork now c).cmd c.id = some e ∧ e.phase = .staged ∧ e.status = 0 ∧ e.batch = es.map (t.readStaging c) ∧ e.effects = [] := by
  obtain ⟨bad, n, stages⟩ := t.batchWork_stages (now := now) checked granted
  have read := Tun.cmd_modCmd_found found (fun k => { k with batch := es.map (t.readStaging c), poisoned := k.poisoned || bad }) fun _ => rfl
  have worked := (Tun.work_cmd c cellarUnits n c.id).trans read
  rw [stages]
  exact ⟨_, Tun.stage_staged (c := { c with batch := es.map (t.readStaging c), poisoned := c.poisoned || bad }) 0 0 0 [] worked, rfl, rfl, rfl, rfl⟩

/-- SEQ_OPEN's entry: a JOIN with nothing to append (16 R640). -/
def Cmd.openEntry (c : Cmd) : BEntry :=
  { id := leAt c.desc 16 4, action := 1, stripe := byteAt c.desc 26, last := leAt c.desc 24 2 - 1, kind := (byteAt c.desc 20).toNat
    fmt := (byteAt c.desc 21).toNat, heads := (byteAt c.desc 22).toNat, dim := (byteAt c.desc 23).toNat, layers := leAt c.desc 24 2 }

theorem Tun.batchOf_open (hop : c.op = 0x30) : t.batchOf c = [c.openEntry] := by
  simp only [Tun.batchOf, hop, Nat.reduceEqDiff, if_false, if_true]
  rfl

/-- SEQ_CLOSE's entry is a LEAVE. -/
theorem Tun.batchOf_close (hop : c.op = 0x31) : t.batchOf c = [{ id := leAt c.desc 16 4, action := 2 }] := by
  simp only [Tun.batchOf, hop, Nat.reduceEqDiff, if_false]

theorem BEntry.with_skip {e : BEntry} (h : e.skip = false) : { e with skip := false } = e := by
  cases e
  cases h
  rfl

/-- A new sequence passes its entry check (16 Table 16-6). -/
theorem Tun.entriesStart_open {e : BEntry} (join : e.action = 1) (kept : e.skip = false) (new : t.cseq (t.ctx c.ctx).pkey e.id = none) :
    t.entriesStart c [e] = .ok [e] := by
  have check : t.entryStart c e = .ok false := by simp [Tun.entryStart, new, join]
  simp only [Tun.entriesStart, check, BEntry.with_skip kept]

/-- A sequence not locked to another context may be left. -/
theorem Tun.entriesStart_close {e : BEntry} {q : CSeq} (leave : e.action = 2) (kept : e.skip = false)
    (held : t.cseq (t.ctx c.ctx).pkey e.id = some q) (free : q.lockedTo c.ctx = true) : t.entriesStart c [e] = .ok [e] := by
  have check : t.entryStart c e = .ok false := by simp [Tun.entryStart, held, leave, free]
  simp only [Tun.entriesStart, check, BEntry.with_skip kept]

/-- A sequence with nothing to append takes entries alone (16 R645). -/
theorem Tun.grant_open {e : BEntry} {ents : Nat} (empty : e.a = 0) (new : t.cseq (t.ctx c.ctx).pkey e.id = none)
    (room : t.seqRoles e.stripe ≤ ents) (free : Nat) : t.grant c.ctx (t.ctx c.ctx).pkey [e] free [] ents = [] := by
  have needs : t.entryNeeds (t.ctx c.ctx).pkey e = (0, t.seqRoles e.stripe) := by
    simp [Tun.entryNeeds, new, Tun.pagesNeeded, empty]
  have fits (o : Option Nat) : t.quotaShort o [] 0 = false := by
    unfold Tun.quotaShort
    split <;> simp
  simp [Tun.grant, needs, fits, room]

/-- An entry with nothing to append has no staging. -/
theorem Tun.readStaging_empty {e : BEntry} (empty : e.a = 0) (unread : e.data = []) : t.readStaging c e = e := by
  have none_ : t.stagingLen (t.ctx c.ctx).pkey e = 0 := by simp [Tun.stagingLen, empty]
  unfold Tun.readStaging
  split
  · rfl
  · rw [none_]
    cases e
    cases unread
    rfl

theorem Tun.readStaging_leave {e : BEntry} (leave : e.action = 2) : t.readStaging c e = e := if_pos (.inr leave)

/-- What a batch step that passes its checks answers. -/
theorem stagesBatch {i : Instr} {op : Nat} {es bs : List BEntry} (exec_ : exec i s = execOn x c.id [op] (Tun.batchWork s.now) s)
    (serves : (s.tun x).serving = true) (found : (s.tun x).cmd c.id = some c) (started : c.phase = .started) (hop : c.op = op)
    (checked : (s.tun x).entriesStart c ((s.tun x).batchOf c) = .ok es)
    (granted : (s.tun x).grant c.ctx ((s.tun x).ctx c.ctx).pkey (es.filter fun e => !e.skip && e.action != 2) (s.tun x).freePages []
      (65536 - (s.tun x).seqEntries) = [])
    (read : es.map ((s.tun x).readStaging c) = bs) : StagesBatch s x c bs i := by
  refine answers_started exec_ serves found started hop fun t e only => ⟨?_, only⟩
  rw [e, ← read]
  exact Tun.batchWork_cmd found checked granted

/-! ### Locks, fetches and attention (16 R641, R651, R656) -/

theorem Tun.lockWork_lock {q : CSeq} (hop : c.op = 0x32) (held : t.cseq (t.ctx c.ctx).pkey (leAt c.desc 16 4) = some q) (whole : q.lost = false)
    (free : q.holder = none) : t.lockWork now c = t.stage c.id 0 0 0 [] := by
  simp [Tun.lockWork, held, whole, free, hop]

theorem Tun.lockWork_unlock {q : CSeq} (hop : c.op = 0x33) (held : t.cseq (t.ctx c.ctx).pkey (leAt c.desc 16 4) = some q)
    (whole : q.lost = false) (mine : q.holder = some c.ctx) : t.lockWork now c = t.stage c.id 0 0 0 [] := by
  simp [Tun.lockWork, held, whole, mine, hop]

/-- Counted Cask transactions leave the commands. -/
theorem Tun.caskTxns_cmd (ps : List PageRef) (id : Nat) :
    (ps.foldl (fun t p => t.caskTxn now false (caskAddr p.stack p.loc) pageBytes) t).cmd id = t.cmd id := by
  have kept : Part.bm.same t (ps.foldl (fun t p => t.caskTxn now false (caskAddr p.stack p.loc) pageBytes) t) :=
    (Part.same_foldl (part := .bm) ps fun t p => (Tun.same_caskTxn (part := .bm) (by decide) now false _ _).mpr Part.same_self).mpr Part.same_self
  exact congrArg (fun b : Bm => b.cmds.find? (·.id == id)) kept

/-- A fetch of rows without poison stages them at their places (16 R641). -/
theorem Tun.fetchWork_staged {q : CSeq} (found : t.cmd c.id = some c) (held : t.cseq (t.ctx c.ctx).pkey (leAt c.desc 16 4) = some q)
    (whole : q.lost = false) :
    let rows := t.fetchRows q (byteAt c.desc 20 == 1) (leAt c.desc 22 2) (leAt c.desc 24 4) (leAt c.desc 28 4)
    let l := locOf (c.desc.drop 32)
    rows.any (fun r => anyPoison r.2) = false →
    Staged (t.fetchWork now c) c 0 0 0 (rows.flatMap fun r => t.locEffects c { l with addr := l.addr + BitVec.ofNat 64 r.1 } r.2) := by
  intro rows l good
  unfold Tun.fetchWork
  simp only [held, whole, Bool.false_eq_true, false_and, if_false]
  rw [if_neg (Bool.eq_false_iff.mp good)]
  exact Tun.stage_staged _ _ _ _ (by rw [Tun.work_cmd, Tun.caskTxns_cmd, found])

/-- An attention that reads no lost page and is not merged stages its records (16 R656). -/
theorem Tun.steepWork_staged (found : t.cmd c.id = some c) (readable : t.readsLost c = false) (alone : (steepOf c.desc).merge = false) :
    ∃ e, (t.steepWork now c).cmd c.id = some e ∧ e.phase = .staged ∧ e.status = 0 ∧
      e.effects = wortEffects c.ctx (steepOf c.desc).out (t.steepRecords c) := by
  have outputs (v : Tun) : v.steepOutputs c (t.steepRecords c) = wortEffects c.ctx (steepOf c.desc).out (t.steepRecords c) := by
    simp [Tun.steepOutputs, alone]
  unfold Tun.steepWork
  rw [if_neg (by simp [readable])]
  extract_lets ps bad own marked f k pages read bytes
  have marks := Tun.cmd_modCmd_found found (fun k => { k with poisoned := k.poisoned || bad, batch := own }) fun _ => rfl
  have worked : (read.work c steepUnits bytes).cmd c.id = some { c with poisoned := c.poisoned || bad, batch := own } := by
    rw [Tun.work_cmd]
    exact (Tun.caskTxns_cmd pages c.id).trans marks
  have staged := Tun.stage_staged (c := { c with poisoned := c.poisoned || bad, batch := own }) 0 0 0 (read.steepOutputs c ps) worked
  exact ⟨_, staged, rfl, rfl, outputs read⟩

/-! ### Pages and stacks (16 R647, R660, 19 R757) -/

/-- With no attention running every freed page returns. -/
theorem Tun.pageRelease_all (idle : t.steepsRunning = []) : t.pageRelease.cellar = { t.cellar with freeing := [] } := by
  simp [Tun.pageRelease, Tun.modCellar, idle]

/-- A stack that goes offline takes its sequences with it. -/
theorem Tun.stackOffline_seqs {n : Nat} (fitted : n < t.asm.casks) (online : t.cellar.lostStacks.getLsbD n = false) (cause : Nat) :
    ∀ q ∈ (t.stackOffline now n cause).cellar.seqs, q.pages.any (fun p => p.stack == n) = true → q.lost = true := by
  have fits : ¬ t.asm.casks ≤ n := by omega
  rw [Tun.stackOffline, if_neg (by simp [fits, online])]
  extract_lets recorded aborted marked
  intro q member
  obtain ⟨r, -, rfl⟩ := List.mem_map.mp member
  split
  · exact fun _ => rfl
  · next apart => exact fun on => absurd on apart

/-- A Cask PLL that loses lock takes its stack offline (04 R112). -/
theorem Tun.caskPllLost_lost {n : Nat} (inside : n < 8) (fitted : n < t.asm.casks) (online : t.cellar.lostStacks.getLsbD n = false)
    (locked : t.clk.caskLock.getLsbD n = true) :
    (t.caskPllLost now n).clk.caskLock.getLsbD n = false ∧ (t.caskPllLost now n).cellar.lostStacks.getLsbD n = true := by
  have kept (v : Tun) : (v.stackOffline now n 1).clk = v.clk := (Tun.same_stackOffline (part := .clk) (by decide) now n 1).mpr Part.same_self
  rw [Tun.caskPllLost, if_pos locked, kept]
  refine ⟨getLsbD_and_not_bit _ inside, ?_⟩
  generalize unlocked : ({ t with clk := _ } : Tun) = v
  have fits : n < v.asm.casks := by subst unlocked; exact fitted
  have held : v.cellar.lostStacks.getLsbD n = false := by subst unlocked; exact online
  exact Tun.stackOffline_lost inside fits held 1

/-! ### The statement -/

/-- Settles O37, opcode by opcode. -/
theorem cellarCommandsComplete : Obligations.CellarCommandsComplete := by
  intro s x
  dsimp only
  refine ⟨fun c serves found started => ⟨?seqOpen, ?seqClose, ?kvAppend, ?batch, ?lock, ?unlock, ?fetch, ?steep⟩, ?release,
    fun n cause fitted online low high full free noCmds => ?offline, fun n fitted online locked noCmds => ?pll⟩
  case seqOpen =>
    intro hop new room
    have checked := Tun.entriesStart_open (t := s.tun x) (c := c) (e := c.openEntry) rfl rfl new
    rw [← Tun.batchOf_open hop] at checked
    refine stagesBatch rfl serves found started hop checked ?_ ?_
    · rw [Tun.batchOf_open hop]
      exact Tun.grant_open (t := s.tun x) (c := c) (e := c.openEntry) rfl new room (s.tun x).freePages
    · rw [Tun.batchOf_open hop, List.map_singleton, Tun.readStaging_empty rfl rfl]
  case seqClose =>
    intro q hop held free
    have checked := Tun.entriesStart_close (t := s.tun x) (c := c) (e := { id := leAt c.desc 16 4, action := 2 }) rfl rfl held free
    rw [← Tun.batchOf_close hop] at checked
    refine stagesBatch rfl serves found started hop checked ?_ ?_
    · rw [Tun.batchOf_close hop]
      rfl
    · rw [Tun.batchOf_close hop, List.map_singleton, Tun.readStaging_leave rfl]
  case kvAppend => exact fun es hop checked granted => stagesBatch rfl serves found started hop checked granted rfl
  case batch => exact fun es hop checked granted => stagesBatch rfl serves found started hop checked granted rfl
  case lock =>
    intro q hop held whole free
    refine answers_started rfl serves found started hop fun t e only => ⟨?_, only⟩
    rw [e, Tun.lockWork_lock hop held whole free]
    exact Tun.stage_staged 0 0 0 [] found
  case unlock =>
    intro q hop held whole mine
    refine answers_started rfl serves found started hop fun t e only => ⟨?_, only⟩
    rw [e, Tun.lockWork_unlock hop held whole mine]
    exact Tun.stage_staged 0 0 0 [] found
  case fetch =>
    intro q hop held whole good
    refine answers_started rfl serves found started hop fun t e only => ⟨?_, only⟩
    rw [e]
    exact Tun.fetchWork_staged found held whole good
  case steep =>
    intro hop readable alone
    refine answers_started rfl serves found started hop fun t e only => ⟨?_, only⟩
    rw [e]
    exact Tun.steepWork_staged found readable alone
  case release =>
    intro idle
    refine answers_tun rfl fun t e only => ⟨?_, only⟩
    rw [e, Tun.pageRelease_all idle]
  case offline =>
    have valid : cause ≠ 0 := fun zero => by simp [zero] at low
    have taken : ¬ (cause = 0 ∨ 4 < cause.toNat ∨ (s.tun x).svc.state = .off ∨ (s.tun x).svc.hold ≠ .none_) := by
      rintro (zero | above | off | held)
      · exact valid zero
      · omega
      · simp [full] at off
      · exact held free
    refine answers_tunOf rfl (if_neg taken) fun t e only => ?_
    rw [e]
    exact ⟨Tun.stackOffline_lost n.isLt fitted online _, Tun.stackOffline_seqs fitted online _, only⟩
  case pll =>
    refine answers_tun rfl fun t e only => ?_
    rw [e]
    obtain ⟨unlocked, lost⟩ := Tun.caskPllLost_lost (now := s.now) n.isLt fitted online locked
    exact ⟨unlocked, lost, only⟩

end Sys2Proof.Machine
end

section
/-! SUPPORT. Groups and collectives (chapter 15): what sending and storing leave of a Tun, how a group's place is taken, and what a chunk, a
push and a Tap contribution do. -/

namespace Sys2Proof.Machine
open Sys2Proof

variable {t u v : Tun} {s : State} {x : TunId} {c : Cmd} {now : Nat}

/-! ### What sending and storing leave -/

/-- From `u` to `v` the Tun's number, its commands and its groups are as they were. -/
structure Steady (u v : Tun) : Prop where
  number : v.number = u.number
  cmds : v.bm.cmds = u.bm.cmds
  groups : v.mash.groups = u.mash.groups

theorem Steady.refl : Steady u u := ⟨rfl, rfl, rfl⟩

theorem Steady.trans (h : Steady u t) (k : Steady t v) : Steady u v :=
  ⟨k.number.trans h.number, k.cmds.trans h.cmds, k.groups.trans h.groups⟩

theorem Steady.foldl {α : Type} {f : Tun → α → Tun} (step : ∀ t a, Steady t (f t a)) (l : List α) : Steady t (l.foldl f t) := by
  induction l generalizing t with
  | nil => exact .refl
  | cons a l ih => exact (step t a).trans ih

theorem Tun.bumpBy_steady (g k i n : Nat) : Steady t (t.bumpBy g k i n) := ⟨rfl, rfl, rfl⟩

theorem Tun.work_steady (kind : List Nat) (n : Nat) : Steady t (t.work c kind n) := by
  obtain ⟨h, e⟩ := t.work_eq c kind n
  rw [e]
  exact ⟨rfl, rfl, rfl⟩

theorem Tun.drop_steady (code port : Nat) (p : Packet) : Steady t (t.drop code port p) := by
  unfold Tun.drop
  dsimp only
  split <;> exact ⟨rfl, rfl, rfl⟩

theorem Tun.queueOut_steady (ps : List Packet) : Steady t (t.queueOut now ps) := by
  unfold Tun.queueOut Tun.refillEngine Tun.peak
  dsimp only
  split <;> exact ⟨rfl, rfl, rfl⟩

theorem Tun.dropAnswered_steady (code port : Nat) (p : Packet) : Steady t (t.dropAnswered now code port p) := by
  unfold Tun.dropAnswered
  split
  · split
    · exact (Tun.drop_steady ..).trans (Tun.queueOut_steady _)
    · exact Tun.drop_steady ..
  · exact Tun.drop_steady ..

theorem Tun.formOwn_steady (p : Packet) : Steady t (t.formOwn now p).2 := by
  unfold Tun.formOwn
  extract_lets own
  split
  · split
    · exact Tun.drop_steady ..
    · exact Steady.foldl (fun t _ => t.drop_steady ..) _
  · split
    · exact Tun.dropAnswered_steady ..
    · split
      · exact ⟨rfl, rfl, rfl⟩
      · exact .refl

theorem Tun.originate_steady (p : Packet) : Steady t (t.originate now p) := (Tun.formOwn_steady p).trans (Tun.queueOut_steady _)

theorem Tun.notice_steady (gn : Nat) (g : Group) (inst kind dst : Nat) (gen : Byte) (through : Nat) (st : Half) :
    Steady t (t.notice now gn g inst kind dst gen through st) := Tun.originate_steady _

theorem Tun.shareStore_steady (k off : Nat) (bs : List Byte) (p : Bool) : Steady t (t.shareStore k off bs p) := by
  obtain ⟨w, m, e, -⟩ := t.shareStore_eq k off bs p
  rw [e]
  exact ⟨rfl, rfl, rfl⟩

theorem Tun.caskWriteP_steady (a : Nat) (ps : List PByte) : Steady t (t.caskWriteP now a ps) := by
  obtain ⟨w, m, r, h, e, -⟩ := t.caskWriteP_eq now a ps
  rw [e]
  exact ⟨rfl, rfl, rfl⟩

theorem Tun.handOut_steady (p : Packet) : Steady t (t.handOut now c p) := by
  refine (Tun.formOwn_steady p).trans (Steady.foldl (fun t q => ?_) _)
  split
  · exact ⟨rfl, rfl, rfl⟩
  · exact Tun.queueOut_steady _

theorem Tun.hostWrite_steady (fn : Option Nat) (addr : Nat) (bs : List Byte) (p : Bool) : Steady t (t.hostWrite fn addr bs p) := by
  unfold Tun.hostWrite
  split
  · split <;> exact ⟨rfl, rfl, rfl⟩
  · exact ⟨rfl, rfl, rfl⟩

theorem Tun.applyLocal_steady (e : Effect) : Steady t (t.applyLocal now c e) := by
  unfold Tun.applyLocal
  split
  · exact Tun.shareStore_steady ..
  · split
    · split
      · exact .refl
      · exact Tun.caskWriteP_steady ..
    · exact .refl
  · exact .refl

theorem Tun.applyRemote_steady (e : Effect) : Steady t (t.applyRemote now c e) := by
  unfold Tun.applyRemote
  split
  · exact Tun.handOut_steady _
  · exact Tun.hostWrite_steady ..
  · exact .refl

theorem Tun.applyEffects_steady (es : List Effect) : Steady t (t.applyEffects now c es) :=
  (Steady.foldl (fun t e => t.applyLocal_steady e) es).trans (Steady.foldl (fun t e => t.applyRemote_steady e) es)

theorem Steady.cmd (h : Steady u v) (id : Nat) : v.cmd id = u.cmd id := by simp only [Tun.cmd, h.cmds]

theorem Steady.group (h : Steady u v) (n : Nat) : v.group n = u.group n := by simp only [Tun.group, h.groups]

/-- The chunks a Tun owns depend on its number alone. -/
theorem Tun.chunksOwned_congr (number : v.number = u.number) (g : Group) (f : Coll) (op : Nat) : v.chunksOwned g f op = u.chunksOwned g f op := by
  simp only [Tun.chunksOwned, Tun.ownGranules, Tun.stripe, Tun.maskPos, number]

/-! ### Group opcodes (15 R581-R585, R617) -/

/-- With no other command a group's change ends none. -/
theorem Alone.groupStale (h : Alone u c) (notPull : pullOp c.op = false) (n : Nat) (g : Group) (keep : List Nat) (gen : Option Byte) :
    u.groupStale now n g keep gen = u := by
  obtain ⟨only, running, -⟩ := h
  simp [Tun.groupStale, only, notPull, running]

theorem Alone.groupPushing (h : Alone u c) (notPush : c.op ≠ 0x48) (n : Nat) : u.groupPushing n = false := by
  obtain ⟨only, -⟩ := h
  simp [Tun.groupPushing, only, notPush]

/-- A command's own group is the one under its number. -/
theorem Tun.ownGroup_group {g : Group} (own : t.ownGroup c = some g) : t.group c.groupNo = some g := by
  unfold Tun.ownGroup at own
  split at own
  · next formed => split at own <;> cases own; exact formed
  · cases own

theorem Tun.group_congr (n : Nat) (mash : v.mash = u.mash) : v.group n = u.group n := by simp only [Tun.group, mash]

/-- A group added under a free number is found under it. -/
theorem Tun.group_added {n : Nat} {g : Group} (free : t.group n = none) :
    (t.modMash fun m => { m with groups := m.groups ++ [(n, g)] }).group n = some g := by
  have none_ : t.mash.groups.find? (fun e => e.1 == n) = none := Option.map_eq_none_iff.mp free
  simp [Tun.group, Tun.modMash, List.find?_append, none_]

theorem Tun.group_removed (n : Nat) : (t.modMash fun m => { m with groups := m.groups.filter (·.1 != n) }).group n = none := by
  simp [Tun.group, Tun.modMash]

/-- GROUP_FORM under a free number adds the group with its members (15 R583). -/
theorem Tun.groupForm_adds {ms : List Member} (listed : t.groupList c (leAt c.desc 56 4) (leAt c.desc 60 4) = .ok ms)
    (free : t.group c.groupNo = none) (room : t.mash.groups.length < 256) :
    ∃ g : Group, t.groupForm now c = (t.modMash fun m => { m with groups := m.groups ++ [(c.groupNo, g)] }).completeNow now c 0 0 0 ∧
      g.members = ms ∧ g.gen = byteAt c.desc 18 ∧ g.ctx = c.ctx ∧ g.queue = c.queue ∧ g.places = [] ∧ g.landOff = leAt c.desc 56 4 ∧
      g.landBytes = leAt c.desc 60 4 := by
  have short : ¬ 256 ≤ t.mash.groups.length := by omega
  simp only [Tun.groupForm, listed, free, Option.isSome_none, Bool.false_eq_true, short, if_false]
  exact ⟨_, rfl, rfl, rfl, rfl, rfl, rfl, rfl, rfl⟩

/-- GROUP_REFORM gives the group its new generation and members, with nothing of the old one's instances (15 R617). -/
theorem Alone.groupReform_renews (h : Alone u c) (hop : c.op = 0x41) {g : Group} {ms : List Member} (own : u.ownGroup c = some g)
    (fresh : byteAt c.desc 18 ≠ g.gen) (listed : u.groupList c g.landOff g.landBytes = .ok ms) :
    u.groupReform now c = (u.modGroup c.groupNo fun g => { g with
      gen := byteAt c.desc 18, tunMask := BitVec.ofNat 32 (leAt c.desc 20 4), members := ms, places := [] }).completeNow now c 0 0 0 := by
  have notPull : pullOp c.op = false := by rw [hop]; rfl
  have idle := h.groupPushing (by rw [hop]; decide) c.groupNo
  simp only [Tun.groupReform, own, fresh, listed, idle, h.groupStale notPull, Bool.false_eq_true, if_false]

theorem Alone.groupDisband_removes (h : Alone u c) (hop : c.op = 0x42) {g : Group} (own : u.ownGroup c = some g) :
    u.groupDisband now c = (u.modMash fun m => { m with groups := m.groups.filter (·.1 != c.groupNo) }).completeNow now c 0 0 0 := by
  have notPull : pullOp c.op = false := by rw [hop]; rfl
  have idle := h.groupPushing (by rw [hop]; decide) c.groupNo
  simp only [Tun.groupDisband, own, idle, h.groupStale notPull, Bool.false_eq_true, if_false]

/-! ### A command takes its instance (15 R588, R602) -/

/-- The place of instance `i` in group `n` is a command's, with nothing left of what came early. -/
def Tun.opened (t : Tun) (n i id : Nat) : Prop := ∃ g, t.group n = some g ∧ (g.place i).cmd = some id ∧ (g.place i).early = []

theorem Group.place_inst (g : Group) (n : Nat) : (g.place n).inst = n := by
  unfold Group.place
  cases found : g.places.find? (·.inst == n) with
  | none => rfl
  | some p => simpa using List.find?_some found

/-- A place that keeps its number reads what was written to it. -/
theorem Group.place_set (g : Group) {n : Nat} {p : Place} (named : p.inst = n) : (g.setPlace p).place n = p := by
  subst named
  exact g.place_setPlace p

theorem Group.openInst_cmd (g : Group) (n id : Nat) : ((g.openInst n id).place n).cmd = some id := by
  unfold Group.openInst
  extract_lets older taken
  rw [Group.place_set]
  exact Group.place_inst taken n

/-- Landed bytes leave a place its command and what came early. -/
theorem Tun.opened_landBytesAt {n i id m off : Nat} {bs : List Byte} {p : Bool} (h : t.opened n i id) :
    ((t.landBytesAt n c i m off bs p).getD t.discardContrib).opened n i id := by
  obtain ⟨g, formed, taken, empty⟩ := h
  unfold Tun.landBytesAt
  simp only [formed]
  split
  · exact ⟨g, formed, taken, empty⟩
  · have stored := (Tun.shareStore_steady (t := t) g.ctx (g.landOff + m * g.landBytes + (off - t.startOf g c m)) bs p).group n
    refine ⟨_, Tun.group_modGroup (stored.trans formed) _, ?_⟩
    rw [Group.place_set]
    · exact ⟨taken, empty⟩
    · exact Group.place_inst g i

/-- What came early lands as the command takes its place. -/
theorem Tun.openInstance_opened {g : Group} (formed : t.group c.groupNo = some g) :
    (t.openInstance c).opened c.groupNo c.instanceNo c.id := by
  have first := Tun.group_modGroup formed (Group.openInst c.instanceNo c.id)
  have lands (l : List (Nat × Nat × List Byte × Bool)) (v : Tun) (h : v.opened c.groupNo c.instanceNo c.id) :
      (l.foldl (fun t e => (t.landBytesAt c.groupNo c c.instanceNo e.1 e.2.1 e.2.2.1 e.2.2.2).getD t.discardContrib) v).opened
        c.groupNo c.instanceNo c.id := by
    induction l generalizing v with
    | nil => exact h
    | cons e l ih => exact ih _ (Tun.opened_landBytesAt h)
  unfold Tun.openInstance
  simp only [first]
  have emptied : ((t.modGroup c.groupNo (Group.openInst c.instanceNo c.id)).modGroup c.groupNo
      (Group.setPlace { (g.openInst c.instanceNo c.id).place c.instanceNo with early := [] })).opened c.groupNo c.instanceNo c.id := by
    refine ⟨_, Tun.group_modGroup first _, ?_⟩
    rw [Group.place_set]
    · exact ⟨Group.openInst_cmd .., rfl⟩
    · exact Group.place_inst ..
  split
  · exact lands _ _ emptied
  · exact lands _ _ emptied

theorem Tun.landBytesAt_number (n i m off : Nat) (bs : List Byte) (p : Bool) :
    ((t.landBytesAt n c i m off bs p).getD t.discardContrib).number = t.number := by
  unfold Tun.landBytesAt
  cases t.group n with
  | none => rfl
  | some g =>
    dsimp only
    split
    · rfl
    · exact (Tun.shareStore_steady g.ctx _ bs p).number

theorem Tun.openInstance_number : (t.openInstance c).number = t.number := by
  have lands (l : List (Nat × Nat × List Byte × Bool)) (v : Tun) :
      (l.foldl (fun t e => (t.landBytesAt c.groupNo c c.instanceNo e.1 e.2.1 e.2.2.1 e.2.2.2).getD t.discardContrib) v).number = v.number := by
    induction l generalizing v with
    | nil => rfl
    | cons e l ih => exact (ih _).trans (Tun.landBytesAt_number ..)
  unfold Tun.openInstance
  dsimp only
  split
  · rfl
  · split
    · exact lands _ _
    · exact lands _ _

/-- A collective that owns chunks takes its place and goes on (15 R588). -/
theorem Tun.collOpen_opens {g : Group} (formed : t.group c.groupNo = some g) (free : t.holdsInstance c = false)
    (owns : 0 < t.chunksOwned g (collOf c.desc) c.op) : t.collOpen now c = t.openInstance c := by
  have still : (t.openInstance c).chunksOwned g (collOf c.desc) c.op ≠ 0 := by
    rw [Tun.chunksOwned_congr Tun.openInstance_number]
    omega
  simp only [Tun.collOpen, formed, free, Bool.false_eq_true, if_false, still]

theorem takesInstance {i : Instr} {op : Nat} {g : Group} (runs : exec i s = execOn x c.id [op] (Tun.collOpen s.now) s)
    (serves : (s.tun x).serving = true) (found : (s.tun x).cmd c.id = some c) (started : c.phase = .started)
    (formed : (s.tun x).group c.groupNo = some g) (free : (s.tun x).holdsInstance c = false)
    (owns : 0 < (s.tun x).chunksOwned g (collOf c.desc) c.op) (hop : c.op = op) : TakesInstance s x c i := by
  refine answers_started runs serves found started hop fun t e only => ⟨?_, only⟩
  rw [e, Tun.collOpen_opens formed free owns]
  exact Tun.openInstance_opened formed

/-! ### Chunks (15 R603-R606) -/

/-- The command `id` has its reads planned. -/
def Tun.hasPlan (t : Tun) (id : Nat) (ps : List Piece) : Prop := ∃ e, t.cmd id = some e ∧ e.planned = true ∧ e.plan = ps

theorem Tun.hasPlan_congr {id : Nat} {ps : List Piece} (same : v.cmd id = u.cmd id) (h : u.hasPlan id ps) : v.hasPlan id ps := by
  rw [Tun.hasPlan, same]
  exact h

/-- A read that is issued, or waits, leaves the plan. -/
theorem Tun.hasPlan_issueNext {id : Nat} {ps : List Piece} (h : t.hasPlan id ps) : (t.issueNext now id).hasPlan id ps := by
  obtain ⟨e, found, planned, plan⟩ := h
  have added {v : Tun} (at_v : v.cmd id = some e) (f : Fetch) :
      (v.modCmd id fun c => { c with fetches := c.fetches ++ [f] }).hasPlan id ps := by
    have read := Tun.cmd_modCmd (t := v) id (fun c => { c with fetches := c.fetches ++ [f] }) fun _ same => same
    exact ⟨{ e with fetches := e.fetches ++ [f] }, read.trans (congrArg _ at_v), planned, plan⟩
  unfold Tun.issueNext
  simp only [found]
  split
  · exact ⟨e, found, planned, plan⟩
  · split
    · exact added found _
    · split
      · split
        · exact added found _
        · exact added found _
      · split
        · exact ⟨e, found, planned, plan⟩
        · exact Tun.hasPlan_congr ((Tun.originate_steady _).cmd id) (added found _)

theorem Tun.hasPlan_planReads (found : t.cmd c.id = some c) (ps : List Piece) : (t.planReads now c.id ps).hasPlan c.id ps := by
  have issued (n : Nat) (v : Tun) (h : v.hasPlan c.id ps) : (v.issueN now c.id n).hasPlan c.id ps := by
    induction n generalizing v with
    | zero => exact h
    | succ n ih => exact ih _ (Tun.hasPlan_issueNext h)
  have planned : (t.modCmd c.id fun k => { k with plan := ps, planned := true, fetches := [] }).hasPlan c.id ps :=
    ⟨_, Tun.cmd_modCmd_found found (fun k => { k with plan := ps, planned := true, fetches := [] }) fun _ => rfl, rfl, rfl⟩
  unfold Tun.planReads Tun.issueReads
  split
  · exact issued _ _ planned
  · exact planned

/-- No piece a chunk gathers is read from host memory. -/
theorem Tun.gatherPieces_local (g : Group) (src m a b : Nat) : ∀ p ∈ t.gatherPieces g c src m a b, p.host = false := by
  unfold Tun.gatherPieces
  split
  · exact fun p member => absurd member List.not_mem_nil
  · dsimp only
    split
    · unfold readyPieces
      split
      · intro p member
        obtain ⟨_, -, rfl⟩ := List.mem_map.mp member
        rfl
      · intro p member
        obtain rfl := List.mem_singleton.mp member
        rfl
    · intro p member
      obtain ⟨_, -, rfl⟩ := List.mem_map.mp member
      rfl

/-- The reads of a chunk whose inputs are ready (15 R605). -/
def Tun.chunkPlan (t : Tun) (g : Group) (c : Cmd) : List Piece :=
  (t.chunkNeeds g c).flatMap fun k => (t.gatherPieces g c (collOf c.desc).src k.1 k.2.1 k.2.2.1).map fun p => { p with tag := k.2.2.2 }

theorem Tun.chunkPlan_local (g : Group) : (t.chunkPlan g c).any (·.host) = false := by
  refine List.any_eq_false.mpr fun p member => ?_
  obtain ⟨k, -, inside⟩ := List.mem_flatMap.mp member
  obtain ⟨q, gathered, rfl⟩ := List.mem_map.mp inside
  simpa using Tun.gatherPieces_local g _ _ _ _ q gathered

theorem Tun.chunkReady_plans {g : Group} (hop : c.op = 0x43) (formed : t.group c.groupNo = some g) (holds : t.holdsInstance c = true)
    (new : c.planned = false) (ready : ((t.chunkNeeds g c).all fun k => g.ready c.instanceNo c.progress k.1 k.2.1 k.2.2.1) = true) :
    t.chunkReady now c = t.planReads now c.id (t.chunkPlan g c) := by
  have planned : t.planOrFail now c (t.chunkPlan g c) = t.planReads now c.id (t.chunkPlan g c) := by
    simp [Tun.planOrFail, Tun.chunkPlan_local]
  simp only [Tun.chunkReady, formed, holds, hop, new, ready, not_true_eq_false, Bool.false_eq_true, Nat.reduceEqDiff, false_and, if_false, if_true]
  exact planned

/-- A chunk that is Racked, not the last, leaves its command with the next one to plan (15 R606). -/
theorem Tun.chunkRack_advances {g : Group} (found : t.cmd c.id = some c) (hop : c.op = 0x43) (formed : t.group c.groupNo = some g)
    (holds : t.holdsInstance c = true) (fetched : c.fetched = true) (serves : t.serving = true)
    (more : c.progress + 1 < t.chunksOwned g (collOf c.desc) c.op) :
    ∃ e, (t.chunkRack now c).cmd c.id = some e ∧ e.progress = c.progress + 1 ∧ e.planned = false ∧ e.fetches = [] := by
  unfold Tun.chunkRack
  split
  · next none_ => cases formed.symm.trans none_
  next g' formed' =>
  obtain rfl := Option.some.inj (formed.symm.trans formed')
  extract_lets f m e ins res racked noticed bad moved
  rw [if_neg (by simp [serves, holds, fetched, hop])]
  have rackedSteady : Steady t racked := (Tun.work_steady ..).trans (Tun.applyEffects_steady _)
  have noticedSteady : Steady t noticed := by
    simp only [noticed]
    split
    · exact rackedSteady.trans (Steady.foldl (fun t i => Tun.notice_steady ..) _)
    · exact rackedSteady
  have movedCmd := Tun.cmd_modCmd_found ((noticedSteady.cmd c.id).trans found) (fun c => { c with
    progress := c.progress + 1, planned := false, plan := [], fetches := [], poisoned := c.poisoned || bad }) fun _ => rfl
  have owned : moved.chunksOwned g f c.op = t.chunksOwned g f c.op := Tun.chunksOwned_congr noticedSteady.number ..
  change ∃ e, (match moved.cmd c.id with
    | some c => if moved.chunksOwned g f c.op ≤ c.progress then moved.collFinish now c g else moved
    | none => moved).cmd c.id = some e ∧ _
  rw [movedCmd]
  dsimp only
  rw [if_neg (by rw [owned]; exact Nat.not_le.mpr more)]
  exact ⟨_, movedCmd, rfl, rfl, rfl⟩

/-! ### Push mode (15 R610-R612) -/

/-- Groups stay through a fold when each of its steps leaves them. -/
theorem Tun.groups_foldl {α : Type} {f : Tun → α → Tun} (h : ∀ t a, (f t a).mash.groups = t.mash.groups) (l : List α) :
    (l.foldl f t).mash.groups = t.mash.groups := by
  induction l generalizing t with
  | nil => rfl
  | cons a l ih => exact ih.trans (h t a)

/-- Producing output ranges, and a tile that joins, change no group. -/
theorem Tun.pushProduce_groups (a b : Nat) : (t.pushProduce now c a b).mash.groups = t.mash.groups := by
  unfold Tun.pushProduce
  split
  · rfl
  · extract_lets f op own fresh es runs made done sent
    have kept : made.mash.groups = t.mash.groups := by
      refine Tun.groups_foldl (t := t) (fun v r => ?_) runs
      exact (Tun.applyEffects_steady (t := v) (now := now) (c := c) (v.chunkOutputs _ f c op r.1 r.2.1 r.2.2).1).groups
    exact kept

theorem Tun.pushTile_groups (g : Group) (m off : Nat) (bs : List Byte) (poison forfeit : Bool) (pipe : Option Nat) :
    (t.pushTile now c g m off bs poison forfeit pipe).mash.groups = t.mash.groups := by
  unfold Tun.pushTile
  extract_lets u f joined marked r
  have kept : marked.mash.groups = t.mash.groups := by
    simp only [marked]
    split <;> rfl
  split
  · rfl
  · split
    · exact (Tun.pushProduce_groups ..).trans kept
    · exact kept

/-- PUSH_COLLECTIVE takes up the tiles that came early, and none is left (15 R610). -/
theorem Tun.pushOpen_takes {g : Group} (formed : t.group c.groupNo = some g) :
    ∃ g', (t.pushOpen now c).group c.groupNo = some g' ∧ (g'.place c.instanceNo).early = [] := by
  have emptied := Tun.group_modGroup formed (Group.setPlace { g.place c.instanceNo with early := [] })
  refine ⟨_, ?_, congrArg Place.early (Group.place_set g (p := { g.place c.instanceNo with early := [] }) (g.place_inst c.instanceNo))⟩
  rw [← emptied, Tun.pushOpen, formed]
  simp only [Tun.group]
  refine congrArg (fun l : List (Nat × Group) => (l.find? fun e => e.1 == c.groupNo).map (·.2)) (Tun.groups_foldl (fun v e => ?_) _)
  split
  · exact Tun.pushTile_groups ..
  · rfl

/-- A command that asks for no notices sends none. -/
theorem Tun.doneNotices_none (quiet : (collOf c.desc).notify = 0) (g : Group) (st : Half) (keep : List Nat) :
    t.doneNotices now c g st keep = t := by
  unfold Tun.doneNotices
  dsimp only
  rw [if_pos (.inl quiet)]

/-- A push command ends with its status and what it has produced (15 R612). -/
theorem Alone.pushEnd_records (h : Alone u c) (same : SameRecords u v) (unaborted : c.abort = none) (quiet : (collOf c.desc).notify = 0) (st : Half) :
    Recorded u (v.pushEnd now c st) c st (v.endResults c).1 (v.endResults c).2 := by
  have cleared : SameRecords u { v with mash := { v.mash with tiles := v.mash.tiles.filter (·.cmd != c.id) } } :=
    same.trans ⟨rfl, rfl, rfl, rfl, rfl⟩
  obtain ⟨completed, -⟩ := h.complete_after cleared now st (v.endResults c).1 (v.endResults c).2
  obtain ⟨finished, -⟩ := h.finish_after cleared now st (v.endResults c).1 (v.endResults c).2
  have unheld : c.semHeld = false := by
    obtain ⟨-, -, -, semHeld, -⟩ := h
    exact semHeld
  simp only [Tun.pushEnd, unaborted, Option.getD_none, Tun.semGiveBack, unheld]
  have ends : Recorded u (if st = 0 then
        ({ v with mash := { v.mash with tiles := v.mash.tiles.filter (·.cmd != c.id) } } : Tun).completeNow now c st
          (v.endResults c).1 (v.endResults c).2
      else
        ({ v with mash := { v.mash with tiles := v.mash.tiles.filter (·.cmd != c.id) } } : Tun).finishCmd now c st
          (v.endResults c).1 (v.endResults c).2 []) c st (v.endResults c).1 (v.endResults c).2 := by
    split
    · exact completed
    · exact finished
  split
  · rw [Tun.doneNotices_none quiet]
    exact ends
  · exact ends

/-- With nothing left to send, the end of a span is the end of its command. -/
theorem Tun.pushSpanEnd_ends (found : t.cmd c.id = some c) (sent : t.sched.outputs = []) :
    t.pushSpanEnd now c =
      (t.modSched fun s => { s with outputs := s.outputs.filter (·.cmd != c.id) }).pushEnd now c (if t.pushWhole c then 0 else 0x0405) := by
  unfold Tun.pushSpanEnd
  extract_lets mine cleared handed
  have same : handed = cleared := by simp only [handed, mine, sent, List.filter_nil, List.foldl_nil]
  have held : cleared.cmd c.id = some c := found
  clear_value handed
  subst same
  rw [held]
  rfl

/-- PUSH_SPAN_END with nothing left to send ends the command (15 R612). -/
theorem Alone.pushSpanEnd_records (h : Alone u c) (unaborted : c.abort = none) (quiet : (collOf c.desc).notify = 0) (sent : u.sched.outputs = []) :
    Recorded u (u.pushSpanEnd now c) c (if u.pushWhole c then 0 else 0x0405) (u.endResults c).1 (u.endResults c).2 := by
  have records := h.pushEnd_records (now := now) (v := u.modSched fun s => { s with outputs := s.outputs.filter (·.cmd != c.id) })
    ⟨rfl, rfl, rfl, rfl, rfl⟩ unaborted quiet (if u.pushWhole c then 0 else 0x0405)
  rw [Tun.pushSpanEnd_ends h.cmd sent]
  exact records

/-! ### The Tap (15 R620, R621) -/

/-- TAP_GROUP_SET, with no slot held, sets its slot (15 R620). -/
theorem Tun.tapGroupSet_sets {ms : List Member} (sets : byteAt c.desc 21 = 1)
    (listed : t.memberList c.ctx (leAt c.desc 32 8) (leAt c.desc 22 2) = .ok ms) (proxies : ms.any (·.tun) = false) (free : t.mash.taps = []) :
    t.tapGroupSet now c = (t.modMash fun m => { m with taps := [((byteAt c.desc 16).toNat,
      { gen := byteAt c.desc 17, ctx := c.ctx, op := (byteAt c.desc 18).toNat, type := (byteAt c.desc 19).toNat,
        size := (byteAt c.desc 20).toNat, members := ms.map fun (m : Member) => m.id, root := leAt c.desc 24 2 })] }).completeNow now c 0 0 0 := by
  unfold Tun.tapGroupSet
  simp only [sets, listed, proxies, free, List.find?_nil, Option.map_none, List.filter_nil, List.nil_append, Bool.false_eq_true, if_false]
  rfl

/-- A slot that waits for more contributions stays as it is. -/
theorem Tun.tapAdvance_waits {n : Nat} {k : TapSlot} (taps : t.mash.taps = [(n, k)]) (waits : k.cur.length < k.members.length) (fuel : Nat) :
    t.tapAdvance now n fuel = t := by
  cases fuel with
  | zero => rfl
  | succ fuel => simp [Tun.tapAdvance, taps, waits]

/-- A member's contribution to the step of the only slot joins it while others are missing (15 R621). -/
theorem Tun.tapTake_joins {p : Packet} {k : TapSlot} (taps : t.mash.taps = [((p.addr.extractLsb' 56 8).toNat, k)])
    (gen : p.addr.extractLsb' 48 8 = k.gen) (member : k.members.idxOf p.srcEp.toNat < k.members.length) (len : p.len.toNat = k.size)
    (ctx : p.ctx.toNat = k.ctx) (clean : p.poison = false) (step : p.addr.extractLsb' 32 16 = k.step)
    (new : k.cur.any (fun e => e.1 == k.members.idxOf p.srcEp.toNat) = false) (waits : k.cur.length + 1 < k.members.length) :
    t.tapTake now p = (t.modMash fun m => { m with taps := [((p.addr.extractLsb' 56 8).toNat,
      { k with cur := k.cur ++ [(k.members.idxOf p.srcEp.toNat, p.payload)] })] }).bump 4 3 0x38 := by
  have accepted : ¬ (p.addr.extractLsb' 48 8 ≠ k.gen ∨ k.members.length ≤ k.members.idxOf p.srcEp.toNat ∨ p.len.toNat ≠ k.size ∨
      p.ctx.toNat ≠ k.ctx ∨ p.poison) := by
    simp [gen, member, len, ctx, clean]
  have joined : (t.modTap (p.addr.extractLsb' 56 8).toNat fun s => { s with cur := s.cur ++ [(k.members.idxOf p.srcEp.toNat, p.payload)] }) =
      t.modMash fun m => { m with taps := [((p.addr.extractLsb' 56 8).toNat,
        { k with cur := k.cur ++ [(k.members.idxOf p.srcEp.toNat, p.payload)] })] } := by
    simp [Tun.modTap, Tun.modMash, taps]
  simp only [Tun.tapTake, taps, List.find?_cons_of_pos, beq_self_eq_true, Option.map_some, if_neg accepted, step, BitVec.sub_self, new,
    Bool.false_eq_true, if_false, joined]
  exact Tun.tapAdvance_waits rfl (by simpa using waits) 2

/-! ### The obligation -/

/-- A chunk's work is done on the Tun of its started ALL_REDUCE. -/
theorem answers_chunk {i : Instr} {f : Cmd → Tun → Tun} {P : State → Prop} (e : exec i s = execOn x c.id [0x43, 0x44, 0x45, 0x46, 0x47] f s)
    (serves : (s.tun x).serving = true) (found : (s.tun x).cmd c.id = some c) (started : c.phase = .started) (hop : c.op = 0x43)
    (p : ∀ t : State, t.tun x = f c (s.tun x) → OnlyTun x s t → P t) : Answers i s P :=
  answers_onTun (g := f c) e (by simp [Tun.startedCmd, found, serves, started, hop]) (p _ (State.tun_modTun ..) (onlyTun_mod ..))

/-- Settles O36: each command's own lemma, by group, chunk, push and Tap. -/
theorem collectiveCommandsComplete : Obligations.CollectiveCommandsComplete := by
  unfold Obligations.CollectiveCommandsComplete
  intro s x c
  dsimp only
  refine ⟨?form, ?reform, ?disband, ?opens, ?push, ?ready, ?racking, ?spanEnd, ?tapSet, ?tap⟩
  case form =>
    intro ms alone serves started hop listed free room
    obtain ⟨g, adds, fields⟩ := Tun.groupForm_adds (now := s.now) listed free room
    obtain ⟨recorded, -, mash⟩ := alone.complete_after (v := (s.tun x).modMash fun m => { m with groups := m.groups ++ [(c.groupNo, g)] })
      ⟨rfl, rfl, rfl, rfl, rfl⟩ s.now 0 0 0
    refine answers_started rfl serves alone.cmd started hop fun t e only => ?_
    rw [e, adds]
    exact ⟨⟨g, (Tun.group_congr _ (mash (by rw [hop]; rfl))).trans (Tun.group_added free), fields⟩, recorded, only⟩
  case reform =>
    intro g ms alone serves started hop own fresh listed
    obtain ⟨recorded, -, mash⟩ := alone.complete_after (v := (s.tun x).modGroup c.groupNo fun g => { g with
      gen := byteAt c.desc 18, tunMask := BitVec.ofNat 32 (leAt c.desc 20 4), members := ms, places := [] })
      ⟨rfl, rfl, rfl, rfl, rfl⟩ s.now 0 0 0
    refine answers_started rfl serves alone.cmd started hop fun t e only => ?_
    rw [e, alone.groupReform_renews hop own fresh listed]
    exact ⟨(Tun.group_congr _ (mash (by rw [hop]; rfl))).trans (Tun.group_modGroup (Tun.ownGroup_group own) _), recorded, only⟩
  case disband =>
    intro g alone serves started hop own
    obtain ⟨recorded, -, mash⟩ := alone.complete_after (v := (s.tun x).modMash fun m => { m with groups := m.groups.filter (·.1 != c.groupNo) })
      ⟨rfl, rfl, rfl, rfl, rfl⟩ s.now 0 0 0
    refine answers_started rfl serves alone.cmd started hop fun t e only => ?_
    rw [e, alone.groupDisband_removes hop own]
    exact ⟨(Tun.group_congr _ (mash (by rw [hop]; rfl))).trans (Tun.group_removed _), recorded, only⟩
  case opens =>
    intro g serves found started formed free owns
    exact ⟨takesInstance rfl serves found started formed free owns, takesInstance rfl serves found started formed free owns,
      takesInstance rfl serves found started formed free owns, takesInstance rfl serves found started formed free owns,
      takesInstance rfl serves found started formed free owns⟩
  case push =>
    intro g serves found started hop formed
    obtain ⟨g', read, empty⟩ := Tun.pushOpen_takes (now := s.now) formed
    refine answers_started rfl serves found started hop fun t e only => ⟨g', ?_, empty, only⟩
    rw [e]
    exact read
  case ready =>
    intro g serves found started hop formed holds new ready
    obtain ⟨e, read, planned, plan⟩ := Tun.hasPlan_planReads (now := s.now) found ((s.tun x).chunkPlan g c)
    refine answers_chunk rfl serves found started hop fun t made only => ⟨e, ?_, planned, plan, only⟩
    rw [made, Tun.chunkReady_plans hop formed holds new ready]
    exact read
  case racking =>
    intro g found started hop formed holds fetched serves more
    obtain ⟨e, read, progress, planned, fetches⟩ := Tun.chunkRack_advances (now := s.now) found hop formed holds fetched serves more
    refine answers_chunk rfl serves found started hop fun t made only => ⟨e, ?_, progress, planned, fetches, only⟩
    rw [made]
    exact read
  case spanEnd =>
    intro alone serves started hop unaborted quiet sent
    refine answers_started rfl serves alone.cmd started hop fun t e only => ⟨?_, only⟩
    rw [e]
    exact alone.pushSpanEnd_records unaborted quiet sent
  case tapSet =>
    intro ms alone serves started hop sets listed proxies free
    refine answers_started rfl serves alone.cmd started hop fun t e only => ?_
    rw [e, Tun.tapGroupSet_sets sets listed proxies free]
    obtain ⟨recorded, -, mash⟩ := alone.complete_after (v := (s.tun x).modMash fun m => { m with taps := [((byteAt c.desc 16).toNat,
      { gen := byteAt c.desc 17, ctx := c.ctx, op := (byteAt c.desc 18).toNat, type := (byteAt c.desc 19).toNat,
        size := (byteAt c.desc 20).toNat, members := ms.map fun (m : Member) => m.id, root := leAt c.desc 24 2 })] })
      ⟨rfl, rfl, rfl, rfl, rfl⟩ s.now 0 0 0
    exact ⟨congrArg Mash.taps (mash (by rw [hop]; rfl)), recorded, only⟩
  case tap =>
    intro p k serves queue taps gen member len ctx clean step new waits
    have popped : (if (s.tun x).serving then (s.tun x).tapPop s.now else s.tun x) =
        ((s.tun x).modMash fun m => { m with tapQueue := [] }).tapTake s.now p := by
      simp only [serves, if_true, Tun.tapPop, queue]
    refine answers_tunOf rfl popped fun t e only => ?_
    rw [e, Tun.tapTake_joins (t := (s.tun x).modMash fun m => { m with tapQueue := [] }) taps gen member len ctx clean step new waits]
    exact ⟨rfl, rfl, only⟩

end Sys2Proof.Machine
end
